-- ==== Sys2Proof/Word.lean ====
section
/-! DEFINITION. The words of the TS-1608 (R3, R4) and their plainest arithmetic. -/

namespace Sys2Proof

/-- A byte. -/
abbrev Byte := BitVec 8

/-- A 32-bit word: a control-window register, an E- or G-profile general register, an instruction word. -/
abbrev Word := BitVec 32

/-- A 64-bit word: an M-profile general register. -/
abbrev DWord := BitVec 64

/-- Bit i of a number. -/
def bit (n i : Nat) : Bool := n / 2 ^ i % 2 == 1

/-- The bits lo to lo + width - 1 of a number. -/
def bitsOf (n lo width : Nat) : Nat := n / 2 ^ lo % 2 ^ width

/-- 1 for true. -/
def natOf (b : Bool) : Nat := if b then 1 else 0

end Sys2Proof
end

