-- ==== Sys2Proof/Types.lean ====
section
/-! DEFINITION. The names commands carry: bays, engines, initiators, faults of an instruction (R12, R14, R89, R126). -/

namespace Sys2Proof

/-- A bay (R12). -/
abbrev Bay := Fin 8

/-- A program engine that takes programs from a pack (R126). -/
inductive Eng where
  | seq (i : Fin 9)
  | cool (i : Fin 2)
  | bus (m : Fin 12)
  | wit (n : Fin 8)
  | gc (g : Fin 12)
  deriving DecidableEq, Repr

/-- Whatever executes Voxrak instructions (R44). -/
inductive EUnit where
  /-- management core c, M profile -/
  | core (c : Fin 4)
  /-- a loadable engine, E profile, or G profile for a Gallery cluster -/
  | eng (e : Eng)
  /-- the security core, E profile with the crypto extension -/
  | sec
  deriving DecidableEq, Repr

/-- Who issues a register access (R24). -/
inductive Initiator where
  | core (c : Fin 4)
  | eng (e : Eng)
  | sec
  /-- the host, through an MMP READ or WRITE (R527) -/
  | host
  deriving DecidableEq, Repr

/-- What the checks on a data path found as one memory line was read or written: nothing, a correctable error (R298),
an uncorrectable error (R299), or a parity error in transit (R306). -/
inductive PathErr where
  | clean | corrected | uncorrectable | transit
  deriving DecidableEq, Repr

/-- The issue of one instruction: the unit that executes it, whether the unit's own parity check found an error in its
program store, its local data or its registers during it (R91), and what the memory path of its data access found. -/
structure Issue where
  unit : EUnit
  parity : Bool
  path : PathErr
  deriving DecidableEq, Repr

/-- A high-speed lane: a bay's witness lane, a twin lane or a host-port lane (R141, R505, R544). -/
inductive Lane where
  | wit (b : Bay)
  | twin (j : Fin 2)
  | host (l : Fin 4)
  deriving DecidableEq, Repr

/-- What the error correction found as a flit arrived (R144): the codewords newly counted as corrected and as not
correctable, and whether a bit of the flit lies in one that could not be corrected. -/
structure FlitFec where
  corrected : Nat
  uncorrected : Nat
  hit : Bool
  deriving DecidableEq, Repr

/-- What the other parts on a bus did in one attempt at a transaction (R408–R412): stretches within a byte, a loss of
arbitration, the answers to the first address, to the bytes sent after it and to the address after a repeated START, the
bytes sent in the read phase (a block's count first), and the PEC byte read. -/
structure BusRun where
  stretches : Nat
  lost : Bool
  addrAck : Bool
  dataAck : Bool
  restartAck : Bool
  data : List Byte
  pec : Byte
  deriving DecidableEq, Repr

/-- A transaction another controller addresses to the target (R417): the command code written, if any, the data bytes
that follow it in a write, and, for a read, the bytes it takes, the PEC and anything beyond it included. -/
structure TgtRun where
  code : Option Nat
  wlen : Nat
  rlen : Option Nat
  deriving DecidableEq, Repr

/-- A supply other than VSTBY and the VIO banks (R592). -/
inductive Supply where
  | vcore | vsrd085 | vsrd12 | vdd1 | vdd2 | vddq
  deriving DecidableEq, Repr

/-- What a STEP changes (R546): rail enables, bay outputs or PWR. -/
inductive SeqChange where
  | en (v : Nat)
  | out (v : Nat)
  | pwr (v : Nat)
  deriving DecidableEq, Repr

/-- A request passed from the shadow to the lead (R555). -/
inductive SeqRequest where
  | start | stop | on | down
  deriving DecidableEq, Repr

/-- A partner's heartbeat (R545, R547): the FROM byte's PAIR_ID, the STATE byte's fields and the rest of the body; and the
partner's SEC_ID_PUB_X, which R541 compares where both straps give the same PAIR_ID. -/
structure Heartbeat where
  pairId : Bool
  pubX : BitVec 256
  role : BitVec 2
  joined : Bool
  healthy : Bool
  solo : Bool
  aside : Bool
  cool : BitVec 8
  power : BitVec 8
  act : BitVec 8
  pumpStop : BitVec 16
  lastFs : BitVec 64
  deriving DecidableEq, Repr

/-- A record only a lead sends, as its SEAL_NOTE gives it (R546, R560); an EPOCH with its JOB_ID and mode. -/
inductive SealNote where
  | sealed (epoch : BitVec 16) (step : BitVec 48) (seed : BitVec 64)
  | hold (epoch : BitVec 16) (step : BitVec 48) (causes : BitVec 8)
  | epoch (epoch : BitVec 16) (first : BitVec 48) (lag shift : BitVec 8) (seed : BitVec 64) (job mode : BitVec 8)
  | observe (epoch : BitVec 16) (step : BitVec 48) (mode : BitVec 8)
  | replay (epoch : BitVec 16) (step : BitVec 48) (tile : BitVec 32) (run orig flags : BitVec 8)
  | fence (slice : BitVec 6) (reason : BitVec 8)
  | unfence (slice : BitVec 6) (reason : BitVec 8)
  deriving DecidableEq, Repr

/-- A sequencer in a MIRROR record (R551): SQ_RAIL_EN, the bits of SQ_BAY_OUT, and PWR. -/
structure MirrorSeq where
  seq : Fin 9
  en : BitVec 16
  out : BitVec 4
  pwr : BitVec 3
  deriving DecidableEq, Repr

/-- A bay's witness state in a MIRROR record (R560, R567): the epoch with its first step, seed, JOB_ID and values, the last
sealed step, the seeds of its newest SEALs, and the newest step opened. -/
structure MirrorWit where
  bay : Bay
  epoch : BitVec 16
  first : BitVec 48
  seed : BitVec 64
  job : BitVec 8
  mode : BitVec 2
  lag : BitVec 3
  shift : BitVec 4
  sealedTo : Option (BitVec 48)
  seeds : List (BitVec 48 × BitVec 64)
  openedTo : Option (BitVec 48)
  deriving DecidableEq, Repr

/-- A MIRROR record (R546): whole or the changes alone, whether it hands the lead over in a SWAP (R542), the sequencers, the
witness state, and settings as registers with their values. -/
structure Mirror where
  whole : Bool
  swap : Bool
  seqs : List MirrorSeq
  wits : List MirrorWit
  settings : List (BitVec 32 × BitVec 32)
  deriving DecidableEq, Repr

/-- What a frame on the host port carries (R508). -/
inductive EthProto where
  | arp | nd | icmp | dhcp | mmp | lldp | other
  deriving DecidableEq, Repr

/-- A frame that arrives on the host port (R506): its length from destination address to FCS, the VIDs of its tags, what it
carries, whether it is an IP fragment, whether it is for an address of the partner's (R536), and its packet. -/
structure EthFrame where
  len : Nat
  tags : List (BitVec 12)
  proto : EthProto
  fragment : Bool
  forPartner : Bool
  packet : List (BitVec 8)
  deriving DecidableEq, Repr

/-- A DHCP message to the client (R508). -/
inductive DhcpMsg where
  | offer (addr : BitVec 128)
  | ack (addr : BitVec 128)
  | nak
  deriving DecidableEq, Repr

/-- An MMP packet of a session (R510): SESSION_ID, PSN, or ASN in an ACK, ACK and WINDOW; whether its tag verifies; its
payload as decrypted, and the link-layer address it came from. -/
structure MmpPacket where
  session : BitVec 32
  psn : BitVec 63
  ack : BitVec 64
  window : BitVec 16
  tagOk : Bool
  payload : List (BitVec 8)
  src : BitVec 48
  deriving DecidableEq, Repr

/-- The accumulator classes of R235. -/
inductive AccClass where
  | wideFloat | half | narrow | wide | integer
  deriving DecidableEq, Repr

/-- The index of an engine's window among the engines of its type (R129). -/
def Eng.index : Eng → Nat
  | .seq i => i.val
  | .cool i => i.val
  | .bus m => m.val
  | .wit n => n.val
  | .gc g => g.val

/-- The type code of R126. -/
def Eng.typeCode : Eng → Nat
  | .seq i => if i.val = 8 then 2 else 1
  | .cool _ => 3
  | .bus _ => 4
  | .wit _ => 5
  | .gc _ => 6

/-- The base of an engine's 64 KiB window (R129). -/
def Eng.win : Eng → Nat
  | .seq i => 0x20100000 + 0x10000 * i.val
  | .cool i => 0x20200000 + 0x10000 * i.val
  | .bus m => 0x20400000 + 0x10000 * m.val
  | .wit n => 0x20900000 + 0x10000 * n.val
  | .gc g => 0x20C00000 + 0x10000 * g.val

/-- The island of an engine (R14). -/
def Eng.island : Eng → Nat
  | .seq i => 1 + i.val
  | .cool i => 10 + i.val
  | .bus m => 26 + m.val
  | .wit n => 61 + n.val
  | .gc g => 88 + g.val

/-- The place of an engine in the list of the forty-three loadable engines. -/
def Eng.slot : Eng → Fin 43
  | .seq i => ⟨i.val, by omega⟩
  | .cool i => ⟨9 + i.val, by omega⟩
  | .bus m => ⟨11 + m.val, by omega⟩
  | .wit n => ⟨23 + n.val, by omega⟩
  | .gc g => ⟨31 + g.val, by omega⟩

/-- The PROFILE code of a pack entry for the engine: 1 E, 2 G (R127). -/
def Eng.profile : Eng → Nat
  | .gc _ => 2
  | _ => 1

/-- The exception causes of R89. -/
inductive Cause where
  | none | illegal | privilege | portDenied | fetchFault | loadFault | storeFault | misaligned | busError
  | poison | parity | watchdog | trap | userHalt
  deriving DecidableEq, Repr

/-- The code of a cause (R89). -/
def Cause.code : Cause → Nat
  | .none => 0x00
  | .illegal => 0x01
  | .privilege => 0x02
  | .portDenied => 0x03
  | .fetchFault => 0x04
  | .loadFault => 0x05
  | .storeFault => 0x06
  | .misaligned => 0x07
  | .busError => 0x08
  | .poison => 0x09
  | .parity => 0x0A
  | .watchdog => 0x0B
  | .trap => 0x0C
  | .userHalt => 0x0D

end Sys2Proof
end

