-- ==== Sys2Proof/Syntax.lean ====
section
/-! DEFINITION. The commands of the block: one constructor per row of the opcode table, with what the command carries.
Where a row is an event of the outside world or of a clock, its operands say which unit, bay, channel or address it
concerns and what was observed. -/

namespace Sys2Proof

inductive Instr where
  /-- FW_RESTART (R43). A keyed write of UCR_RST_CTL.FW_RESTART requests a firmware restart of islands 42 to 45. -/
  | fwRestart (who : Initiator) (key : BitVec 16)
  /-- COMMONS_RESTART (R43). A keyed write of UCR_RST_CTL.COMMONS_RESTART requests a commons restart of the non-Undercoat islands. -/
  | commonsRestart (who : Initiator) (key : BitVec 16)
  /-- FULL_RESET (R43). A keyed write of UCR_RST_CTL.FULL_RESET requests a full device reset. -/
  | fullReset (who : Initiator) (key : BitVec 16)
  /-- HUB_FAULT (R33). The HUB island reports an internal fault and a commons restart with cause 0x6 begins. -/
  | hubFault
  /-- SRAM_RECHECK_DONE (R39). The security core finishes re-checking the SRAM image and releases the cores, or turns the restart into a commons restart. -/
  | sramRecheckDone
  /-- SELF_REFRESH_TIMEOUT (R40). Self-refresh is not reached within 10 µs; the channels are lost, read as poisoned and MEM_LOST is raised. -/
  | selfRefreshTimeout (j : Fin 16)
  /-- UCR_FW_READY (R35). Firmware writes UCR_FW_READY.READY, which ends the restart in progress and stops T_grace. -/
  | ucrFwReady (c : Fin 4)
  /-- T_GRACE_EXPIRY (R35). T_grace passes without READY; the tray shutdown starts on SEQ8 and the restart escalates. -/
  | tGraceExpiry
  /-- OSC_TRIM (R18). The UCR island trims every island oscillator against REFCLK, at least every 10 ms. -/
  | oscTrim (dev : List (BitVec 8))
  /-- TRIM_LAPSE (R19). A trim period passes without a new trim and the island's TRIMMED bit falls. -/
  | trimLapse (i : Fin 100)
  /-- REFCLK_LOST (R19). REFCLK disappears; oscillators run free, ISLE_REFCLK.LOST is set and REFCLK_LOST is raised. -/
  | refclkLost
  /-- REFCLK_RETURN (R20). REFCLK returns and every oscillator is trimmed again within 10 ms. -/
  | refclkReturn
  /-- ACCESS_TIMEOUT (R25). A cross-island access is unanswered for 2 µs and completes with an error response. -/
  | accessTimeout (u : EUnit) (write : Bool) (rd : BitVec 5) (a : Nat)
  /-- ADD (R49). Adds two registers modulo 2^W. -/
  | add (x : Issue) (rd rs1 rs2 : BitVec 5)
  /-- SUB (R49). Subtracts two registers modulo 2^W. -/
  | sub (x : Issue) (rd rs1 rs2 : BitVec 5)
  /-- AND (R49). Bitwise and of two registers. -/
  | and (x : Issue) (rd rs1 rs2 : BitVec 5)
  /-- OR (R49). Bitwise or of two registers. -/
  | or (x : Issue) (rd rs1 rs2 : BitVec 5)
  /-- XOR (R49). Bitwise exclusive or of two registers. -/
  | xor (x : Issue) (rd rs1 rs2 : BitVec 5)
  /-- SHL (R51). Shifts left by the low bits of the second register. -/
  | shl (x : Issue) (rd rs1 rs2 : BitVec 5)
  /-- SHR (R51). Shifts right logically by the low bits of the second register. -/
  | shr (x : Issue) (rd rs1 rs2 : BitVec 5)
  /-- SRA (R51). Shifts right arithmetically by the low bits of the second register. -/
  | sra (x : Issue) (rd rs1 rs2 : BitVec 5)
  /-- MUL (R49). Writes the low W bits of the product. -/
  | mul (x : Issue) (rd rs1 rs2 : BitVec 5)
  /-- MULH (R49). Writes the high W bits of the signed product. -/
  | mulh (x : Issue) (rd rs1 rs2 : BitVec 5)
  /-- DIVU (R49). Unsigned division rounded toward zero, all ones on division by zero. -/
  | divu (x : Issue) (rd rs1 rs2 : BitVec 5)
  /-- REMU (R49). Unsigned remainder, the dividend on division by zero. -/
  | remu (x : Issue) (rd rs1 rs2 : BitVec 5)
  /-- SLT (R49). Writes 1 when the first register is signed-less than the second. -/
  | slt (x : Issue) (rd rs1 rs2 : BitVec 5)
  /-- SLTU (R49). Writes 1 when the first register is unsigned-less than the second. -/
  | sltu (x : Issue) (rd rs1 rs2 : BitVec 5)
  /-- MIN (R49). Writes the signed minimum. -/
  | min (x : Issue) (rd rs1 rs2 : BitVec 5)
  /-- MAX (R49). Writes the signed maximum. -/
  | max (x : Issue) (rd rs1 rs2 : BitVec 5)
  /-- ADDI (R50). Adds a sign-extended immediate. -/
  | addi (x : Issue) (rd rs1 : BitVec 5) (imm : BitVec 16)
  /-- ANDI (R50). Ands with a zero-extended immediate. -/
  | andi (x : Issue) (rd rs1 : BitVec 5) (imm : BitVec 16)
  /-- ORI (R50). Ors with a zero-extended immediate. -/
  | ori (x : Issue) (rd rs1 : BitVec 5) (imm : BitVec 16)
  /-- XORI (R50). Exclusive-ors with a zero-extended immediate. -/
  | xori (x : Issue) (rd rs1 : BitVec 5) (imm : BitVec 16)
  /-- SLTI (R50). Signed compare against a sign-extended immediate. -/
  | slti (x : Issue) (rd rs1 : BitVec 5) (imm : BitVec 16)
  /-- SHLI (R51). Shifts left by an immediate amount. -/
  | shli (x : Issue) (rd rs1 : BitVec 5) (imm : BitVec 16)
  /-- SHRI (R51). Shifts right logically by an immediate amount. -/
  | shri (x : Issue) (rd rs1 : BitVec 5) (imm : BitVec 16)
  /-- SRAI (R51). Shifts right arithmetically by an immediate amount. -/
  | srai (x : Issue) (rd rs1 : BitVec 5) (imm : BitVec 16)
  /-- LUI (R52). Writes imm21 shifted left by 11, sign-copied upward on an M core. -/
  | lui (x : Issue) (rd : BitVec 5) (imm : BitVec 21)
  /-- LDB (R53). Loads one byte zero-extended. -/
  | ldb (x : Issue) (rd rs1 : BitVec 5) (imm : BitVec 16)
  /-- LDH (R53). Loads two bytes zero-extended. -/
  | ldh (x : Issue) (rd rs1 : BitVec 5) (imm : BitVec 16)
  /-- LDW (R53). Loads four bytes zero-extended. -/
  | ldw (x : Issue) (rd rs1 : BitVec 5) (imm : BitVec 16)
  /-- LDD (R53). Loads eight bytes on an M core. -/
  | ldd (x : Issue) (rd rs1 : BitVec 5) (imm : BitVec 16)
  /-- STB (R53). Stores the low byte of a register. -/
  | stb (x : Issue) (rs2 rs1 : BitVec 5) (imm : BitVec 16)
  /-- STH (R53). Stores the low two bytes of a register. -/
  | sth (x : Issue) (rs2 rs1 : BitVec 5) (imm : BitVec 16)
  /-- STW (R58). Stores the low four bytes; a control-window store retires on acceptance. -/
  | stw (x : Issue) (rs2 rs1 : BitVec 5) (imm : BitVec 16)
  /-- STD (R53). Stores eight bytes on an M core. -/
  | std (x : Issue) (rs2 rs1 : BitVec 5) (imm : BitVec 16)
  /-- BEQ (R59). Branches when the registers are equal. -/
  | beq (x : Issue) (rs1 rs2 : BitVec 5) (off : BitVec 16)
  /-- BNE (R59). Branches when the registers differ. -/
  | bne (x : Issue) (rs1 rs2 : BitVec 5) (off : BitVec 16)
  /-- BLT (R59). Branches on signed less. -/
  | blt (x : Issue) (rs1 rs2 : BitVec 5) (off : BitVec 16)
  /-- BGE (R59). Branches on signed greater or equal. -/
  | bge (x : Issue) (rs1 rs2 : BitVec 5) (off : BitVec 16)
  /-- BLTU (R59). Branches on unsigned less. -/
  | bltu (x : Issue) (rs1 rs2 : BitVec 5) (off : BitVec 16)
  /-- BGEU (R59). Branches on unsigned greater or equal. -/
  | bgeu (x : Issue) (rs1 rs2 : BitVec 5) (off : BitVec 16)
  /-- JAL (R60). Links and jumps by a 21-bit offset. -/
  | jal (x : Issue) (rd : BitVec 5) (off : BitVec 21)
  /-- JALR (R61). Links and jumps to a register plus immediate. -/
  | jalr (x : Issue) (rd rs1 : BitVec 5) (imm : BitVec 16)
  /-- IN (R67). Copies a port into a register. -/
  | inPort (x : Issue) (rd rs : BitVec 5) (port : BitVec 12) (sub : BitVec 4)
  /-- OUT (R67). Writes a register to a port. -/
  | outPort (x : Issue) (rd rs : BitVec 5) (port : BitVec 12) (sub : BitVec 4)
  /-- BSET (R68). Atomically sets port bits by read-modify-write. -/
  | bset (x : Issue) (rd rs : BitVec 5) (port : BitVec 12) (sub : BitVec 4)
  /-- BCLR (R68). Atomically clears port bits by read-modify-write. -/
  | bclr (x : Issue) (rd rs : BitVec 5) (port : BitVec 12) (sub : BitVec 4)
  /-- WAIT (R75). Begins waiting for a port condition or a timeout. -/
  | wait (x : Issue) (rd rs : BitVec 5) (port : BitVec 12) (sub : BitVec 4)
  /-- WAIT_CONDITION_MET (R76). A waiting engine's port condition is met and WAIT returns 0. -/
  | waitConditionMet (u : EUnit)
  /-- WAIT_TIMEOUT (R77). A WAIT's timeout passes and it returns all ones. -/
  | waitTimeout (u : EUnit)
  /-- SLEEP (R81). Suspends the engine for a number of microseconds. -/
  | sleep (x : Issue) (rd rs : BitVec 5) (port : BitVec 12) (sub : BitVec 4)
  /-- SLEEP_END (R81). A SLEEP ends by time, a mailbox word or a pending interrupt, writing the time left. -/
  | sleepEnd (u : EUnit)
  /-- YIELD (R82). Pauses an E or G engine until its timer next ticks. -/
  | yield (x : Issue) (rd rs1 rs2 : BitVec 5)
  /-- YIELD_RESUME (R82). A yielded engine resumes at its next timer tick. -/
  | yieldResume (u : EUnit)
  /-- TRAP (R84). Posts a tagged mailbox word on an E or G engine, or raises TRAP on an M core. -/
  | trap (x : Issue) (rd rs1 : BitVec 5) (imm : BitVec 16)
  /-- HALT (R85). Ends an engine program, ends a host program, or waits for an interrupt in supervisor mode. -/
  | halt (x : Issue) (rd rs1 rs2 : BitVec 5)
  /-- RETX (R94). Returns from an exception, restoring PC, mode and interrupt enable. -/
  | retx (x : Issue) (rd rs1 rs2 : BitVec 5)
  /-- SYSR (R97). Reads a system register. -/
  | sysr (x : Issue) (rd rs : BitVec 5) (port : BitVec 12) (sub : BitVec 4)
  /-- SYSW (R97). Writes a system register. -/
  | sysw (x : Issue) (rd rs : BitVec 5) (port : BitVec 12) (sub : BitVec 4)
  /-- FENCE (R88). Waits until every earlier access has taken effect. -/
  | fence (x : Issue) (rd rs1 rs2 : BitVec 5)
  /-- SWAP (R107). Atomically exchanges eight bytes of memory. -/
  | swap (x : Issue) (rd rs1 rs2 : BitVec 5) (func : BitVec 11)
  /-- CAS (R107). Atomically compares and swaps eight bytes of memory. -/
  | cas (x : Issue) (rd rs1 rs2 : BitVec 5) (func : BitVec 11)
  /-- SHA (R116). Runs one SHA-256 job from a job block on the security core. -/
  | sha (x : Issue) (rd rs1 rs2 : BitVec 5) (func : BitVec 11)
  /-- ECV (R117). Verifies an ECDSA P-256 signature on the security core. -/
  | ecv (x : Issue) (rd rs1 rs2 : BitVec 5) (func : BitVec 11)
  /-- TLD (R113). Loads a tile descriptor into a tile register. -/
  | tld (x : Issue) (t rs1 : BitVec 5) (imm : BitVec 16)
  /-- TST (R113). Stores a tile descriptor with its status. -/
  | tst (x : Issue) (t rs1 : BitVec 5) (imm : BitVec 16)
  /-- XCLR (R113). Clears both planes of an accumulator bank. -/
  | xclr (x : Issue) (rd rs1 rs2 : BitVec 5) (func : BitVec 11)
  /-- XDOT (R113). Accumulates exact products into a bank's sum plane. -/
  | xdot (x : Issue) (rd rs1 rs2 : BitVec 5) (func : BitVec 11)
  /-- XMAG (R113). Accumulates exact product magnitudes into a bank's magnitude plane. -/
  | xmag (x : Issue) (rd rs1 rs2 : BitVec 5) (func : BitVec 11)
  /-- XRND (R242). Rounds each exact sum once into the tile's format. -/
  | xrnd (x : Issue) (rd rs1 rs2 : BitVec 5) (func : BitVec 11)
  /-- BCMP (R113). Compares a tile against a bank under the replay bound. -/
  | bcmp (x : Issue) (rd rs1 rs2 : BitVec 5) (func : BitVec 11)
  /-- G_QUEUE_COMPLETE (R114). A queued G instruction finishes on the exact-MAC lanes. -/
  | gQueueComplete (g : Fin 12) (parity : Bool)
  /-- INTERRUPT_ENTRY (R93). An enabled pending interrupt is taken between instructions. -/
  | interruptEntry (c : Fin 4)
  /-- CORE_WATCHDOG_EXPIRY (R98). An M-core watchdog period passes; the first raises WATCHDOG, the second starts a firmware restart. -/
  | coreWatchdogExpiry (c : Fin 4)
  /-- ENGINE_WATCHDOG_EXPIRY (R89). An E or G engine's watchdog expires and the engine faults with WATCHDOG. -/
  | engineWatchdogExpiry (u : EUnit)
  /-- ENG_START (R134). ENG_CTL.START asks an engine to start, or holds or refuses the request. -/
  | engStart (e : Eng)
  /-- ENG_STOP (R134). ENG_CTL.STOP takes an engine to its stop entry, or off. -/
  | engStop (e : Eng)
  /-- ENG_KILL (R134). ENG_CTL.KILL stops an engine at once with its engine-lost action. -/
  | engKill (e : Eng)
  /-- START_CHECK_DONE (R134). The start check CRC ends and the engine enters RUNNING or FAULTED. -/
  | startCheckDone (e : Eng) (ok : Bool)
  /-- T_OFF_MIN_EXPIRY (R134). T_off_min passes and a held START acts. -/
  | tOffMinExpiry (e : Eng)
  /-- ENG_MBOX_IN_WRITE (R137). A write to ENG_MBOX_IN appends an inbound word, or sets IN_LOST when full. -/
  | engMboxInWrite (e : Eng) (v : BitVec 32)
  /-- ENG_MBOX_OUT_READ (R137). A read of ENG_MBOX_OUT removes the oldest outbound word and records its tag. -/
  | engMboxOutRead (e : Eng)
  /-- ENG_LOAD_OPEN (R131). The security core opens an install, clearing PROG_VALID and filling the store. -/
  | engLoadOpen (e : Eng)
  /-- ENG_LOAD_COMMIT (R132). The security core commits an install and the engine runs its checks. -/
  | engLoadCommit (e : Eng)
  /-- PACK_VAR_WRITE (R133). A write to PACK_VARv takes effect when within its limits, else is refused. -/
  | packVarWrite (e : Eng) (v : Fin 192) (x : BitVec 32)
  /-- REGISTER_WRITE (R9). A write to a register with no row of its own, judged field by field against its ranges. -/
  | registerWrite (who : Initiator) (a : Nat) (v : BitVec 32)
  /-- LANE_DETECT_DONE (R505). Both sides see markers for 10 µs and the lane enters TRAIN. -/
  | laneDetectDone (x : Lane)
  /-- LANE_TRAIN_DONE (R505). Both sides report a low error estimate for 1 ms and the lane enters ALIGN. -/
  | laneTrainDone (x : Lane)
  /-- ALIGN_LOCK (R143). Eight consecutive good pairs lock codeword alignment and the lane runs. -/
  | alignLock (x : Lane)
  /-- ALIGN_LOSS (R143). Four consecutive bad pairs lose alignment, counting as a lost lane. -/
  | alignLoss (x : Lane)
  /-- FLIT_RECEIVE (R149). A flit arrives and is accepted, discarded or used for acknowledgements and credit. -/
  | flitReceive (x : Lane) (bs : List (BitVec 8)) (fec : FlitFec)
  /-- NAK_REPEAT_TIMER (R149). The expected flit still missing after 2 µs sets NAK again. -/
  | nakRepeatTimer (x : Lane)
  /-- RESEND_TIMEOUT (R150). 2 µs pass without ACKSEQ advancing and the sender resends from the oldest flit. -/
  | resendTimeout (x : Lane)
  /-- T_LINK_EXPIRY (R170). A lane is lost beyond T_link; the session goes DOWN and WIT_LINK_LOST is raised. -/
  | tLinkExpiry (x : Lane)
  /-- HELLO (R170). An accelerator HELLO is taken, starting or restarting a session or being refused. -/
  | hello (b : Bay)
  /-- CAPS (R170). An accelerator CAPS is recorded or refused. -/
  | caps (b : Bay)
  /-- UNIT_MAP (R167). An accelerator UNIT_MAP is taken, taking the session to READY or updating slice states. -/
  | unitMap (b : Bay)
  /-- STEP_OPEN (R161). An accelerator opens a step, checked for order and active slices. -/
  | stepOpen (b : Bay)
  /-- CSUM (R196). A CSUM record's entries are taken and passed to the compare pipeline. -/
  | csum (b : Bay)
  /-- SAMPLE (R165). A SAMPLE chunk lands in the sample area and is checked against its part. -/
  | sample (b : Bay) (parity : Bool)
  /-- STEP_CLOSE (R202). An accelerator closes a step; counts and sample selection are checked. -/
  | stepClose (b : Bay)
  /-- RESULT (R280). A RESULT chunk of a stencil run lands and is compared; a final status ends the run. -/
  | result (b : Bay) (parity : Bool)
  /-- HEALTH (R373). A HEALTH record updates the bay's die-temperature slot. -/
  | health (b : Bay)
  /-- MAINT_REPLY (R181). A MAINT_REPLY lands in the receive buffer and sets FULL. -/
  | maintReply (b : Bay)
  /-- FENCE_TIMEOUT (R175). No UNIT_MAP follows a FENCE or UNFENCE within 100 ms; the bay is held with PROTOCOL. -/
  | fenceTimeout (b : Bay) (slice : BitVec 6)
  /-- WITL_MAINT_GO (R180). Firmware sets GO to send a MAINT record, or is refused and sets TX_LOST. -/
  | witlMaintGo (b : Bay) (v : BitVec 32)
  /-- MAINT (R180). The device sends a MAINT once the session is ready and DEV credit is held. -/
  | maint (b : Bay)
  /-- WITL_MAINT_RXDONE (R181). Firmware frees the reply buffer and returns AUX credit. -/
  | witlMaintRxdone (b : Bay)
  /-- WIT_CTL_WRITE (R193). Host writes mode, lag, sample shift, tolerance scale or host hold for a bay. -/
  | witCtlWrite (b : Bay) (v : BitVec 32)
  /-- QUIET_POINT (R193). A lag point or a 1 ms hold is reached and pending WIT_CTL changes are sent. -/
  | quietPoint (b : Bay)
  /-- WIT_EPOCH_NEW (R223). WIT_EPOCH_GO.NEW sends a newer EPOCH and OBSERVE, or is refused. -/
  | witEpochNew (b : Bay)
  /-- WIT_EPOCH_RESEND (R173). WIT_EPOCH_GO.RESEND re-sends the current EPOCH at the next quiet point. -/
  | witEpochResend (b : Bay)
  /-- SEAL_JOB (R207). The seal gate seals the lowest step of a job once every sealing condition holds. -/
  | sealJob (b : Bay)
  /-- GALLERY_LAG (R204). An item or dispatch waits T_glag undispatched and GALLERY_LAG is raised. -/
  | galleryLag (b : Bay)
  /-- REPLAY_TIMEOUT (R217). T_replay expires without a complete answer; verdict TIMEOUT and JOB_FAULT. -/
  | replayTimeout (b : Bay) (step : BitVec 48) (tile : BitVec 32)
  /-- WIT_LEDGER_POP (R227). Firmware removes the oldest buffered ledger append. -/
  | witLedgerPop (b : Bay)
  /-- WIT_EVENT_POP (R228). Firmware removes the oldest buffered witness host event. -/
  | witEventPop (b : Bay)
  /-- ARBITER_HANDOVER (R247). The arbiter gives an idle cluster the next pending dispatch and stamps its generation. -/
  | arbiterHandover (g : Fin 12)
  /-- LOADER_COPY_DONE (R248). A tile-loader copy into the tile store ends. -/
  | loaderCopyDone (g : Fin 12) (path : PathErr)
  /-- COMPLETION_ACCEPT (R251). The seal gate accepts or discards a Gallery completion and applies its result or verdict. -/
  | completionAccept
  /-- T_GDISP_EXPIRY (R252). A dispatch runs past T_gdisp; its generation advances and the cluster is killed and blamed. -/
  | tGdispExpiry (g : Fin 12)
  /-- KAT_RUN (R254). A cluster's known-answer kernel run falls due and starts. -/
  | katRun (g : Fin 12)
  /-- KAT_DONE (R255). A known-answer run ends and the cluster's health moves. -/
  | katDone (g : Fin 12) (failing : List (Fin 512 × AccClass))
  /-- GAL_FENCE (R255). The host fences a Gallery cluster. -/
  | galFence (g : Fin 12)
  /-- GAL_UNFENCE (R255). The host asks to unfence a cluster after a passing run. -/
  | galUnfence (g : Fin 12)
  /-- VISIT_DUE (R278). A unit's visit falls due and its first stencil run starts. -/
  | visitDue (b : Bay)
  /-- STENCIL_DEADLINE (R281). A run's deadline passes with outcome TIMEOUT. -/
  | stencilDeadline (b : Bay)
  /-- OBS_WINDOW_CLOSE (R264). An OBSERVED unit's window has run T_obs_win with enough passes and it returns to NORMAL. -/
  | obsWindowClose (unitId : BitVec 64)
  /-- FS_FENCE (R268). FS_CMD FENCE takes a host fence decision. -/
  | fsFence (b : Bay) (slice : BitVec 6)
  /-- FS_UNFENCE (R268). FS_CMD UNFENCE takes a unit from FENCED to OBSERVED. -/
  | fsUnfence (b : Bay) (slice : BitVec 6)
  /-- FS_RETIRE (R267). FS_CMD RETIRE retires a bay. -/
  | fsRetire (b : Bay)
  /-- FS_UNRETIRE (R268). FS_CMD UNRETIRE returns a retired bay's units to service. -/
  | fsUnretire (b : Bay)
  /-- FS_CLEAR (R268). FS_CMD CLEAR returns an OBSERVED unit to NORMAL. -/
  | fsClear (b : Bay) (slice : BitVec 6)
  /-- FS_CARRY (R270). FS_CMD CARRY imports a unit's state from elsewhere in the fleet. -/
  | fsCarry (state : BitVec 2) (age : BitVec 8)
  /-- FS_RESUME (R289). FS_CMD RESUME ends the wait after a reset with the ledger full. -/
  | fsResume
  /-- FS_REMOVE_PACK (R268). FS_CMD REMOVE_PACK removes a stencil pack from its slot. -/
  | fsRemovePack (slot : BitVec 6)
  /-- FLOWSTONE_TICK (R272). Every 3,600 s of FT a TICK record is appended. -/
  | flowstoneTick
  /-- FT_MARK (R272). Every 3,600 s of FT while LEDGER_FULL holds, a hold-up record with FT_MARK is written. -/
  | ftMark
  /-- FS_APPEND_DONE (R285). A Flowstone record becomes durable and the decision it carries acts. -/
  | fsAppendDone (ok : Bool)
  /-- LOG_SCAN (R286). After a full device reset the log is scanned and unit states rebuilt. -/
  | logScan
  /-- FS_JOURNAL_ACK (R288). Host acknowledges exported journal records, freeing their space. -/
  | fsJournalAck (v : BitVec 32)
  /-- MC_READY (R296). A memory controller finishes training and initialising and reports READY. -/
  | mcReady (j : Fin 16)
  /-- SCRUB_READ (R307). The patrol scrubber reads a line and corrects or poisons it. -/
  | scrubRead (j : Fin 16) (ch : Fin 2) (off : Nat) (found : PathErr) (raced : Bool)
  /-- SCRUB_LATE (R309). A scrub pass is not complete after 1.25 periods and SCRUB_LATE is set. -/
  | scrubLate (j : Fin 16)
  /-- TW_ARM (R313). A landing window is armed on all sixteen trowels, or refused. -/
  | twArm (i : Initiator) (w : Fin 64) (v : BitVec 32)
  /-- TW_CLOSE (R317). An armed window is closed at once. -/
  | twClose (i : Initiator) (w : Fin 64) (v : BitVec 32)
  /-- WINDOW_LANDING (R314). A write into an armed window's range is processed as it lands. -/
  | windowLanding (a : Nat) (bs : List (BitVec 8)) (path : PathErr)
  /-- TRW_DQ_GO (R321). A descriptor is queued on its home trowel, or ignored when the queue is full. -/
  | trwDqGo (j : Fin 16)
  /-- TROWEL_CSUM_ACC (R311). A descriptor forms row, column and total sums of a matrix. -/
  | trowelCsumAcc (j : Fin 16)
  /-- TROWEL_CRC32C (R311). A descriptor forms the CRC-32C of a range. -/
  | trowelCrc32c (j : Fin 16)
  /-- TROWEL_CMP_EXP (R311). A descriptor compares a range with expected data and counts mismatches. -/
  | trowelCmpExp (j : Fin 16)
  /-- TROWEL_XFOLD (R311). A descriptor forms the exclusive-or fold of a range's lines. -/
  | trowelXfold (j : Fin 16)
  /-- TROWEL_FILL (R310). A descriptor fills a range with a repeated pattern. -/
  | trowelFill (j : Fin 16)
  /-- TROWEL_COPY (R311). A descriptor copies a range to PARAM. -/
  | trowelCopy (j : Fin 16)
  /-- RAIL_PG_RISE (R330). Deglitched power-good rises and SEEN sets if the rail is enabled. -/
  | railPgRise (k : Fin 80)
  /-- RAIL_PG_FALL (R331). Deglitched power-good of a running rail falls. -/
  | railPgFall (k : Fin 80)
  /-- RAIL_PG_GLITCH (R331). A running rail's power-good is low for less than T_pg and a glitch is counted. -/
  | railPgGlitch (k : Fin 80)
  /-- T_WARN_EXPIRY (R341). T_warn ends before entry 1 or 2 and a going-down begins. -/
  | tWarnExpiry (i : Fin 9)
  /-- T_DOWN_MAX_EXPIRY (R343). A sequencer STOPPING for T_down_max is killed and the safe stop runs. -/
  | tDownMaxExpiry (i : Fin 9)
  /-- SAFE_STOP_STEP (R342). The safe stop clears the next enabled rail at 1 ms spacing. -/
  | safeStopStep (i : Fin 9)
  /-- SQ_CNT_CLR (R333). A write clears the four counters of selected channels. -/
  | sqCntClr (i : Fin 9) (clr : BitVec 16)
  /-- VIN_LOW (R350). VIN falls below 36 V and a forced off with cause VIN_LOW begins. -/
  | vinLow (vin vhold : Nat)
  /-- HOLDUP_WRITE_DONE (R354). The hold-up record write ends and HU_WRITTEN is set. -/
  | holdupWriteDone
  /-- FORCED_OFF_STEP (R351). The forced off clears the next channel in its 100 µs schedule. -/
  | forcedOffStep
  /-- VIN_RETURN (R352). VIN rises above 42 V; VIN_LOW clears and POLICY may start the tray. -/
  | vinReturn (vin vhold : Nat)
  /-- KILL_IN (R358). TRAY_KILL_N held low from outside for 10 µs begins a forced off. -/
  | killIn
  /-- KILL_IN_RELEASE (R351). TRAY_KILL_N is no longer held from outside, clearing that cause. -/
  | killInRelease
  /-- EXT_OFF (R358). BAYn_OFF_N held low from outside begins the bay's going-down. -/
  | extOff (b : Bay)
  /-- PRESENCE_LOST (R358). BAYn_PRSNT_N deasserted for 1 ms begins the bay's going-down. -/
  | presenceLost (b : Bay)
  /-- BTN_PRESS (R357). PWR_BTN_N is judged pressed after 50 ms of debounce. -/
  | btnPress
  /-- BTN_RELEASE (R357). A release before T_long acts as a short press, an on or off request. -/
  | btnRelease
  /-- LONG_PRESS (R357). A press held for T_long begins a forced off with cause LONG_PRESS. -/
  | longPress
  /-- MRST_N_ASSERT (R359). MRST_N asserted for 1 µs causes a full device reset. -/
  | mrstNAssert
  /-- CAP_ENGAGE (R362). P_NOW above CAP_EFF for 100 µs throttles the next ON bay. -/
  | capEngage (vin : Nat) (imon : List Nat)
  /-- CAP_RELEASE (R362). P_NOW below the hysteresis level for 1 ms releases the earliest throttled bay. -/
  | capRelease (vin : Nat) (imon : List Nat)
  /-- SENSOR_SAMPLE (R370). The ADC island samples the analog and die sensor slots every 10 ms. -/
  | sensorSample (ain : List Nat) (dies : List Int)
  /-- SAFE_HOT_CLEAR (R379). AIN0 to AIN7 stay at or below 65 °C for 10 s and SAFE_HOT clears. -/
  | safeHotClear
  /-- SLOT_STALE (R374). A slot not updated for 2 s becomes stale. -/
  | slotStale (slot : Fin 112)
  /-- HEALTH_SLOT_JOIN (R373). 30 s after PWR leaves OFF a HEALTH slot takes part even without a record. -/
  | healthSlotJoin (b : Bay)
  /-- ZONE_EVAL (R375). Each zone's temperature is formed from its selected slots every 10 ms. -/
  | zoneEval
  /-- ZONE_HOT (R383). A zone at or above T_HOT for 1 s becomes hot and throttles its bays. -/
  | zoneHot (z : Fin 16)
  /-- ZONE_COOL (R383). A hot zone below T_HOT − 5 °C for 10 s stops being hot. -/
  | zoneCool (z : Fin 16)
  /-- CHANNEL_COMMAND (R380). Each fan and pump command is formed every 10 ms. -/
  | channelCommand
  /-- MOT_CFG_WRITE (R385). A MOT_CFG write changes enable or profile and loads profile values. -/
  | motCfgWrite (c : Fin 12) (v : BitVec 32)
  /-- MOTOR_ALIGN_DONE (R387). The 100 ms alignment and winding check ends and the open-loop ramp begins. -/
  | motorAlignDone (c : Fin 12) (dead hallBad : Bool)
  /-- MOTOR_LOCK (R387). The observer converges for 50 ms and the channel enters RUN. -/
  | motorLock (c : Fin 12) (hallBad : Bool)
  /-- LOCK_DEADLINE (R387). No lock within 1.5 s is a failed attempt. -/
  | lockDeadline (c : Fin 12) (hallBad : Bool)
  /-- LOCK_LOSS (R388). A running channel loses lock and stalls. -/
  | lockLoss (c : Fin 12)
  /-- LOW_SPEED_STALL (R388). RPM below STALL_PCT of RPM_CMD for 1 s is a stall. -/
  | lowSpeedStall (c : Fin 12) (rpm : BitVec 16)
  /-- OVERCURRENT (R388). A phase current above 12 A turns the bridge off. -/
  | overcurrent (c : Fin 12)
  /-- OPEN_WINDING (R388). A winding opens on a running channel. -/
  | openWinding (c : Fin 12)
  /-- RETRY_WAIT_END (R389). 2 s after a failed attempt the channel retries or idles. -/
  | retryWaitEnd (c : Fin 12)
  /-- TRIES_RESET (R388). 10 s in RUN returns TRIES to 0. -/
  | triesReset (c : Fin 12)
  /-- DRIVE_THERMAL_TRIP (R388). A drive die reaching 125 °C fails every active channel on it. -/
  | driveThermalTrip (t : Fin 2) (temp : Int)
  /-- DRIVE_DERATE (R390). A drive die between 115 °C and 125 °C derates P_MAX. -/
  | driveDerate (t : Fin 2) (temp : Int)
  /-- AUX_TACH_FAIL (R391). An auxiliary fan above 20 % for 1 s with no tach pulse becomes FAILED. -/
  | auxTachFail (n : Fin 8)
  /-- CL_FAIL_ACK (R389). Host acknowledges a repaired FAILED or ABSENT channel. -/
  | clFailAck (v : BitVec 32)
  /-- FLOW_RATE (R394). Each flow input's rate over the last 1 s is computed. -/
  | flowRate (f : Fin 4) (pulses : Nat)
  /-- LOOP_ANOMALY (R395). Low pressure or flow for 1 s sets a loop's ANOMALY. -/
  | loopAnomaly (l : Fin 8)
  /-- LEAK_SAMPLE (R396). Each leak loop is measured every 10 ms and changes state after five samples. -/
  | leakSample (l : Fin 8) (ohms : Nat)
  /-- T_SHUT_EXPIRY (R398). A loop in the shut condition for T_SHUT sends STOP to SEQ8. -/
  | tShutExpiry (l : Fin 8)
  /-- CL_LK_ACK (R399). Host acknowledges a leak loop; refused unless DRY without anomaly. -/
  | clLkAck (v : BitVec 32)
  /-- BUS_FREE (R407). The bus becomes free and a waiting transaction begins. -/
  | busFree (m : Fin 12)
  /-- QUICK_W (R408). SMBus Quick Command with R/W 0. -/
  | quickW (m : Fin 12) (r : BusRun)
  /-- QUICK_R (R408). SMBus Quick Command with R/W 1. -/
  | quickR (m : Fin 12) (r : BusRun)
  /-- SEND_BYTE (R408). SMBus Send Byte. -/
  | sendByte (m : Fin 12) (r : BusRun)
  /-- RECV_BYTE (R408). SMBus Receive Byte. -/
  | recvByte (m : Fin 12) (r : BusRun)
  /-- WRITE_BYTE (R408). SMBus Write Byte. -/
  | writeByte (m : Fin 12) (r : BusRun)
  /-- READ_BYTE (R408). SMBus Read Byte. -/
  | readByte (m : Fin 12) (r : BusRun)
  /-- WRITE_WORD (R408). SMBus Write Word. -/
  | writeWord (m : Fin 12) (r : BusRun)
  /-- READ_WORD (R408). SMBus Read Word. -/
  | readWord (m : Fin 12) (r : BusRun)
  /-- PROC_CALL (R408). SMBus Process Call. -/
  | procCall (m : Fin 12) (r : BusRun)
  /-- BLOCK_WRITE (R408). SMBus Block Write. -/
  | blockWrite (m : Fin 12) (r : BusRun)
  /-- BLOCK_READ (R408). SMBus Block Read. -/
  | blockRead (m : Fin 12) (r : BusRun)
  /-- BLOCK_PROC_CALL (R408). SMBus Block Write–Block Read Process Call. -/
  | blockProcCall (m : Fin 12) (r : BusRun)
  /-- I2C_WRITE (R408). Plain I2C write of WLEN bytes. -/
  | i2cWrite (m : Fin 12) (r : BusRun)
  /-- I2C_READ (R408). Plain I2C read of RLEN bytes. -/
  | i2cRead (m : Fin 12) (r : BusRun)
  /-- I2C_WRITE_READ (R408). Plain I2C write then read after repeated START. -/
  | i2cWriteRead (m : Fin 12) (r : BusRun)
  /-- ADDR_NACK_RETRY (R410). 1 ms after a first-address NACK the transaction is tried again. -/
  | addrNackRetry (m : Fin 12)
  /-- ARB_BACKOFF_END (R411). The random back-off ends and the transaction begins again. -/
  | arbBackoffEnd (m : Fin 12)
  /-- CLK_TIMEOUT (R412). SCL held low past T_LOW_MAX ends the transaction. -/
  | clkTimeout (m : Fin 12)
  /-- TGT_TRANSACTION (R417). The bus target answers a transaction addressed to TGT_ADDR. -/
  | tgtTransaction (m : Fin 12) (t : TgtRun)
  /-- TGT_SLEEP (R420). T_SLEEP passes without being addressed and the target sleeps. -/
  | tgtSleep (m : Fin 12)
  /-- TGT_SCL_TIMEOUT (R419). SCL low for 30 ms in a target transaction releases SDA. -/
  | tgtSclTimeout (m : Fin 12)
  /-- HOST_NOTIFY (R421). A Host Notify to 0x08 is queued, or NACKed when the queue is full. -/
  | hostNotify (m : Fin 12) (addr : BitVec 7) (data : BitVec 16)
  /-- ALERT_RESPONSE (R422). A read of the Alert Response Address is answered by the alerting target. -/
  | alertResponse (m : Fin 12) (won : Bool)
  /-- BUS_STUCK (R424). A line held low for T_STUCK makes the bus STUCK. -/
  | busStuck (m : Fin 12)
  /-- BUS_STUCK_CLEAR (R424). Both lines high for 50 µs end STUCK. -/
  | busStuckClear (m : Fin 12)
  /-- BUS_UNPOWERED (R426). The segment rail goes off and the bus becomes UNPOWERED. -/
  | busUnpowered (m : Fin 12)
  /-- SEG_OUTCOME (R428). T_STUCK after a segment cycle the bus judges the outcome and may request again. -/
  | segOutcome (m : Fin 12)
  /-- SEG_RETRY (R428). BUS_CMD.SEG_RETRY starts a new segment-cycle episode. -/
  | segRetry (m : Fin 12)
  /-- SEC_RELEASE (R435). The UCR island releases the security core, which starts its mask ROM. -/
  | secRelease (fuseOk : Bool) (patchOk : Bool) (leafOk : Bool) (flash : BitVec 6)
  /-- FUSE_SHADOW_CHECK (R438). Every 1 s the shadow is re-checked and reloaded on mismatch. -/
  | fuseShadowCheck (same : Bool) (agree : Bool)
  /-- MGMT_VERIFY_DONE (R448). Verification of the running MGMT copy ends. -/
  | mgmtVerifyDone (flash : BitVec 6)
  /-- LOCK_ALL_DEADLINE (R449). LOCK_ALL not set within 1 s of core release fails the slot with NO_LOCK. -/
  | lockAllDeadline (flash : BitVec 6)
  /-- SEC_EXCEPTION (R436). The security core takes an exception and stops. -/
  | secException
  /-- SEC_INSTALL (R463). Request INSTALL re-reads the PACK and installs an entry into engines. -/
  | secInstall (flash : Bool)
  /-- SEC_VERIFY (R463). Request VERIFY hashes a chunk and checks the object at LAST. -/
  | secVerify
  /-- SEC_SIGN_MMP (R463). Request SIGN_MMP signs a handshake hash with the identity key. -/
  | secSignMmp
  /-- SEC_SPDM (R463). Request SPDM answers one SPDM request. -/
  | secSpdm
  /-- SEC_STAGE (R463). Request STAGE writes a component into the non-running slot and checks it at LAST. -/
  | secStage (flash : BitVec 3)
  /-- SEC_REVOKE (R458). Request REVOKE blows a key slot's revocation fuse, or is refused. -/
  | secRevoke
  /-- SEC_OWNER_KEY (R463). Request OWNER_KEY programs an owner key-hash slot. -/
  | secOwnerKey
  /-- SEC_CERT_WRITE (R463). Request CERT_WRITE rewrites the certificate region. -/
  | secCertWrite (leafOk : Bool)
  /-- SEC_CONFIRM (R454). A keyed CONFIRM makes the trial slot ACTIVE, or sets CONFIRM_REJ. -/
  | secConfirm (who : Initiator) (key : BitVec 16)
  /-- ARB_RESUME (R457). A held-back counter advance resumes when HOLD_OK returns. -/
  | arbResume
  /-- TRIAL_EXPIRY (R453). The trial watchdog expires, the trial fails and a commons restart begins. -/
  | trialExpiry
  /-- XTAL_START_FAIL (R611). XTAL does not oscillate within 10 ms and the security core is held in reset. -/
  | xtalStartFail
  /-- GET_VERSION (R468). SPDM GET_VERSION answered with version 1.2. -/
  | getVersion (req : List (BitVec 8))
  /-- GET_CAPABILITIES (R468). SPDM GET_CAPABILITIES answered. -/
  | getCapabilities (req : List (BitVec 8))
  /-- NEGOTIATE_ALGORITHMS (R468). SPDM NEGOTIATE_ALGORITHMS answered. -/
  | negotiateAlgorithms (req : List (BitVec 8))
  /-- GET_CERTIFICATE (R468). SPDM GET_CERTIFICATE returns the slot 0 chain. -/
  | getCertificate (req : List (BitVec 8))
  /-- CHALLENGE (R468). SPDM CHALLENGE answered with a signed CHALLENGE_AUTH. -/
  | challenge (req : List (BitVec 8))
  /-- GET_MEASUREMENTS (R469). SPDM GET_MEASUREMENTS returns measurements, signed on request. -/
  | getMeasurements (req : List (BitVec 8))
  /-- ACT_HANDOVER (R482). Keyed GO with METHOD HANDOVER starts an activation by core handover. -/
  | actHandover (who : Initiator) (key : BitVec 16) (pair : Bool)
  /-- ACT_COMMONS (R480). Keyed GO with METHOD COMMONS starts an activation by commons restart. -/
  | actCommons (who : Initiator) (key : BitVec 16) (pair : Bool)
  /-- ACT_FULL (R480). Keyed GO with METHOD FULL starts an activation by full device reset. -/
  | actFull (who : Initiator) (key : BitVec 16) (pair : Bool)
  /-- PREVERIFY_DONE (R482). The staged MGMT is checked and QUIESCE_REQ is raised. -/
  | preverifyDone (flash : Bool)
  /-- QUIESCED (R482). Firmware writes QUIESCED and the activation proceeds. -/
  | quiesced (c : Fin 4)
  /-- QUIESCE_TIMEOUT (R482). QUIESCED has not come within T_quiesce and the activation ends. -/
  | quiesceTimeout
  /-- PAUSE_COPY_DONE (R482). The staged MGMT copy ends; cores released on a matching digest, else a commons restart. -/
  | pauseCopyDone (flash : Bool)
  /-- GOLD_READ_DONE (R494). The bay flash read and hash ends; PASS or a re-flash begins. -/
  | goldReadDone (b : Bay) (digest : BitVec 256) (flash : Bool)
  /-- GOLD_READBACK_DONE (R494). A re-flash read-back ends with REFLASHED, another re-flash or FAILED. -/
  | goldReadbackDone (b : Bay) (digest : BitVec 256) (sectors : Nat) (cmdOk : Bool) (flash : Bool)
  /-- T_GOLD_MAX_EXPIRY (R495). A golden check exceeds T_GOLD_MAX and ends FAILED. -/
  | tGoldMaxExpiry (b : Bay)
  /-- ETH_FRAME_RECEIVE (R506). An Ethernet frame arrives and is accepted or dropped. -/
  | ethFrameReceive (f : EthFrame)
  /-- ARP_REQUEST (R508). An ARP request for an own address is answered. -/
  | arpRequest (ip : BitVec 32) (partner : Bool) (src : BitVec 48)
  /-- ND_SOLICIT (R508). A neighbour solicitation for an own address is answered. -/
  | ndSolicit (ip : BitVec 128) (partner : Bool) (src : BitVec 48)
  /-- ICMP_ECHO (R508). An echo request is answered within the rate limit. -/
  | icmpEcho (v6 : Bool) (dst : BitVec 128) (data : List (BitVec 8)) (src : BitVec 48)
  /-- DHCP_RECEIVE (R508). A DHCPv4 or DHCPv6 message is handled by the client. -/
  | dhcpReceive (v6 : Bool) (m : DhcpMsg)
  /-- LLDP_TRANSMIT (R508). An LLDP frame is sent every LLDP_INT. -/
  | lldpTransmit
  /-- ETH_RATE_WRITE (R503). A write of RATE retrains all four host lanes. -/
  | ethRateWrite (rate : BitVec 2)
  /-- HS_INIT (R514). A handshake start arrives and HS_RESP is sent. -/
  | hsInit (payload : List (BitVec 8)) (src : BitVec 48)
  /-- HS_FIN (R515). A handshake finish is verified and the session forms. -/
  | hsFin (session : BitVec 32) (sig : List (BitVec 8)) (window : BitVec 16) (late : Bool) (src : BitVec 48)
  /-- DATA_PACKET (R512). An MMP DATA packet is authenticated and its message passed on in order. -/
  | dataPacket (p : MmpPacket)
  /-- ACK_PACKET (R512). An MMP ACK packet advances acknowledgement. -/
  | ackPacket (p : MmpPacket)
  /-- CLOSE_PACKET (R516). A CLOSE ends the session. -/
  | closePacket (p : MmpPacket)
  /-- RTO_EXPIRY (R513). RTO passes without progress and the oldest packet is resent; the tenth ends the session. -/
  | rtoExpiry
  /-- ACK_KEEPALIVE (R513). 5 s without sending produces an ACK. -/
  | ackKeepalive
  /-- T_SESSION_EXPIRY (R516). Nothing authenticated for T_session ends the session. -/
  | tSessionExpiry
  /-- MMP_SPDM (R519). An SPDM message is served through the security core. -/
  | mmpSpdm
  /-- LOAD_SECFW (R523). A LOAD chunk of SECFW is passed on as STAGE. -/
  | loadSecfw (flash : BitVec 3)
  /-- LOAD_PACK (R523). A LOAD chunk of a program pack is passed on as STAGE. -/
  | loadPack (flash : BitVec 3)
  /-- LOAD_MGMT (R523). A LOAD chunk of MGMT is passed on as STAGE. -/
  | loadMgmt (flash : BitVec 3)
  /-- LOAD_STENCIL_PACK (R275). A LOAD of a stencil pack is gathered and checked at LAST. -/
  | loadStencilPack
  /-- LOAD_GOLDEN (R493). A LOAD of a golden image is gathered and checked at LAST. -/
  | loadGolden (flash : Bool)
  /-- LOAD_HOST_CODE (R523). A LOAD of host code fills a host code slot. -/
  | loadHostCode
  /-- RUN_PROGRAM (R525). A RUN starts host code in user mode. -/
  | runProgram (c : Fin 4) (ceiling : List (BitVec 8))
  /-- RUN_LIMIT_EXPIRY (R525). LIMIT_MS passes and the host program is ended. -/
  | runLimitExpiry (c : Fin 4)
  /-- MMP_READ (R528). A READ of control-window words, checked against permissions. -/
  | mmpRead
  /-- MMP_WRITE (R528). A WRITE of control-window words, checked against permissions. -/
  | mmpWrite
  /-- ETH_EVT_GO (R531). Firmware queues a host event record. -/
  | ethEvtGo
  /-- EVENT_ACK (R532). The host's EVENT reply acknowledges records. -/
  | eventAck
  /-- EVENT_RESEND (R532). Unacknowledged event records are resent after 1 s. -/
  | eventResend
  /-- BULK_FLOWSTONE (R534). Opens a stream of Flowstone records. -/
  | bulkFlowstone
  /-- BULK_LEDGER (R534). Opens a stream of a bay's seal ledger. -/
  | bulkLedger
  /-- BULK_SAMPLE (R534). Opens a stream of a bay's held sample parts. -/
  | bulkSample
  /-- BULK_GOLDEN (R534). Opens a stream of a golden slot's image. -/
  | bulkGolden (flash : Bool)
  /-- BULK_HOLDUP (R534). Opens a stream of hold-up records. -/
  | bulkHoldup
  /-- ETH_RX_TAIL_WRITE (R521). Firmware advances the inbound ring tail, freeing room. -/
  | ethRxTailWrite (v : BitVec 18)
  /-- ETH_TX_HEAD_WRITE (R521). Firmware advances the outbound ring head for the ETH island to send. -/
  | ethTxHeadWrite (v : BitVec 18)
  /-- RELAY_START (R536). The port down for 1 s with the twin link up starts relay by the partner. -/
  | relayStart (mine : Bool)
  /-- RELAY_END (R536). The port returns and the relay ends. -/
  | relayEnd (mine : Bool)
  /-- HB_SEND (R547). A heartbeat record is sent every 100 µs and TWIN_HB_OUT toggles. -/
  | hbSend
  /-- HB_RECEIVE (R559). A partner heartbeat record arrives and its state enters cooling and roles. -/
  | hbReceive (h : Heartbeat)
  /-- HB_PIN_EDGE (R548). TWIN_HB_IN changes, keeping the pin path up. -/
  | hbPinEdge
  /-- TWIN_LINK_DOWN (R548). No HB record for 2 ms takes the link path down. -/
  | twinLinkDown
  /-- PARTNER_LOST (R549). Both heartbeat paths down for 2 ms; roles change to ORPHAN. -/
  | partnerLost
  /-- JOIN_TIMEOUT (R541). An unjoined device hears nothing for T_join and becomes ORPHAN. -/
  | joinTimeout
  /-- STEP_RECORD (R552). A shadow applies a lead's STEP and returns ACK. -/
  | stepRecord (id : Nat) (i : Fin 9) (c : SeqChange)
  /-- STEP_ACK (R552). The lead receives ACK and applies the held sequencer write. -/
  | stepAck (id : Nat)
  /-- STEP_ACK_TIMEOUT (R553). No ACK within 5 ms; reset-ward changes act alone, others begin a going-down. -/
  | stepAckTimeout (id : Nat)
  /-- MIRROR_RECORD (R551). A MIRROR record updates mirrored sequencer, witness and settings state. -/
  | mirrorRecord (m : Mirror)
  /-- VERDICT_RECORD (R561). The lead takes a shadow's step verdict for sealing or job fault. -/
  | verdictRecord (b : Bay) (result : Fin 4) (step : BitVec 48) (tile : BitVec 32) (epoch : BitVec 16)
  /-- SEAL_NOTE_RECORD (R560). The shadow takes a SEAL_NOTE of a lead-only record. -/
  | sealNoteRecord (b : Bay) (n : SealNote)
  /-- FS_RECORD_RECEIVE (R563). The shadow appends a lead Flowstone record marked MIRRORED. -/
  | fsRecordReceive (bs : List (BitVec 8))
  /-- REQUEST_RECORD (R555). The lead applies an on or off request passed from the shadow. -/
  | requestRecord (i : Fin 9) (q : SeqRequest)
  /-- REQUEST_OFF_TIMEOUT (R555). The lead has not begun a passed off request within 5 ms and the shadow asserts the off line. -/
  | requestOffTimeout (i : Fin 9)
  /-- RELAY_RECORD (R536). A relayed packet arrives over the twin link. -/
  | relayRecord (packet : List (BitVec 8))
  /-- ACT_RECORD (R488). An activation step of a pair handover arrives over the twin link. -/
  | actRecord (what : Fin 7)
  /-- TWIN_SWAP (R542). A keyed SWAP exchanges the lead and shadow roles. -/
  | twinSwap (who : Initiator) (key : BitVec 16)
  /-- STAND_ASIDE (R543). A keyed STAND_ASIDE write steps the device out, or a 0 returns it to unjoined. -/
  | standAside (who : Initiator) (key : BitVec 16) (v : Bool)
  /-- SOLO_START (R561). Twin link down for T_solo with the pin path up sets SOLO. -/
  | soloStart
  /-- VIN_CONFIRM_TIMEOUT (R556). The partner does not confirm VIN_LOW within 100 µs; only the hold-up record is written. -/
  | vinConfirmTimeout
  /-- VSTBY_GOOD (R595). VSTBY becomes good and a full device reset with cause 0x0 begins. -/
  | vstbyGood
  /-- SUPPLY_OUT_OF_RANGE (R598). A supply other than VSTBY leaves its range; a commons restart or lane isolation follows. -/
  | supplyOutOfRange (x : Supply)
  /-- VIO_BANK_LOSS (R599). A VIO bank leaves its range; its outputs float and inputs read deasserted. -/
  | vioBankLoss (k : Fin 8)
  /-- XTAL_STOP (R616). XTAL stops while running and a commons restart with cause 0x9 begins. -/
  | xtalStop
  /-- BRIDGE_SWITCH_OPEN (R594). VIN above 62 V for 1 µs opens the bridge switch. -/
  | bridgeSwitchOpen (vin : Nat)
  /-- BRIDGE_SWITCH_CLOSE (R594). VIN below 61 V closes the bridge switch again. -/
  | bridgeSwitchClose (vin : Nat)
  /-- HOLD_OK_CHANGE (R350). VHOLD crosses 40 V and HOLD_OK changes. -/
  | holdOkChange (vhold : Nat)
  /-- VSTBY_LOSS (R595). VSTBY fails once VIN is below 30 V and VHOLD below 32 V, leaving the device unpowered and any hold-up record torn. -/
  | vstbyLoss
  /-- SUPPLY_RETURN (R598). VCORE, VDD1, VDD2, VDDQ or VSRD become good again, releasing the held commons restart or letting the lane islands train again. -/
  | supplyReturn (x : Supply)
  /-- VIO_BANK_RETURN (R599). A VIO bank comes back within its range and its outputs and inputs work again. -/
  | vioBankReturn (k : Fin 8)
  /-- XTAL_RETURN (R616). The crystal runs again, ending the hold on the commons restart of cause 0x9 and letting the security core leave reset. -/
  | xtalReturn
  /-- MRST_N_RELEASE (R359). MRST_N is released and the full device reset it held proceeds. -/
  | mrstNRelease
  /-- PAIR_PAUSE_TIMEOUT (R488). A pair handover pause passes 300 ms and the lead ends the suspension. -/
  | pairPauseTimeout
  /-- PIN_PATH_LOSS (R548). TWIN_HB_IN has not changed for 2 ms while the link path is up, so the pin path goes down and TWIN_STATUS.PIN falls. -/
  | pinPathLoss
  deriving DecidableEq, Repr

end Sys2Proof
end

