-- ==== Sys2Proof/Decode.lean ====
section
/-! DEFINITION. The command a word spells by the bits of the command table. The table gives no row any bits: a command
of this block is a happening at its ports, pins and clocks, not a word it fetches. -/

namespace Sys2Proof

/-- The command that the low nbits bits of w spell: none, since no row of the table has bits. -/
def decodeTableWord (_nbits _w : Nat) : Option Instr := none

end Sys2Proof
end

