-- ==== Sys2Proof/Config.lean ====
section
/-! DEFINITION. What the manual leaves open (assumption log 2): values without a body, so that nothing can be proved
about which value they take. -/

namespace Sys2Proof.Config

/-- The next free 32-bit word: applied to the counter `freeCtr` of the state, which each use advances. -/
opaque freeWord : Nat → BitVec 32

/-- The next free 64-bit word. -/
opaque freeDWord : Nat → BitVec 64

/-- The next free number of time units that pass before a timer is read. -/
opaque freeElapsed : Nat → Nat

/-- The SHA-256 of the mask ROM, whose contents the manual does not give, with the OTP patch applied (R469). -/
opaque romDigest : List (BitVec 8) → BitVec 256

end Sys2Proof.Config
end

