-- ==== Sys2Proof/Machine/Registers.lean ====
section
/-! DEFINITION. The register map (R6, R577–R589 and the register tables of every chapter): the address of each
register, the place of each field in its word, and one row per register with the access code, the reset value and
the range of each field, as the tables print them.  Register and field names are the manual's. -/

namespace Sys2Proof.Machine

/-- A field of a 32-bit register: its lowest bit and its width. -/
structure Fld where
  lo : Nat
  width : Nat
  deriving DecidableEq, Repr

/-- The access codes of R6. -/
inductive Access where
  | ro | rw | wo | w1c | w1s | rwl
  deriving DecidableEq, Repr

/-- The range a settable field states for itself (R9). -/
inductive Limit where
  /-- every value of the field's width -/
  | any
  /-- lo to hi -/
  | range (lo hi : Nat)
  /-- 0, or lo to hi -/
  | zeroOr (lo hi : Nat)
  /-- one of the values listed -/
  | oneOf (l : List Nat)
  /-- a pressure slot: every slot but 60–63 and 112–126 (R395) -/
  | pSlot
  /-- a line-aligned address: [5:0] zero -/
  | mult64
  deriving DecidableEq, Repr

/-- One field's line of a register table. -/
structure FieldRow where
  fld : Fld
  access : Access
  reset : Nat
  limit : Limit
  deriving DecidableEq, Repr

/-- One register of the tables: its address for window i below n1 and index k below n2 is base + s1·i + s2·k. -/
structure RegRow where
  base : Nat
  s1 : Nat
  n1 : Nat
  s2 : Nat
  n2 : Nat
  fields : List FieldRow
  deriving DecidableEq, Repr

/-! ### Register addresses -/

/-- R17 -/ def R.ISLE_INFO : Nat := 0x20D00000
/-- R17 -/ def R.ISLE_REFCLK : Nat := 0x20D00004
/-- R17 -/ def R.ISLE_ENTRY (k : Nat) : Nat := 0x20D00100 + 0x4 * k
/-- R43 -/ def R.UCR_RST_CTL : Nat := 0x20000100
/-- R43 -/ def R.UCR_RST_CAUSE : Nat := 0x20000104
/-- R43 -/ def R.UCR_GRACE : Nat := 0x20000108
/-- R43 -/ def R.UCR_FW_READY : Nat := 0x2000010C
/-- R129 -/ def R.ENG_CTL (w : Nat) : Nat := w + 0x0
/-- R129 -/ def R.ENG_STATUS (w : Nat) : Nat := w + 0x4
/-- R129 -/ def R.ENG_FAULT (w : Nat) : Nat := w + 0x8
/-- R129 -/ def R.ENG_TOFF (w : Nat) : Nat := w + 0xC
/-- R129 -/ def R.ENG_MBOX_IN (w : Nat) : Nat := w + 0x10
/-- R129 -/ def R.ENG_MBOX_OUT (w : Nat) : Nat := w + 0x14
/-- R129 -/ def R.ENG_MBOX_STATUS (w : Nat) : Nat := w + 0x18
/-- R129 -/ def R.ENG_ROUTE (w : Nat) : Nat := w + 0x1C
/-- R129 -/ def R.ENG_PROG_VERSION (w : Nat) : Nat := w + 0x20
/-- R129 -/ def R.ENG_PROG_CRC (w : Nat) : Nat := w + 0x24
/-- R129 -/ def R.ENG_PROG_INFO (w : Nat) : Nat := w + 0x28
/-- R129 -/ def R.ENG_WDOG (w : Nat) : Nat := w + 0x2C
/-- R129 -/ def R.ENG_ENTRY (w : Nat) (e : Nat) : Nat := w + 0x40 + 4 * e
/-- R129 -/ def R.ENG_LOAD_HDR (w : Nat) : Nat := w + 0x38
/-- R129 -/ def R.ENG_LOAD_CTL (w : Nat) : Nat := w + 0x30
/-- R129 -/ def R.ENG_LOAD_STATUS (w : Nat) : Nat := w + 0x34
/-- R185 -/ def R.WITL_STATUS (i : Nat) : Nat := 0x20905000 + 0x10000 * i
/-- R185 -/ def R.WITL_CFG (i : Nat) : Nat := 0x20905004 + 0x10000 * i
/-- R185 -/ def R.WITL_CREDIT (i : Nat) : Nat := 0x20905008 + 0x10000 * i
/-- R185 -/ def R.WITL_FEC_CORR (i : Nat) : Nat := 0x20905010 + 0x10000 * i
/-- R185 -/ def R.WITL_FEC_UNCORR (i : Nat) : Nat := 0x20905014 + 0x10000 * i
/-- R185 -/ def R.WITL_CRC_ERR (i : Nat) : Nat := 0x20905018 + 0x10000 * i
/-- R185 -/ def R.WITL_RETRY_TX (i : Nat) : Nat := 0x2090501C + 0x10000 * i
/-- R185 -/ def R.WITL_RETRY_REQ (i : Nat) : Nat := 0x20905020 + 0x10000 * i
/-- R185 -/ def R.WITL_LANE (i : Nat) : Nat := 0x20905024 + 0x10000 * i
/-- R185 -/ def R.WITL_FUTURE_CNT (i : Nat) : Nat := 0x20905028 + 0x10000 * i
/-- R185 -/ def R.WITL_STALE_CNT (i : Nat) : Nat := 0x2090502C + 0x10000 * i
/-- R185 -/ def R.WITL_NAK_LAST (i : Nat) : Nat := 0x20905030 + 0x10000 * i
/-- R185 -/ def R.WITL_NAK_CNT (i : Nat) (k : Nat) : Nat := 0x20905040 + 0x10000 * i + 0x4 * k
/-- R185 -/ def R.WITL_PEER_MODEL (i : Nat) (k : Nat) : Nat := 0x20905080 + 0x10000 * i + 0x4 * k
/-- R185 -/ def R.WITL_PEER_SERIAL (i : Nat) (k : Nat) : Nat := 0x20905088 + 0x10000 * i + 0x4 * k
/-- R185 -/ def R.WITL_PEER_INFO (i : Nat) : Nat := 0x20905098 + 0x10000 * i
/-- R185 -/ def R.WITL_MAINT_TXCTL (i : Nat) : Nat := 0x20905100 + 0x10000 * i
/-- R185 -/ def R.WITL_MAINT_RXSTAT (i : Nat) : Nat := 0x20905104 + 0x10000 * i
/-- R185 -/ def R.WITL_MAINT_RXINFO (i : Nat) : Nat := 0x20905108 + 0x10000 * i
/-- R185 -/ def R.WITL_MAINT_RXDONE (i : Nat) : Nat := 0x2090510C + 0x10000 * i
/-- R185 -/ def R.MAINT_TX (i : Nat) (k : Nat) : Nat := 0x20906000 + 0x10000 * i + 0x4 * k
/-- R185 -/ def R.MAINT_RX (i : Nat) (k : Nat) : Nat := 0x20907000 + 0x10000 * i + 0x4 * k
/-- R227 -/ def R.WIT_CTL (i : Nat) : Nat := 0x20908000 + 0x10000 * i
/-- R227 -/ def R.WIT_JOB (i : Nat) : Nat := 0x20908004 + 0x10000 * i
/-- R227 -/ def R.WIT_EPOCH_NEXT (i : Nat) : Nat := 0x20908008 + 0x10000 * i
/-- R227 -/ def R.WIT_FIRST_STEP_LO (i : Nat) : Nat := 0x2090800C + 0x10000 * i
/-- R227 -/ def R.WIT_FIRST_STEP_HI (i : Nat) : Nat := 0x20908010 + 0x10000 * i
/-- R227 -/ def R.WIT_EPOCH_GO (i : Nat) : Nat := 0x20908014 + 0x10000 * i
/-- R227 -/ def R.WIT_TIMERS (i : Nat) : Nat := 0x20908018 + 0x10000 * i
/-- R227 -/ def R.WIT_SAMPLE_BASE (i : Nat) : Nat := 0x20908020 + 0x10000 * i
/-- R227 -/ def R.WIT_SAMPLE_SIZE (i : Nat) : Nat := 0x20908024 + 0x10000 * i
/-- R227 -/ def R.WIT_STAT (i : Nat) : Nat := 0x20908040 + 0x10000 * i
/-- R227 -/ def R.WIT_SEALED_LO (i : Nat) : Nat := 0x20908044 + 0x10000 * i
/-- R227 -/ def R.WIT_SEALED_HI (i : Nat) : Nat := 0x20908048 + 0x10000 * i
/-- R227 -/ def R.WIT_OPENED_LO (i : Nat) : Nat := 0x2090804C + 0x10000 * i
/-- R227 -/ def R.WIT_OPENED_HI (i : Nat) : Nat := 0x20908050 + 0x10000 * i
/-- R227 -/ def R.WIT_CSUM_CNT (i : Nat) : Nat := 0x20908060 + 0x10000 * i
/-- R227 -/ def R.WIT_CSUM_FAIL (i : Nat) : Nat := 0x20908064 + 0x10000 * i
/-- R227 -/ def R.WIT_SAMPLE_CNT (i : Nat) : Nat := 0x20908068 + 0x10000 * i
/-- R227 -/ def R.WIT_SAMPLE_FAIL (i : Nat) : Nat := 0x2090806C + 0x10000 * i
/-- R227 -/ def R.WIT_SEAL_CNT (i : Nat) : Nat := 0x20908070 + 0x10000 * i
/-- R227 -/ def R.WIT_LAG_HOLD_CNT (i : Nat) : Nat := 0x20908074 + 0x10000 * i
/-- R227 -/ def R.WIT_SUSPECT_CNT (i : Nat) : Nat := 0x20908078 + 0x10000 * i
/-- R227 -/ def R.WIT_JOB_FAULT_CNT (i : Nat) : Nat := 0x2090807C + 0x10000 * i
/-- R227 -/ def R.WIT_PRED_FAULT_CNT (i : Nat) : Nat := 0x20908080 + 0x10000 * i
/-- R227 -/ def R.WIT_VOID_CNT (i : Nat) : Nat := 0x20908084 + 0x10000 * i
/-- R227 -/ def R.WIT_GLAG_CNT (i : Nat) : Nat := 0x20908088 + 0x10000 * i
/-- R227 -/ def R.WIT_REPLAY_CSUM_FAIL (i : Nat) : Nat := 0x2090808C + 0x10000 * i
/-- R227 -/ def R.WIT_VERDICT0 (i : Nat) : Nat := 0x209080A0 + 0x10000 * i
/-- R227 -/ def R.WIT_VERDICT1 (i : Nat) : Nat := 0x209080A4 + 0x10000 * i
/-- R227 -/ def R.WIT_VERDICT2 (i : Nat) : Nat := 0x209080A8 + 0x10000 * i
/-- R227 -/ def R.WIT_VERDICT3 (i : Nat) : Nat := 0x209080AC + 0x10000 * i
/-- R227 -/ def R.WIT_TOL (i : Nat) (k : Nat) : Nat := 0x20908100 + 0x10000 * i + 0x4 * k
/-- R227 -/ def R.WIT_LEDGER (i : Nat) (k : Nat) : Nat := 0x20908200 + 0x10000 * i + 0x4 * k
/-- R227 -/ def R.WIT_LEDGER_CNT (i : Nat) : Nat := 0x20908220 + 0x10000 * i
/-- R227 -/ def R.WIT_LEDGER_POP (i : Nat) : Nat := 0x20908224 + 0x10000 * i
/-- R227 -/ def R.WIT_EVENT (i : Nat) (k : Nat) : Nat := 0x20908240 + 0x10000 * i + 0x4 * k
/-- R227 -/ def R.WIT_EVENT_CNT (i : Nat) : Nat := 0x20908250 + 0x10000 * i
/-- R227 -/ def R.WIT_EVENT_POP (i : Nat) : Nat := 0x20908254 + 0x10000 * i
/-- R259 -/ def R.GC_STATUS (i : Nat) : Nat := 0x20C05000 + 0x10000 * i
/-- R259 -/ def R.GC_DISP_CNT (i : Nat) : Nat := 0x20C05004 + 0x10000 * i
/-- R259 -/ def R.GC_KAT_CNT (i : Nat) : Nat := 0x20C05008 + 0x10000 * i
/-- R259 -/ def R.GC_KAT_FAIL (i : Nat) : Nat := 0x20C0500C + 0x10000 * i
/-- R259 -/ def R.GC_BLAME_CNT (i : Nat) : Nat := 0x20C05010 + 0x10000 * i
/-- R259 -/ def R.GC_ABORT_CNT (i : Nat) : Nat := 0x20C05014 + 0x10000 * i
/-- R259 -/ def R.GC_RANGE_CNT (i : Nat) : Nat := 0x20C05018 + 0x10000 * i
/-- R259 -/ def R.GC_LANE_LAST (i : Nat) : Nat := 0x20C0501C + 0x10000 * i
/-- R259 -/ def R.GC_OBS (i : Nat) (k : Nat) : Nat := 0x20C05040 + 0x10000 * i + 0x4 * k
/-- R260 -/ def R.GAL_FENCED : Nat := 0x20CC0000
/-- R260 -/ def R.GAL_FENCE : Nat := 0x20CC0004
/-- R260 -/ def R.GAL_UNFENCE : Nat := 0x20CC0008
/-- R260 -/ def R.GAL_CFG : Nat := 0x20CC000C
/-- R260 -/ def R.GAL_CHANGE : Nat := 0x20CC0010
/-- R260 -/ def R.GAL_LATE_CNT : Nat := 0x20CC0014
/-- R260 -/ def R.GAL_EXPOSED_CNT : Nat := 0x20CC0018
/-- R260 -/ def R.GAL_WITHDRAWN_CNT : Nat := 0x20CC001C
/-- R290 -/ def R.WIT_STN_BASE (i : Nat) : Nat := 0x20908400 + 0x10000 * i
/-- R290 -/ def R.WIT_STN_SIZE (i : Nat) : Nat := 0x20908404 + 0x10000 * i
/-- R290 -/ def R.WIT_STN_STAT (i : Nat) : Nat := 0x20908408 + 0x10000 * i
/-- R290 -/ def R.WIT_STN_RUN_ID (i : Nat) : Nat := 0x2090840C + 0x10000 * i
/-- R290 -/ def R.WIT_STN_MISMATCH (i : Nat) : Nat := 0x20908410 + 0x10000 * i
/-- R290 -/ def R.WIT_STN_PASS_CNT (i : Nat) : Nat := 0x20908414 + 0x10000 * i
/-- R290 -/ def R.WIT_STN_FAIL_CNT (i : Nat) : Nat := 0x20908418 + 0x10000 * i
/-- R290 -/ def R.WIT_STN_OTHER_CNT (i : Nat) : Nat := 0x2090841C + 0x10000 * i
/-- R290 -/ def R.WIT_HEALTH (i : Nat) : Nat := 0x20908420 + 0x10000 * i
/-- R290 -/ def R.WIT_UNIT (i : Nat) (k : Nat) : Nat := 0x20908800 + 0x10000 * i + 0x4 * k
/-- R290 -/ def R.WIT_UNITID_LO (i : Nat) (k : Nat) : Nat := 0x20908A00 + 0x10000 * i + 0x8 * k
/-- R290 -/ def R.WIT_UNITID_HI (i : Nat) (k : Nat) : Nat := 0x20908A04 + 0x10000 * i + 0x8 * k
/-- R291 -/ def R.FS_STATUS : Nat := 0x20708000
/-- R291 -/ def R.FS_SEQ_LO : Nat := 0x20708004
/-- R291 -/ def R.FS_SEQ_HI : Nat := 0x20708008
/-- R291 -/ def R.FS_FT_LO : Nat := 0x2070800C
/-- R291 -/ def R.FS_FT_HI : Nat := 0x20708010
/-- R291 -/ def R.FS_BLOCKS : Nat := 0x20708014
/-- R291 -/ def R.FS_TORN_CNT : Nat := 0x20708018
/-- R291 -/ def R.FS_JOURNAL_CNT : Nat := 0x2070801C
/-- R291 -/ def R.FS_JOURNAL_ACK_LO : Nat := 0x20708020
/-- R291 -/ def R.FS_JOURNAL_ACK_HI : Nat := 0x20708024
/-- R291 -/ def R.FS_JOURNAL_LOST : Nat := 0x20708028
/-- R291 -/ def R.FS_CFG0 : Nat := 0x20708030
/-- R291 -/ def R.FS_CFG1 : Nat := 0x20708034
/-- R291 -/ def R.FS_CMD : Nat := 0x20708040
/-- R291 -/ def R.FS_CMD_UNIT_LO : Nat := 0x20708044
/-- R291 -/ def R.FS_CMD_UNIT_HI : Nat := 0x20708048
/-- R291 -/ def R.FS_CMD_STAT : Nat := 0x2070804C
/-- R291 -/ def R.STN_ID (k : Nat) : Nat := 0x20708100 + 0x20 * k
/-- R291 -/ def R.STN_VERSION (k : Nat) : Nat := 0x20708104 + 0x20 * k
/-- R291 -/ def R.STN_MODEL_LO (k : Nat) : Nat := 0x20708108 + 0x20 * k
/-- R291 -/ def R.STN_MODEL_HI (k : Nat) : Nat := 0x2070810C + 0x20 * k
/-- R291 -/ def R.STN_INFO (k : Nat) : Nat := 0x20708110 + 0x20 * k
/-- R324 -/ def R.MC_STATUS (i : Nat) : Nat := 0x20B00000 + 0x10000 * i
/-- R324 -/ def R.MC_EVENT (i : Nat) : Nat := 0x20B00004 + 0x10000 * i
/-- R324 -/ def R.MC_ROUTE (i : Nat) : Nat := 0x20B00008 + 0x10000 * i
/-- R324 -/ def R.MC_CE_CNT (i : Nat) (k : Nat) : Nat := 0x20B00010 + 0x10000 * i + 0x4 * k
/-- R324 -/ def R.MC_UE_CNT (i : Nat) (k : Nat) : Nat := 0x20B00018 + 0x10000 * i + 0x4 * k
/-- R324 -/ def R.MC_PAR_CNT (i : Nat) : Nat := 0x20B00020 + 0x10000 * i
/-- R324 -/ def R.MC_ERR_ADDR_LO (i : Nat) : Nat := 0x20B00024 + 0x10000 * i
/-- R324 -/ def R.MC_ERR_ADDR_HI (i : Nat) : Nat := 0x20B00028 + 0x10000 * i
/-- R324 -/ def R.MC_ERR_INFO (i : Nat) : Nat := 0x20B0002C + 0x10000 * i
/-- R324 -/ def R.MC_CE_THRESH (i : Nat) : Nat := 0x20B00030 + 0x10000 * i
/-- R324 -/ def R.MC_SCRUB_CFG (i : Nat) : Nat := 0x20B00034 + 0x10000 * i
/-- R324 -/ def R.MC_SCRUB_POS (i : Nat) : Nat := 0x20B00038 + 0x10000 * i
/-- R324 -/ def R.MC_SCRUB_PASSES (i : Nat) : Nat := 0x20B0003C + 0x10000 * i
/-- R324 -/ def R.TRW_DQ_ADDR_LO (i : Nat) : Nat := 0x20B00040 + 0x10000 * i
/-- R324 -/ def R.TRW_DQ_ADDR_HI (i : Nat) : Nat := 0x20B00044 + 0x10000 * i
/-- R324 -/ def R.TRW_DQ_GO (i : Nat) : Nat := 0x20B00048 + 0x10000 * i
/-- R324 -/ def R.TRW_DQ_STAT (i : Nat) : Nat := 0x20B0004C + 0x10000 * i
/-- R325 -/ def R.TW_CTL (i : Nat) (k : Nat) : Nat := 0x20B01000 + 0x10000 * i + 0x40 * k
/-- R325 -/ def R.TW_BASE_LO (i : Nat) (k : Nat) : Nat := 0x20B01004 + 0x10000 * i + 0x40 * k
/-- R325 -/ def R.TW_BASE_HI (i : Nat) (k : Nat) : Nat := 0x20B01008 + 0x10000 * i + 0x40 * k
/-- R325 -/ def R.TW_LEN (i : Nat) (k : Nat) : Nat := 0x20B0100C + 0x10000 * i + 0x40 * k
/-- R325 -/ def R.TW_PARAM_LO (i : Nat) (k : Nat) : Nat := 0x20B01010 + 0x10000 * i + 0x40 * k
/-- R325 -/ def R.TW_PARAM_HI (i : Nat) (k : Nat) : Nat := 0x20B01014 + 0x10000 * i + 0x40 * k
/-- R325 -/ def R.TW_MAP_LO (i : Nat) (k : Nat) : Nat := 0x20B01018 + 0x10000 * i + 0x40 * k
/-- R325 -/ def R.TW_MAP_HI (i : Nat) (k : Nat) : Nat := 0x20B0101C + 0x10000 * i + 0x40 * k
/-- R325 -/ def R.TW_GEOM (i : Nat) (k : Nat) : Nat := 0x20B01020 + 0x10000 * i + 0x40 * k
/-- R325 -/ def R.TW_ROW_BYTES (i : Nat) (k : Nat) : Nat := 0x20B01024 + 0x10000 * i + 0x40 * k
/-- R325 -/ def R.TW_STATUS (i : Nat) (k : Nat) : Nat := 0x20B01028 + 0x10000 * i + 0x40 * k
/-- R325 -/ def R.TW_COVERED_LO (i : Nat) (k : Nat) : Nat := 0x20B0102C + 0x10000 * i + 0x40 * k
/-- R325 -/ def R.TW_COVERED_HI (i : Nat) (k : Nat) : Nat := 0x20B01030 + 0x10000 * i + 0x40 * k
/-- R325 -/ def R.TW_RESULT (i : Nat) (k : Nat) : Nat := 0x20B01034 + 0x10000 * i + 0x40 * k
/-- R365 -/ def R.SQ_STATUS (i : Nat) : Nat := 0x20105000 + 0x10000 * i
/-- R365 -/ def R.SQ_CFG (i : Nat) : Nat := 0x20105004 + 0x10000 * i
/-- R365 -/ def R.SQ_RAIL_ST (i : Nat) : Nat := 0x20105008 + 0x10000 * i
/-- R365 -/ def R.SQ_RAIL_ST2 (i : Nat) : Nat := 0x2010500C + 0x10000 * i
/-- R365 -/ def R.SQ_FAULTED (i : Nat) : Nat := 0x20105010 + 0x10000 * i
/-- R365 -/ def R.SQ_BAYSIG (i : Nat) : Nat := 0x20105014 + 0x10000 * i
/-- R365 -/ def R.SQ_CNT_CLR (i : Nat) : Nat := 0x20105018 + 0x10000 * i
/-- R365 -/ def R.SQ_RAIL_CFG (i : Nat) (k : Nat) : Nat := 0x20105040 + 0x10000 * i + 0x4 * k
/-- R365 -/ def R.SQ_CNT_A (i : Nat) (k : Nat) : Nat := 0x20105100 + 0x10000 * i + 0x8 * k
/-- R365 -/ def R.SQ_CNT_B (i : Nat) (k : Nat) : Nat := 0x20105104 + 0x10000 * i + 0x8 * k
/-- R366 -/ def R.TR_CFG : Nat := 0x20185400
/-- R366 -/ def R.TR_STAT : Nat := 0x20185404
/-- R366 -/ def R.TR_VIN : Nat := 0x20185408
/-- R366 -/ def R.TR_EVENT : Nat := 0x2018540C
/-- R366 -/ def R.TR_ROUTE : Nat := 0x20185410
/-- R366 -/ def R.TR_HU_SEQ_LO : Nat := 0x20185414
/-- R366 -/ def R.TR_HU_SEQ_HI : Nat := 0x20185418
/-- R367 -/ def R.PC_CAP : Nat := 0x20185440
/-- R367 -/ def R.PC_CFG : Nat := 0x20185444
/-- R367 -/ def R.PC_STAT : Nat := 0x20185448
/-- R367 -/ def R.PC_EFF : Nat := 0x2018544C
/-- R367 -/ def R.PC_ENGAGE_CNT : Nat := 0x20185450
/-- R367 -/ def R.PC_HOST_THR : Nat := 0x20185454
/-- R367 -/ def R.PC_ISCALE (k : Nat) : Nat := 0x20185460 + 0x4 * k
/-- R402 -/ def R.CL_MODE : Nat := 0x20280000
/-- R402 -/ def R.CL_EVENT : Nat := 0x20280004
/-- R402 -/ def R.CL_ROUTE : Nat := 0x20280008
/-- R402 -/ def R.CL_PROVE : Nat := 0x2028000C
/-- R402 -/ def R.CL_FAILED : Nat := 0x20280010
/-- R402 -/ def R.CL_FAIL_ACK : Nat := 0x20280014
/-- R402 -/ def R.CL_ZCFG (k : Nat) : Nat := 0x20280100 + 0x20 * k
/-- R402 -/ def R.CL_ZSEL (k : Nat) (q : Nat) : Nat := 0x20280104 + 0x20 * k + 4 * q
/-- R402 -/ def R.CL_ZSTAT (k : Nat) : Nat := 0x20280114 + 0x20 * k
/-- R402 -/ def R.CL_MAP (k : Nat) : Nat := 0x20280300 + 0x4 * k
/-- R402 -/ def R.CL_SENS (k : Nat) : Nat := 0x20280400 + 0x4 * k
/-- R403 -/ def R.CL_AIN_A (k : Nat) : Nat := 0x20280600 + 0x8 * k
/-- R403 -/ def R.CL_AIN_B (k : Nat) : Nat := 0x20280604 + 0x8 * k
/-- R403 -/ def R.CL_FLOW_CFG (k : Nat) : Nat := 0x20280780 + 0x8 * k
/-- R403 -/ def R.CL_FLOW (k : Nat) : Nat := 0x20280784 + 0x8 * k
/-- R403 -/ def R.CL_LK_A (k : Nat) : Nat := 0x20280800 + 0x10 * k
/-- R403 -/ def R.CL_LK_B (k : Nat) : Nat := 0x20280804 + 0x10 * k
/-- R403 -/ def R.CL_LK_C (k : Nat) : Nat := 0x20280808 + 0x10 * k
/-- R403 -/ def R.CL_LK_STAT (k : Nat) : Nat := 0x2028080C + 0x10 * k
/-- R403 -/ def R.CL_LK_ACK : Nat := 0x20280880
/-- R404 -/ def R.MOT_CFG (i : Nat) : Nat := 0x20300000 + 0x10000 * i
/-- R404 -/ def R.MOT_SPEED (i : Nat) : Nat := 0x20300004 + 0x10000 * i
/-- R404 -/ def R.MOT_RAMP (i : Nat) : Nat := 0x20300008 + 0x10000 * i
/-- R404 -/ def R.MOT_STAT (i : Nat) : Nat := 0x20300010 + 0x10000 * i
/-- R404 -/ def R.MOT_CMD (i : Nat) : Nat := 0x20300014 + 0x10000 * i
/-- R404 -/ def R.MOT_PWR (i : Nat) : Nat := 0x20300018 + 0x10000 * i
/-- R404 -/ def R.MOT_CNT (i : Nat) : Nat := 0x2030001C + 0x10000 * i
/-- R404 -/ def R.AX_CFG (k : Nat) : Nat := 0x203C0000 + 0x8 * k
/-- R404 -/ def R.AX_STAT (k : Nat) : Nat := 0x203C0004 + 0x8 * k
/-- R433 -/ def R.BUS_CFG (i : Nat) : Nat := 0x20405000 + 0x10000 * i
/-- R433 -/ def R.BUS_TIME (i : Nat) : Nat := 0x20405004 + 0x10000 * i
/-- R433 -/ def R.BUS_TGT (i : Nat) : Nat := 0x20405008 + 0x10000 * i
/-- R433 -/ def R.BUS_CMD (i : Nat) : Nat := 0x2040500C + 0x10000 * i
/-- R433 -/ def R.BUS_STAT (i : Nat) : Nat := 0x20405010 + 0x10000 * i
/-- R433 -/ def R.BUS_EVENT (i : Nat) : Nat := 0x20405014 + 0x10000 * i
/-- R433 -/ def R.BUS_ROUTE (i : Nat) : Nat := 0x20405018 + 0x10000 * i
/-- R433 -/ def R.BUS_XFER_CNT (i : Nat) : Nat := 0x20405020 + 0x10000 * i
/-- R433 -/ def R.BUS_NACK_CNT (i : Nat) : Nat := 0x20405024 + 0x10000 * i
/-- R433 -/ def R.BUS_ARB_CNT (i : Nat) : Nat := 0x20405028 + 0x10000 * i
/-- R433 -/ def R.BUS_STRETCH_CNT (i : Nat) : Nat := 0x2040502C + 0x10000 * i
/-- R433 -/ def R.BUS_PEC_CNT (i : Nat) : Nat := 0x20405030 + 0x10000 * i
/-- R433 -/ def R.BUS_STUCK_CNT (i : Nat) : Nat := 0x20405034 + 0x10000 * i
/-- R433 -/ def R.BUS_TGT_CNT (i : Nat) : Nat := 0x20405038 + 0x10000 * i
/-- R471 -/ def R.SEC_BOOT_STATUS : Nat := 0x20600000
/-- R471 -/ def R.SEC_TRIAL : Nat := 0x20600004
/-- R471 -/ def R.SEC_CONFIRM : Nat := 0x20600008
/-- R471 -/ def R.SEC_ARB : Nat := 0x2060000C
/-- R471 -/ def R.SEC_KEYS : Nat := 0x20600010
/-- R471 -/ def R.SEC_LOCK_ID : Nat := 0x20600014
/-- R471 -/ def R.SEC_IMG_DIGEST (k : Nat) : Nat := 0x20600020 + 0x4 * k
/-- R471 -/ def R.SEC_ID_PUB_X (k : Nat) : Nat := 0x20600040 + 0x4 * k
/-- R471 -/ def R.SEC_ID_PUB_Y (k : Nat) : Nat := 0x20600060 + 0x4 * k
/-- R471 -/ def R.SEC_REQ_ADDR_LO : Nat := 0x20600080
/-- R471 -/ def R.SEC_REQ_ADDR_HI : Nat := 0x20600084
/-- R471 -/ def R.SEC_REQ_GO : Nat := 0x20600088
/-- R471 -/ def R.SEC_REQ_STAT : Nat := 0x2060008C
/-- R471 -/ def R.SEC_EVENT : Nat := 0x20600090
/-- R471 -/ def R.SEC_ROUTE : Nat := 0x20600094
/-- R500 -/ def R.SEC_ACT_CTL : Nat := 0x20600100
/-- R500 -/ def R.SEC_ACT_STAT : Nat := 0x20600104
/-- R500 -/ def R.SEC_ACT_HOB_LO : Nat := 0x20600108
/-- R500 -/ def R.SEC_ACT_HOB_HI : Nat := 0x2060010C
/-- R500 -/ def R.SEC_ACT_CFG : Nat := 0x20600110
/-- R500 -/ def R.SEC_UPD_LOCK : Nat := 0x20600114
/-- R500 -/ def R.SEC_UPD_BLOCK : Nat := 0x20600118
/-- R500 -/ def R.GOLD_MODEL_LO (k : Nat) : Nat := 0x2070A000 + 0x20 * k
/-- R500 -/ def R.GOLD_MODEL_HI (k : Nat) : Nat := 0x2070A004 + 0x20 * k
/-- R500 -/ def R.GOLD_VERSION (k : Nat) : Nat := 0x2070A008 + 0x20 * k
/-- R500 -/ def R.GOLD_INFO (k : Nat) : Nat := 0x2070A00C + 0x20 * k
/-- R500 -/ def R.GOLD_BAY_CFG (k : Nat) : Nat := 0x2070A100 + 0x10 * k
/-- R500 -/ def R.GOLD_BAY_STAT (k : Nat) : Nat := 0x2070A104 + 0x10 * k
/-- R500 -/ def R.GOLD_BAY_CNT (k : Nat) : Nat := 0x2070A108 + 0x10 * k
/-- R500 -/ def R.GOLD_CFG : Nat := 0x2070A200
/-- R500 -/ def R.GOLD_EVENT : Nat := 0x2070A204
/-- R538 -/ def R.ETH_CFG : Nat := 0x20800000
/-- R538 -/ def R.ETH_STAT : Nat := 0x20800004
/-- R538 -/ def R.ETH_MAC_LO : Nat := 0x20800008
/-- R538 -/ def R.ETH_MAC_HI : Nat := 0x2080000C
/-- R538 -/ def R.ETH_VLAN : Nat := 0x20800010
/-- R538 -/ def R.ETH_IP4_ADDR : Nat := 0x20800014
/-- R538 -/ def R.ETH_IP4_CFG : Nat := 0x20800018
/-- R538 -/ def R.ETH_IP6_ADDR (k : Nat) : Nat := 0x20800020 + 0x4 * k
/-- R538 -/ def R.ETH_IP6_CFG : Nat := 0x20800030
/-- R538 -/ def R.MMP_CFG : Nat := 0x20800040
/-- R538 -/ def R.MMP_PERM : Nat := 0x20800044
/-- R538 -/ def R.MMP_WALL_LO : Nat := 0x20800048
/-- R538 -/ def R.MMP_WALL_HI : Nat := 0x2080004C
/-- R538 -/ def R.ETH_RX_BASE : Nat := 0x20800080
/-- R538 -/ def R.ETH_RX_HEAD : Nat := 0x20800084
/-- R538 -/ def R.ETH_RX_TAIL : Nat := 0x20800088
/-- R538 -/ def R.ETH_TX_BASE : Nat := 0x2080008C
/-- R538 -/ def R.ETH_TX_HEAD : Nat := 0x20800090
/-- R538 -/ def R.ETH_TX_TAIL : Nat := 0x20800094
/-- R538 -/ def R.ETH_ROUTE : Nat := 0x20800098
/-- R538 -/ def R.ETH_EVT (k : Nat) : Nat := 0x20800100 + 0x4 * k
/-- R538 -/ def R.ETH_EVT_GO : Nat := 0x20800130
/-- R538 -/ def R.ETH_EVT_STAT : Nat := 0x20800134
/-- R538 -/ def R.ETH_RX_FRAMES : Nat := 0x20800200
/-- R538 -/ def R.ETH_TX_FRAMES : Nat := 0x20800204
/-- R538 -/ def R.ETH_RX_DROP : Nat := 0x20800208
/-- R538 -/ def R.ETH_FEC_CORR : Nat := 0x2080020C
/-- R538 -/ def R.ETH_FEC_UNCORR : Nat := 0x20800210
/-- R538 -/ def R.MMP_AUTH_FAIL : Nat := 0x20800214
/-- R538 -/ def R.MMP_RETX : Nat := 0x20800218
/-- R538 -/ def R.MMP_SESSIONS : Nat := 0x2080021C
/-- R575 -/ def R.TWIN_STATUS : Nat := 0x20A00000
/-- R575 -/ def R.TWIN_CFG : Nat := 0x20A00004
/-- R575 -/ def R.TWIN_CTL : Nat := 0x20A00008
/-- R575 -/ def R.TWIN_EVENT : Nat := 0x20A0000C
/-- R575 -/ def R.TWIN_ROUTE : Nat := 0x20A00010
/-- R575 -/ def R.TWIN_TAKEOVER_CNT : Nat := 0x20A00020
/-- R575 -/ def R.TWIN_ACK_LOST_CNT : Nat := 0x20A00024
/-- R575 -/ def R.TWIN_DISAGREE_CNT : Nat := 0x20A00028
/-- R575 -/ def R.TWIN_SOLO_SEAL_CNT : Nat := 0x20A0002C
/-- R575 -/ def R.TWIN_BAD_CNT : Nat := 0x20A00030
/-- R588 -/ def R.IO_GPIO_IN : Nat := 0x20500000
/-- R588 -/ def R.IO_GPIO_OUT : Nat := 0x20500004
/-- R588 -/ def R.IO_GPIO_OE : Nat := 0x20500008
/-- R588 -/ def R.IO_LED : Nat := 0x2050000C
/-- R588 -/ def R.IO_STRAP : Nat := 0x20500010
/-- R589 -/ def R.SQ_LED (i : Nat) : Nat := 0x2010501C + 0x10000 * i

/-! ### Fields -/

def F.ISLE_INFO.ISLAND_COUNT : Fld := ⟨0, 8⟩
def F.ISLE_INFO.GEN : Fld := ⟨8, 4⟩
def F.ISLE_REFCLK.PRESENT : Fld := ⟨0, 1⟩
def F.ISLE_REFCLK.LOST : Fld := ⟨1, 1⟩
def F.ISLE_REFCLK.LOSS_CNT : Fld := ⟨16, 16⟩
def F.ISLE_ENTRY.STATE : Fld := ⟨0, 3⟩
def F.ISLE_ENTRY.UNDERCOAT : Fld := ⟨4, 1⟩
def F.ISLE_ENTRY.GROUP : Fld := ⟨8, 4⟩
def F.ISLE_ENTRY.TRIMMED : Fld := ⟨12, 1⟩
def F.ISLE_ENTRY.FREQ_DEV : Fld := ⟨16, 8⟩
def F.ISLE_ENTRY.RESTART_CNT : Fld := ⟨24, 8⟩
def F.UCR_RST_CTL.FW_RESTART : Fld := ⟨0, 1⟩
def F.UCR_RST_CTL.COMMONS_RESTART : Fld := ⟨1, 1⟩
def F.UCR_RST_CTL.FULL_RESET : Fld := ⟨2, 1⟩
def F.UCR_RST_CTL.KEY : Fld := ⟨16, 16⟩
def F.UCR_RST_CAUSE.LAST_KIND : Fld := ⟨0, 2⟩
def F.UCR_RST_CAUSE.CAUSE : Fld := ⟨8, 4⟩
def F.UCR_RST_CAUSE.PARTIAL_CNT : Fld := ⟨16, 16⟩
def F.UCR_GRACE.T_GRACE : Fld := ⟨0, 16⟩
def F.UCR_FW_READY.READY : Fld := ⟨0, 1⟩
def F.ENG_CTL.START : Fld := ⟨0, 1⟩
def F.ENG_CTL.STOP : Fld := ⟨1, 1⟩
def F.ENG_CTL.KILL : Fld := ⟨2, 1⟩
def F.ENG_CTL.PEND : Fld := ⟨3, 1⟩
def F.ENG_CTL.ENTRY : Fld := ⟨4, 3⟩
def F.ENG_STATUS.STATE : Fld := ⟨0, 3⟩
def F.ENG_STATUS.PROG_VALID : Fld := ⟨3, 1⟩
def F.ENG_STATUS.TOFF_RUNNING : Fld := ⟨4, 1⟩
def F.ENG_STATUS.START_REJ : Fld := ⟨5, 1⟩
def F.ENG_STATUS.START_CNT : Fld := ⟨16, 16⟩
def F.ENG_FAULT.CAUSE : Fld := ⟨0, 8⟩
def F.ENG_FAULT.PC : Fld := ⟨8, 14⟩
def F.ENG_FAULT.FAULT_CNT : Fld := ⟨24, 8⟩
def F.ENG_TOFF.T_OFF_MIN : Fld := ⟨0, 16⟩
def F.ENG_MBOX_IN.DATA : Fld := ⟨0, 32⟩
def F.ENG_MBOX_OUT.DATA : Fld := ⟨0, 32⟩
def F.ENG_MBOX_STATUS.OUT_CNT : Fld := ⟨0, 5⟩
def F.ENG_MBOX_STATUS.IN_SPACE : Fld := ⟨8, 5⟩
def F.ENG_MBOX_STATUS.LAST_TAG : Fld := ⟨16, 1⟩
def F.ENG_MBOX_STATUS.IN_LOST : Fld := ⟨17, 1⟩
def F.ENG_ROUTE.MBX_CORE : Fld := ⟨0, 2⟩
def F.ENG_ROUTE.MBX_EN : Fld := ⟨2, 1⟩
def F.ENG_ROUTE.EVT_CORE : Fld := ⟨4, 2⟩
def F.ENG_ROUTE.EVT_EN : Fld := ⟨6, 1⟩
def F.ENG_PROG_VERSION.VERSION : Fld := ⟨0, 32⟩
def F.ENG_PROG_CRC.CRC : Fld := ⟨0, 32⟩
def F.ENG_PROG_INFO.CODE_LEN : Fld := ⟨0, 13⟩
def F.ENG_PROG_INFO.VAR_COUNT : Fld := ⟨16, 8⟩
def F.ENG_PROG_INFO.ENTRY_MASK : Fld := ⟨24, 8⟩
def F.ENG_WDOG.PERIOD : Fld := ⟨0, 14⟩
def F.ENG_ENTRY.INDEX : Fld := ⟨0, 12⟩
def F.ENG_LOAD_HDR.ENGINE_TYPE : Fld := ⟨0, 8⟩
def F.ENG_LOAD_HDR.PROFILE : Fld := ⟨8, 4⟩
def F.ENG_LOAD_HDR.INSTANCE_MASK : Fld := ⟨16, 16⟩
def F.ENG_LOAD_CTL.OPEN : Fld := ⟨0, 1⟩
def F.ENG_LOAD_CTL.COMMIT : Fld := ⟨1, 1⟩
def F.ENG_LOAD_STATUS.REJECT : Fld := ⟨0, 4⟩
def F.ENG_LOAD_STATUS.OPEN : Fld := ⟨4, 1⟩
def F.WITL_STATUS.STATE : Fld := ⟨0, 3⟩
def F.WITL_STATUS.ALIGNED : Fld := ⟨3, 1⟩
def F.WITL_STATUS.OP_GEN : Fld := ⟨4, 4⟩
def F.WITL_STATUS.HOLD_MASK : Fld := ⟨8, 4⟩
def F.WITL_STATUS.EPOCH : Fld := ⟨16, 16⟩
def F.WITL_CFG.T_LINK : Fld := ⟨0, 14⟩
def F.WITL_CREDIT.DEV_HELD : Fld := ⟨0, 13⟩
def F.WITL_CREDIT.DATA_OUT : Fld := ⟨16, 13⟩
def F.WITL_FEC_CORR.COUNT : Fld := ⟨0, 32⟩
def F.WITL_FEC_UNCORR.COUNT : Fld := ⟨0, 32⟩
def F.WITL_CRC_ERR.COUNT : Fld := ⟨0, 32⟩
def F.WITL_RETRY_TX.COUNT : Fld := ⟨0, 32⟩
def F.WITL_RETRY_REQ.COUNT : Fld := ⟨0, 32⟩
def F.WITL_LANE.RETRAINS : Fld := ⟨0, 16⟩
def F.WITL_LANE.LINK_LOST : Fld := ⟨16, 16⟩
def F.WITL_FUTURE_CNT.COUNT : Fld := ⟨0, 32⟩
def F.WITL_STALE_CNT.COUNT : Fld := ⟨0, 32⟩
def F.WITL_NAK_LAST.CAUSE : Fld := ⟨0, 8⟩
def F.WITL_NAK_LAST.REC_TYPE : Fld := ⟨8, 8⟩
def F.WITL_NAK_CNT.COUNT : Fld := ⟨0, 16⟩
def F.WITL_PEER_MODEL.MODEL : Fld := ⟨0, 32⟩
def F.WITL_PEER_SERIAL.SERIAL : Fld := ⟨0, 32⟩
def F.WITL_PEER_INFO.GEN_MAX : Fld := ⟨0, 4⟩
def F.WITL_PEER_INFO.MAX_L : Fld := ⟨8, 3⟩
def F.WITL_PEER_INFO.DEV_GRANT : Fld := ⟨16, 13⟩
def F.WITL_MAINT_TXCTL.LEN : Fld := ⟨0, 13⟩
def F.WITL_MAINT_TXCTL.GO : Fld := ⟨13, 1⟩
def F.WITL_MAINT_TXCTL.TAG : Fld := ⟨16, 16⟩
def F.WITL_MAINT_RXSTAT.LEN : Fld := ⟨0, 13⟩
def F.WITL_MAINT_RXSTAT.FULL : Fld := ⟨13, 1⟩
def F.WITL_MAINT_RXSTAT.TX_LOST : Fld := ⟨14, 1⟩
def F.WITL_MAINT_RXSTAT.TAG : Fld := ⟨16, 16⟩
def F.WITL_MAINT_RXINFO.STATUS : Fld := ⟨0, 8⟩
def F.WITL_MAINT_RXDONE.DONE : Fld := ⟨0, 1⟩
def F.MAINT_TX.DATA : Fld := ⟨0, 32⟩
def F.MAINT_RX.DATA : Fld := ⟨0, 32⟩
def F.WIT_CTL.MODE : Fld := ⟨0, 2⟩
def F.WIT_CTL.LAG : Fld := ⟨4, 3⟩
def F.WIT_CTL.SAMPLE_SHIFT : Fld := ⟨8, 4⟩
def F.WIT_CTL.TOL_SCALE : Fld := ⟨16, 7⟩
def F.WIT_CTL.HOST_HOLD : Fld := ⟨24, 1⟩
def F.WIT_JOB.JOB_ID : Fld := ⟨0, 8⟩
def F.WIT_EPOCH_NEXT.EPOCH : Fld := ⟨0, 16⟩
def F.WIT_FIRST_STEP_LO.STEP : Fld := ⟨0, 32⟩
def F.WIT_FIRST_STEP_HI.STEP : Fld := ⟨0, 16⟩
def F.WIT_EPOCH_GO.NEW : Fld := ⟨0, 1⟩
def F.WIT_EPOCH_GO.RESEND : Fld := ⟨1, 1⟩
def F.WIT_TIMERS.T_REPLAY : Fld := ⟨0, 10⟩
def F.WIT_TIMERS.T_GLAG : Fld := ⟨16, 10⟩
def F.WIT_SAMPLE_BASE.ADDR : Fld := ⟨0, 32⟩
def F.WIT_SAMPLE_SIZE.MIB : Fld := ⟨0, 14⟩
def F.WIT_STAT.MODE_NOW : Fld := ⟨0, 2⟩
def F.WIT_STAT.LAG_NOW : Fld := ⟨2, 3⟩
def F.WIT_STAT.SHIFT_NOW : Fld := ⟨5, 4⟩
def F.WIT_STAT.FAULTED : Fld := ⟨9, 1⟩
def F.WIT_STAT.CHANGE_PENDING : Fld := ⟨10, 1⟩
def F.WIT_STAT.SUSPECT_TILES : Fld := ⟨16, 8⟩
def F.WIT_STAT.REPLAY_OUT : Fld := ⟨24, 4⟩
def F.WIT_SEALED_LO.STEP : Fld := ⟨0, 32⟩
def F.WIT_SEALED_HI.STEP : Fld := ⟨0, 16⟩
def F.WIT_SEALED_HI.VALID : Fld := ⟨16, 1⟩
def F.WIT_OPENED_LO.STEP : Fld := ⟨0, 32⟩
def F.WIT_OPENED_HI.STEP : Fld := ⟨0, 16⟩
def F.WIT_CSUM_CNT.COUNT : Fld := ⟨0, 32⟩
def F.WIT_CSUM_FAIL.COUNT : Fld := ⟨0, 32⟩
def F.WIT_SAMPLE_CNT.COUNT : Fld := ⟨0, 32⟩
def F.WIT_SAMPLE_FAIL.COUNT : Fld := ⟨0, 32⟩
def F.WIT_SEAL_CNT.COUNT : Fld := ⟨0, 32⟩
def F.WIT_LAG_HOLD_CNT.COUNT : Fld := ⟨0, 32⟩
def F.WIT_SUSPECT_CNT.COUNT : Fld := ⟨0, 32⟩
def F.WIT_JOB_FAULT_CNT.COUNT : Fld := ⟨0, 32⟩
def F.WIT_PRED_FAULT_CNT.COUNT : Fld := ⟨0, 32⟩
def F.WIT_VOID_CNT.COUNT : Fld := ⟨0, 32⟩
def F.WIT_GLAG_CNT.COUNT : Fld := ⟨0, 32⟩
def F.WIT_REPLAY_CSUM_FAIL.COUNT : Fld := ⟨0, 32⟩
def F.WIT_VERDICT0.VERDICT : Fld := ⟨0, 8⟩
def F.WIT_VERDICT0.ORIG_SLICE : Fld := ⟨8, 8⟩
def F.WIT_VERDICT0.RUN_SLICE : Fld := ⟨16, 8⟩
def F.WIT_VERDICT0.CLUSTER : Fld := ⟨24, 7⟩
def F.WIT_VERDICT0.SAME_SLICE : Fld := ⟨31, 1⟩
def F.WIT_VERDICT1.TILE_ID : Fld := ⟨0, 32⟩
def F.WIT_VERDICT2.STEP : Fld := ⟨0, 32⟩
def F.WIT_VERDICT3.STEP_HI : Fld := ⟨0, 16⟩
def F.WIT_VERDICT3.EPOCH : Fld := ⟨16, 16⟩
def F.WIT_TOL.U_EXP : Fld := ⟨0, 6⟩
def F.WIT_TOL.C_FMT : Fld := ⟨8, 4⟩
def F.WIT_TOL.FLOOR_EXP : Fld := ⟨16, 8⟩
def F.WIT_LEDGER.DATA : Fld := ⟨0, 32⟩
def F.WIT_LEDGER_CNT.COUNT : Fld := ⟨0, 13⟩
def F.WIT_LEDGER_POP.POP : Fld := ⟨0, 1⟩
def F.WIT_EVENT.DATA : Fld := ⟨0, 32⟩
def F.WIT_EVENT_CNT.COUNT : Fld := ⟨0, 9⟩
def F.WIT_EVENT_POP.POP : Fld := ⟨0, 1⟩
def F.GC_STATUS.HEALTH : Fld := ⟨0, 2⟩
def F.GC_STATUS.BUSY : Fld := ⟨2, 1⟩
def F.GC_STATUS.CHECKING : Fld := ⟨3, 1⟩
def F.GC_STATUS.BLAMES : Fld := ⟨4, 4⟩
def F.GC_STATUS.OBS_PASSES : Fld := ⟨8, 10⟩
def F.GC_DISP_CNT.COUNT : Fld := ⟨0, 32⟩
def F.GC_KAT_CNT.COUNT : Fld := ⟨0, 32⟩
def F.GC_KAT_FAIL.COUNT : Fld := ⟨0, 32⟩
def F.GC_BLAME_CNT.COUNT : Fld := ⟨0, 32⟩
def F.GC_ABORT_CNT.COUNT : Fld := ⟨0, 32⟩
def F.GC_RANGE_CNT.COUNT : Fld := ⟨0, 32⟩
def F.GC_LANE_LAST.LANE : Fld := ⟨0, 9⟩
def F.GC_LANE_LAST.CLASS : Fld := ⟨9, 3⟩
def F.GC_OBS.LANES : Fld := ⟨0, 32⟩
def F.GAL_FENCED.FENCED : Fld := ⟨0, 12⟩
def F.GAL_FENCE.FENCE : Fld := ⟨0, 12⟩
def F.GAL_UNFENCE.UNFENCE : Fld := ⟨0, 12⟩
def F.GAL_CFG.T_GDISP : Fld := ⟨0, 13⟩
def F.GAL_CFG.OBS_CLEAR : Fld := ⟨16, 10⟩
def F.GAL_CHANGE.CHANGED : Fld := ⟨0, 12⟩
def F.GAL_CHANGE.UNFENCE_REJ : Fld := ⟨12, 1⟩
def F.GAL_CHANGE.EMPTY : Fld := ⟨13, 1⟩
def F.GAL_LATE_CNT.COUNT : Fld := ⟨0, 32⟩
def F.GAL_EXPOSED_CNT.COUNT : Fld := ⟨0, 32⟩
def F.GAL_WITHDRAWN_CNT.COUNT : Fld := ⟨0, 32⟩
def F.WIT_STN_BASE.ADDR : Fld := ⟨0, 32⟩
def F.WIT_STN_SIZE.MIB : Fld := ⟨0, 11⟩
def F.WIT_STN_STAT.RUNNING : Fld := ⟨0, 1⟩
def F.WIT_STN_STAT.OUTCOME : Fld := ⟨4, 4⟩
def F.WIT_STN_STAT.SLOT : Fld := ⟨8, 4⟩
def F.WIT_STN_STAT.SLICE : Fld := ⟨16, 6⟩
def F.WIT_STN_RUN_ID.RUN_ID : Fld := ⟨0, 32⟩
def F.WIT_STN_MISMATCH.COUNT : Fld := ⟨0, 32⟩
def F.WIT_STN_PASS_CNT.COUNT : Fld := ⟨0, 32⟩
def F.WIT_STN_FAIL_CNT.COUNT : Fld := ⟨0, 32⟩
def F.WIT_STN_OTHER_CNT.COUNT : Fld := ⟨0, 32⟩
def F.WIT_HEALTH.BAY_HEALTH : Fld := ⟨0, 2⟩
def F.WIT_HEALTH.ACTIVE : Fld := ⟨8, 7⟩
def F.WIT_HEALTH.SLICES_MIN : Fld := ⟨16, 7⟩
def F.WIT_UNIT.STATE : Fld := ⟨0, 3⟩
def F.WIT_UNIT.DISABLED : Fld := ⟨3, 1⟩
def F.WIT_UNIT.TIMEOUTS : Fld := ⟨4, 4⟩
def F.WIT_UNIT.FAULTS : Fld := ⟨8, 8⟩
def F.WIT_UNIT.PASSES : Fld := ⟨16, 12⟩
def F.WIT_UNITID_LO.UNIT_ID : Fld := ⟨0, 32⟩
def F.WIT_UNITID_HI.UNIT_ID : Fld := ⟨0, 32⟩
def F.FS_STATUS.READY : Fld := ⟨0, 1⟩
def F.FS_STATUS.LEDGER_FULL : Fld := ⟨1, 1⟩
def F.FS_STATUS.JOURNAL_FULL : Fld := ⟨2, 1⟩
def F.FS_STATUS.RESUME_WAIT : Fld := ⟨3, 1⟩
def F.FS_SEQ_LO.SEQ : Fld := ⟨0, 32⟩
def F.FS_SEQ_HI.SEQ : Fld := ⟨0, 32⟩
def F.FS_FT_LO.FT : Fld := ⟨0, 32⟩
def F.FS_FT_HI.FT : Fld := ⟨0, 16⟩
def F.FS_BLOCKS.USED : Fld := ⟨0, 10⟩
def F.FS_BLOCKS.ABANDONED : Fld := ⟨16, 10⟩
def F.FS_TORN_CNT.COUNT : Fld := ⟨0, 32⟩
def F.FS_JOURNAL_CNT.COUNT : Fld := ⟨0, 23⟩
def F.FS_JOURNAL_ACK_LO.SEQ : Fld := ⟨0, 32⟩
def F.FS_JOURNAL_ACK_HI.SEQ : Fld := ⟨0, 32⟩
def F.FS_JOURNAL_LOST.COUNT : Fld := ⟨0, 32⟩
def F.FS_CFG0.T_NORM_INT : Fld := ⟨0, 14⟩
def F.FS_CFG0.T_OBS_INT : Fld := ⟨16, 11⟩
def F.FS_CFG1.T_OBS_WIN : Fld := ⟨0, 5⟩
def F.FS_CFG1.T_FAULT : Fld := ⟨8, 7⟩
def F.FS_CMD.OP : Fld := ⟨0, 4⟩
def F.FS_CMD.BAY : Fld := ⟨4, 3⟩
def F.FS_CMD.SLICE : Fld := ⟨8, 6⟩
def F.FS_CMD.STATE : Fld := ⟨16, 2⟩
def F.FS_CMD.AGE_DAYS : Fld := ⟨24, 8⟩
def F.FS_CMD_UNIT_LO.UNIT_ID : Fld := ⟨0, 32⟩
def F.FS_CMD_UNIT_HI.UNIT_ID : Fld := ⟨0, 32⟩
def F.FS_CMD_STAT.BUSY : Fld := ⟨0, 1⟩
def F.FS_CMD_STAT.RESULT : Fld := ⟨4, 4⟩
def F.STN_ID.PACK_ID : Fld := ⟨0, 32⟩
def F.STN_VERSION.PACK_VERSION : Fld := ⟨0, 32⟩
def F.STN_MODEL_LO.MODEL_LO : Fld := ⟨0, 32⟩
def F.STN_MODEL_HI.MODEL_HI : Fld := ⟨0, 32⟩
def F.STN_INFO.VALID : Fld := ⟨0, 1⟩
def F.STN_INFO.OWNER : Fld := ⟨1, 1⟩
def F.STN_INFO.TESTS : Fld := ⟨8, 7⟩
def F.MC_STATUS.STATE : Fld := ⟨0, 2⟩
def F.MC_STATUS.CH0_LOST : Fld := ⟨2, 1⟩
def F.MC_STATUS.CH1_LOST : Fld := ⟨3, 1⟩
def F.MC_EVENT.CE_RATE : Fld := ⟨0, 1⟩
def F.MC_EVENT.UE : Fld := ⟨1, 1⟩
def F.MC_EVENT.PARITY : Fld := ⟨2, 1⟩
def F.MC_EVENT.SCRUB_LATE : Fld := ⟨3, 1⟩
def F.MC_EVENT.DESC_DONE : Fld := ⟨4, 1⟩
def F.MC_EVENT.WIN_DONE : Fld := ⟨5, 1⟩
def F.MC_EVENT.QFULL : Fld := ⟨6, 1⟩
def F.MC_ROUTE.EVT_CORE : Fld := ⟨0, 2⟩
def F.MC_ROUTE.EVT_EN : Fld := ⟨2, 1⟩
def F.MC_CE_CNT.COUNT : Fld := ⟨0, 32⟩
def F.MC_UE_CNT.COUNT : Fld := ⟨0, 32⟩
def F.MC_PAR_CNT.COUNT : Fld := ⟨0, 32⟩
def F.MC_ERR_ADDR_LO.ADDR : Fld := ⟨0, 32⟩
def F.MC_ERR_ADDR_HI.ADDR : Fld := ⟨0, 16⟩
def F.MC_ERR_ADDR_HI.VALID : Fld := ⟨16, 1⟩
def F.MC_ERR_INFO.KIND : Fld := ⟨0, 2⟩
def F.MC_ERR_INFO.CHANNEL : Fld := ⟨2, 1⟩
def F.MC_ERR_INFO.RANK : Fld := ⟨3, 1⟩
def F.MC_ERR_INFO.BY_SCRUB : Fld := ⟨4, 1⟩
def F.MC_CE_THRESH.LIMIT : Fld := ⟨0, 16⟩
def F.MC_SCRUB_CFG.PERIOD_H : Fld := ⟨0, 7⟩
def F.MC_SCRUB_POS.LINES : Fld := ⟨0, 32⟩
def F.MC_SCRUB_PASSES.COUNT : Fld := ⟨0, 32⟩
def F.TRW_DQ_ADDR_LO.ADDR : Fld := ⟨0, 32⟩
def F.TRW_DQ_ADDR_HI.ADDR : Fld := ⟨0, 16⟩
def F.TRW_DQ_GO.GO : Fld := ⟨0, 1⟩
def F.TRW_DQ_STAT.PENDING : Fld := ⟨0, 4⟩
def F.TRW_DQ_STAT.BUSY : Fld := ⟨4, 1⟩
def F.TW_CTL.OP : Fld := ⟨0, 4⟩
def F.TW_CTL.ARM : Fld := ⟨4, 1⟩
def F.TW_CTL.CLOSE : Fld := ⟨5, 1⟩
def F.TW_CTL.IRQ : Fld := ⟨6, 1⟩
def F.TW_CTL.FMT : Fld := ⟨8, 8⟩
def F.TW_CTL.TOL_ULP : Fld := ⟨16, 8⟩
def F.TW_CTL.REJECT : Fld := ⟨24, 4⟩
def F.TW_BASE_LO.ADDR : Fld := ⟨0, 32⟩
def F.TW_BASE_HI.ADDR : Fld := ⟨0, 16⟩
def F.TW_LEN.LINES : Fld := ⟨0, 28⟩
def F.TW_PARAM_LO.ADDR : Fld := ⟨0, 32⟩
def F.TW_PARAM_HI.ADDR : Fld := ⟨0, 16⟩
def F.TW_MAP_LO.ADDR : Fld := ⟨0, 32⟩
def F.TW_MAP_HI.ADDR : Fld := ⟨0, 16⟩
def F.TW_GEOM.ROWS_M1 : Fld := ⟨0, 16⟩
def F.TW_ROW_BYTES.BYTES : Fld := ⟨0, 21⟩
def F.TW_STATUS.ARMED : Fld := ⟨0, 1⟩
def F.TW_STATUS.COMPLETE : Fld := ⟨1, 1⟩
def F.TW_STATUS.CLOSED : Fld := ⟨2, 1⟩
def F.TW_STATUS.OVER : Fld := ⟨3, 1⟩
def F.TW_STATUS.POISON : Fld := ⟨4, 1⟩
def F.TW_COVERED_LO.BYTES : Fld := ⟨0, 32⟩
def F.TW_COVERED_HI.BYTES : Fld := ⟨0, 4⟩
def F.TW_RESULT.VALUE : Fld := ⟨0, 32⟩
def F.SQ_STATUS.PWR : Fld := ⟨0, 3⟩
def F.SQ_STATUS.WARN : Fld := ⟨3, 1⟩
def F.SQ_STATUS.ON_REFUSED : Fld := ⟨4, 1⟩
def F.SQ_STATUS.EXT_OFF : Fld := ⟨5, 1⟩
def F.SQ_STATUS.WENT_DOWN : Fld := ⟨6, 1⟩
def F.SQ_STATUS.LAST_DOWN : Fld := ⟨8, 4⟩
def F.SQ_STATUS.DOWN_CNT : Fld := ⟨16, 16⟩
def F.SQ_CFG.T_WARN : Fld := ⟨0, 10⟩
def F.SQ_CFG.T_DOWN_MAX : Fld := ⟨16, 14⟩
def F.SQ_RAIL_ST.EN : Fld := ⟨0, 16⟩
def F.SQ_RAIL_ST.PG : Fld := ⟨16, 16⟩
def F.SQ_RAIL_ST2.SEEN : Fld := ⟨0, 16⟩
def F.SQ_RAIL_ST2.LATE : Fld := ⟨16, 16⟩
def F.SQ_FAULTED.FAULTED : Fld := ⟨0, 16⟩
def F.SQ_BAYSIG.LINES : Fld := ⟨0, 5⟩
def F.SQ_BAYSIG.OUT : Fld := ⟨8, 4⟩
def F.SQ_CNT_CLR.CLR : Fld := ⟨0, 16⟩
def F.SQ_RAIL_CFG.T_PG : Fld := ⟨0, 7⟩
def F.SQ_CNT_A.ENABLES : Fld := ⟨0, 16⟩
def F.SQ_CNT_A.UP_TIMEOUTS : Fld := ⟨16, 16⟩
def F.SQ_CNT_B.FAULTS : Fld := ⟨0, 16⟩
def F.SQ_CNT_B.GLITCHES : Fld := ⟨16, 16⟩
def F.TR_CFG.POLICY : Fld := ⟨0, 2⟩
def F.TR_CFG.T_LONG : Fld := ⟨8, 8⟩
def F.TR_CFG.BAY_AUTO : Fld := ⟨16, 8⟩
def F.TR_STAT.VIN_LOW : Fld := ⟨0, 1⟩
def F.TR_STAT.VIN_OK : Fld := ⟨1, 1⟩
def F.TR_STAT.HOLD_OK : Fld := ⟨2, 1⟩
def F.TR_STAT.SEATED : Fld := ⟨3, 1⟩
def F.TR_STAT.BTN : Fld := ⟨4, 1⟩
def F.TR_STAT.KILL_LINE : Fld := ⟨5, 1⟩
def F.TR_STAT.FORCING : Fld := ⟨6, 1⟩
def F.TR_STAT.BAYS_LAST : Fld := ⟨8, 8⟩
def F.TR_VIN.VIN : Fld := ⟨0, 16⟩
def F.TR_VIN.VHOLD : Fld := ⟨16, 16⟩
def F.TR_EVENT.VIN_LOW : Fld := ⟨0, 1⟩
def F.TR_EVENT.VIN_RETURN : Fld := ⟨1, 1⟩
def F.TR_EVENT.BTN_ON : Fld := ⟨2, 1⟩
def F.TR_EVENT.BTN_OFF : Fld := ⟨3, 1⟩
def F.TR_EVENT.BTN_LONG : Fld := ⟨4, 1⟩
def F.TR_EVENT.KILL_IN : Fld := ⟨5, 1⟩
def F.TR_EVENT.HU_WRITTEN : Fld := ⟨6, 1⟩
def F.TR_EVENT.HU_FAILED : Fld := ⟨7, 1⟩
def F.TR_EVENT.START_DISCARDED : Fld := ⟨8, 1⟩
def F.TR_EVENT.CAP_ENGAGED : Fld := ⟨9, 1⟩
def F.TR_EVENT.CAP_SATURATED : Fld := ⟨10, 1⟩
def F.TR_ROUTE.EVT_CORE : Fld := ⟨0, 2⟩
def F.TR_ROUTE.EVT_EN : Fld := ⟨2, 1⟩
def F.TR_HU_SEQ_LO.SEQ : Fld := ⟨0, 32⟩
def F.TR_HU_SEQ_HI.SEQ : Fld := ⟨0, 32⟩
def F.PC_CAP.PCAP : Fld := ⟨0, 16⟩
def F.PC_CAP.PCAP_HALF : Fld := ⟨16, 16⟩
def F.PC_CFG.BLIND_PCT : Fld := ⟨0, 7⟩
def F.PC_CFG.TGT_PCT : Fld := ⟨8, 7⟩
def F.PC_CFG.HYST_PCT : Fld := ⟨16, 5⟩
def F.PC_STAT.P_NOW : Fld := ⟨0, 16⟩
def F.PC_STAT.CAP_MASK : Fld := ⟨16, 8⟩
def F.PC_STAT.NEXT : Fld := ⟨24, 3⟩
def F.PC_STAT.SRC : Fld := ⟨28, 2⟩
def F.PC_EFF.CAP_EFF : Fld := ⟨0, 16⟩
def F.PC_ENGAGE_CNT.COUNT : Fld := ⟨0, 32⟩
def F.PC_HOST_THR.BAYS : Fld := ⟨0, 8⟩
def F.PC_HOST_THR.TGT_PCT : Fld := ⟨16, 7⟩
def F.PC_ISCALE.FULL_SCALE : Fld := ⟨0, 16⟩
def F.CL_MODE.MODE : Fld := ⟨0, 2⟩
def F.CL_MODE.MODE_NOW : Fld := ⟨4, 2⟩
def F.CL_MODE.FANS_PROVEN : Fld := ⟨8, 1⟩
def F.CL_MODE.BLIND : Fld := ⟨9, 1⟩
def F.CL_MODE.FAIL_OVR : Fld := ⟨10, 1⟩
def F.CL_MODE.LEAK_OVR : Fld := ⟨11, 1⟩
def F.CL_MODE.FAULT_OVR : Fld := ⟨12, 1⟩
def F.CL_MODE.SAFE_HOT : Fld := ⟨13, 1⟩
def F.CL_EVENT.CH_FAILED : Fld := ⟨0, 1⟩
def F.CL_EVENT.CH_ABSENT : Fld := ⟨1, 1⟩
def F.CL_EVENT.LEAK_WET : Fld := ⟨2, 1⟩
def F.CL_EVENT.LEAK_FAULT : Fld := ⟨3, 1⟩
def F.CL_EVENT.LOOP_ANOMALY : Fld := ⟨4, 1⟩
def F.CL_EVENT.SENSOR_FAULT : Fld := ⟨5, 1⟩
def F.CL_EVENT.THERMAL : Fld := ⟨6, 1⟩
def F.CL_EVENT.ENGINE_LOST : Fld := ⟨7, 1⟩
def F.CL_EVENT.LEAK_SHUTDOWN : Fld := ⟨8, 1⟩
def F.CL_EVENT.DERATE : Fld := ⟨9, 1⟩
def F.CL_ROUTE.EVT_CORE : Fld := ⟨0, 2⟩
def F.CL_ROUTE.EVT_EN : Fld := ⟨2, 1⟩
def F.CL_PROVE.MOT : Fld := ⟨0, 12⟩
def F.CL_PROVE.AUX : Fld := ⟨16, 8⟩
def F.CL_FAILED.MOT : Fld := ⟨0, 12⟩
def F.CL_FAILED.AUX : Fld := ⟨16, 8⟩
def F.CL_FAIL_ACK.MOT : Fld := ⟨0, 12⟩
def F.CL_FAIL_ACK.AUX : Fld := ⟨16, 8⟩
def F.CL_ZCFG.T_HOT : Fld := ⟨0, 16⟩
def F.CL_ZCFG.HOT_TGT : Fld := ⟨16, 8⟩
def F.CL_ZCFG.BAYS : Fld := ⟨24, 8⟩
def F.CL_ZSEL.SLOTS : Fld := ⟨0, 32⟩
def F.CL_ZSTAT.TEMP : Fld := ⟨0, 16⟩
def F.CL_ZSTAT.FAULT : Fld := ⟨16, 1⟩
def F.CL_ZSTAT.EMPTY : Fld := ⟨17, 1⟩
def F.CL_ZSTAT.HOT : Fld := ⟨18, 1⟩
def F.CL_ZSTAT.DEMAND : Fld := ⟨24, 7⟩
def F.CL_MAP.ZONES : Fld := ⟨0, 16⟩
def F.CL_MAP.FLOOR : Fld := ⟨16, 7⟩
def F.CL_MAP.MANUAL : Fld := ⟨24, 7⟩
def F.CL_SENS.VALUE : Fld := ⟨0, 16⟩
def F.CL_SENS.OPEN : Fld := ⟨16, 1⟩
def F.CL_SENS.SHORT : Fld := ⟨17, 1⟩
def F.CL_SENS.RANGE : Fld := ⟨18, 1⟩
def F.CL_SENS.STALE : Fld := ⟨19, 1⟩
def F.CL_SENS.TEMP : Fld := ⟨20, 1⟩
def F.CL_AIN_A.KIND : Fld := ⟨0, 2⟩
def F.CL_AIN_A.P1 : Fld := ⟨16, 16⟩
def F.CL_AIN_B.P2 : Fld := ⟨0, 16⟩
def F.CL_AIN_B.P3 : Fld := ⟨16, 16⟩
def F.CL_FLOW_CFG.K : Fld := ⟨0, 16⟩
def F.CL_FLOW.RATE : Fld := ⟨0, 16⟩
def F.CL_LK_A.EN : Fld := ⟨0, 1⟩
def F.CL_LK_A.BAYS : Fld := ⟨8, 8⟩
def F.CL_LK_A.PUMPS : Fld := ⟨16, 12⟩
def F.CL_LK_B.P_SLOT : Fld := ⟨0, 7⟩
def F.CL_LK_B.FLOW : Fld := ⟨8, 2⟩
def F.CL_LK_B.FLOW_EN : Fld := ⟨10, 1⟩
def F.CL_LK_B.P_LOW : Fld := ⟨16, 16⟩
def F.CL_LK_C.F_LOW : Fld := ⟨0, 16⟩
def F.CL_LK_C.T_SHUT : Fld := ⟨16, 6⟩
def F.CL_LK_C.LEAK_TGT : Fld := ⟨24, 7⟩
def F.CL_LK_STAT.STATE : Fld := ⟨0, 3⟩
def F.CL_LK_STAT.LATCHED : Fld := ⟨3, 1⟩
def F.CL_LK_STAT.INFERRED : Fld := ⟨4, 1⟩
def F.CL_LK_STAT.ANOMALY : Fld := ⟨5, 1⟩
def F.CL_LK_STAT.ACK_REJ : Fld := ⟨6, 1⟩
def F.CL_LK_STAT.OHMS : Fld := ⟨16, 16⟩
def F.CL_LK_ACK.ACK : Fld := ⟨0, 8⟩
def F.MOT_CFG.EN : Fld := ⟨0, 1⟩
def F.MOT_CFG.PROFILE : Fld := ⟨1, 1⟩
def F.MOT_CFG.HALL : Fld := ⟨2, 1⟩
def F.MOT_CFG.REVERSE : Fld := ⟨3, 1⟩
def F.MOT_CFG.POLES : Fld := ⟨4, 4⟩
def F.MOT_CFG.P_MAX : Fld := ⟨8, 8⟩
def F.MOT_SPEED.MIN_RPM : Fld := ⟨0, 16⟩
def F.MOT_SPEED.MAX_RPM : Fld := ⟨16, 16⟩
def F.MOT_RAMP.RAMP : Fld := ⟨0, 16⟩
def F.MOT_RAMP.STALL_PCT : Fld := ⟨16, 7⟩
def F.MOT_STAT.STATE : Fld := ⟨0, 3⟩
def F.MOT_STAT.LIMITED : Fld := ⟨3, 1⟩
def F.MOT_STAT.HALL_FAULT : Fld := ⟨4, 1⟩
def F.MOT_STAT.DERATE : Fld := ⟨5, 1⟩
def F.MOT_STAT.CAUSE : Fld := ⟨8, 3⟩
def F.MOT_STAT.TRIES : Fld := ⟨12, 3⟩
def F.MOT_STAT.RPM : Fld := ⟨16, 16⟩
def F.MOT_CMD.PCT : Fld := ⟨0, 7⟩
def F.MOT_CMD.RPM_CMD : Fld := ⟨16, 16⟩
def F.MOT_PWR.P_OUT : Fld := ⟨0, 16⟩
def F.MOT_PWR.I_PEAK : Fld := ⟨16, 16⟩
def F.MOT_CNT.STARTS : Fld := ⟨0, 16⟩
def F.MOT_CNT.FAILS : Fld := ⟨16, 16⟩
def F.AX_CFG.EN : Fld := ⟨0, 1⟩
def F.AX_CFG.PPR_M1 : Fld := ⟨1, 2⟩
def F.AX_STAT.STATE : Fld := ⟨0, 2⟩
def F.AX_STAT.DUTY : Fld := ⟨8, 7⟩
def F.AX_STAT.RPM : Fld := ⟨16, 16⟩
def F.BUS_CFG.SPEED : Fld := ⟨0, 2⟩
def F.BUS_CFG.CTRL_EN : Fld := ⟨2, 1⟩
def F.BUS_CFG.TGT_EN : Fld := ⟨3, 1⟩
def F.BUS_CFG.TGT_ADDR : Fld := ⟨4, 7⟩
def F.BUS_CFG.ALERT_OUT : Fld := ⟨11, 1⟩
def F.BUS_CFG.SEG_EN : Fld := ⟨12, 1⟩
def F.BUS_CFG.SEG_CH : Fld := ⟨16, 4⟩
def F.BUS_TIME.T_LOW_MAX : Fld := ⟨0, 7⟩
def F.BUS_TIME.T_STUCK : Fld := ⟨8, 11⟩
def F.BUS_TGT.T_SLEEP : Fld := ⟨0, 14⟩
def F.BUS_CMD.SEG_RETRY : Fld := ⟨0, 1⟩
def F.BUS_STAT.SCL : Fld := ⟨0, 1⟩
def F.BUS_STAT.SDA : Fld := ⟨1, 1⟩
def F.BUS_STAT.ALERT : Fld := ⟨2, 1⟩
def F.BUS_STAT.STUCK : Fld := ⟨3, 1⟩
def F.BUS_STAT.UNPOWERED : Fld := ⟨4, 1⟩
def F.BUS_STAT.ASLEEP : Fld := ⟨5, 1⟩
def F.BUS_STAT.SEG_PENDING : Fld := ⟨6, 1⟩
def F.BUS_STAT.SEG_CYCLES : Fld := ⟨7, 2⟩
def F.BUS_EVENT.STUCK : Fld := ⟨0, 1⟩
def F.BUS_EVENT.STUCK_CLEAR : Fld := ⟨1, 1⟩
def F.BUS_EVENT.SEG_FAILED : Fld := ⟨2, 1⟩
def F.BUS_EVENT.ARB_LOST : Fld := ⟨3, 1⟩
def F.BUS_EVENT.MIDBYTE_STRETCH : Fld := ⟨4, 1⟩
def F.BUS_EVENT.CLK_TIMEOUT : Fld := ⟨5, 1⟩
def F.BUS_EVENT.PEC_ERR : Fld := ⟨6, 1⟩
def F.BUS_EVENT.HN_DROP : Fld := ⟨7, 1⟩
def F.BUS_EVENT.ENGINE_LOST : Fld := ⟨8, 1⟩
def F.BUS_EVENT.TGT_TIMEOUT : Fld := ⟨9, 1⟩
def F.BUS_ROUTE.EVT_CORE : Fld := ⟨0, 2⟩
def F.BUS_ROUTE.EVT_EN : Fld := ⟨2, 1⟩
def F.BUS_XFER_CNT.COUNT : Fld := ⟨0, 32⟩
def F.BUS_NACK_CNT.COUNT : Fld := ⟨0, 32⟩
def F.BUS_ARB_CNT.COUNT : Fld := ⟨0, 32⟩
def F.BUS_STRETCH_CNT.COUNT : Fld := ⟨0, 32⟩
def F.BUS_PEC_CNT.COUNT : Fld := ⟨0, 32⟩
def F.BUS_STUCK_CNT.STUCK : Fld := ⟨0, 16⟩
def F.BUS_STUCK_CNT.SEG_CYCLES : Fld := ⟨16, 16⟩
def F.BUS_TGT_CNT.COUNT : Fld := ⟨0, 32⟩
def F.SEC_BOOT_STATUS.MODE : Fld := ⟨0, 2⟩
def F.SEC_BOOT_STATUS.SLOT : Fld := ⟨2, 1⟩
def F.SEC_BOOT_STATUS.GATE : Fld := ⟨3, 1⟩
def F.SEC_BOOT_STATUS.FALLBACK : Fld := ⟨4, 1⟩
def F.SEC_BOOT_STATUS.PATCH_BAD : Fld := ⟨5, 1⟩
def F.SEC_BOOT_STATUS.CERT_MISMATCH : Fld := ⟨6, 1⟩
def F.SEC_BOOT_STATUS.DEBUG_OPEN : Fld := ⟨7, 1⟩
def F.SEC_BOOT_STATUS.STRAP : Fld := ⟨8, 2⟩
def F.SEC_BOOT_STATUS.REJ_A : Fld := ⟨16, 8⟩
def F.SEC_BOOT_STATUS.REJ_B : Fld := ⟨24, 8⟩
def F.SEC_TRIAL.T_TRIAL : Fld := ⟨0, 10⟩
def F.SEC_TRIAL.LEFT : Fld := ⟨16, 10⟩
def F.SEC_TRIAL.STATE : Fld := ⟨26, 2⟩
def F.SEC_CONFIRM.CONFIRM : Fld := ⟨0, 1⟩
def F.SEC_CONFIRM.KEY : Fld := ⟨16, 16⟩
def F.SEC_ARB.ARB0 : Fld := ⟨0, 7⟩
def F.SEC_ARB.PENDING : Fld := ⟨7, 1⟩
def F.SEC_ARB.ARB1 : Fld := ⟨8, 7⟩
def F.SEC_KEYS.SET : Fld := ⟨0, 8⟩
def F.SEC_KEYS.REVOKED : Fld := ⟨8, 8⟩
def F.SEC_KEYS.PARTIAL : Fld := ⟨16, 8⟩
def F.SEC_LOCK_ID.LOCK_ID : Fld := ⟨0, 32⟩
def F.SEC_IMG_DIGEST.DIGEST : Fld := ⟨0, 32⟩
def F.SEC_ID_PUB_X.X : Fld := ⟨0, 32⟩
def F.SEC_ID_PUB_Y.Y : Fld := ⟨0, 32⟩
def F.SEC_REQ_ADDR_LO.ADDR : Fld := ⟨0, 32⟩
def F.SEC_REQ_ADDR_HI.ADDR : Fld := ⟨0, 16⟩
def F.SEC_REQ_GO.GO : Fld := ⟨0, 1⟩
def F.SEC_REQ_STAT.BUSY : Fld := ⟨0, 1⟩
def F.SEC_REQ_STAT.DOWN : Fld := ⟨1, 1⟩
def F.SEC_REQ_STAT.GO_LOST : Fld := ⟨2, 1⟩
def F.SEC_EVENT.FALLBACK : Fld := ⟨0, 1⟩
def F.SEC_EVENT.TRIAL_FAILED : Fld := ⟨1, 1⟩
def F.SEC_EVENT.CONFIRMED : Fld := ⟨2, 1⟩
def F.SEC_EVENT.CONFIRM_REJ : Fld := ⟨3, 1⟩
def F.SEC_EVENT.ARB_ADVANCED : Fld := ⟨4, 1⟩
def F.SEC_EVENT.REVOKED : Fld := ⟨5, 1⟩
def F.SEC_EVENT.SHADOW : Fld := ⟨6, 1⟩
def F.SEC_EVENT.SEC_DOWN : Fld := ⟨7, 1⟩
def F.SEC_ROUTE.EVT_CORE : Fld := ⟨0, 2⟩
def F.SEC_ROUTE.EVT_EN : Fld := ⟨2, 1⟩
def F.SEC_ACT_CTL.GO : Fld := ⟨0, 1⟩
def F.SEC_ACT_CTL.METHOD : Fld := ⟨1, 2⟩
def F.SEC_ACT_CTL.PAIR : Fld := ⟨3, 1⟩
def F.SEC_ACT_CTL.QUIESCED : Fld := ⟨4, 1⟩
def F.SEC_ACT_CTL.KEY : Fld := ⟨16, 16⟩
def F.SEC_ACT_STAT.STATE : Fld := ⟨0, 3⟩
def F.SEC_ACT_STAT.QUIESCE_REQ : Fld := ⟨3, 1⟩
def F.SEC_ACT_STAT.REJECT : Fld := ⟨8, 8⟩
def F.SEC_ACT_STAT.PAUSE : Fld := ⟨16, 16⟩
def F.SEC_ACT_HOB_LO.ADDR : Fld := ⟨0, 32⟩
def F.SEC_ACT_HOB_HI.ADDR : Fld := ⟨0, 16⟩
def F.SEC_ACT_CFG.T_QUIESCE : Fld := ⟨0, 14⟩
def F.SEC_UPD_LOCK.LOCK : Fld := ⟨0, 1⟩
def F.SEC_UPD_BLOCK.BLOCK : Fld := ⟨0, 7⟩
def F.GOLD_MODEL_LO.MODEL_LO : Fld := ⟨0, 32⟩
def F.GOLD_MODEL_HI.MODEL_HI : Fld := ⟨0, 32⟩
def F.GOLD_VERSION.VERSION : Fld := ⟨0, 32⟩
def F.GOLD_INFO.VALID : Fld := ⟨0, 1⟩
def F.GOLD_INFO.OWNER : Fld := ⟨1, 1⟩
def F.GOLD_INFO.BLOCKS : Fld := ⟨15, 17⟩
def F.GOLD_BAY_CFG.SLOT : Fld := ⟨0, 3⟩
def F.GOLD_BAY_STAT.STATE : Fld := ⟨0, 2⟩
def F.GOLD_BAY_STAT.OUTCOME : Fld := ⟨4, 3⟩
def F.GOLD_BAY_STAT.MODEL_MISMATCH : Fld := ⟨7, 1⟩
def F.GOLD_BAY_STAT.ATTEMPTS : Fld := ⟨8, 2⟩
def F.GOLD_BAY_STAT.SECTORS : Fld := ⟨16, 16⟩
def F.GOLD_BAY_CNT.REFLASH : Fld := ⟨0, 16⟩
def F.GOLD_BAY_CNT.FAIL : Fld := ⟨16, 16⟩
def F.GOLD_CFG.T_GOLD_MAX : Fld := ⟨0, 12⟩
def F.GOLD_EVENT.DONE : Fld := ⟨0, 8⟩
def F.GOLD_EVENT.MISMATCH : Fld := ⟨8, 8⟩
def F.GOLD_EVENT.SLOT_REMOVED : Fld := ⟨16, 1⟩
def F.ETH_CFG.RATE : Fld := ⟨0, 2⟩
def F.ETH_CFG.VLAN_EN : Fld := ⟨4, 1⟩
def F.ETH_CFG.LLDP_INT : Fld := ⟨8, 8⟩
def F.ETH_STAT.RATE_NOW : Fld := ⟨0, 2⟩
def F.ETH_STAT.LINK : Fld := ⟨2, 1⟩
def F.ETH_STAT.LANES : Fld := ⟨3, 4⟩
def F.ETH_STAT.HOST : Fld := ⟨7, 1⟩
def F.ETH_STAT.RELAY_OUT : Fld := ⟨8, 1⟩
def F.ETH_STAT.RELAY_IN : Fld := ⟨9, 1⟩
def F.ETH_STAT.STRAP : Fld := ⟨10, 2⟩
def F.ETH_MAC_LO.MAC : Fld := ⟨0, 32⟩
def F.ETH_MAC_HI.MAC : Fld := ⟨0, 16⟩
def F.ETH_VLAN.VID : Fld := ⟨0, 12⟩
def F.ETH_VLAN.PCP : Fld := ⟨12, 3⟩
def F.ETH_IP4_ADDR.ADDR : Fld := ⟨0, 32⟩
def F.ETH_IP4_CFG.PREFIX : Fld := ⟨0, 6⟩
def F.ETH_IP4_CFG.DHCP : Fld := ⟨6, 1⟩
def F.ETH_IP4_CFG.BOUND : Fld := ⟨7, 1⟩
def F.ETH_IP6_ADDR.ADDR : Fld := ⟨0, 32⟩
def F.ETH_IP6_CFG.PREFIX : Fld := ⟨0, 8⟩
def F.ETH_IP6_CFG.DHCP : Fld := ⟨8, 1⟩
def F.ETH_IP6_CFG.BOUND : Fld := ⟨9, 1⟩
def F.MMP_CFG.T_SESSION : Fld := ⟨0, 10⟩
def F.MMP_CFG.MAXP : Fld := ⟨16, 4⟩
def F.MMP_PERM.PERM : Fld := ⟨0, 28⟩
def F.MMP_WALL_LO.TIME : Fld := ⟨0, 32⟩
def F.MMP_WALL_HI.TIME : Fld := ⟨0, 32⟩
def F.ETH_RX_BASE.ADDR : Fld := ⟨0, 32⟩
def F.ETH_RX_HEAD.OFFSET : Fld := ⟨0, 18⟩
def F.ETH_RX_TAIL.OFFSET : Fld := ⟨0, 18⟩
def F.ETH_TX_BASE.ADDR : Fld := ⟨0, 32⟩
def F.ETH_TX_HEAD.OFFSET : Fld := ⟨0, 18⟩
def F.ETH_TX_TAIL.OFFSET : Fld := ⟨0, 18⟩
def F.ETH_ROUTE.EVT_CORE : Fld := ⟨0, 2⟩
def F.ETH_ROUTE.EVT_EN : Fld := ⟨2, 1⟩
def F.ETH_EVT.DATA : Fld := ⟨0, 32⟩
def F.ETH_EVT_GO.GO : Fld := ⟨0, 1⟩
def F.ETH_EVT_STAT.COUNT : Fld := ⟨0, 13⟩
def F.ETH_EVT_STAT.LOST : Fld := ⟨16, 16⟩
def F.ETH_RX_FRAMES.COUNT : Fld := ⟨0, 32⟩
def F.ETH_TX_FRAMES.COUNT : Fld := ⟨0, 32⟩
def F.ETH_RX_DROP.COUNT : Fld := ⟨0, 32⟩
def F.ETH_FEC_CORR.COUNT : Fld := ⟨0, 32⟩
def F.ETH_FEC_UNCORR.COUNT : Fld := ⟨0, 32⟩
def F.MMP_AUTH_FAIL.COUNT : Fld := ⟨0, 32⟩
def F.MMP_RETX.COUNT : Fld := ⟨0, 32⟩
def F.MMP_SESSIONS.COUNT : Fld := ⟨0, 32⟩
def F.TWIN_STATUS.ROLE : Fld := ⟨0, 2⟩
def F.TWIN_STATUS.PAIR_MODE : Fld := ⟨2, 1⟩
def F.TWIN_STATUS.PAIR_ID : Fld := ⟨3, 1⟩
def F.TWIN_STATUS.JOINED : Fld := ⟨4, 1⟩
def F.TWIN_STATUS.LINK : Fld := ⟨5, 1⟩
def F.TWIN_STATUS.PIN : Fld := ⟨6, 1⟩
def F.TWIN_STATUS.SOLO : Fld := ⟨7, 1⟩
def F.TWIN_STATUS.PARTNER_ROLE : Fld := ⟨8, 2⟩
def F.TWIN_STATUS.PARTNER_JOINED : Fld := ⟨10, 1⟩
def F.TWIN_STATUS.SUSPENDED : Fld := ⟨11, 1⟩
def F.TWIN_STATUS.LANES : Fld := ⟨12, 2⟩
def F.TWIN_CFG.T_SOLO : Fld := ⟨0, 14⟩
def F.TWIN_CTL.SWAP : Fld := ⟨0, 1⟩
def F.TWIN_CTL.STAND_ASIDE : Fld := ⟨1, 1⟩
def F.TWIN_CTL.KEY : Fld := ⟨16, 16⟩
def F.TWIN_EVENT.ROLE_CHANGE : Fld := ⟨0, 1⟩
def F.TWIN_EVENT.PARTNER_LOST : Fld := ⟨1, 1⟩
def F.TWIN_EVENT.PARTNER_JOINED : Fld := ⟨2, 1⟩
def F.TWIN_EVENT.TWIN_DOWN : Fld := ⟨3, 1⟩
def F.TWIN_EVENT.TWIN_UP : Fld := ⟨4, 1⟩
def F.TWIN_EVENT.ACK_LOST : Fld := ⟨5, 1⟩
def F.TWIN_EVENT.DISAGREE : Fld := ⟨6, 1⟩
def F.TWIN_EVENT.VIN_DISAGREE : Fld := ⟨7, 1⟩
def F.TWIN_EVENT.SOLO_SEAL : Fld := ⟨8, 1⟩
def F.TWIN_EVENT.ID_CLASH : Fld := ⟨9, 1⟩
def F.TWIN_ROUTE.EVT_CORE : Fld := ⟨0, 2⟩
def F.TWIN_ROUTE.EVT_EN : Fld := ⟨2, 1⟩
def F.TWIN_TAKEOVER_CNT.COUNT : Fld := ⟨0, 32⟩
def F.TWIN_ACK_LOST_CNT.COUNT : Fld := ⟨0, 32⟩
def F.TWIN_DISAGREE_CNT.COUNT : Fld := ⟨0, 32⟩
def F.TWIN_SOLO_SEAL_CNT.COUNT : Fld := ⟨0, 32⟩
def F.TWIN_BAD_CNT.COUNT : Fld := ⟨0, 32⟩
def F.IO_GPIO_IN.LEVEL : Fld := ⟨0, 32⟩
def F.IO_GPIO_OUT.OUT : Fld := ⟨0, 32⟩
def F.IO_GPIO_OE.OE : Fld := ⟨0, 32⟩
def F.IO_LED.LOCATE : Fld := ⟨0, 2⟩
def F.IO_LED.FAULT : Fld := ⟨2, 2⟩
def F.IO_STRAP.PAIR_MODE : Fld := ⟨0, 1⟩
def F.IO_STRAP.PAIR_ID : Fld := ⟨1, 1⟩
def F.IO_STRAP.BOOT_MODE : Fld := ⟨2, 2⟩
def F.IO_STRAP.ETH_RATE : Fld := ⟨4, 2⟩
def F.SQ_LED.LEDA : Fld := ⟨0, 2⟩
def F.SQ_LED.LEDB : Fld := ⟨2, 2⟩

/-! ### The rows, block by block (R578) -/

def rowsUCR0 : List RegRow := [
  ⟨0x20000100, 0x10000, 1, 0x4, 1,
    [⟨F.UCR_RST_CTL.FW_RESTART, .wo, 0, .any⟩, ⟨F.UCR_RST_CTL.COMMONS_RESTART, .wo, 0, .any⟩, ⟨F.UCR_RST_CTL.FULL_RESET, .wo, 0, .any⟩, ⟨F.UCR_RST_CTL.KEY, .wo, 0, .any⟩]⟩,
  ⟨0x20000104, 0x10000, 1, 0x4, 1,
    [⟨F.UCR_RST_CAUSE.LAST_KIND, .ro, 3, .any⟩, ⟨F.UCR_RST_CAUSE.CAUSE, .ro, 0, .any⟩, ⟨F.UCR_RST_CAUSE.PARTIAL_CNT, .ro, 0, .any⟩]⟩,
  ⟨0x20000108, 0x10000, 1, 0x4, 1,
    [⟨F.UCR_GRACE.T_GRACE, .rw, 500, .range 50 3000⟩]⟩,
  ⟨0x2000010C, 0x10000, 1, 0x4, 1,
    [⟨F.UCR_FW_READY.READY, .w1s, 0, .any⟩]⟩]

/-- The registers of block 0 (UCR). -/
def rowsUCR : List RegRow := rowsUCR0

def rowsSEQ0 : List RegRow := [
  ⟨0x20100000, 0x10000, 9, 0x4, 1,
    [⟨F.ENG_CTL.START, .wo, 0, .any⟩, ⟨F.ENG_CTL.STOP, .wo, 0, .any⟩, ⟨F.ENG_CTL.KILL, .wo, 0, .any⟩, ⟨F.ENG_CTL.PEND, .ro, 0, .any⟩, ⟨F.ENG_CTL.ENTRY, .rw, 0, .any⟩]⟩,
  ⟨0x20100004, 0x10000, 9, 0x4, 1,
    [⟨F.ENG_STATUS.STATE, .ro, 0, .any⟩, ⟨F.ENG_STATUS.PROG_VALID, .ro, 0, .any⟩, ⟨F.ENG_STATUS.TOFF_RUNNING, .ro, 0, .any⟩, ⟨F.ENG_STATUS.START_REJ, .w1c, 0, .any⟩, ⟨F.ENG_STATUS.START_CNT, .ro, 0, .any⟩]⟩,
  ⟨0x20100008, 0x10000, 9, 0x4, 1,
    [⟨F.ENG_FAULT.CAUSE, .ro, 0, .any⟩, ⟨F.ENG_FAULT.PC, .ro, 0, .any⟩, ⟨F.ENG_FAULT.FAULT_CNT, .ro, 0, .any⟩]⟩,
  ⟨0x2010000C, 0x10000, 9, 0x4, 1,
    [⟨F.ENG_TOFF.T_OFF_MIN, .rw, 200, .range 50 6000⟩]⟩,
  ⟨0x20100010, 0x10000, 9, 0x4, 1,
    [⟨F.ENG_MBOX_IN.DATA, .wo, 0, .any⟩]⟩,
  ⟨0x20100014, 0x10000, 9, 0x4, 1,
    [⟨F.ENG_MBOX_OUT.DATA, .ro, 0, .any⟩]⟩,
  ⟨0x20100018, 0x10000, 9, 0x4, 1,
    [⟨F.ENG_MBOX_STATUS.OUT_CNT, .ro, 0, .any⟩, ⟨F.ENG_MBOX_STATUS.IN_SPACE, .ro, 16, .any⟩, ⟨F.ENG_MBOX_STATUS.LAST_TAG, .ro, 0, .any⟩, ⟨F.ENG_MBOX_STATUS.IN_LOST, .w1c, 0, .any⟩]⟩,
  ⟨0x2010001C, 0x10000, 9, 0x4, 1,
    [⟨F.ENG_ROUTE.MBX_CORE, .rw, 0, .any⟩, ⟨F.ENG_ROUTE.MBX_EN, .rw, 0, .any⟩, ⟨F.ENG_ROUTE.EVT_CORE, .rw, 0, .any⟩, ⟨F.ENG_ROUTE.EVT_EN, .rw, 0, .any⟩]⟩,
  ⟨0x20100020, 0x10000, 9, 0x4, 1,
    [⟨F.ENG_PROG_VERSION.VERSION, .rw, 0, .any⟩]⟩,
  ⟨0x20100024, 0x10000, 9, 0x4, 1,
    [⟨F.ENG_PROG_CRC.CRC, .rw, 0, .any⟩]⟩,
  ⟨0x20100028, 0x10000, 9, 0x4, 1,
    [⟨F.ENG_PROG_INFO.CODE_LEN, .rw, 0, .any⟩, ⟨F.ENG_PROG_INFO.VAR_COUNT, .rw, 0, .any⟩, ⟨F.ENG_PROG_INFO.ENTRY_MASK, .rw, 0, .any⟩]⟩,
  ⟨0x2010002C, 0x10000, 9, 0x4, 1,
    [⟨F.ENG_WDOG.PERIOD, .rw, 100, .any⟩]⟩]
def rowsSEQ1 : List RegRow := [
  ⟨0x20100040, 0x10000, 9, 0x4, 8,
    [⟨F.ENG_ENTRY.INDEX, .rw, 0, .any⟩]⟩,
  ⟨0x20100038, 0x10000, 9, 0x4, 1,
    [⟨F.ENG_LOAD_HDR.ENGINE_TYPE, .rw, 0, .any⟩, ⟨F.ENG_LOAD_HDR.PROFILE, .rw, 0, .any⟩, ⟨F.ENG_LOAD_HDR.INSTANCE_MASK, .rw, 0, .any⟩]⟩,
  ⟨0x20100030, 0x10000, 9, 0x4, 1,
    [⟨F.ENG_LOAD_CTL.OPEN, .wo, 0, .any⟩, ⟨F.ENG_LOAD_CTL.COMMIT, .wo, 0, .any⟩]⟩,
  ⟨0x20100034, 0x10000, 9, 0x4, 1,
    [⟨F.ENG_LOAD_STATUS.REJECT, .ro, 0, .any⟩, ⟨F.ENG_LOAD_STATUS.OPEN, .ro, 0, .any⟩]⟩,
  ⟨0x20105000, 0x10000, 9, 0x4, 1,
    [⟨F.SQ_STATUS.PWR, .ro, 0, .any⟩, ⟨F.SQ_STATUS.WARN, .ro, 0, .any⟩, ⟨F.SQ_STATUS.ON_REFUSED, .w1c, 0, .any⟩, ⟨F.SQ_STATUS.EXT_OFF, .w1c, 0, .any⟩, ⟨F.SQ_STATUS.WENT_DOWN, .w1c, 0, .any⟩, ⟨F.SQ_STATUS.LAST_DOWN, .ro, 0, .any⟩, ⟨F.SQ_STATUS.DOWN_CNT, .ro, 0, .any⟩]⟩,
  ⟨0x20105004, 0x10000, 9, 0x4, 1,
    [⟨F.SQ_CFG.T_WARN, .rw, 200, .range 2 1000⟩, ⟨F.SQ_CFG.T_DOWN_MAX, .rw, 1000, .range 10 10000⟩]⟩,
  ⟨0x20105008, 0x10000, 9, 0x4, 1,
    [⟨F.SQ_RAIL_ST.EN, .ro, 0, .any⟩, ⟨F.SQ_RAIL_ST.PG, .ro, 0, .any⟩]⟩,
  ⟨0x2010500C, 0x10000, 9, 0x4, 1,
    [⟨F.SQ_RAIL_ST2.SEEN, .ro, 0, .any⟩, ⟨F.SQ_RAIL_ST2.LATE, .w1c, 0, .any⟩]⟩,
  ⟨0x20105010, 0x10000, 9, 0x4, 1,
    [⟨F.SQ_FAULTED.FAULTED, .w1c, 0, .any⟩]⟩,
  ⟨0x20105014, 0x10000, 9, 0x4, 1,
    [⟨F.SQ_BAYSIG.LINES, .ro, 0, .any⟩, ⟨F.SQ_BAYSIG.OUT, .ro, 11, .any⟩]⟩,
  ⟨0x20105018, 0x10000, 9, 0x4, 1,
    [⟨F.SQ_CNT_CLR.CLR, .wo, 0, .any⟩]⟩,
  ⟨0x20105040, 0x10000, 9, 0x4, 16,
    [⟨F.SQ_RAIL_CFG.T_PG, .rw, 4, .range 1 64⟩]⟩]
def rowsSEQ2 : List RegRow := [
  ⟨0x20105100, 0x10000, 9, 0x8, 16,
    [⟨F.SQ_CNT_A.ENABLES, .ro, 0, .any⟩, ⟨F.SQ_CNT_A.UP_TIMEOUTS, .ro, 0, .any⟩]⟩,
  ⟨0x20105104, 0x10000, 9, 0x8, 16,
    [⟨F.SQ_CNT_B.FAULTS, .ro, 0, .any⟩, ⟨F.SQ_CNT_B.GLITCHES, .ro, 0, .any⟩]⟩,
  ⟨0x20185400, 0x10000, 1, 0x4, 1,
    [⟨F.TR_CFG.POLICY, .rw, 1, .range 0 2⟩, ⟨F.TR_CFG.T_LONG, .rw, 40, .range 20 150⟩, ⟨F.TR_CFG.BAY_AUTO, .rw, 255, .any⟩]⟩,
  ⟨0x20185404, 0x10000, 1, 0x4, 1,
    [⟨F.TR_STAT.VIN_LOW, .ro, 0, .any⟩, ⟨F.TR_STAT.VIN_OK, .ro, 0, .any⟩, ⟨F.TR_STAT.HOLD_OK, .ro, 0, .any⟩, ⟨F.TR_STAT.SEATED, .ro, 0, .any⟩, ⟨F.TR_STAT.BTN, .ro, 0, .any⟩, ⟨F.TR_STAT.KILL_LINE, .ro, 0, .any⟩, ⟨F.TR_STAT.FORCING, .ro, 0, .any⟩, ⟨F.TR_STAT.BAYS_LAST, .ro, 0, .any⟩]⟩,
  ⟨0x20185408, 0x10000, 1, 0x4, 1,
    [⟨F.TR_VIN.VIN, .ro, 0, .any⟩, ⟨F.TR_VIN.VHOLD, .ro, 0, .any⟩]⟩,
  ⟨0x2018540C, 0x10000, 1, 0x4, 1,
    [⟨F.TR_EVENT.VIN_LOW, .w1c, 0, .any⟩, ⟨F.TR_EVENT.VIN_RETURN, .w1c, 0, .any⟩, ⟨F.TR_EVENT.BTN_ON, .w1c, 0, .any⟩, ⟨F.TR_EVENT.BTN_OFF, .w1c, 0, .any⟩, ⟨F.TR_EVENT.BTN_LONG, .w1c, 0, .any⟩, ⟨F.TR_EVENT.KILL_IN, .w1c, 0, .any⟩, ⟨F.TR_EVENT.HU_WRITTEN, .w1c, 0, .any⟩, ⟨F.TR_EVENT.HU_FAILED, .w1c, 0, .any⟩, ⟨F.TR_EVENT.START_DISCARDED, .w1c, 0, .any⟩, ⟨F.TR_EVENT.CAP_ENGAGED, .w1c, 0, .any⟩, ⟨F.TR_EVENT.CAP_SATURATED, .w1c, 0, .any⟩]⟩,
  ⟨0x20185410, 0x10000, 1, 0x4, 1,
    [⟨F.TR_ROUTE.EVT_CORE, .rw, 0, .any⟩, ⟨F.TR_ROUTE.EVT_EN, .rw, 0, .any⟩]⟩,
  ⟨0x20185414, 0x10000, 1, 0x4, 1,
    [⟨F.TR_HU_SEQ_LO.SEQ, .ro, 0, .any⟩]⟩,
  ⟨0x20185418, 0x10000, 1, 0x4, 1,
    [⟨F.TR_HU_SEQ_HI.SEQ, .ro, 0, .any⟩]⟩,
  ⟨0x20185440, 0x10000, 1, 0x4, 1,
    [⟨F.PC_CAP.PCAP, .rw, 10000, .range 500 65000⟩, ⟨F.PC_CAP.PCAP_HALF, .rw, 5000, .range 500 65000⟩]⟩,
  ⟨0x20185444, 0x10000, 1, 0x4, 1,
    [⟨F.PC_CFG.BLIND_PCT, .rw, 70, .range 30 100⟩, ⟨F.PC_CFG.TGT_PCT, .rw, 80, .range 10 99⟩, ⟨F.PC_CFG.HYST_PCT, .rw, 5, .range 1 20⟩]⟩,
  ⟨0x20185448, 0x10000, 1, 0x4, 1,
    [⟨F.PC_STAT.P_NOW, .ro, 0, .any⟩, ⟨F.PC_STAT.CAP_MASK, .ro, 0, .any⟩, ⟨F.PC_STAT.NEXT, .ro, 0, .any⟩, ⟨F.PC_STAT.SRC, .ro, 0, .any⟩]⟩]
def rowsSEQ3 : List RegRow := [
  ⟨0x2018544C, 0x10000, 1, 0x4, 1,
    [⟨F.PC_EFF.CAP_EFF, .ro, 10000, .any⟩]⟩,
  ⟨0x20185450, 0x10000, 1, 0x4, 1,
    [⟨F.PC_ENGAGE_CNT.COUNT, .ro, 0, .any⟩]⟩,
  ⟨0x20185454, 0x10000, 1, 0x4, 1,
    [⟨F.PC_HOST_THR.BAYS, .rw, 0, .any⟩, ⟨F.PC_HOST_THR.TGT_PCT, .rw, 80, .range 10 99⟩]⟩,
  ⟨0x20185460, 0x10000, 1, 0x4, 8,
    [⟨F.PC_ISCALE.FULL_SCALE, .rw, 6000, .range 100 20000⟩]⟩,
  ⟨0x2010501C, 0x10000, 8, 0x4, 1,
    [⟨F.SQ_LED.LEDA, .rw, 0, .any⟩, ⟨F.SQ_LED.LEDB, .rw, 0, .any⟩]⟩]

/-- The registers of block 1 (SEQ). -/
def rowsSEQ : List RegRow := rowsSEQ0 ++ rowsSEQ1 ++ rowsSEQ2 ++ rowsSEQ3

def rowsCOOL0 : List RegRow := [
  ⟨0x20200000, 0x10000, 2, 0x4, 1,
    [⟨F.ENG_CTL.START, .wo, 0, .any⟩, ⟨F.ENG_CTL.STOP, .wo, 0, .any⟩, ⟨F.ENG_CTL.KILL, .wo, 0, .any⟩, ⟨F.ENG_CTL.PEND, .ro, 0, .any⟩, ⟨F.ENG_CTL.ENTRY, .rw, 0, .any⟩]⟩,
  ⟨0x20200004, 0x10000, 2, 0x4, 1,
    [⟨F.ENG_STATUS.STATE, .ro, 0, .any⟩, ⟨F.ENG_STATUS.PROG_VALID, .ro, 0, .any⟩, ⟨F.ENG_STATUS.TOFF_RUNNING, .ro, 0, .any⟩, ⟨F.ENG_STATUS.START_REJ, .w1c, 0, .any⟩, ⟨F.ENG_STATUS.START_CNT, .ro, 0, .any⟩]⟩,
  ⟨0x20200008, 0x10000, 2, 0x4, 1,
    [⟨F.ENG_FAULT.CAUSE, .ro, 0, .any⟩, ⟨F.ENG_FAULT.PC, .ro, 0, .any⟩, ⟨F.ENG_FAULT.FAULT_CNT, .ro, 0, .any⟩]⟩,
  ⟨0x2020000C, 0x10000, 2, 0x4, 1,
    [⟨F.ENG_TOFF.T_OFF_MIN, .rw, 200, .range 50 6000⟩]⟩,
  ⟨0x20200010, 0x10000, 2, 0x4, 1,
    [⟨F.ENG_MBOX_IN.DATA, .wo, 0, .any⟩]⟩,
  ⟨0x20200014, 0x10000, 2, 0x4, 1,
    [⟨F.ENG_MBOX_OUT.DATA, .ro, 0, .any⟩]⟩,
  ⟨0x20200018, 0x10000, 2, 0x4, 1,
    [⟨F.ENG_MBOX_STATUS.OUT_CNT, .ro, 0, .any⟩, ⟨F.ENG_MBOX_STATUS.IN_SPACE, .ro, 16, .any⟩, ⟨F.ENG_MBOX_STATUS.LAST_TAG, .ro, 0, .any⟩, ⟨F.ENG_MBOX_STATUS.IN_LOST, .w1c, 0, .any⟩]⟩,
  ⟨0x2020001C, 0x10000, 2, 0x4, 1,
    [⟨F.ENG_ROUTE.MBX_CORE, .rw, 0, .any⟩, ⟨F.ENG_ROUTE.MBX_EN, .rw, 0, .any⟩, ⟨F.ENG_ROUTE.EVT_CORE, .rw, 0, .any⟩, ⟨F.ENG_ROUTE.EVT_EN, .rw, 0, .any⟩]⟩,
  ⟨0x20200020, 0x10000, 2, 0x4, 1,
    [⟨F.ENG_PROG_VERSION.VERSION, .rw, 0, .any⟩]⟩,
  ⟨0x20200024, 0x10000, 2, 0x4, 1,
    [⟨F.ENG_PROG_CRC.CRC, .rw, 0, .any⟩]⟩,
  ⟨0x20200028, 0x10000, 2, 0x4, 1,
    [⟨F.ENG_PROG_INFO.CODE_LEN, .rw, 0, .any⟩, ⟨F.ENG_PROG_INFO.VAR_COUNT, .rw, 0, .any⟩, ⟨F.ENG_PROG_INFO.ENTRY_MASK, .rw, 0, .any⟩]⟩,
  ⟨0x2020002C, 0x10000, 2, 0x4, 1,
    [⟨F.ENG_WDOG.PERIOD, .rw, 100, .any⟩]⟩]
def rowsCOOL1 : List RegRow := [
  ⟨0x20200040, 0x10000, 2, 0x4, 8,
    [⟨F.ENG_ENTRY.INDEX, .rw, 0, .any⟩]⟩,
  ⟨0x20200038, 0x10000, 2, 0x4, 1,
    [⟨F.ENG_LOAD_HDR.ENGINE_TYPE, .rw, 0, .any⟩, ⟨F.ENG_LOAD_HDR.PROFILE, .rw, 0, .any⟩, ⟨F.ENG_LOAD_HDR.INSTANCE_MASK, .rw, 0, .any⟩]⟩,
  ⟨0x20200030, 0x10000, 2, 0x4, 1,
    [⟨F.ENG_LOAD_CTL.OPEN, .wo, 0, .any⟩, ⟨F.ENG_LOAD_CTL.COMMIT, .wo, 0, .any⟩]⟩,
  ⟨0x20200034, 0x10000, 2, 0x4, 1,
    [⟨F.ENG_LOAD_STATUS.REJECT, .ro, 0, .any⟩, ⟨F.ENG_LOAD_STATUS.OPEN, .ro, 0, .any⟩]⟩,
  ⟨0x20280000, 0x10000, 1, 0x4, 1,
    [⟨F.CL_MODE.MODE, .rw, 0, .range 0 2⟩, ⟨F.CL_MODE.MODE_NOW, .ro, 2, .any⟩, ⟨F.CL_MODE.FANS_PROVEN, .ro, 0, .any⟩, ⟨F.CL_MODE.BLIND, .ro, 0, .any⟩, ⟨F.CL_MODE.FAIL_OVR, .ro, 0, .any⟩, ⟨F.CL_MODE.LEAK_OVR, .ro, 0, .any⟩, ⟨F.CL_MODE.FAULT_OVR, .ro, 0, .any⟩, ⟨F.CL_MODE.SAFE_HOT, .ro, 0, .any⟩]⟩,
  ⟨0x20280004, 0x10000, 1, 0x4, 1,
    [⟨F.CL_EVENT.CH_FAILED, .w1c, 0, .any⟩, ⟨F.CL_EVENT.CH_ABSENT, .w1c, 0, .any⟩, ⟨F.CL_EVENT.LEAK_WET, .w1c, 0, .any⟩, ⟨F.CL_EVENT.LEAK_FAULT, .w1c, 0, .any⟩, ⟨F.CL_EVENT.LOOP_ANOMALY, .w1c, 0, .any⟩, ⟨F.CL_EVENT.SENSOR_FAULT, .w1c, 0, .any⟩, ⟨F.CL_EVENT.THERMAL, .w1c, 0, .any⟩, ⟨F.CL_EVENT.ENGINE_LOST, .w1c, 0, .any⟩, ⟨F.CL_EVENT.LEAK_SHUTDOWN, .w1c, 0, .any⟩, ⟨F.CL_EVENT.DERATE, .w1c, 0, .any⟩]⟩,
  ⟨0x20280008, 0x10000, 1, 0x4, 1,
    [⟨F.CL_ROUTE.EVT_CORE, .rw, 0, .any⟩, ⟨F.CL_ROUTE.EVT_EN, .rw, 0, .any⟩]⟩,
  ⟨0x2028000C, 0x10000, 1, 0x4, 1,
    [⟨F.CL_PROVE.MOT, .rw, 4095, .any⟩, ⟨F.CL_PROVE.AUX, .rw, 0, .any⟩]⟩,
  ⟨0x20280010, 0x10000, 1, 0x4, 1,
    [⟨F.CL_FAILED.MOT, .ro, 0, .any⟩, ⟨F.CL_FAILED.AUX, .ro, 0, .any⟩]⟩,
  ⟨0x20280014, 0x10000, 1, 0x4, 1,
    [⟨F.CL_FAIL_ACK.MOT, .wo, 0, .any⟩, ⟨F.CL_FAIL_ACK.AUX, .wo, 0, .any⟩]⟩,
  ⟨0x20280100, 0x10000, 1, 0x20, 16,
    [⟨F.CL_ZCFG.T_HOT, .rw, 950, .range 400 1500⟩, ⟨F.CL_ZCFG.HOT_TGT, .rw, 70, .range 10 99⟩, ⟨F.CL_ZCFG.BAYS, .rw, 0, .any⟩]⟩,
  ⟨0x20280104, 0x10000, 1, 0x20, 16,
    [⟨F.CL_ZSEL.SLOTS, .rw, 0, .any⟩]⟩]
def rowsCOOL2 : List RegRow := [
  ⟨0x20280108, 0x10000, 1, 0x20, 16,
    [⟨F.CL_ZSEL.SLOTS, .rw, 0, .any⟩]⟩,
  ⟨0x2028010C, 0x10000, 1, 0x20, 16,
    [⟨F.CL_ZSEL.SLOTS, .rw, 0, .any⟩]⟩,
  ⟨0x20280110, 0x10000, 1, 0x20, 16,
    [⟨⟨0, 16⟩, .rw, 0, .any⟩]⟩,
  ⟨0x20280114, 0x10000, 1, 0x20, 16,
    [⟨F.CL_ZSTAT.TEMP, .ro, 1500, .any⟩, ⟨F.CL_ZSTAT.FAULT, .ro, 0, .any⟩, ⟨F.CL_ZSTAT.EMPTY, .ro, 1, .any⟩, ⟨F.CL_ZSTAT.HOT, .ro, 0, .any⟩, ⟨F.CL_ZSTAT.DEMAND, .ro, 100, .any⟩]⟩,
  ⟨0x20280300, 0x10000, 1, 0x4, 10,
    [⟨F.CL_MAP.ZONES, .rw, 0, .any⟩, ⟨F.CL_MAP.FLOOR, .rw, 20, .range 0 100⟩, ⟨F.CL_MAP.MANUAL, .rw, 100, .range 0 100⟩]⟩,
  ⟨0x20280328, 0x10000, 1, 0x4, 2,
    [⟨F.CL_MAP.ZONES, .rw, 0, .any⟩, ⟨F.CL_MAP.FLOOR, .rw, 40, .range 0 100⟩, ⟨F.CL_MAP.MANUAL, .rw, 100, .range 0 100⟩]⟩,
  ⟨0x20280340, 0x10000, 1, 0x4, 8,
    [⟨F.CL_MAP.ZONES, .rw, 0, .any⟩, ⟨F.CL_MAP.FLOOR, .rw, 20, .range 0 100⟩, ⟨F.CL_MAP.MANUAL, .rw, 100, .range 0 100⟩]⟩,
  ⟨0x20280400, 0x10000, 1, 0x4, 128,
    [⟨F.CL_SENS.VALUE, .ro, 0, .any⟩, ⟨F.CL_SENS.OPEN, .ro, 0, .any⟩, ⟨F.CL_SENS.SHORT, .ro, 0, .any⟩, ⟨F.CL_SENS.RANGE, .ro, 0, .any⟩, ⟨F.CL_SENS.STALE, .ro, 1, .any⟩, ⟨F.CL_SENS.TEMP, .ro, 0, .any⟩]⟩,
  ⟨0x20280600, 0x10000, 1, 0x8, 8,
    [⟨F.CL_AIN_A.KIND, .rw, 1, .range 0 2⟩, ⟨F.CL_AIN_A.P1, .rw, 1000, .any⟩]⟩,
  ⟨0x20280640, 0x10000, 1, 0x8, 40,
    [⟨F.CL_AIN_A.KIND, .rw, 0, .range 0 2⟩, ⟨F.CL_AIN_A.P1, .rw, 1000, .any⟩]⟩,
  ⟨0x20280604, 0x10000, 1, 0x8, 48,
    [⟨F.CL_AIN_B.P2, .rw, 3435, .any⟩, ⟨F.CL_AIN_B.P3, .rw, 0, .any⟩]⟩,
  ⟨0x20280780, 0x10000, 1, 0x8, 4,
    [⟨F.CL_FLOW_CFG.K, .rw, 0, .any⟩]⟩]
def rowsCOOL3 : List RegRow := [
  ⟨0x20280784, 0x10000, 1, 0x8, 4,
    [⟨F.CL_FLOW.RATE, .ro, 0, .any⟩]⟩,
  ⟨0x20280800, 0x10000, 1, 0x10, 8,
    [⟨F.CL_LK_A.EN, .rw, 1, .any⟩, ⟨F.CL_LK_A.BAYS, .rw, 255, .any⟩, ⟨F.CL_LK_A.PUMPS, .rw, 3072, .any⟩]⟩,
  ⟨0x20280804, 0x10000, 1, 0x10, 8,
    [⟨F.CL_LK_B.P_SLOT, .rw, 127, .pSlot⟩, ⟨F.CL_LK_B.FLOW, .rw, 0, .any⟩, ⟨F.CL_LK_B.FLOW_EN, .rw, 0, .any⟩, ⟨F.CL_LK_B.P_LOW, .rw, 0, .any⟩]⟩,
  ⟨0x20280808, 0x10000, 1, 0x10, 8,
    [⟨F.CL_LK_C.F_LOW, .rw, 0, .any⟩, ⟨F.CL_LK_C.T_SHUT, .rw, 10, .range 1 60⟩, ⟨F.CL_LK_C.LEAK_TGT, .rw, 50, .range 10 99⟩]⟩,
  ⟨0x2028080C, 0x10000, 1, 0x10, 8,
    [⟨F.CL_LK_STAT.STATE, .ro, 5, .any⟩, ⟨F.CL_LK_STAT.LATCHED, .ro, 0, .any⟩, ⟨F.CL_LK_STAT.INFERRED, .ro, 0, .any⟩, ⟨F.CL_LK_STAT.ANOMALY, .ro, 0, .any⟩, ⟨F.CL_LK_STAT.ACK_REJ, .w1c, 0, .any⟩, ⟨F.CL_LK_STAT.OHMS, .ro, 0, .any⟩]⟩,
  ⟨0x20280880, 0x10000, 1, 0x4, 1,
    [⟨F.CL_LK_ACK.ACK, .wo, 0, .any⟩]⟩]

/-- The registers of block 2 (COOL). -/
def rowsCOOL : List RegRow := rowsCOOL0 ++ rowsCOOL1 ++ rowsCOOL2 ++ rowsCOOL3

def rowsMOT0 : List RegRow := [
  ⟨0x20300000, 0x10000, 10, 0x4, 1,
    [⟨F.MOT_CFG.EN, .rw, 1, .any⟩, ⟨F.MOT_CFG.PROFILE, .rw, 0, .any⟩, ⟨F.MOT_CFG.HALL, .rw, 0, .any⟩, ⟨F.MOT_CFG.REVERSE, .rw, 0, .any⟩, ⟨F.MOT_CFG.POLES, .rw, 4, .any⟩, ⟨F.MOT_CFG.P_MAX, .rw, 80, .any⟩]⟩,
  ⟨0x203A0000, 0x10000, 2, 0x4, 1,
    [⟨F.MOT_CFG.EN, .rw, 1, .any⟩, ⟨F.MOT_CFG.PROFILE, .rw, 1, .any⟩, ⟨F.MOT_CFG.HALL, .rw, 0, .any⟩, ⟨F.MOT_CFG.REVERSE, .rw, 0, .any⟩, ⟨F.MOT_CFG.POLES, .rw, 2, .any⟩, ⟨F.MOT_CFG.P_MAX, .rw, 100, .any⟩]⟩,
  ⟨0x20300004, 0x10000, 10, 0x4, 1,
    [⟨F.MOT_SPEED.MIN_RPM, .rw, 1500, .range 500 25000⟩, ⟨F.MOT_SPEED.MAX_RPM, .rw, 20000, .range 500 25000⟩]⟩,
  ⟨0x203A0004, 0x10000, 2, 0x4, 1,
    [⟨F.MOT_SPEED.MIN_RPM, .rw, 500, .range 500 25000⟩, ⟨F.MOT_SPEED.MAX_RPM, .rw, 6000, .range 500 25000⟩]⟩,
  ⟨0x20300008, 0x10000, 10, 0x4, 1,
    [⟨F.MOT_RAMP.RAMP, .rw, 5000, .range 100 50000⟩, ⟨F.MOT_RAMP.STALL_PCT, .rw, 30, .range 10 80⟩]⟩,
  ⟨0x203A0008, 0x10000, 2, 0x4, 1,
    [⟨F.MOT_RAMP.RAMP, .rw, 1000, .range 100 50000⟩, ⟨F.MOT_RAMP.STALL_PCT, .rw, 30, .range 10 80⟩]⟩,
  ⟨0x20300010, 0x10000, 10, 0x4, 1,
    [⟨F.MOT_STAT.STATE, .ro, 0, .any⟩, ⟨F.MOT_STAT.LIMITED, .ro, 0, .any⟩, ⟨F.MOT_STAT.HALL_FAULT, .w1c, 0, .any⟩, ⟨F.MOT_STAT.DERATE, .ro, 0, .any⟩, ⟨F.MOT_STAT.CAUSE, .ro, 0, .any⟩, ⟨F.MOT_STAT.TRIES, .ro, 0, .any⟩, ⟨F.MOT_STAT.RPM, .ro, 0, .any⟩]⟩,
  ⟨0x203A0010, 0x10000, 2, 0x4, 1,
    [⟨F.MOT_STAT.STATE, .ro, 0, .any⟩, ⟨F.MOT_STAT.LIMITED, .ro, 0, .any⟩, ⟨F.MOT_STAT.HALL_FAULT, .w1c, 0, .any⟩, ⟨F.MOT_STAT.DERATE, .ro, 0, .any⟩, ⟨F.MOT_STAT.CAUSE, .ro, 0, .any⟩, ⟨F.MOT_STAT.TRIES, .ro, 0, .any⟩, ⟨F.MOT_STAT.RPM, .ro, 0, .any⟩]⟩,
  ⟨0x20300014, 0x10000, 10, 0x4, 1,
    [⟨F.MOT_CMD.PCT, .ro, 0, .any⟩, ⟨F.MOT_CMD.RPM_CMD, .ro, 0, .any⟩]⟩,
  ⟨0x203A0014, 0x10000, 2, 0x4, 1,
    [⟨F.MOT_CMD.PCT, .ro, 0, .any⟩, ⟨F.MOT_CMD.RPM_CMD, .ro, 0, .any⟩]⟩,
  ⟨0x20300018, 0x10000, 10, 0x4, 1,
    [⟨F.MOT_PWR.P_OUT, .ro, 0, .any⟩, ⟨F.MOT_PWR.I_PEAK, .ro, 0, .any⟩]⟩,
  ⟨0x203A0018, 0x10000, 2, 0x4, 1,
    [⟨F.MOT_PWR.P_OUT, .ro, 0, .any⟩, ⟨F.MOT_PWR.I_PEAK, .ro, 0, .any⟩]⟩]
def rowsMOT1 : List RegRow := [
  ⟨0x2030001C, 0x10000, 10, 0x4, 1,
    [⟨F.MOT_CNT.STARTS, .ro, 0, .any⟩, ⟨F.MOT_CNT.FAILS, .ro, 0, .any⟩]⟩,
  ⟨0x203A001C, 0x10000, 2, 0x4, 1,
    [⟨F.MOT_CNT.STARTS, .ro, 0, .any⟩, ⟨F.MOT_CNT.FAILS, .ro, 0, .any⟩]⟩,
  ⟨0x203C0000, 0x10000, 1, 0x8, 8,
    [⟨F.AX_CFG.EN, .rw, 0, .any⟩, ⟨F.AX_CFG.PPR_M1, .rw, 1, .any⟩]⟩,
  ⟨0x203C0004, 0x10000, 1, 0x8, 8,
    [⟨F.AX_STAT.STATE, .ro, 0, .any⟩, ⟨F.AX_STAT.DUTY, .ro, 0, .any⟩, ⟨F.AX_STAT.RPM, .ro, 0, .any⟩]⟩]

/-- The registers of block 3 (MOT). -/
def rowsMOT : List RegRow := rowsMOT0 ++ rowsMOT1

def rowsBUS0 : List RegRow := [
  ⟨0x20400000, 0x10000, 12, 0x4, 1,
    [⟨F.ENG_CTL.START, .wo, 0, .any⟩, ⟨F.ENG_CTL.STOP, .wo, 0, .any⟩, ⟨F.ENG_CTL.KILL, .wo, 0, .any⟩, ⟨F.ENG_CTL.PEND, .ro, 0, .any⟩, ⟨F.ENG_CTL.ENTRY, .rw, 0, .any⟩]⟩,
  ⟨0x20400004, 0x10000, 12, 0x4, 1,
    [⟨F.ENG_STATUS.STATE, .ro, 0, .any⟩, ⟨F.ENG_STATUS.PROG_VALID, .ro, 0, .any⟩, ⟨F.ENG_STATUS.TOFF_RUNNING, .ro, 0, .any⟩, ⟨F.ENG_STATUS.START_REJ, .w1c, 0, .any⟩, ⟨F.ENG_STATUS.START_CNT, .ro, 0, .any⟩]⟩,
  ⟨0x20400008, 0x10000, 12, 0x4, 1,
    [⟨F.ENG_FAULT.CAUSE, .ro, 0, .any⟩, ⟨F.ENG_FAULT.PC, .ro, 0, .any⟩, ⟨F.ENG_FAULT.FAULT_CNT, .ro, 0, .any⟩]⟩,
  ⟨0x2040000C, 0x10000, 12, 0x4, 1,
    [⟨F.ENG_TOFF.T_OFF_MIN, .rw, 200, .range 50 6000⟩]⟩,
  ⟨0x20400010, 0x10000, 12, 0x4, 1,
    [⟨F.ENG_MBOX_IN.DATA, .wo, 0, .any⟩]⟩,
  ⟨0x20400014, 0x10000, 12, 0x4, 1,
    [⟨F.ENG_MBOX_OUT.DATA, .ro, 0, .any⟩]⟩,
  ⟨0x20400018, 0x10000, 12, 0x4, 1,
    [⟨F.ENG_MBOX_STATUS.OUT_CNT, .ro, 0, .any⟩, ⟨F.ENG_MBOX_STATUS.IN_SPACE, .ro, 16, .any⟩, ⟨F.ENG_MBOX_STATUS.LAST_TAG, .ro, 0, .any⟩, ⟨F.ENG_MBOX_STATUS.IN_LOST, .w1c, 0, .any⟩]⟩,
  ⟨0x2040001C, 0x10000, 12, 0x4, 1,
    [⟨F.ENG_ROUTE.MBX_CORE, .rw, 0, .any⟩, ⟨F.ENG_ROUTE.MBX_EN, .rw, 0, .any⟩, ⟨F.ENG_ROUTE.EVT_CORE, .rw, 0, .any⟩, ⟨F.ENG_ROUTE.EVT_EN, .rw, 0, .any⟩]⟩,
  ⟨0x20400020, 0x10000, 12, 0x4, 1,
    [⟨F.ENG_PROG_VERSION.VERSION, .rw, 0, .any⟩]⟩,
  ⟨0x20400024, 0x10000, 12, 0x4, 1,
    [⟨F.ENG_PROG_CRC.CRC, .rw, 0, .any⟩]⟩,
  ⟨0x20400028, 0x10000, 12, 0x4, 1,
    [⟨F.ENG_PROG_INFO.CODE_LEN, .rw, 0, .any⟩, ⟨F.ENG_PROG_INFO.VAR_COUNT, .rw, 0, .any⟩, ⟨F.ENG_PROG_INFO.ENTRY_MASK, .rw, 0, .any⟩]⟩,
  ⟨0x2040002C, 0x10000, 12, 0x4, 1,
    [⟨F.ENG_WDOG.PERIOD, .rw, 100, .any⟩]⟩]
def rowsBUS1 : List RegRow := [
  ⟨0x20400040, 0x10000, 12, 0x4, 8,
    [⟨F.ENG_ENTRY.INDEX, .rw, 0, .any⟩]⟩,
  ⟨0x20400038, 0x10000, 12, 0x4, 1,
    [⟨F.ENG_LOAD_HDR.ENGINE_TYPE, .rw, 0, .any⟩, ⟨F.ENG_LOAD_HDR.PROFILE, .rw, 0, .any⟩, ⟨F.ENG_LOAD_HDR.INSTANCE_MASK, .rw, 0, .any⟩]⟩,
  ⟨0x20400030, 0x10000, 12, 0x4, 1,
    [⟨F.ENG_LOAD_CTL.OPEN, .wo, 0, .any⟩, ⟨F.ENG_LOAD_CTL.COMMIT, .wo, 0, .any⟩]⟩,
  ⟨0x20400034, 0x10000, 12, 0x4, 1,
    [⟨F.ENG_LOAD_STATUS.REJECT, .ro, 0, .any⟩, ⟨F.ENG_LOAD_STATUS.OPEN, .ro, 0, .any⟩]⟩,
  ⟨0x20405000, 0x10000, 12, 0x4, 1,
    [⟨F.BUS_CFG.SPEED, .rw, 0, .range 0 2⟩, ⟨F.BUS_CFG.CTRL_EN, .rw, 1, .any⟩, ⟨F.BUS_CFG.TGT_EN, .rw, 0, .any⟩, ⟨F.BUS_CFG.TGT_ADDR, .rw, 0, .any⟩, ⟨F.BUS_CFG.ALERT_OUT, .rw, 0, .any⟩, ⟨F.BUS_CFG.SEG_EN, .rw, 0, .any⟩, ⟨F.BUS_CFG.SEG_CH, .rw, 0, .any⟩]⟩,
  ⟨0x20405004, 0x10000, 12, 0x4, 1,
    [⟨F.BUS_TIME.T_LOW_MAX, .rw, 25, .range 1 100⟩, ⟨F.BUS_TIME.T_STUCK, .rw, 50, .range 10 2000⟩]⟩,
  ⟨0x20405008, 0x10000, 12, 0x4, 1,
    [⟨F.BUS_TGT.T_SLEEP, .rw, 0, .range 0 10000⟩]⟩,
  ⟨0x2040500C, 0x10000, 12, 0x4, 1,
    [⟨F.BUS_CMD.SEG_RETRY, .wo, 0, .any⟩]⟩,
  ⟨0x20405010, 0x10000, 12, 0x4, 1,
    [⟨F.BUS_STAT.SCL, .ro, 0, .any⟩, ⟨F.BUS_STAT.SDA, .ro, 0, .any⟩, ⟨F.BUS_STAT.ALERT, .ro, 0, .any⟩, ⟨F.BUS_STAT.STUCK, .ro, 0, .any⟩, ⟨F.BUS_STAT.UNPOWERED, .ro, 0, .any⟩, ⟨F.BUS_STAT.ASLEEP, .ro, 0, .any⟩, ⟨F.BUS_STAT.SEG_PENDING, .ro, 0, .any⟩, ⟨F.BUS_STAT.SEG_CYCLES, .ro, 0, .any⟩]⟩,
  ⟨0x20405014, 0x10000, 12, 0x4, 1,
    [⟨F.BUS_EVENT.STUCK, .w1c, 0, .any⟩, ⟨F.BUS_EVENT.STUCK_CLEAR, .w1c, 0, .any⟩, ⟨F.BUS_EVENT.SEG_FAILED, .w1c, 0, .any⟩, ⟨F.BUS_EVENT.ARB_LOST, .w1c, 0, .any⟩, ⟨F.BUS_EVENT.MIDBYTE_STRETCH, .w1c, 0, .any⟩, ⟨F.BUS_EVENT.CLK_TIMEOUT, .w1c, 0, .any⟩, ⟨F.BUS_EVENT.PEC_ERR, .w1c, 0, .any⟩, ⟨F.BUS_EVENT.HN_DROP, .w1c, 0, .any⟩, ⟨F.BUS_EVENT.ENGINE_LOST, .w1c, 0, .any⟩, ⟨F.BUS_EVENT.TGT_TIMEOUT, .w1c, 0, .any⟩]⟩,
  ⟨0x20405018, 0x10000, 12, 0x4, 1,
    [⟨F.BUS_ROUTE.EVT_CORE, .rw, 0, .any⟩, ⟨F.BUS_ROUTE.EVT_EN, .rw, 0, .any⟩]⟩,
  ⟨0x20405020, 0x10000, 12, 0x4, 1,
    [⟨F.BUS_XFER_CNT.COUNT, .ro, 0, .any⟩]⟩]
def rowsBUS2 : List RegRow := [
  ⟨0x20405024, 0x10000, 12, 0x4, 1,
    [⟨F.BUS_NACK_CNT.COUNT, .ro, 0, .any⟩]⟩,
  ⟨0x20405028, 0x10000, 12, 0x4, 1,
    [⟨F.BUS_ARB_CNT.COUNT, .ro, 0, .any⟩]⟩,
  ⟨0x2040502C, 0x10000, 12, 0x4, 1,
    [⟨F.BUS_STRETCH_CNT.COUNT, .ro, 0, .any⟩]⟩,
  ⟨0x20405030, 0x10000, 12, 0x4, 1,
    [⟨F.BUS_PEC_CNT.COUNT, .ro, 0, .any⟩]⟩,
  ⟨0x20405034, 0x10000, 12, 0x4, 1,
    [⟨F.BUS_STUCK_CNT.STUCK, .ro, 0, .any⟩, ⟨F.BUS_STUCK_CNT.SEG_CYCLES, .ro, 0, .any⟩]⟩,
  ⟨0x20405038, 0x10000, 12, 0x4, 1,
    [⟨F.BUS_TGT_CNT.COUNT, .ro, 0, .any⟩]⟩]

/-- The registers of block 4 (BUS). -/
def rowsBUS : List RegRow := rowsBUS0 ++ rowsBUS1 ++ rowsBUS2

def rowsIO0 : List RegRow := [
  ⟨0x20500000, 0x10000, 1, 0x4, 1,
    [⟨F.IO_GPIO_IN.LEVEL, .ro, 0, .any⟩]⟩,
  ⟨0x20500004, 0x10000, 1, 0x4, 1,
    [⟨F.IO_GPIO_OUT.OUT, .rw, 0, .any⟩]⟩,
  ⟨0x20500008, 0x10000, 1, 0x4, 1,
    [⟨F.IO_GPIO_OE.OE, .rw, 0, .any⟩]⟩,
  ⟨0x2050000C, 0x10000, 1, 0x4, 1,
    [⟨F.IO_LED.LOCATE, .rw, 0, .any⟩, ⟨F.IO_LED.FAULT, .rw, 0, .any⟩]⟩,
  ⟨0x20500010, 0x10000, 1, 0x4, 1,
    [⟨F.IO_STRAP.PAIR_MODE, .ro, 0, .any⟩, ⟨F.IO_STRAP.PAIR_ID, .ro, 0, .any⟩, ⟨F.IO_STRAP.BOOT_MODE, .ro, 0, .any⟩, ⟨F.IO_STRAP.ETH_RATE, .ro, 0, .any⟩]⟩]

/-- The registers of block 5 (IO). -/
def rowsIO : List RegRow := rowsIO0

def rowsSEC0 : List RegRow := [
  ⟨0x20600000, 0x10000, 1, 0x4, 1,
    [⟨F.SEC_BOOT_STATUS.MODE, .ro, 0, .any⟩, ⟨F.SEC_BOOT_STATUS.SLOT, .ro, 0, .any⟩, ⟨F.SEC_BOOT_STATUS.GATE, .ro, 0, .any⟩, ⟨F.SEC_BOOT_STATUS.FALLBACK, .ro, 0, .any⟩, ⟨F.SEC_BOOT_STATUS.PATCH_BAD, .ro, 0, .any⟩, ⟨F.SEC_BOOT_STATUS.CERT_MISMATCH, .ro, 0, .any⟩, ⟨F.SEC_BOOT_STATUS.DEBUG_OPEN, .ro, 0, .any⟩, ⟨F.SEC_BOOT_STATUS.STRAP, .ro, 0, .any⟩, ⟨F.SEC_BOOT_STATUS.REJ_A, .ro, 0, .any⟩, ⟨F.SEC_BOOT_STATUS.REJ_B, .ro, 0, .any⟩]⟩,
  ⟨0x20600004, 0x10000, 1, 0x4, 1,
    [⟨F.SEC_TRIAL.T_TRIAL, .ro, 0, .any⟩, ⟨F.SEC_TRIAL.LEFT, .ro, 0, .any⟩, ⟨F.SEC_TRIAL.STATE, .ro, 0, .any⟩]⟩,
  ⟨0x20600008, 0x10000, 1, 0x4, 1,
    [⟨F.SEC_CONFIRM.CONFIRM, .wo, 0, .any⟩, ⟨F.SEC_CONFIRM.KEY, .wo, 0, .any⟩]⟩,
  ⟨0x2060000C, 0x10000, 1, 0x4, 1,
    [⟨F.SEC_ARB.ARB0, .ro, 0, .any⟩, ⟨F.SEC_ARB.PENDING, .ro, 0, .any⟩, ⟨F.SEC_ARB.ARB1, .ro, 0, .any⟩]⟩,
  ⟨0x20600010, 0x10000, 1, 0x4, 1,
    [⟨F.SEC_KEYS.SET, .ro, 0, .any⟩, ⟨F.SEC_KEYS.REVOKED, .ro, 0, .any⟩, ⟨F.SEC_KEYS.PARTIAL, .ro, 0, .any⟩]⟩,
  ⟨0x20600014, 0x10000, 1, 0x4, 1,
    [⟨F.SEC_LOCK_ID.LOCK_ID, .ro, 0, .any⟩]⟩,
  ⟨0x20600020, 0x10000, 1, 0x4, 8,
    [⟨F.SEC_IMG_DIGEST.DIGEST, .ro, 0, .any⟩]⟩,
  ⟨0x20600040, 0x10000, 1, 0x4, 8,
    [⟨F.SEC_ID_PUB_X.X, .ro, 0, .any⟩]⟩,
  ⟨0x20600060, 0x10000, 1, 0x4, 8,
    [⟨F.SEC_ID_PUB_Y.Y, .ro, 0, .any⟩]⟩,
  ⟨0x20600080, 0x10000, 1, 0x4, 1,
    [⟨F.SEC_REQ_ADDR_LO.ADDR, .rw, 0, .mult64⟩]⟩,
  ⟨0x20600084, 0x10000, 1, 0x4, 1,
    [⟨F.SEC_REQ_ADDR_HI.ADDR, .rw, 0, .any⟩]⟩,
  ⟨0x20600088, 0x10000, 1, 0x4, 1,
    [⟨F.SEC_REQ_GO.GO, .wo, 0, .any⟩]⟩]
def rowsSEC1 : List RegRow := [
  ⟨0x2060008C, 0x10000, 1, 0x4, 1,
    [⟨F.SEC_REQ_STAT.BUSY, .ro, 0, .any⟩, ⟨F.SEC_REQ_STAT.DOWN, .ro, 0, .any⟩, ⟨F.SEC_REQ_STAT.GO_LOST, .w1c, 0, .any⟩]⟩,
  ⟨0x20600090, 0x10000, 1, 0x4, 1,
    [⟨F.SEC_EVENT.FALLBACK, .w1c, 0, .any⟩, ⟨F.SEC_EVENT.TRIAL_FAILED, .w1c, 0, .any⟩, ⟨F.SEC_EVENT.CONFIRMED, .w1c, 0, .any⟩, ⟨F.SEC_EVENT.CONFIRM_REJ, .w1c, 0, .any⟩, ⟨F.SEC_EVENT.ARB_ADVANCED, .w1c, 0, .any⟩, ⟨F.SEC_EVENT.REVOKED, .w1c, 0, .any⟩, ⟨F.SEC_EVENT.SHADOW, .w1c, 0, .any⟩, ⟨F.SEC_EVENT.SEC_DOWN, .w1c, 0, .any⟩]⟩,
  ⟨0x20600094, 0x10000, 1, 0x4, 1,
    [⟨F.SEC_ROUTE.EVT_CORE, .rw, 0, .any⟩, ⟨F.SEC_ROUTE.EVT_EN, .rw, 0, .any⟩]⟩,
  ⟨0x20600100, 0x10000, 1, 0x4, 1,
    [⟨F.SEC_ACT_CTL.GO, .w1s, 0, .any⟩, ⟨F.SEC_ACT_CTL.METHOD, .rw, 0, .range 0 2⟩, ⟨F.SEC_ACT_CTL.PAIR, .rw, 0, .any⟩, ⟨F.SEC_ACT_CTL.QUIESCED, .w1s, 0, .any⟩, ⟨F.SEC_ACT_CTL.KEY, .wo, 0, .any⟩]⟩,
  ⟨0x20600104, 0x10000, 1, 0x4, 1,
    [⟨F.SEC_ACT_STAT.STATE, .ro, 0, .any⟩, ⟨F.SEC_ACT_STAT.QUIESCE_REQ, .ro, 0, .any⟩, ⟨F.SEC_ACT_STAT.REJECT, .ro, 0, .any⟩, ⟨F.SEC_ACT_STAT.PAUSE, .ro, 0, .any⟩]⟩,
  ⟨0x20600108, 0x10000, 1, 0x4, 1,
    [⟨F.SEC_ACT_HOB_LO.ADDR, .rw, 0, .mult64⟩]⟩,
  ⟨0x2060010C, 0x10000, 1, 0x4, 1,
    [⟨F.SEC_ACT_HOB_HI.ADDR, .rw, 0, .any⟩]⟩,
  ⟨0x20600110, 0x10000, 1, 0x4, 1,
    [⟨F.SEC_ACT_CFG.T_QUIESCE, .rw, 1000, .range 100 10000⟩]⟩,
  ⟨0x20600114, 0x10000, 1, 0x4, 1,
    [⟨F.SEC_UPD_LOCK.LOCK, .rw, 1, .any⟩]⟩,
  ⟨0x20600118, 0x10000, 1, 0x4, 1,
    [⟨F.SEC_UPD_BLOCK.BLOCK, .ro, 0, .any⟩]⟩]

/-- The registers of block 6 (SEC). -/
def rowsSEC : List RegRow := rowsSEC0 ++ rowsSEC1

def rowsFLASH0 : List RegRow := [
  ⟨0x20708000, 0x10000, 1, 0x4, 1,
    [⟨F.FS_STATUS.READY, .ro, 0, .any⟩, ⟨F.FS_STATUS.LEDGER_FULL, .ro, 0, .any⟩, ⟨F.FS_STATUS.JOURNAL_FULL, .ro, 0, .any⟩, ⟨F.FS_STATUS.RESUME_WAIT, .ro, 0, .any⟩]⟩,
  ⟨0x20708004, 0x10000, 1, 0x4, 1,
    [⟨F.FS_SEQ_LO.SEQ, .ro, 0, .any⟩]⟩,
  ⟨0x20708008, 0x10000, 1, 0x4, 1,
    [⟨F.FS_SEQ_HI.SEQ, .ro, 0, .any⟩]⟩,
  ⟨0x2070800C, 0x10000, 1, 0x4, 1,
    [⟨F.FS_FT_LO.FT, .ro, 0, .any⟩]⟩,
  ⟨0x20708010, 0x10000, 1, 0x4, 1,
    [⟨F.FS_FT_HI.FT, .ro, 0, .any⟩]⟩,
  ⟨0x20708014, 0x10000, 1, 0x4, 1,
    [⟨F.FS_BLOCKS.USED, .ro, 0, .any⟩, ⟨F.FS_BLOCKS.ABANDONED, .ro, 0, .any⟩]⟩,
  ⟨0x20708018, 0x10000, 1, 0x4, 1,
    [⟨F.FS_TORN_CNT.COUNT, .ro, 0, .any⟩]⟩,
  ⟨0x2070801C, 0x10000, 1, 0x4, 1,
    [⟨F.FS_JOURNAL_CNT.COUNT, .ro, 0, .any⟩]⟩,
  ⟨0x20708020, 0x10000, 1, 0x4, 1,
    [⟨F.FS_JOURNAL_ACK_LO.SEQ, .rw, 0, .any⟩]⟩,
  ⟨0x20708024, 0x10000, 1, 0x4, 1,
    [⟨F.FS_JOURNAL_ACK_HI.SEQ, .rw, 0, .any⟩]⟩,
  ⟨0x20708028, 0x10000, 1, 0x4, 1,
    [⟨F.FS_JOURNAL_LOST.COUNT, .ro, 0, .any⟩]⟩,
  ⟨0x20708030, 0x10000, 1, 0x4, 1,
    [⟨F.FS_CFG0.T_NORM_INT, .rw, 1440, .range 60 10080⟩, ⟨F.FS_CFG0.T_OBS_INT, .rw, 60, .range 5 1440⟩]⟩]
def rowsFLASH1 : List RegRow := [
  ⟨0x20708034, 0x10000, 1, 0x4, 1,
    [⟨F.FS_CFG1.T_OBS_WIN, .rw, 7, .range 1 30⟩, ⟨F.FS_CFG1.T_FAULT, .rw, 30, .range 7 90⟩]⟩,
  ⟨0x20708040, 0x10000, 1, 0x4, 1,
    [⟨F.FS_CMD.OP, .wo, 0, .any⟩, ⟨F.FS_CMD.BAY, .wo, 0, .any⟩, ⟨F.FS_CMD.SLICE, .wo, 0, .any⟩, ⟨F.FS_CMD.STATE, .wo, 0, .any⟩, ⟨F.FS_CMD.AGE_DAYS, .wo, 0, .any⟩]⟩,
  ⟨0x20708044, 0x10000, 1, 0x4, 1,
    [⟨F.FS_CMD_UNIT_LO.UNIT_ID, .rw, 0, .any⟩]⟩,
  ⟨0x20708048, 0x10000, 1, 0x4, 1,
    [⟨F.FS_CMD_UNIT_HI.UNIT_ID, .rw, 0, .any⟩]⟩,
  ⟨0x2070804C, 0x10000, 1, 0x4, 1,
    [⟨F.FS_CMD_STAT.BUSY, .ro, 0, .any⟩, ⟨F.FS_CMD_STAT.RESULT, .ro, 0, .any⟩]⟩,
  ⟨0x20708100, 0x10000, 1, 0x20, 16,
    [⟨F.STN_ID.PACK_ID, .ro, 0, .any⟩]⟩,
  ⟨0x20708104, 0x10000, 1, 0x20, 16,
    [⟨F.STN_VERSION.PACK_VERSION, .ro, 0, .any⟩]⟩,
  ⟨0x20708108, 0x10000, 1, 0x20, 16,
    [⟨F.STN_MODEL_LO.MODEL_LO, .ro, 0, .any⟩]⟩,
  ⟨0x2070810C, 0x10000, 1, 0x20, 16,
    [⟨F.STN_MODEL_HI.MODEL_HI, .ro, 0, .any⟩]⟩,
  ⟨0x20708110, 0x10000, 1, 0x20, 16,
    [⟨F.STN_INFO.VALID, .ro, 0, .any⟩, ⟨F.STN_INFO.OWNER, .ro, 0, .any⟩, ⟨F.STN_INFO.TESTS, .ro, 0, .any⟩]⟩,
  ⟨0x2070A000, 0x10000, 1, 0x20, 4,
    [⟨F.GOLD_MODEL_LO.MODEL_LO, .ro, 0, .any⟩]⟩,
  ⟨0x2070A004, 0x10000, 1, 0x20, 4,
    [⟨F.GOLD_MODEL_HI.MODEL_HI, .ro, 0, .any⟩]⟩]
def rowsFLASH2 : List RegRow := [
  ⟨0x2070A008, 0x10000, 1, 0x20, 4,
    [⟨F.GOLD_VERSION.VERSION, .ro, 0, .any⟩]⟩,
  ⟨0x2070A00C, 0x10000, 1, 0x20, 4,
    [⟨F.GOLD_INFO.VALID, .ro, 0, .any⟩, ⟨F.GOLD_INFO.OWNER, .ro, 0, .any⟩, ⟨F.GOLD_INFO.BLOCKS, .ro, 0, .any⟩]⟩,
  ⟨0x2070A100, 0x10000, 1, 0x10, 8,
    [⟨F.GOLD_BAY_CFG.SLOT, .rw, 7, .oneOf [0, 1, 2, 3, 7]⟩]⟩,
  ⟨0x2070A104, 0x10000, 1, 0x10, 8,
    [⟨F.GOLD_BAY_STAT.STATE, .ro, 0, .any⟩, ⟨F.GOLD_BAY_STAT.OUTCOME, .ro, 0, .any⟩, ⟨F.GOLD_BAY_STAT.MODEL_MISMATCH, .w1c, 0, .any⟩, ⟨F.GOLD_BAY_STAT.ATTEMPTS, .ro, 0, .any⟩, ⟨F.GOLD_BAY_STAT.SECTORS, .ro, 0, .any⟩]⟩,
  ⟨0x2070A108, 0x10000, 1, 0x10, 8,
    [⟨F.GOLD_BAY_CNT.REFLASH, .ro, 0, .any⟩, ⟨F.GOLD_BAY_CNT.FAIL, .ro, 0, .any⟩]⟩,
  ⟨0x2070A200, 0x10000, 1, 0x4, 1,
    [⟨F.GOLD_CFG.T_GOLD_MAX, .rw, 600, .range 60 3600⟩]⟩,
  ⟨0x2070A204, 0x10000, 1, 0x4, 1,
    [⟨F.GOLD_EVENT.DONE, .w1c, 0, .any⟩, ⟨F.GOLD_EVENT.MISMATCH, .w1c, 0, .any⟩, ⟨F.GOLD_EVENT.SLOT_REMOVED, .w1c, 0, .any⟩]⟩]

/-- The registers of block 7 (FLASH). -/
def rowsFLASH : List RegRow := rowsFLASH0 ++ rowsFLASH1 ++ rowsFLASH2

def rowsETH0 : List RegRow := [
  ⟨0x20800000, 0x10000, 1, 0x4, 1,
    [⟨F.ETH_CFG.RATE, .rw, 0, .range 0 2⟩, ⟨F.ETH_CFG.VLAN_EN, .rw, 0, .any⟩, ⟨F.ETH_CFG.LLDP_INT, .rw, 30, .range 5 255⟩]⟩,
  ⟨0x20800004, 0x10000, 1, 0x4, 1,
    [⟨F.ETH_STAT.RATE_NOW, .ro, 0, .any⟩, ⟨F.ETH_STAT.LINK, .ro, 0, .any⟩, ⟨F.ETH_STAT.LANES, .ro, 0, .any⟩, ⟨F.ETH_STAT.HOST, .ro, 0, .any⟩, ⟨F.ETH_STAT.RELAY_OUT, .ro, 0, .any⟩, ⟨F.ETH_STAT.RELAY_IN, .ro, 0, .any⟩, ⟨F.ETH_STAT.STRAP, .ro, 0, .any⟩]⟩,
  ⟨0x20800008, 0x10000, 1, 0x4, 1,
    [⟨F.ETH_MAC_LO.MAC, .rw, 0, .any⟩]⟩,
  ⟨0x2080000C, 0x10000, 1, 0x4, 1,
    [⟨F.ETH_MAC_HI.MAC, .rw, 0, .any⟩]⟩,
  ⟨0x20800010, 0x10000, 1, 0x4, 1,
    [⟨F.ETH_VLAN.VID, .rw, 0, .range 1 4094⟩, ⟨F.ETH_VLAN.PCP, .rw, 0, .any⟩]⟩,
  ⟨0x20800014, 0x10000, 1, 0x4, 1,
    [⟨F.ETH_IP4_ADDR.ADDR, .rw, 0, .any⟩]⟩,
  ⟨0x20800018, 0x10000, 1, 0x4, 1,
    [⟨F.ETH_IP4_CFG.PREFIX, .rw, 0, .range 0 32⟩, ⟨F.ETH_IP4_CFG.DHCP, .rw, 1, .any⟩, ⟨F.ETH_IP4_CFG.BOUND, .ro, 0, .any⟩]⟩,
  ⟨0x20800020, 0x10000, 1, 0x4, 4,
    [⟨F.ETH_IP6_ADDR.ADDR, .rw, 0, .any⟩]⟩,
  ⟨0x20800030, 0x10000, 1, 0x4, 1,
    [⟨F.ETH_IP6_CFG.PREFIX, .rw, 0, .range 0 128⟩, ⟨F.ETH_IP6_CFG.DHCP, .rw, 1, .any⟩, ⟨F.ETH_IP6_CFG.BOUND, .ro, 0, .any⟩]⟩,
  ⟨0x20800040, 0x10000, 1, 0x4, 1,
    [⟨F.MMP_CFG.T_SESSION, .rw, 30, .range 5 600⟩, ⟨F.MMP_CFG.MAXP, .rw, 8, .range 1 8⟩]⟩,
  ⟨0x20800044, 0x10000, 1, 0x4, 1,
    [⟨F.MMP_PERM.PERM, .rw, 0, .any⟩]⟩,
  ⟨0x20800048, 0x10000, 1, 0x4, 1,
    [⟨F.MMP_WALL_LO.TIME, .rw, 0, .any⟩]⟩]
def rowsETH1 : List RegRow := [
  ⟨0x2080004C, 0x10000, 1, 0x4, 1,
    [⟨F.MMP_WALL_HI.TIME, .rw, 0, .any⟩]⟩,
  ⟨0x20800080, 0x10000, 1, 0x4, 1,
    [⟨F.ETH_RX_BASE.ADDR, .rw, 0, .any⟩]⟩,
  ⟨0x20800084, 0x10000, 1, 0x4, 1,
    [⟨F.ETH_RX_HEAD.OFFSET, .ro, 0, .any⟩]⟩,
  ⟨0x20800088, 0x10000, 1, 0x4, 1,
    [⟨F.ETH_RX_TAIL.OFFSET, .rw, 0, .any⟩]⟩,
  ⟨0x2080008C, 0x10000, 1, 0x4, 1,
    [⟨F.ETH_TX_BASE.ADDR, .rw, 0, .any⟩]⟩,
  ⟨0x20800090, 0x10000, 1, 0x4, 1,
    [⟨F.ETH_TX_HEAD.OFFSET, .rw, 0, .any⟩]⟩,
  ⟨0x20800094, 0x10000, 1, 0x4, 1,
    [⟨F.ETH_TX_TAIL.OFFSET, .ro, 0, .any⟩]⟩,
  ⟨0x20800098, 0x10000, 1, 0x4, 1,
    [⟨F.ETH_ROUTE.EVT_CORE, .rw, 0, .any⟩, ⟨F.ETH_ROUTE.EVT_EN, .rw, 0, .any⟩]⟩,
  ⟨0x20800100, 0x10000, 1, 0x4, 12,
    [⟨F.ETH_EVT.DATA, .wo, 0, .any⟩]⟩,
  ⟨0x20800130, 0x10000, 1, 0x4, 1,
    [⟨F.ETH_EVT_GO.GO, .wo, 0, .any⟩]⟩,
  ⟨0x20800134, 0x10000, 1, 0x4, 1,
    [⟨F.ETH_EVT_STAT.COUNT, .ro, 0, .any⟩, ⟨F.ETH_EVT_STAT.LOST, .ro, 0, .any⟩]⟩,
  ⟨0x20800200, 0x10000, 1, 0x4, 1,
    [⟨F.ETH_RX_FRAMES.COUNT, .ro, 0, .any⟩]⟩]
def rowsETH2 : List RegRow := [
  ⟨0x20800204, 0x10000, 1, 0x4, 1,
    [⟨F.ETH_TX_FRAMES.COUNT, .ro, 0, .any⟩]⟩,
  ⟨0x20800208, 0x10000, 1, 0x4, 1,
    [⟨F.ETH_RX_DROP.COUNT, .ro, 0, .any⟩]⟩,
  ⟨0x2080020C, 0x10000, 1, 0x4, 1,
    [⟨F.ETH_FEC_CORR.COUNT, .ro, 0, .any⟩]⟩,
  ⟨0x20800210, 0x10000, 1, 0x4, 1,
    [⟨F.ETH_FEC_UNCORR.COUNT, .ro, 0, .any⟩]⟩,
  ⟨0x20800214, 0x10000, 1, 0x4, 1,
    [⟨F.MMP_AUTH_FAIL.COUNT, .ro, 0, .any⟩]⟩,
  ⟨0x20800218, 0x10000, 1, 0x4, 1,
    [⟨F.MMP_RETX.COUNT, .ro, 0, .any⟩]⟩,
  ⟨0x2080021C, 0x10000, 1, 0x4, 1,
    [⟨F.MMP_SESSIONS.COUNT, .ro, 0, .any⟩]⟩]

/-- The registers of block 8 (ETH). -/
def rowsETH : List RegRow := rowsETH0 ++ rowsETH1 ++ rowsETH2

def rowsWIT0 : List RegRow := [
  ⟨0x20900000, 0x10000, 8, 0x4, 1,
    [⟨F.ENG_CTL.START, .wo, 0, .any⟩, ⟨F.ENG_CTL.STOP, .wo, 0, .any⟩, ⟨F.ENG_CTL.KILL, .wo, 0, .any⟩, ⟨F.ENG_CTL.PEND, .ro, 0, .any⟩, ⟨F.ENG_CTL.ENTRY, .rw, 0, .any⟩]⟩,
  ⟨0x20900004, 0x10000, 8, 0x4, 1,
    [⟨F.ENG_STATUS.STATE, .ro, 0, .any⟩, ⟨F.ENG_STATUS.PROG_VALID, .ro, 0, .any⟩, ⟨F.ENG_STATUS.TOFF_RUNNING, .ro, 0, .any⟩, ⟨F.ENG_STATUS.START_REJ, .w1c, 0, .any⟩, ⟨F.ENG_STATUS.START_CNT, .ro, 0, .any⟩]⟩,
  ⟨0x20900008, 0x10000, 8, 0x4, 1,
    [⟨F.ENG_FAULT.CAUSE, .ro, 0, .any⟩, ⟨F.ENG_FAULT.PC, .ro, 0, .any⟩, ⟨F.ENG_FAULT.FAULT_CNT, .ro, 0, .any⟩]⟩,
  ⟨0x2090000C, 0x10000, 8, 0x4, 1,
    [⟨F.ENG_TOFF.T_OFF_MIN, .rw, 200, .range 50 6000⟩]⟩,
  ⟨0x20900010, 0x10000, 8, 0x4, 1,
    [⟨F.ENG_MBOX_IN.DATA, .wo, 0, .any⟩]⟩,
  ⟨0x20900014, 0x10000, 8, 0x4, 1,
    [⟨F.ENG_MBOX_OUT.DATA, .ro, 0, .any⟩]⟩,
  ⟨0x20900018, 0x10000, 8, 0x4, 1,
    [⟨F.ENG_MBOX_STATUS.OUT_CNT, .ro, 0, .any⟩, ⟨F.ENG_MBOX_STATUS.IN_SPACE, .ro, 16, .any⟩, ⟨F.ENG_MBOX_STATUS.LAST_TAG, .ro, 0, .any⟩, ⟨F.ENG_MBOX_STATUS.IN_LOST, .w1c, 0, .any⟩]⟩,
  ⟨0x2090001C, 0x10000, 8, 0x4, 1,
    [⟨F.ENG_ROUTE.MBX_CORE, .rw, 0, .any⟩, ⟨F.ENG_ROUTE.MBX_EN, .rw, 0, .any⟩, ⟨F.ENG_ROUTE.EVT_CORE, .rw, 0, .any⟩, ⟨F.ENG_ROUTE.EVT_EN, .rw, 0, .any⟩]⟩,
  ⟨0x20900020, 0x10000, 8, 0x4, 1,
    [⟨F.ENG_PROG_VERSION.VERSION, .rw, 0, .any⟩]⟩,
  ⟨0x20900024, 0x10000, 8, 0x4, 1,
    [⟨F.ENG_PROG_CRC.CRC, .rw, 0, .any⟩]⟩,
  ⟨0x20900028, 0x10000, 8, 0x4, 1,
    [⟨F.ENG_PROG_INFO.CODE_LEN, .rw, 0, .any⟩, ⟨F.ENG_PROG_INFO.VAR_COUNT, .rw, 0, .any⟩, ⟨F.ENG_PROG_INFO.ENTRY_MASK, .rw, 0, .any⟩]⟩,
  ⟨0x2090002C, 0x10000, 8, 0x4, 1,
    [⟨F.ENG_WDOG.PERIOD, .rw, 100, .any⟩]⟩]
def rowsWIT1 : List RegRow := [
  ⟨0x20900040, 0x10000, 8, 0x4, 8,
    [⟨F.ENG_ENTRY.INDEX, .rw, 0, .any⟩]⟩,
  ⟨0x20900038, 0x10000, 8, 0x4, 1,
    [⟨F.ENG_LOAD_HDR.ENGINE_TYPE, .rw, 0, .any⟩, ⟨F.ENG_LOAD_HDR.PROFILE, .rw, 0, .any⟩, ⟨F.ENG_LOAD_HDR.INSTANCE_MASK, .rw, 0, .any⟩]⟩,
  ⟨0x20900030, 0x10000, 8, 0x4, 1,
    [⟨F.ENG_LOAD_CTL.OPEN, .wo, 0, .any⟩, ⟨F.ENG_LOAD_CTL.COMMIT, .wo, 0, .any⟩]⟩,
  ⟨0x20900034, 0x10000, 8, 0x4, 1,
    [⟨F.ENG_LOAD_STATUS.REJECT, .ro, 0, .any⟩, ⟨F.ENG_LOAD_STATUS.OPEN, .ro, 0, .any⟩]⟩,
  ⟨0x20905000, 0x10000, 8, 0x4, 1,
    [⟨F.WITL_STATUS.STATE, .ro, 0, .any⟩, ⟨F.WITL_STATUS.ALIGNED, .ro, 0, .any⟩, ⟨F.WITL_STATUS.OP_GEN, .ro, 0, .any⟩, ⟨F.WITL_STATUS.HOLD_MASK, .ro, 0, .any⟩, ⟨F.WITL_STATUS.EPOCH, .ro, 0, .any⟩]⟩,
  ⟨0x20905004, 0x10000, 8, 0x4, 1,
    [⟨F.WITL_CFG.T_LINK, .rw, 100, .range 10 10000⟩]⟩,
  ⟨0x20905008, 0x10000, 8, 0x4, 1,
    [⟨F.WITL_CREDIT.DEV_HELD, .ro, 0, .any⟩, ⟨F.WITL_CREDIT.DATA_OUT, .ro, 0, .any⟩]⟩,
  ⟨0x20905010, 0x10000, 8, 0x4, 1,
    [⟨F.WITL_FEC_CORR.COUNT, .ro, 0, .any⟩]⟩,
  ⟨0x20905014, 0x10000, 8, 0x4, 1,
    [⟨F.WITL_FEC_UNCORR.COUNT, .ro, 0, .any⟩]⟩,
  ⟨0x20905018, 0x10000, 8, 0x4, 1,
    [⟨F.WITL_CRC_ERR.COUNT, .ro, 0, .any⟩]⟩,
  ⟨0x2090501C, 0x10000, 8, 0x4, 1,
    [⟨F.WITL_RETRY_TX.COUNT, .ro, 0, .any⟩]⟩,
  ⟨0x20905020, 0x10000, 8, 0x4, 1,
    [⟨F.WITL_RETRY_REQ.COUNT, .ro, 0, .any⟩]⟩]
def rowsWIT2 : List RegRow := [
  ⟨0x20905024, 0x10000, 8, 0x4, 1,
    [⟨F.WITL_LANE.RETRAINS, .ro, 0, .any⟩, ⟨F.WITL_LANE.LINK_LOST, .ro, 0, .any⟩]⟩,
  ⟨0x20905028, 0x10000, 8, 0x4, 1,
    [⟨F.WITL_FUTURE_CNT.COUNT, .ro, 0, .any⟩]⟩,
  ⟨0x2090502C, 0x10000, 8, 0x4, 1,
    [⟨F.WITL_STALE_CNT.COUNT, .ro, 0, .any⟩]⟩,
  ⟨0x20905030, 0x10000, 8, 0x4, 1,
    [⟨F.WITL_NAK_LAST.CAUSE, .ro, 0, .any⟩, ⟨F.WITL_NAK_LAST.REC_TYPE, .ro, 0, .any⟩]⟩,
  ⟨0x20905044, 0x10000, 8, 0x4, 15,
    [⟨F.WITL_NAK_CNT.COUNT, .ro, 0, .any⟩]⟩,
  ⟨0x20905080, 0x10000, 8, 0x4, 2,
    [⟨F.WITL_PEER_MODEL.MODEL, .ro, 0, .any⟩]⟩,
  ⟨0x20905088, 0x10000, 8, 0x4, 4,
    [⟨F.WITL_PEER_SERIAL.SERIAL, .ro, 0, .any⟩]⟩,
  ⟨0x20905098, 0x10000, 8, 0x4, 1,
    [⟨F.WITL_PEER_INFO.GEN_MAX, .ro, 0, .any⟩, ⟨F.WITL_PEER_INFO.MAX_L, .ro, 0, .any⟩, ⟨F.WITL_PEER_INFO.DEV_GRANT, .ro, 0, .any⟩]⟩,
  ⟨0x20905100, 0x10000, 8, 0x4, 1,
    [⟨F.WITL_MAINT_TXCTL.LEN, .rw, 0, .any⟩, ⟨F.WITL_MAINT_TXCTL.GO, .w1s, 0, .any⟩, ⟨F.WITL_MAINT_TXCTL.TAG, .rw, 0, .any⟩]⟩,
  ⟨0x20905104, 0x10000, 8, 0x4, 1,
    [⟨F.WITL_MAINT_RXSTAT.LEN, .ro, 0, .any⟩, ⟨F.WITL_MAINT_RXSTAT.FULL, .ro, 0, .any⟩, ⟨F.WITL_MAINT_RXSTAT.TX_LOST, .w1c, 0, .any⟩, ⟨F.WITL_MAINT_RXSTAT.TAG, .ro, 0, .any⟩]⟩,
  ⟨0x20905108, 0x10000, 8, 0x4, 1,
    [⟨F.WITL_MAINT_RXINFO.STATUS, .ro, 0, .any⟩]⟩,
  ⟨0x2090510C, 0x10000, 8, 0x4, 1,
    [⟨F.WITL_MAINT_RXDONE.DONE, .wo, 0, .any⟩]⟩]
def rowsWIT3 : List RegRow := [
  ⟨0x20906000, 0x10000, 8, 0x4, 1024,
    [⟨F.MAINT_TX.DATA, .rw, 0, .any⟩]⟩,
  ⟨0x20907000, 0x10000, 8, 0x4, 1024,
    [⟨F.MAINT_RX.DATA, .ro, 0, .any⟩]⟩,
  ⟨0x20908000, 0x10000, 8, 0x4, 1,
    [⟨F.WIT_CTL.MODE, .rw, 0, .range 0 2⟩, ⟨F.WIT_CTL.LAG, .rw, 2, .range 1 4⟩, ⟨F.WIT_CTL.SAMPLE_SHIFT, .rw, 12, .zeroOr 4 12⟩, ⟨F.WIT_CTL.TOL_SCALE, .rw, 4, .range 1 64⟩, ⟨F.WIT_CTL.HOST_HOLD, .rw, 0, .any⟩]⟩,
  ⟨0x20908004, 0x10000, 8, 0x4, 1,
    [⟨F.WIT_JOB.JOB_ID, .rw, 0, .any⟩]⟩,
  ⟨0x20908008, 0x10000, 8, 0x4, 1,
    [⟨F.WIT_EPOCH_NEXT.EPOCH, .rw, 0, .any⟩]⟩,
  ⟨0x2090800C, 0x10000, 8, 0x4, 1,
    [⟨F.WIT_FIRST_STEP_LO.STEP, .rw, 0, .any⟩]⟩,
  ⟨0x20908010, 0x10000, 8, 0x4, 1,
    [⟨F.WIT_FIRST_STEP_HI.STEP, .rw, 0, .any⟩]⟩,
  ⟨0x20908014, 0x10000, 8, 0x4, 1,
    [⟨F.WIT_EPOCH_GO.NEW, .w1s, 0, .any⟩, ⟨F.WIT_EPOCH_GO.RESEND, .w1s, 0, .any⟩]⟩,
  ⟨0x20908018, 0x10000, 8, 0x4, 1,
    [⟨F.WIT_TIMERS.T_REPLAY, .rw, 100, .range 10 1000⟩, ⟨F.WIT_TIMERS.T_GLAG, .rw, 10, .range 1 1000⟩]⟩,
  ⟨0x20908020, 0x10000, 8, 0x4, 1,
    [⟨F.WIT_SAMPLE_BASE.ADDR, .rw, 0, .any⟩]⟩,
  ⟨0x20908024, 0x10000, 8, 0x4, 1,
    [⟨F.WIT_SAMPLE_SIZE.MIB, .rw, 0, .range 0 8192⟩]⟩,
  ⟨0x20908040, 0x10000, 8, 0x4, 1,
    [⟨F.WIT_STAT.MODE_NOW, .ro, 0, .any⟩, ⟨F.WIT_STAT.LAG_NOW, .ro, 2, .any⟩, ⟨F.WIT_STAT.SHIFT_NOW, .ro, 12, .any⟩, ⟨F.WIT_STAT.FAULTED, .ro, 0, .any⟩, ⟨F.WIT_STAT.CHANGE_PENDING, .ro, 0, .any⟩, ⟨F.WIT_STAT.SUSPECT_TILES, .ro, 0, .any⟩, ⟨F.WIT_STAT.REPLAY_OUT, .ro, 0, .any⟩]⟩]
def rowsWIT4 : List RegRow := [
  ⟨0x20908044, 0x10000, 8, 0x4, 1,
    [⟨F.WIT_SEALED_LO.STEP, .ro, 0, .any⟩]⟩,
  ⟨0x20908048, 0x10000, 8, 0x4, 1,
    [⟨F.WIT_SEALED_HI.STEP, .ro, 0, .any⟩, ⟨F.WIT_SEALED_HI.VALID, .ro, 0, .any⟩]⟩,
  ⟨0x2090804C, 0x10000, 8, 0x4, 1,
    [⟨F.WIT_OPENED_LO.STEP, .ro, 0, .any⟩]⟩,
  ⟨0x20908050, 0x10000, 8, 0x4, 1,
    [⟨F.WIT_OPENED_HI.STEP, .ro, 0, .any⟩]⟩,
  ⟨0x20908060, 0x10000, 8, 0x4, 1,
    [⟨F.WIT_CSUM_CNT.COUNT, .ro, 0, .any⟩]⟩,
  ⟨0x20908064, 0x10000, 8, 0x4, 1,
    [⟨F.WIT_CSUM_FAIL.COUNT, .ro, 0, .any⟩]⟩,
  ⟨0x20908068, 0x10000, 8, 0x4, 1,
    [⟨F.WIT_SAMPLE_CNT.COUNT, .ro, 0, .any⟩]⟩,
  ⟨0x2090806C, 0x10000, 8, 0x4, 1,
    [⟨F.WIT_SAMPLE_FAIL.COUNT, .ro, 0, .any⟩]⟩,
  ⟨0x20908070, 0x10000, 8, 0x4, 1,
    [⟨F.WIT_SEAL_CNT.COUNT, .ro, 0, .any⟩]⟩,
  ⟨0x20908074, 0x10000, 8, 0x4, 1,
    [⟨F.WIT_LAG_HOLD_CNT.COUNT, .ro, 0, .any⟩]⟩,
  ⟨0x20908078, 0x10000, 8, 0x4, 1,
    [⟨F.WIT_SUSPECT_CNT.COUNT, .ro, 0, .any⟩]⟩,
  ⟨0x2090807C, 0x10000, 8, 0x4, 1,
    [⟨F.WIT_JOB_FAULT_CNT.COUNT, .ro, 0, .any⟩]⟩]
def rowsWIT5 : List RegRow := [
  ⟨0x20908080, 0x10000, 8, 0x4, 1,
    [⟨F.WIT_PRED_FAULT_CNT.COUNT, .ro, 0, .any⟩]⟩,
  ⟨0x20908084, 0x10000, 8, 0x4, 1,
    [⟨F.WIT_VOID_CNT.COUNT, .ro, 0, .any⟩]⟩,
  ⟨0x20908088, 0x10000, 8, 0x4, 1,
    [⟨F.WIT_GLAG_CNT.COUNT, .ro, 0, .any⟩]⟩,
  ⟨0x2090808C, 0x10000, 8, 0x4, 1,
    [⟨F.WIT_REPLAY_CSUM_FAIL.COUNT, .ro, 0, .any⟩]⟩,
  ⟨0x209080A0, 0x10000, 8, 0x4, 1,
    [⟨F.WIT_VERDICT0.VERDICT, .ro, 0, .any⟩, ⟨F.WIT_VERDICT0.ORIG_SLICE, .ro, 0, .any⟩, ⟨F.WIT_VERDICT0.RUN_SLICE, .ro, 0, .any⟩, ⟨F.WIT_VERDICT0.CLUSTER, .ro, 0, .any⟩, ⟨F.WIT_VERDICT0.SAME_SLICE, .ro, 0, .any⟩]⟩,
  ⟨0x209080A4, 0x10000, 8, 0x4, 1,
    [⟨F.WIT_VERDICT1.TILE_ID, .ro, 0, .any⟩]⟩,
  ⟨0x209080A8, 0x10000, 8, 0x4, 1,
    [⟨F.WIT_VERDICT2.STEP, .ro, 0, .any⟩]⟩,
  ⟨0x209080AC, 0x10000, 8, 0x4, 1,
    [⟨F.WIT_VERDICT3.STEP_HI, .ro, 0, .any⟩, ⟨F.WIT_VERDICT3.EPOCH, .ro, 0, .any⟩]⟩,
  ⟨0x20908100, 0x10000, 8, 0x4, 11,
    [⟨F.WIT_TOL.U_EXP, .rw, 24, .zeroOr 8 53⟩, ⟨F.WIT_TOL.C_FMT, .rw, 2, .any⟩, ⟨F.WIT_TOL.FLOOR_EXP, .rw, 94, .zeroOr 1 149⟩]⟩,
  ⟨0x2090812C, 0x10000, 8, 0x4, 21,
    [⟨F.WIT_TOL.U_EXP, .rw, 0, .zeroOr 8 53⟩, ⟨F.WIT_TOL.C_FMT, .rw, 0, .any⟩, ⟨F.WIT_TOL.FLOOR_EXP, .rw, 0, .zeroOr 1 149⟩]⟩,
  ⟨0x20908200, 0x10000, 8, 0x4, 8,
    [⟨F.WIT_LEDGER.DATA, .ro, 0, .any⟩]⟩,
  ⟨0x20908220, 0x10000, 8, 0x4, 1,
    [⟨F.WIT_LEDGER_CNT.COUNT, .ro, 0, .any⟩]⟩]
def rowsWIT6 : List RegRow := [
  ⟨0x20908224, 0x10000, 8, 0x4, 1,
    [⟨F.WIT_LEDGER_POP.POP, .wo, 0, .any⟩]⟩,
  ⟨0x20908240, 0x10000, 8, 0x4, 4,
    [⟨F.WIT_EVENT.DATA, .ro, 0, .any⟩]⟩,
  ⟨0x20908250, 0x10000, 8, 0x4, 1,
    [⟨F.WIT_EVENT_CNT.COUNT, .ro, 0, .any⟩]⟩,
  ⟨0x20908254, 0x10000, 8, 0x4, 1,
    [⟨F.WIT_EVENT_POP.POP, .wo, 0, .any⟩]⟩,
  ⟨0x20908400, 0x10000, 8, 0x4, 1,
    [⟨F.WIT_STN_BASE.ADDR, .rw, 0, .any⟩]⟩,
  ⟨0x20908404, 0x10000, 8, 0x4, 1,
    [⟨F.WIT_STN_SIZE.MIB, .rw, 0, .range 0 1024⟩]⟩,
  ⟨0x20908408, 0x10000, 8, 0x4, 1,
    [⟨F.WIT_STN_STAT.RUNNING, .ro, 0, .any⟩, ⟨F.WIT_STN_STAT.OUTCOME, .ro, 0, .any⟩, ⟨F.WIT_STN_STAT.SLOT, .ro, 0, .any⟩, ⟨F.WIT_STN_STAT.SLICE, .ro, 0, .any⟩]⟩,
  ⟨0x2090840C, 0x10000, 8, 0x4, 1,
    [⟨F.WIT_STN_RUN_ID.RUN_ID, .ro, 0, .any⟩]⟩,
  ⟨0x20908410, 0x10000, 8, 0x4, 1,
    [⟨F.WIT_STN_MISMATCH.COUNT, .ro, 0, .any⟩]⟩,
  ⟨0x20908414, 0x10000, 8, 0x4, 1,
    [⟨F.WIT_STN_PASS_CNT.COUNT, .ro, 0, .any⟩]⟩,
  ⟨0x20908418, 0x10000, 8, 0x4, 1,
    [⟨F.WIT_STN_FAIL_CNT.COUNT, .ro, 0, .any⟩]⟩,
  ⟨0x2090841C, 0x10000, 8, 0x4, 1,
    [⟨F.WIT_STN_OTHER_CNT.COUNT, .ro, 0, .any⟩]⟩]
def rowsWIT7 : List RegRow := [
  ⟨0x20908420, 0x10000, 8, 0x4, 1,
    [⟨F.WIT_HEALTH.BAY_HEALTH, .ro, 0, .any⟩, ⟨F.WIT_HEALTH.ACTIVE, .ro, 0, .any⟩, ⟨F.WIT_HEALTH.SLICES_MIN, .ro, 0, .any⟩]⟩,
  ⟨0x20908800, 0x10000, 8, 0x4, 64,
    [⟨F.WIT_UNIT.STATE, .ro, 7, .any⟩, ⟨F.WIT_UNIT.DISABLED, .ro, 0, .any⟩, ⟨F.WIT_UNIT.TIMEOUTS, .ro, 0, .any⟩, ⟨F.WIT_UNIT.FAULTS, .ro, 0, .any⟩, ⟨F.WIT_UNIT.PASSES, .ro, 0, .any⟩]⟩,
  ⟨0x20908A00, 0x10000, 8, 0x8, 64,
    [⟨F.WIT_UNITID_LO.UNIT_ID, .ro, 0, .any⟩]⟩,
  ⟨0x20908A04, 0x10000, 8, 0x8, 64,
    [⟨F.WIT_UNITID_HI.UNIT_ID, .ro, 0, .any⟩]⟩]

/-- The registers of block 9 (WIT). -/
def rowsWIT : List RegRow := rowsWIT0 ++ rowsWIT1 ++ rowsWIT2 ++ rowsWIT3 ++ rowsWIT4 ++ rowsWIT5 ++ rowsWIT6 ++ rowsWIT7

def rowsTWIN0 : List RegRow := [
  ⟨0x20A00000, 0x10000, 1, 0x4, 1,
    [⟨F.TWIN_STATUS.ROLE, .ro, 0, .any⟩, ⟨F.TWIN_STATUS.PAIR_MODE, .ro, 0, .any⟩, ⟨F.TWIN_STATUS.PAIR_ID, .ro, 0, .any⟩, ⟨F.TWIN_STATUS.JOINED, .ro, 0, .any⟩, ⟨F.TWIN_STATUS.LINK, .ro, 0, .any⟩, ⟨F.TWIN_STATUS.PIN, .ro, 0, .any⟩, ⟨F.TWIN_STATUS.SOLO, .ro, 0, .any⟩, ⟨F.TWIN_STATUS.PARTNER_ROLE, .ro, 0, .any⟩, ⟨F.TWIN_STATUS.PARTNER_JOINED, .ro, 0, .any⟩, ⟨F.TWIN_STATUS.SUSPENDED, .ro, 0, .any⟩, ⟨F.TWIN_STATUS.LANES, .ro, 0, .any⟩]⟩,
  ⟨0x20A00004, 0x10000, 1, 0x4, 1,
    [⟨F.TWIN_CFG.T_SOLO, .rw, 100, .range 10 10000⟩]⟩,
  ⟨0x20A00008, 0x10000, 1, 0x4, 1,
    [⟨F.TWIN_CTL.SWAP, .wo, 0, .any⟩, ⟨F.TWIN_CTL.STAND_ASIDE, .rw, 0, .any⟩, ⟨F.TWIN_CTL.KEY, .wo, 0, .any⟩]⟩,
  ⟨0x20A0000C, 0x10000, 1, 0x4, 1,
    [⟨F.TWIN_EVENT.ROLE_CHANGE, .w1c, 0, .any⟩, ⟨F.TWIN_EVENT.PARTNER_LOST, .w1c, 0, .any⟩, ⟨F.TWIN_EVENT.PARTNER_JOINED, .w1c, 0, .any⟩, ⟨F.TWIN_EVENT.TWIN_DOWN, .w1c, 0, .any⟩, ⟨F.TWIN_EVENT.TWIN_UP, .w1c, 0, .any⟩, ⟨F.TWIN_EVENT.ACK_LOST, .w1c, 0, .any⟩, ⟨F.TWIN_EVENT.DISAGREE, .w1c, 0, .any⟩, ⟨F.TWIN_EVENT.VIN_DISAGREE, .w1c, 0, .any⟩, ⟨F.TWIN_EVENT.SOLO_SEAL, .w1c, 0, .any⟩, ⟨F.TWIN_EVENT.ID_CLASH, .w1c, 0, .any⟩]⟩,
  ⟨0x20A00010, 0x10000, 1, 0x4, 1,
    [⟨F.TWIN_ROUTE.EVT_CORE, .rw, 0, .any⟩, ⟨F.TWIN_ROUTE.EVT_EN, .rw, 0, .any⟩]⟩,
  ⟨0x20A00020, 0x10000, 1, 0x4, 1,
    [⟨F.TWIN_TAKEOVER_CNT.COUNT, .ro, 0, .any⟩]⟩,
  ⟨0x20A00024, 0x10000, 1, 0x4, 1,
    [⟨F.TWIN_ACK_LOST_CNT.COUNT, .ro, 0, .any⟩]⟩,
  ⟨0x20A00028, 0x10000, 1, 0x4, 1,
    [⟨F.TWIN_DISAGREE_CNT.COUNT, .ro, 0, .any⟩]⟩,
  ⟨0x20A0002C, 0x10000, 1, 0x4, 1,
    [⟨F.TWIN_SOLO_SEAL_CNT.COUNT, .ro, 0, .any⟩]⟩,
  ⟨0x20A00030, 0x10000, 1, 0x4, 1,
    [⟨F.TWIN_BAD_CNT.COUNT, .ro, 0, .any⟩]⟩]

/-- The registers of block 10 (TWIN). -/
def rowsTWIN : List RegRow := rowsTWIN0

def rowsMEM0 : List RegRow := [
  ⟨0x20B00000, 0x10000, 16, 0x4, 1,
    [⟨F.MC_STATUS.STATE, .ro, 0, .any⟩, ⟨F.MC_STATUS.CH0_LOST, .w1c, 0, .any⟩, ⟨F.MC_STATUS.CH1_LOST, .w1c, 0, .any⟩]⟩,
  ⟨0x20B00004, 0x10000, 16, 0x4, 1,
    [⟨F.MC_EVENT.CE_RATE, .w1c, 0, .any⟩, ⟨F.MC_EVENT.UE, .w1c, 0, .any⟩, ⟨F.MC_EVENT.PARITY, .w1c, 0, .any⟩, ⟨F.MC_EVENT.SCRUB_LATE, .w1c, 0, .any⟩, ⟨F.MC_EVENT.DESC_DONE, .w1c, 0, .any⟩, ⟨F.MC_EVENT.WIN_DONE, .w1c, 0, .any⟩, ⟨F.MC_EVENT.QFULL, .w1c, 0, .any⟩]⟩,
  ⟨0x20B00008, 0x10000, 16, 0x4, 1,
    [⟨F.MC_ROUTE.EVT_CORE, .rw, 0, .any⟩, ⟨F.MC_ROUTE.EVT_EN, .rw, 0, .any⟩]⟩,
  ⟨0x20B00010, 0x10000, 16, 0x4, 2,
    [⟨F.MC_CE_CNT.COUNT, .ro, 0, .any⟩]⟩,
  ⟨0x20B00018, 0x10000, 16, 0x4, 2,
    [⟨F.MC_UE_CNT.COUNT, .ro, 0, .any⟩]⟩,
  ⟨0x20B00020, 0x10000, 16, 0x4, 1,
    [⟨F.MC_PAR_CNT.COUNT, .ro, 0, .any⟩]⟩,
  ⟨0x20B00024, 0x10000, 16, 0x4, 1,
    [⟨F.MC_ERR_ADDR_LO.ADDR, .ro, 0, .any⟩]⟩,
  ⟨0x20B00028, 0x10000, 16, 0x4, 1,
    [⟨F.MC_ERR_ADDR_HI.ADDR, .ro, 0, .any⟩, ⟨F.MC_ERR_ADDR_HI.VALID, .ro, 0, .any⟩]⟩,
  ⟨0x20B0002C, 0x10000, 16, 0x4, 1,
    [⟨F.MC_ERR_INFO.KIND, .ro, 0, .any⟩, ⟨F.MC_ERR_INFO.CHANNEL, .ro, 0, .any⟩, ⟨F.MC_ERR_INFO.RANK, .ro, 0, .any⟩, ⟨F.MC_ERR_INFO.BY_SCRUB, .ro, 0, .any⟩]⟩,
  ⟨0x20B00030, 0x10000, 16, 0x4, 1,
    [⟨F.MC_CE_THRESH.LIMIT, .rw, 256, .range 1 65535⟩]⟩,
  ⟨0x20B00034, 0x10000, 16, 0x4, 1,
    [⟨F.MC_SCRUB_CFG.PERIOD_H, .rw, 24, .range 4 72⟩]⟩,
  ⟨0x20B00038, 0x10000, 16, 0x4, 1,
    [⟨F.MC_SCRUB_POS.LINES, .ro, 0, .any⟩]⟩]
def rowsMEM1 : List RegRow := [
  ⟨0x20B0003C, 0x10000, 16, 0x4, 1,
    [⟨F.MC_SCRUB_PASSES.COUNT, .ro, 0, .any⟩]⟩,
  ⟨0x20B00040, 0x10000, 16, 0x4, 1,
    [⟨F.TRW_DQ_ADDR_LO.ADDR, .rw, 0, .mult64⟩]⟩,
  ⟨0x20B00044, 0x10000, 16, 0x4, 1,
    [⟨F.TRW_DQ_ADDR_HI.ADDR, .rw, 0, .any⟩]⟩,
  ⟨0x20B00048, 0x10000, 16, 0x4, 1,
    [⟨F.TRW_DQ_GO.GO, .wo, 0, .any⟩]⟩,
  ⟨0x20B0004C, 0x10000, 16, 0x4, 1,
    [⟨F.TRW_DQ_STAT.PENDING, .ro, 0, .any⟩, ⟨F.TRW_DQ_STAT.BUSY, .ro, 0, .any⟩]⟩,
  ⟨0x20B01000, 0x10000, 16, 0x40, 4,
    [⟨F.TW_CTL.OP, .rw, 0, .any⟩, ⟨F.TW_CTL.ARM, .w1s, 0, .any⟩, ⟨F.TW_CTL.CLOSE, .w1s, 0, .any⟩, ⟨F.TW_CTL.IRQ, .rw, 0, .any⟩, ⟨F.TW_CTL.FMT, .rw, 0, .any⟩, ⟨F.TW_CTL.TOL_ULP, .rw, 0, .any⟩, ⟨F.TW_CTL.REJECT, .ro, 0, .any⟩]⟩,
  ⟨0x20B01004, 0x10000, 16, 0x40, 4,
    [⟨F.TW_BASE_LO.ADDR, .rw, 0, .any⟩]⟩,
  ⟨0x20B01008, 0x10000, 16, 0x40, 4,
    [⟨F.TW_BASE_HI.ADDR, .rw, 0, .any⟩]⟩,
  ⟨0x20B0100C, 0x10000, 16, 0x40, 4,
    [⟨F.TW_LEN.LINES, .rw, 0, .any⟩]⟩,
  ⟨0x20B01010, 0x10000, 16, 0x40, 4,
    [⟨F.TW_PARAM_LO.ADDR, .rw, 0, .any⟩]⟩,
  ⟨0x20B01014, 0x10000, 16, 0x40, 4,
    [⟨F.TW_PARAM_HI.ADDR, .rw, 0, .any⟩]⟩,
  ⟨0x20B01018, 0x10000, 16, 0x40, 4,
    [⟨F.TW_MAP_LO.ADDR, .rw, 0, .any⟩]⟩]
def rowsMEM2 : List RegRow := [
  ⟨0x20B0101C, 0x10000, 16, 0x40, 4,
    [⟨F.TW_MAP_HI.ADDR, .rw, 0, .any⟩]⟩,
  ⟨0x20B01020, 0x10000, 16, 0x40, 4,
    [⟨F.TW_GEOM.ROWS_M1, .rw, 0, .any⟩]⟩,
  ⟨0x20B01024, 0x10000, 16, 0x40, 4,
    [⟨F.TW_ROW_BYTES.BYTES, .rw, 0, .any⟩]⟩,
  ⟨0x20B01028, 0x10000, 16, 0x40, 4,
    [⟨F.TW_STATUS.ARMED, .ro, 0, .any⟩, ⟨F.TW_STATUS.COMPLETE, .ro, 0, .any⟩, ⟨F.TW_STATUS.CLOSED, .ro, 0, .any⟩, ⟨F.TW_STATUS.OVER, .ro, 0, .any⟩, ⟨F.TW_STATUS.POISON, .ro, 0, .any⟩]⟩,
  ⟨0x20B0102C, 0x10000, 16, 0x40, 4,
    [⟨F.TW_COVERED_LO.BYTES, .ro, 0, .any⟩]⟩,
  ⟨0x20B01030, 0x10000, 16, 0x40, 4,
    [⟨F.TW_COVERED_HI.BYTES, .ro, 0, .any⟩]⟩,
  ⟨0x20B01034, 0x10000, 16, 0x40, 4,
    [⟨F.TW_RESULT.VALUE, .ro, 0, .any⟩]⟩]

/-- The registers of block 11 (MEM). -/
def rowsMEM : List RegRow := rowsMEM0 ++ rowsMEM1 ++ rowsMEM2

def rowsGAL0 : List RegRow := [
  ⟨0x20C00000, 0x10000, 12, 0x4, 1,
    [⟨F.ENG_CTL.START, .wo, 0, .any⟩, ⟨F.ENG_CTL.STOP, .wo, 0, .any⟩, ⟨F.ENG_CTL.KILL, .wo, 0, .any⟩, ⟨F.ENG_CTL.PEND, .ro, 0, .any⟩, ⟨F.ENG_CTL.ENTRY, .rw, 0, .any⟩]⟩,
  ⟨0x20C00004, 0x10000, 12, 0x4, 1,
    [⟨F.ENG_STATUS.STATE, .ro, 0, .any⟩, ⟨F.ENG_STATUS.PROG_VALID, .ro, 0, .any⟩, ⟨F.ENG_STATUS.TOFF_RUNNING, .ro, 0, .any⟩, ⟨F.ENG_STATUS.START_REJ, .w1c, 0, .any⟩, ⟨F.ENG_STATUS.START_CNT, .ro, 0, .any⟩]⟩,
  ⟨0x20C00008, 0x10000, 12, 0x4, 1,
    [⟨F.ENG_FAULT.CAUSE, .ro, 0, .any⟩, ⟨F.ENG_FAULT.PC, .ro, 0, .any⟩, ⟨F.ENG_FAULT.FAULT_CNT, .ro, 0, .any⟩]⟩,
  ⟨0x20C0000C, 0x10000, 12, 0x4, 1,
    [⟨F.ENG_TOFF.T_OFF_MIN, .rw, 200, .range 50 6000⟩]⟩,
  ⟨0x20C00010, 0x10000, 12, 0x4, 1,
    [⟨F.ENG_MBOX_IN.DATA, .wo, 0, .any⟩]⟩,
  ⟨0x20C00014, 0x10000, 12, 0x4, 1,
    [⟨F.ENG_MBOX_OUT.DATA, .ro, 0, .any⟩]⟩,
  ⟨0x20C00018, 0x10000, 12, 0x4, 1,
    [⟨F.ENG_MBOX_STATUS.OUT_CNT, .ro, 0, .any⟩, ⟨F.ENG_MBOX_STATUS.IN_SPACE, .ro, 16, .any⟩, ⟨F.ENG_MBOX_STATUS.LAST_TAG, .ro, 0, .any⟩, ⟨F.ENG_MBOX_STATUS.IN_LOST, .w1c, 0, .any⟩]⟩,
  ⟨0x20C0001C, 0x10000, 12, 0x4, 1,
    [⟨F.ENG_ROUTE.MBX_CORE, .rw, 0, .any⟩, ⟨F.ENG_ROUTE.MBX_EN, .rw, 0, .any⟩, ⟨F.ENG_ROUTE.EVT_CORE, .rw, 0, .any⟩, ⟨F.ENG_ROUTE.EVT_EN, .rw, 0, .any⟩]⟩,
  ⟨0x20C00020, 0x10000, 12, 0x4, 1,
    [⟨F.ENG_PROG_VERSION.VERSION, .rw, 0, .any⟩]⟩,
  ⟨0x20C00024, 0x10000, 12, 0x4, 1,
    [⟨F.ENG_PROG_CRC.CRC, .rw, 0, .any⟩]⟩,
  ⟨0x20C00028, 0x10000, 12, 0x4, 1,
    [⟨F.ENG_PROG_INFO.CODE_LEN, .rw, 0, .any⟩, ⟨F.ENG_PROG_INFO.VAR_COUNT, .rw, 0, .any⟩, ⟨F.ENG_PROG_INFO.ENTRY_MASK, .rw, 0, .any⟩]⟩,
  ⟨0x20C0002C, 0x10000, 12, 0x4, 1,
    [⟨F.ENG_WDOG.PERIOD, .rw, 100, .any⟩]⟩]
def rowsGAL1 : List RegRow := [
  ⟨0x20C00040, 0x10000, 12, 0x4, 8,
    [⟨F.ENG_ENTRY.INDEX, .rw, 0, .any⟩]⟩,
  ⟨0x20C00038, 0x10000, 12, 0x4, 1,
    [⟨F.ENG_LOAD_HDR.ENGINE_TYPE, .rw, 0, .any⟩, ⟨F.ENG_LOAD_HDR.PROFILE, .rw, 0, .any⟩, ⟨F.ENG_LOAD_HDR.INSTANCE_MASK, .rw, 0, .any⟩]⟩,
  ⟨0x20C00030, 0x10000, 12, 0x4, 1,
    [⟨F.ENG_LOAD_CTL.OPEN, .wo, 0, .any⟩, ⟨F.ENG_LOAD_CTL.COMMIT, .wo, 0, .any⟩]⟩,
  ⟨0x20C00034, 0x10000, 12, 0x4, 1,
    [⟨F.ENG_LOAD_STATUS.REJECT, .ro, 0, .any⟩, ⟨F.ENG_LOAD_STATUS.OPEN, .ro, 0, .any⟩]⟩,
  ⟨0x20C05000, 0x10000, 12, 0x4, 1,
    [⟨F.GC_STATUS.HEALTH, .ro, 0, .any⟩, ⟨F.GC_STATUS.BUSY, .ro, 0, .any⟩, ⟨F.GC_STATUS.CHECKING, .ro, 0, .any⟩, ⟨F.GC_STATUS.BLAMES, .ro, 0, .any⟩, ⟨F.GC_STATUS.OBS_PASSES, .ro, 0, .any⟩]⟩,
  ⟨0x20C05004, 0x10000, 12, 0x4, 1,
    [⟨F.GC_DISP_CNT.COUNT, .ro, 0, .any⟩]⟩,
  ⟨0x20C05008, 0x10000, 12, 0x4, 1,
    [⟨F.GC_KAT_CNT.COUNT, .ro, 0, .any⟩]⟩,
  ⟨0x20C0500C, 0x10000, 12, 0x4, 1,
    [⟨F.GC_KAT_FAIL.COUNT, .ro, 0, .any⟩]⟩,
  ⟨0x20C05010, 0x10000, 12, 0x4, 1,
    [⟨F.GC_BLAME_CNT.COUNT, .ro, 0, .any⟩]⟩,
  ⟨0x20C05014, 0x10000, 12, 0x4, 1,
    [⟨F.GC_ABORT_CNT.COUNT, .ro, 0, .any⟩]⟩,
  ⟨0x20C05018, 0x10000, 12, 0x4, 1,
    [⟨F.GC_RANGE_CNT.COUNT, .ro, 0, .any⟩]⟩,
  ⟨0x20C0501C, 0x10000, 12, 0x4, 1,
    [⟨F.GC_LANE_LAST.LANE, .ro, 0, .any⟩, ⟨F.GC_LANE_LAST.CLASS, .ro, 0, .any⟩]⟩]
def rowsGAL2 : List RegRow := [
  ⟨0x20C05040, 0x10000, 12, 0x4, 16,
    [⟨F.GC_OBS.LANES, .ro, 0, .any⟩]⟩,
  ⟨0x20CC0000, 0x10000, 1, 0x4, 1,
    [⟨F.GAL_FENCED.FENCED, .ro, 0, .any⟩]⟩,
  ⟨0x20CC0004, 0x10000, 1, 0x4, 1,
    [⟨F.GAL_FENCE.FENCE, .w1s, 0, .any⟩]⟩,
  ⟨0x20CC0008, 0x10000, 1, 0x4, 1,
    [⟨F.GAL_UNFENCE.UNFENCE, .w1s, 0, .any⟩]⟩,
  ⟨0x20CC000C, 0x10000, 1, 0x4, 1,
    [⟨F.GAL_CFG.T_GDISP, .rw, 500, .range 10 5000⟩, ⟨F.GAL_CFG.OBS_CLEAR, .rw, 600, .range 10 1000⟩]⟩,
  ⟨0x20CC0010, 0x10000, 1, 0x4, 1,
    [⟨F.GAL_CHANGE.CHANGED, .w1c, 0, .any⟩, ⟨F.GAL_CHANGE.UNFENCE_REJ, .w1c, 0, .any⟩, ⟨F.GAL_CHANGE.EMPTY, .w1c, 0, .any⟩]⟩,
  ⟨0x20CC0014, 0x10000, 1, 0x4, 1,
    [⟨F.GAL_LATE_CNT.COUNT, .ro, 0, .any⟩]⟩,
  ⟨0x20CC0018, 0x10000, 1, 0x4, 1,
    [⟨F.GAL_EXPOSED_CNT.COUNT, .ro, 0, .any⟩]⟩,
  ⟨0x20CC001C, 0x10000, 1, 0x4, 1,
    [⟨F.GAL_WITHDRAWN_CNT.COUNT, .ro, 0, .any⟩]⟩]

/-- The registers of block 12 (GAL). -/
def rowsGAL : List RegRow := rowsGAL0 ++ rowsGAL1 ++ rowsGAL2

def rowsISLE0 : List RegRow := [
  ⟨0x20D00000, 0x10000, 1, 0x4, 1,
    [⟨F.ISLE_INFO.ISLAND_COUNT, .ro, 100, .any⟩, ⟨F.ISLE_INFO.GEN, .ro, 1, .any⟩]⟩,
  ⟨0x20D00004, 0x10000, 1, 0x4, 1,
    [⟨F.ISLE_REFCLK.PRESENT, .ro, 0, .any⟩, ⟨F.ISLE_REFCLK.LOST, .w1c, 0, .any⟩, ⟨F.ISLE_REFCLK.LOSS_CNT, .ro, 0, .any⟩]⟩,
  ⟨0x20D00100, 0x10000, 1, 0x4, 100,
    [⟨F.ISLE_ENTRY.STATE, .ro, 1, .any⟩, ⟨F.ISLE_ENTRY.UNDERCOAT, .ro, 0, .any⟩, ⟨F.ISLE_ENTRY.GROUP, .ro, 0, .any⟩, ⟨F.ISLE_ENTRY.TRIMMED, .ro, 0, .any⟩, ⟨F.ISLE_ENTRY.FREQ_DEV, .ro, 0, .any⟩, ⟨F.ISLE_ENTRY.RESTART_CNT, .ro, 0, .any⟩]⟩]

/-- The registers of block 13 (ISLE). -/
def rowsISLE : List RegRow := rowsISLE0

/-- The rows of block b (R578); blocks 0x0E and up are reserved. -/
def rowsOfBlock : Nat → List RegRow
  | 0 => rowsUCR
  | 1 => rowsSEQ
  | 2 => rowsCOOL
  | 3 => rowsMOT
  | 4 => rowsBUS
  | 5 => rowsIO
  | 6 => rowsSEC
  | 7 => rowsFLASH
  | 8 => rowsETH
  | 9 => rowsWIT
  | 10 => rowsTWIN
  | 11 => rowsMEM
  | 12 => rowsGAL
  | 13 => rowsISLE
  | _ => []

/-- The block number of a control-window address (R578). -/
def blockOf (a : Nat) : Nat := (a - 0x20000000) / 0x100000

/-- Address a is one of the row's registers. -/
def RegRow.holds (r : RegRow) (a : Nat) : Bool :=
  let o := a - r.base
  decide (r.base ≤ a) && decide (o / r.s1 < r.n1) && decide (o % r.s1 % r.s2 = 0) && decide (o % r.s1 / r.s2 < r.n2)

/-- The row of the register at address a; none where no table assigns the offset (R580). -/
def regRowAt (a : Nat) : Option RegRow :=
  if a < 0x20000000 then none else (rowsOfBlock (blockOf a)).find? (fun r => r.holds a)

/-- The group of an island (R14): bay n, or 8 for the commons. -/
def groupOf (i : Nat) : Nat :=
  if 1 ≤ i ∧ i ≤ 8 then i - 1 else if 53 ≤ i ∧ i ≤ 60 then i - 53 else if 61 ≤ i ∧ i ≤ 68 then i - 61 else 8

/-- The value of a row's word when every field is at its reset value. -/
def rowReset : List FieldRow → Nat
  | [] => 0
  | f :: l => f.reset * 2 ^ f.fld.lo + rowReset l

/-- The reset value of the register at an address (R8, R582): the table's, with the fixed fields of the island map
(R14, R17).  Straps and derived values are latched by `State.reset` and the restart operations. -/
def regReset (a : Nat) : BitVec 32 :=
  match regRowAt a with
  | none => 0#32
  | some r =>
    if r.base = 0x20D00100 then
      let i := (a - 0x20D00100) / 4
      BitVec.ofNat 32 (rowReset r.fields + (if i < 39 then 16 else 0) + 256 * groupOf i)
    else BitVec.ofNat 32 (rowReset r.fields)

/-- The island that holds the register at an address (R578, R579). -/
def islandOf (a : Nat) : Nat :=
  let o := a - 0x20000000
  let w := o % 0x100000 / 0x10000
  let q := o % 0x10000
  match o / 0x100000 with
  | 1 => if w = 8 ∧ 0x5440 ≤ q ∧ q < 0x5480 then 25 else 1 + w
  | 2 => if w < 2 then 10 + w else if 0x400 ≤ q then 25 else 10
  | 3 => 12 + w
  | 4 => 26 + w
  | 5 => 38
  | 6 => if q < 0x8000 then 39 else 41
  | 7 => if 0xA100 ≤ q ∧ q < 0xA180 ∧ q % 16 = 0 then 0 else 47
  | 8 => 48
  | 9 => if 0x5000 ≤ q ∧ q < 0x8000 then 53 + w else 61 + w
  | 10 => 71
  | 11 => 72 + w
  | 12 => if w = 12 ∨ q = 0x5000 ∨ q = 0x5010 ∨ q = 0x501C ∨ (0x5040 ≤ q ∧ q < 0x5080) then 0 else 88 + w
  | _ => 0

/-- A value is within a field's range (R9, R395). -/
def Limit.admits (l : Limit) (v : Nat) : Bool :=
  match l with
  | .any => true
  | .range lo hi => decide (lo ≤ v ∧ v ≤ hi)
  | .zeroOr lo hi => decide (v = 0 ∨ (lo ≤ v ∧ v ≤ hi))
  | .oneOf l => l.contains v
  | .mult64 => decide (v % 64 = 0)
  | .pSlot => decide (v < 60 ∨ (63 < v ∧ v < 112) ∨ v = 127)

end Sys2Proof.Machine
end

