-- ==== Sys2Proof/Machine/Sparse.lean ====
section
/-! DEFINITION. Sparse tables of (address, value) pairs in one canonical form: addresses strictly rising, and no
entry equal to what an unlisted address reads as. -/

namespace Sys2Proof.Machine

variable {α : Type}

/-- What address a reads as, where an unlisted address reads as d. -/
def sparseGet (d : α) : List (Nat × α) → Nat → α
  | [], _ => d
  | p :: l, a => if p.1 = a then p.2 else sparseGet d l a

/-- The table without address a. -/
def sparseErase (a : Nat) : List (Nat × α) → List (Nat × α)
  | [] => []
  | p :: l => if p.1 = a then sparseErase a l else p :: sparseErase a l

/-- The table with (a, v) put before the first higher address. -/
def sparseInsert (a : Nat) (v : α) : List (Nat × α) → List (Nat × α)
  | [] => [(a, v)]
  | p :: l => if a < p.1 then (a, v) :: p :: l else p :: sparseInsert a v l

/-- The table after a write of v to a, where an unlisted address reads as d. -/
def sparseSet [DecidableEq α] (d : α) (l : List (Nat × α)) (a : Nat) (v : α) : List (Nat × α) :=
  if v = d then sparseErase a l else sparseInsert a v (sparseErase a l)

/-- Addresses strictly rising, all above lo. -/
def risingFrom : Nat → List (Nat × α) → Bool
  | _, [] => true
  | lo, p :: l => decide (lo ≤ p.1) && risingFrom (p.1 + 1) l

/-- The canonical form: addresses strictly rising, and no entry equal to what its address reads as unlisted. -/
def sparseWf [DecidableEq α] (d : Nat → α) (l : List (Nat × α)) : Bool :=
  risingFrom 0 l && l.all (fun p => decide (p.2 ≠ d p.1))

end Sys2Proof.Machine
end

