-- ==== Sys2Proof/Machine/State.lean ====
section
/-! DEFINITION. The state of the block: every register, memory, queue, mode and pin the manual gives the TS-1608, and
the queue of waiting commands; plain data. The reset state. -/

namespace Sys2Proof.Machine

/-- Byte-addressed memory: rising addresses, no entry equal to 0, which an unlisted address reads as
(R296 for LPDDR4X; assumption log 7 for the rest). -/
abbrev Mem := List Host.Cell

/-- The canonical form of a memory. -/
abbrev Memory.wf (m : Mem) : Bool := sparseWf (fun _ => 0#8) m

/-- The control-window registers: rising addresses, no entry equal to the reset value of its address. -/
abbrev RegFile := List (Nat × BitVec 32)

/-- The canonical form of the register file. -/
abbrev RegFile.wf (r : RegFile) : Bool := sparseWf regReset r

/-! ### Programs: engines, security core, management cores (R44–R120) -/

/-- A WAIT in progress (R75, R76): the register that takes the result, the port, the condition, the mask, the value
compared by EQ, the first value read, and the timer and timeout it began with. -/
structure WaitCtx where
  rd : Nat
  port : Nat
  cond : Nat
  mask : BitVec 32
  value : BitVec 32
  first : BitVec 32
  start : Nat
  timeout : BitVec 32
  deriving DecidableEq, Repr

/-- What holds a unit between two instructions. -/
inductive Hold where
  | none
  /-- R76 -/
  | wait (w : WaitCtx)
  /-- R81: the register and the microseconds it held -/
  | sleep (rd : Nat) (us : BitVec 32)
  /-- R82 -/
  | yield
  /-- R85: a supervisor HALT waiting for an interrupt enabled in IE -/
  | halt
  /-- R552: a port write that waits for the partner's ACK -/
  | step
  deriving DecidableEq, Repr

/-- A loadable engine's program state (R44, R65, R66, R137). Its registers ENG_CTL to ENG_LOAD_HDR, its pack
variables and its program store stand in the register file, under the engine's window. -/
structure ECtx where
  /-- g0–g15; entry 0 is never read -/
  regs : Vector (BitVec 32) 16
  /-- byte address of the next instruction in the program store -/
  pc : Nat
  /-- the 4 KiB of local data -/
  data : Mem
  /-- TIMER_US -/
  timer : Nat
  hold : Hold
  mboxIn : List (BitVec 32)
  /-- outbound words with their tag bit (R84) -/
  mboxOut : List (BitVec 32 × Bool)
  xdown : Bool
  mboxLost : Bool
  xdownCnt : Nat
  cycle : Nat
  instret : Nat
  /-- the security core has released the engine (R139) -/
  released : Bool
  /-- T_off_min has still to pass before a START may act (R134, R338) -/
  toff : Bool
  deriving DecidableEq, Repr

def ECtx.reset : ECtx where
  regs := Vector.replicate 16 0#32
  pc := 0
  data := []
  timer := 0
  hold := .none
  mboxIn := []
  mboxOut := []
  xdown := false
  mboxLost := false
  xdownCnt := 0
  cycle := 0
  instret := 0
  released := false
  toff := false

/-- A management core (R44, R97). -/
structure MCtx where
  /-- g0–g31; entry 0 is never read -/
  regs : Vector (BitVec 64) 32
  pc : BitVec 64
  status : BitVec 64
  epc : BitVec 64
  cause : BitVec 64
  tval : BitVec 64
  tvec : BitVec 64
  scratch : BitVec 64
  ie : BitVec 64
  /-- IP.IPI; the other bits of IP follow from other state (R100, R586) -/
  ipi : Bool
  cycle : BitVec 64
  instret : BitVec 64
  timeUs : BitVec 64
  timecmp : BitVec 64
  wdog : BitVec 64
  patbase : BitVec 64
  pcapm : BitVec 64
  pvbase : BitVec 64
  hold : Hold
  /-- stopped by an exception while EXL was 1 (R96) -/
  stopped : Bool
  /-- one watchdog period has passed without a kick (R98) -/
  wdogOnce : Bool
  deriving DecidableEq, Repr

def MCtx.reset : MCtx where
  regs := Vector.replicate 32 0#64
  pc := 0x10000000#64
  status := 1#64
  epc := 0#64
  cause := 0#64
  tval := 0#64
  tvec := 0#64
  scratch := 0#64
  ie := 0#64
  ipi := false
  cycle := 0#64
  instret := 0#64
  timeUs := 0#64
  timecmp := 0xFFFFFFFFFFFFFFFF#64
  wdog := 0x3E8#64
  patbase := 0#64
  pcapm := 0#64
  pvbase := 0#64
  hold := .none
  stopped := false
  wdogOnce := false

/-- The region-protection unit (R103–R106). -/
structure Pru where
  base : Vector (BitVec 64) 16
  limit : Vector (BitVec 64) 16
  attr : Vector (BitVec 64) 16
  ctl : BitVec 64
  deriving DecidableEq, Repr

def Pru.reset : Pru where
  base := Vector.replicate 16 0#64
  limit := Vector.replicate 16 0#64
  attr := Vector.replicate 16 0#64
  ctl := 0#64

/-- The security core (R47, R116): an E-profile context whose `data` is its private SRAM by its 32-bit addresses,
and its four hash contexts (the eight words and the bytes absorbed). -/
structure SecCore where
  ctx : ECtx
  hash : Vector (List (BitVec 32) × Nat) 4
  stopped : Bool
  deriving DecidableEq, Repr

def SecCore.reset : SecCore where
  ctx := ECtx.reset
  hash := Vector.replicate 4 ([], 0)
  stopped := false

/-! ### Memory controllers and trowels (R293–R325) -/

/-- A controller's own state beside its registers: its timer, the times of its corrected errors (R298), the
descriptor it runs and those queued (R321). -/
structure McCtx where
  timer : Nat
  ceTimes : List Nat
  running : Option Nat
  queue : List Nat
  deriving DecidableEq, Repr

def McCtx.reset : McCtx where
  timer := 0
  ceTimes := []
  running := none
  queue := []

/-! ### Power (R327–R368) -/

/-- A sequencer's own state beside its registers: the lines its hardware asserts whatever the program holds, and whether
the safe stop is clearing its rails (R340, R342). -/
structure SeqCtx where
  hwOff : Bool
  hwPfw : Bool
  hwRst : Bool
  safeStop : Bool
  deriving DecidableEq, Repr

def SeqCtx.reset : SeqCtx where
  hwOff := false
  hwPfw := false
  hwRst := false
  safeStop := false

/-- The causes of a forced off (R351, R355). -/
inductive ForceCause where
  | vinLow | longPress | killIn
  deriving DecidableEq, Repr

/-- One hold-up record (R355): the counters are those of channels 0 to 79, four each. -/
structure HoldupRec where
  cause : Nat
  vin : Nat
  seq : Nat
  ft : Nat
  trayPwr : Nat
  baysLast : Nat
  railEn : List Nat
  railPg : List Nat
  vhold : Nat
  counters : List Nat
  torn : Bool
  deriving DecidableEq, Repr

/-- The tray's own state beside the tray registers. -/
structure TrayCtx where
  /-- the causes of the forced off in force that have not gone, and all that have joined it (R351) -/
  forceActive : List ForceCause
  forceAll : List ForceCause
  /-- steps of the clearing schedule done, 0 to 24 (R351) -/
  forceStep : Nat
  /-- a forced off is in force -/
  forced : Bool
  /-- the tray was UP or ON at the judgment (R352) -/
  trayWas : Bool
  /-- the START held or acting on SEQ8 comes from a VIN return under LAST_STATE (R346) -/
  lastStart : Bool
  /-- TRAY_KILL_N asserted by the device -/
  killOut : Bool
  /-- PWR_BTN_N judged pressed, and T_long has acted (R357) -/
  btn : Bool
  btnLong : Bool
  /-- channels whose power-cycle is requested (R348) -/
  segReq : Nat
  /-- bays the cap throttles, earliest first (R362) -/
  capOrder : List Bay
  /-- the throttle sources of each bay when its last THROTTLE was formed, as (CAUSE, target) (R363) -/
  thr : Vector (List (Nat × Nat)) 8
  /-- hold-up records being written, oldest first (R354) -/
  holdup : List HoldupRec
  /-- VIN_LOW waits for the partner to confirm it (R556) -/
  vinWait : Bool
  /-- the output gate has opened since the last full device reset (R451) -/
  gate : Bool
  deriving DecidableEq, Repr

def TrayCtx.reset : TrayCtx where
  forceActive := []
  forceAll := []
  forceStep := 0
  forced := false
  trayWas := false
  lastStart := false
  killOut := false
  btn := false
  btnLong := false
  segReq := 0
  capOrder := []
  thr := Vector.replicate 8 []
  holdup := []
  vinWait := false
  gate := false

/-! ### The witness link (R141–R186) -/

/-- The phase of a lane's training (R505). -/
inductive LanePhase where
  | quiet | detect | train | align | run
  deriving DecidableEq, Repr

/-- A DATA flit kept until it is acknowledged (R150). -/
structure TxFlit where
  fseq : Nat
  firstRec : Nat
  payload : List (BitVec 8)
  deriving DecidableEq, Repr

/-- A flit that has left on a lane (R145). -/
structure SentFlit where
  kind : Nat
  fseq : Nat
  nak : Bool
  ackValid : Bool
  ackSeq : Nat
  firstRec : Nat
  credits : Nat × Nat × Nat
  payload : List (BitVec 8)
  deriving DecidableEq, Repr

/-- A lane with its retry state (R149–R152). -/
structure LaneCtx where
  phase : LanePhase
  /-- unacknowledged DATA flits, oldest first -/
  buf : List TxFlit
  /-- FIRST_REC and payload of the flits that wait for room in the replay buffer or for the lane -/
  wait : List (Nat × List (BitVec 8))
  nextSeq : Nat
  /-- resends from the same oldest flit -/
  resends : Nat
  rxNext : Nat
  /-- a DATA flit has been accepted since the sequence numbers were last zeroed -/
  rxAny : Bool
  /-- a DATA flit has been discarded since the last one accepted -/
  naked : Bool
  sent : List SentFlit
  deriving DecidableEq, Repr

def LaneCtx.reset : LaneCtx where
  phase := .quiet
  buf := []
  wait := []
  nextSeq := 0
  resends := 0
  rxNext := 0
  rxAny := false
  naked := false
  sent := []

/-- A record the device sends to an accelerator, by the fields that vary (R164, R168). -/
inductive TxRec where
  | hello (pair pairId : Bool)
  | caps (fmtMask : Nat)
  | epoch (epoch step lag shift seed : Nat)
  | sealRec (epoch step seed : Nat)
  | hold (epoch step causes : Nat)
  | replay (epoch step tile runSlice origSlice flags : Nat)
  | observe (epoch step mode : Nat)
  | fence (slice reason : Nat)
  | unfence (slice reason : Nat)
  | stencil (runId slice part : Nat) (last : Bool) (offset partLen : Nat) (data : List (BitVec 8))
  | throttle (target cause : Nat)
  | maint (tag : Nat) (body : List (BitVec 8))
  | nak (cause recType recEpoch recStep detail : Nat)
  deriving DecidableEq, Repr

/-- A record received whole, or the span a LENGTH violation discards (R176): its bytes, the stream offset at which it
began, and whether it exceeded its class's credit as it arrived. -/
structure RxRec where
  bytes : List (BitVec 8)
  offset : Nat
  badLength : Bool
  beyond : Bool
  deriving DecidableEq, Repr

/-- One entry of a UNIT_MAP (R164). -/
structure SliceEntry where
  state : Nat
  unitId : Nat
  deriving DecidableEq, Repr

/-- A bay's session beside the WITL registers. -/
structure LinkCtx where
  lane : LaneCtx
  /-- units of CTRL, DATA and AUX credit used by records taken, and returned, since the session began (R153, R154) -/
  used : Nat × Nat × Nat
  returned : Nat × Nat × Nat
  /-- CTRL and DATA units consumed whose return waits for room in the work queue (R189) -/
  owed : Nat × Nat
  /-- DEV credit: the accelerator's grant, its last accepted total, and units used (R154) -/
  devGrant : Nat
  devTotal : Nat
  devUsed : Nat
  /-- bytes of the record stream not yet made into records, and the offset of the first of them -/
  stream : List (BitVec 8)
  streamPos : Nat
  /-- the stream is being discarded up to the next FIRST_REC (R176) -/
  skipping : Bool
  inbox : List RxRec
  capsSeen : Bool
  maxL : Nat
  origOut : Bool
  fmtMask : Nat
  slices : List SliceEntry
  slicesMin : Nat
  mapSeq : Option Nat
  /-- slices whose FENCE or UNFENCE waits for a UNIT_MAP, with the state that answers (R167) -/
  fenceWait : List (Nat × Bool)
  /-- STENCIL records that wait for DEV credit (R155) -/
  devWait : List TxRec
  /-- TAGs of MAINT records sent and not answered -/
  tags : List Nat
  /-- the time of the last NAK and the last WIT_NAK event of each cause (R177) -/
  nakTimes : List (Nat × Nat)
  nakEvents : List (Nat × Nat)
  deriving DecidableEq, Repr

def LinkCtx.reset : LinkCtx where
  lane := LaneCtx.reset
  used := (0, 0, 0)
  returned := (0, 0, 0)
  owed := (0, 0)
  devGrant := 0
  devTotal := 0
  devUsed := 0
  stream := []
  streamPos := 0
  skipping := false
  inbox := []
  capsSeen := false
  maxL := 0
  origOut := false
  fmtMask := 0
  slices := []
  slicesMin := 0
  mapSeq := none
  fenceWait := []
  devWait := []
  tags := []
  nakTimes := []
  nakEvents := []

/-! ### Witness checks and seals (R187–R228) -/

/-- A CSUM entry taken for a step, with the τ it was tested against, as mantissa and power of two, or none for an
infinite one; the three sums are binary64 patterns (R164, R196). -/
structure CsumEntry where
  tile : Nat
  fmt : Nat
  slice : Nat
  kM1 : Nat
  sOut : Nat
  sPred : Nat
  mag : Nat
  tau : Option (Nat × Int)
  failed : Bool
  deriving DecidableEq, Repr

/-- One part of a SAMPLE with its extent of the sample area (R165, R318): where it landed, the chunks received, and
whether it can no longer become whole. -/
structure PartCtx where
  part : Nat
  slice : Nat
  fmt : Nat
  m : Nat
  n : Nat
  kM1 : Nat
  len : Nat
  addr : Nat
  chunks : List (Nat × Nat)
  broken : Bool
  deriving DecidableEq, Repr

/-- The SAMPLE records of one tile, or those of its replay answer. -/
structure SampleCtx where
  tile : Nat
  slice : Nat
  replay : Bool
  parts : List PartCtx
  last : Bool
  /-- its SAMPLE_READY item has been queued -/
  ready : Bool
  /-- a SAMPLE dispatch has passed it -/
  passed : Bool
  deriving DecidableEq, Repr

/-- A REPLAY sent for a suspect tile, and its answer (R215, R216). -/
structure ReplayCtx where
  runSlice : Nat
  flags : Nat
  /-- its CSUM entry has arrived -/
  csum : Bool
  complete : Bool
  /-- the first reference, where original and replay both disagreed with it: cluster, and REF_SUM, REF_CRC, RUN_FAILS and
  ORIG_FAILS (R217, R251) -/
  reference : Option (Nat × List Nat)
  deriving DecidableEq, Repr

/-- A suspect tile (R214): the kind of its item, and its failures. -/
structure SuspectCtx where
  tile : Nat
  slice : Nat
  kind : Nat
  csum : Bool
  /-- the cluster whose judgment of the sample failed -/
  sample : Option Nat
  replay : Option ReplayCtx
  /-- a verdict has been reached that did not clear the tile -/
  done : Bool
  deriving DecidableEq, Repr

/-- A step that is not sealed (R206): the values in force at its STEP_OPEN, and what has been taken for it. -/
structure StepCtx where
  step : Nat
  epoch : Nat
  active : Nat
  mode : Nat
  lag : Nat
  shift : Nat
  seed : BitVec 64
  closed : Bool
  /-- STEP_CLOSE drew COUNT_MISMATCH or SAMPLE_SET (R175) -/
  bad : Bool
  csums : List CsumEntry
  samples : List SampleCtx
  suspects : List SuspectCtx
  /-- tiles cleared by a verdict -/
  cleared : List Nat
  massFail : Bool
  faulted : Bool
  /-- the shadow's verdict on the step: 1 CLEAR, 2 UNSEEN, 3 FAULT (R561) -/
  pair : Option Nat
  /-- the first failing tile of a FAULT verdict of the shadow -/
  pairTile : Nat
  deriving DecidableEq, Repr

/-- An item of the work queue (R226), with the completion record of a GALLERY_DONE or CLUSTER_SUSPECT (R246). -/
structure WorkItem where
  kind : Nat
  slice : Nat
  cluster : Nat
  tile : Nat
  step : Nat
  epoch : Nat
  res : List (BitVec 8)
  deriving DecidableEq, Repr

/-- A TAG of the bay's Gallery dispatches (R246–R252). A closed TAG keeps its generation. -/
structure TagCtx where
  tag : Nat
  gen : Nat
  isOpen : Bool
  /-- awaits the program's redispatch (R231, R252) -/
  await : Bool
  desc : List (BitVec 8)
  exclude : Nat
  /-- in flight on this cluster -/
  cluster : Option Nat
  /-- a SAMPLE whose first run passed on a cluster with an observed lane (R256) -/
  confirm : Bool
  deriving DecidableEq, Repr

/-- A bay's checks and seals beside the WIT registers. -/
structure WitCtx where
  /-- the work queue, head first (R189) -/
  items : List WorkItem
  /-- steps opened and not sealed, oldest first -/
  steps : List StepCtx
  /-- the current epoch's first step and seed (R199) -/
  firstStep : Nat
  epochSeed : BitVec 64
  /-- the newest SEALs of the epoch, newest first: step and seed -/
  seals : List (Nat × BitVec 64)
  /-- a step of the epoch has been opened -/
  opened : Bool
  /-- JOB_ID in effect (R205) -/
  job : Nat
  /-- the values sent to the accelerator: MODE, LAG and SAMPLE_SHIFT, in force from the next step opened (R193) -/
  sent : Nat × Nat × Nat
  /-- a STEP_OPEN has arrived since the hold set became non-empty -/
  openedInHold : Bool
  /-- ledger appends and host events buffered, oldest first (R29, R213, R228) -/
  ledger : List (List (BitVec 8))
  ledgerSeq : Nat
  events : List (List (BitVec 8))
  /-- the time of the last GALLERY_LAG event -/
  glagTime : Option Nat
  /-- the dispatch descriptor staged, and what the last WP_GDISP and WP_REPLAY_GO answered (R226, R246) -/
  gdesc : List (BitVec 8)
  gdispOk : Bool
  replayOk : Bool
  tags : List TagCtx
  /-- pending dispatches by TAG, oldest first (R247) -/
  pend : List Nat
  /-- the verdict faults gathered for Flowstone while the step is unsealed: (step, slice) already counted (R263) -/
  faultSeen : List (Nat × Nat)
  /-- verdicts of the shadow on steps not yet opened here: step, result and tile (R561) -/
  pairEarly : List (Nat × Nat × Nat)
  deriving DecidableEq, Repr

def WitCtx.reset : WitCtx where
  items := []
  steps := []
  firstStep := 0
  epochSeed := 0
  seals := []
  opened := false
  job := 0
  sent := (0, 2, 12)
  openedInHold := false
  ledger := []
  ledgerSeq := 1
  events := []
  glagTime := none
  gdesc := List.replicate 64 0#8
  gdispOk := false
  replayOk := false
  tags := []
  pend := []
  faultSeen := []
  pairEarly := []

/-! ### The Gallery (R229–R261) -/

/-- An exact number, an infinity or NaN: `fin m e` stands for m · 2^e. -/
inductive Num where
  | fin (m : Int) (e : Int)
  | inf (neg : Bool)
  | nan
  deriving DecidableEq, Repr

/-- One output of a bank: its sum and magnitude planes in units of the bank's LSB, and its sticky flags (R237, R240). -/
structure AccOut where
  sum : Int
  mag : Nat
  range : Bool
  posInf : Bool
  negInf : Bool
  nan : Bool
  deriving DecidableEq, Repr

/-- Which products one XDOT or XMAG added, by the places of their elements in the dispatch's parts: for each row of tA
the (row, k) of its elements, for each column of tB the (k, column); none for an element that is no part's (R250). -/
structure ProdRec where
  rows : List (List (Option (Nat × Nat)))
  cols : List (List (Option (Nat × Nat)))
  deriving DecidableEq, Repr

/-- An accumulator bank (R235–R240): class and shape since the last XCLR, and its outputs row by row. -/
structure Bank where
  cls : Option AccClass
  lsb : Int
  outFmts : List Nat
  m : Nat
  n : Nat
  k : Nat
  outs : List AccOut
  dots : List ProdRec
  mags : List ProdRec
  deriving DecidableEq, Repr

def Bank.reset : Bank where
  cls := none
  lsb := 0
  outFmts := []
  m := 0
  n := 0
  k := 0
  outs := []
  dots := []
  mags := []

/-- One output of a C part as a BCMP met it (R250): its place, whether all of its products were in both planes, whether it
was left unjudged or failed, and its reference before rounding. -/
structure Judge where
  place : Nat
  full : Bool
  unjudged : Bool
  fail : Bool
  ref : Num
  deriving DecidableEq, Repr

/-- A dispatch handed to a cluster (R245, R247): its descriptor, bay and stamped generation. -/
structure GDisp where
  bay : Bay
  gen : Nat
  desc : List (BitVec 8)
  deriving DecidableEq, Repr

/-- A G instruction in the queue (R114): opcode, its three register fields, and where it stood. -/
structure GOp where
  op : Nat
  a : Nat
  b : Nat
  c : Nat
  pc : Nat
  deriving DecidableEq, Repr

/-- A completion that passed a tile since the cluster's last passing run (R257). -/
structure GPass where
  bay : Bay
  epoch : Nat
  step : Nat
  tile : Nat
  reference : Bool
  deriving DecidableEq, Repr

/-- A Gallery cluster beside its GC registers and its engine. -/
structure GcCtx where
  /-- handed over and not yet taken, and taken -/
  waiting : Option GDisp
  cur : Option GDisp
  /-- what GP_DESC and GP_STAMP show -/
  shown : GDisp
  ldSrc : Nat
  ldDst : Nat
  ldLen : Nat
  ldBusy : Bool
  ldPoison : Bool
  ldRefused : Bool
  sMin : Nat
  sMax : Nat
  accCfg : Nat
  lsbs : Vector (BitVec 11) 4
  rangeCnt : Nat
  /-- t0–t7, 16 bytes each (R241) -/
  tiles : Vector (List (BitVec 8)) 8
  /-- the tile store and its poisoned lines -/
  store : Mem
  tpoison : List Nat
  banks : Vector Bank 4
  queue : List GOp
  /-- what the current dispatch has loaded or overwritten, newest first: place, bytes, source address (R250) -/
  loads : List (Nat × Nat × Option Nat)
  runJudged : List Judge
  origJudged : List Judge
  /-- outputs whose reference an XRND has written in FMT_C -/
  rounded : List Nat
  /-- held in the UCR island (R231): the times of blames, passes since the last passing run, a known-answer run due, and
  one made since the full device reset -/
  blames : List Nat
  passes : List GPass
  katDue : Bool
  katMade : Bool
  /-- the hardware issues START itself once T_off_min has passed (R230) -/
  selfStart : Bool
  deriving DecidableEq, Repr

def GcCtx.reset : GcCtx where
  waiting := none
  cur := none
  shown := ⟨0, 0, List.replicate 64 0#8⟩
  ldSrc := 0
  ldDst := 0
  ldLen := 0
  ldBusy := false
  ldPoison := false
  ldRefused := false
  sMin := 0
  sMax := 0
  accCfg := 0
  lsbs := Vector.replicate 4 0#11
  rangeCnt := 0
  tiles := Vector.replicate 8 (List.replicate 16 0#8)
  store := []
  tpoison := []
  banks := Vector.replicate 4 Bank.reset
  queue := []
  loads := []
  runJudged := []
  origJudged := []
  rounded := []
  blames := []
  passes := []
  katDue := false
  katMade := false
  selfStart := false

/-! ### Flowstone and stencils (R262–R292) -/

/-- A Flowstone record (R283) by its fields; SEQ 0 until it is written. -/
structure FsRecord where
  seq : Nat
  ft : Nat
  kind : Nat
  mirrored : Bool
  journal : Bool
  unitId : Nat
  bay : Nat
  slice : Nat
  before : Nat
  after : Nat
  cause : Nat
  flags : Nat
  epoch : Nat
  step : Nat
  count : Nat
  ref : Nat
  wall : Nat
  detail : Nat
  deriving DecidableEq, Repr

/-- The health of one unit as its records give it (R262, R264): its state (0 NORMAL, 1 OBSERVED, 2 FENCED, 3 RETIRED) and
the state before it was retired, LAST_FAULT, the open window, the passing visits in it, and its visits. -/
structure UnitState where
  id : Nat
  state : Nat
  before : Nat
  lastFault : Option Nat
  /-- FT of the confirmed faults and stencil failures -/
  faults : List Nat
  winStart : Nat
  passes : Nat
  /-- outcome of the last visit -/
  lastVisit : Nat
  /-- consecutive TIMEOUT outcomes -/
  timeouts : Nat
  /-- FT at which a visit falls due -/
  due : Nat
  /-- REASON of the record that fenced it -/
  reason : Nat
  /-- bay and slice in which it was last seen -/
  place : Nat × Nat
  /-- T_obs_win in seconds and REQ as they were at its last state change or visit (R291) -/
  win : Nat
  req : Nat
  deriving DecidableEq, Repr

/-- What waits for its Flowstone record (R285), oldest first; the record is formed as it is written (R269). -/
inductive FsEvent where
  /-- a verdict against a slice or, without one, the bay (R263) -/
  | fault (bay : Bay) (slice : Option Nat) (unitId cause flags epoch step tile count : Nat)
  /-- a visit's end (R278): outcome code, whether it counts as a failure, runs, PACK_ID, RUN_ID, mismatches -/
  | visit (bay : Bay) (slice unitId outcome : Nat) (failure : Bool) (runs pack run mismatch : Nat)
  /-- a window closes clean (R264) -/
  | window (unitId : Nat)
  /-- a host operation on one unit: FENCE 1, UNFENCE 2, CLEAR 5 (R268) -/
  | host (op : Nat) (bay : Bay) (slice unitId : Nat)
  /-- the bay is retired (R267): one record for each unit, then the rest -/
  | retireUnit (bay : Bay) (slice unitId : Nat)
  | retireBay (bay : Bay) (host : Bool)
  /-- UNRETIRE of one unit, and of the bay -/
  | unretireUnit (bay : Bay) (slice unitId : Nat)
  | unretireBay (bay : Bay)
  /-- a unit seen in a UNIT_MAP (R270): new to the tray, or in a new place, or shown FENCED -/
  | seen (bay : Bay) (slice unitId serial : Nat) (fenced : Bool)
  | tick (first : Bool)
  | carry (unitId state age : Nat)
  | pack (cause : Nat) (owner : Bool) (tests packId version : Nat)
  /-- R289 -/
  | guardUnit (unitId : Nat)
  /-- a record of the lead (R563) -/
  | mirror (r : FsRecord)
  deriving DecidableEq, Repr

/-- A stencil run in flight (R279–R281). -/
structure RunCtx where
  runId : Nat
  slot : Nat
  test : Nat
  resultLen : Nat
  /-- RESULT_CRC of an EXPECT_CRC test -/
  expectCrc : Option Nat
  /-- where the expected body lies, its format and tolerance, for an EXPECT_DATA test -/
  expect : Nat × Nat × Nat
  /-- a commons restart has taken the window away: a descriptor gives the result (R322) -/
  byDesc : Bool
  /-- RESULT chunks landed: offset and length -/
  chunks : List (Nat × Nat)
  deriving DecidableEq, Repr

/-- A visit in progress (R278). -/
structure VisitCtx where
  slice : Nat
  unitId : Nat
  /-- runs still to start: pack slot and test -/
  left : List (Nat × Nat)
  runs : Nat
  run : Option RunCtx
  deriving DecidableEq, Repr

/-- A bay's stencils beside the WIT_STN registers. -/
structure StnCtx where
  visit : Option VisitCtx
  /-- packs not run on the bay again until the next HELLO (R281) -/
  refused : List Nat
  /-- STN_NO_PACK has been raised in this session (R278) -/
  noPack : Bool
  /-- the next test of a ROTATE pack for a unit: (slot, UNIT_ID, test) -/
  rotate : List (Nat × Nat × Nat)
  deriving DecidableEq, Repr

def StnCtx.reset : StnCtx where
  visit := none
  refused := []
  noPack := false
  rotate := []

/-- Flowstone beside its registers. -/
structure FsCtx where
  units : List UnitState
  queue : List FsEvent
  /-- the journal (R287, R288): slots and records, oldest first, and the highest SEQ acknowledged -/
  journal : List (Nat × FsRecord)
  journalAck : Nat
  /-- the override table (R288), oldest entry first -/
  overrides : List FsRecord
  /-- SEQ of the next record -/
  nextSeq : Nat
  /-- the next slot of the log: block and slot; and the blocks abandoned -/
  block : Nat
  slot : Nat
  abandoned : Nat
  /-- FT of the last TICK record and of the last FT_MARK -/
  lastTick : Nat
  lastMark : Nat
  /-- the next TICK is the first since the full device reset -/
  firstTick : Bool
  /-- FS_SPARES_LOW and JOURNAL_FULL have been raised -/
  sparesLow : Bool
  journalFull : Bool
  /-- the log has been scanned since the full device reset (R289) -/
  scanned : Bool
  deriving DecidableEq, Repr

def FsCtx.reset : FsCtx where
  units := []
  queue := []
  journal := []
  journalAck := 0
  overrides := []
  nextSeq := 1
  block := 0
  slot := 0
  abandoned := 0
  lastTick := 0
  lastMark := 0
  firstTick := true
  sparesLow := false
  journalFull := false
  scanned := false

/-- A slot of the Flowstone log in flash that is not empty: its number in the region, and the record where its CRC is
right (R282, R286). -/
structure FsSlot where
  place : Nat
  record : Option FsRecord
  deriving DecidableEq, Repr

/-! ### Fuses, boot flash and store flash (R437–R444, R491–R493) -/

/-- The fuses the security core reads through the shadow (R437): key slots 0 to 3 are the vendor's, 4 to 7 the owner's;
ARB0 and ARB1 by their bits. -/
structure FuseFields where
  keyHash : Vector (BitVec 256) 8
  keySet : BitVec 8
  revoke : BitVec 8
  arb0 : BitVec 64
  arb1 : BitVec 64
  debugClosed : Bool
  deriving DecidableEq, Repr

def FuseFields.blank : FuseFields where
  keyHash := Vector.replicate 8 0#256
  keySet := 0
  revoke := 0
  arb0 := 0
  arb1 := 0
  debugClosed := false

/-- The fuse array (R437). -/
structure Fuses where
  fields : FuseFields
  idSeed : BitVec 256
  deriving DecidableEq, Repr

/-- One copy of the boot directory (R444). -/
structure BootDir where
  active : Fin 2
  /-- 0 NONE, 1 PENDING, 2 RUNNING -/
  trial : Nat
  trialSlot : Fin 2
  seq : Nat
  tTrial : Nat
  skip : Nat
  arbPending : Bool
  rejA : Nat
  rejB : Nat
  deriving DecidableEq, Repr

/-- The three components of a boot slot as their bytes; empty where the region is (R442). -/
structure BootSlot where
  secfw : List (BitVec 8)
  pack : List (BitVec 8)
  mgmt : List (BitVec 8)
  deriving DecidableEq, Repr

/-! ### Cooling (R369–R405) -/

/-- The ports of a cooling engine that hold a value (R384): CP_ZSEL, CP_SSEL, CP_CSEL and CP_STATE.NOT_OWN. -/
structure CoolPorts where
  zsel : Nat
  ssel : Nat
  csel : Nat
  notOwn : Bool
  deriving DecidableEq, Repr

/-- Cooling's state beside the CL and MOT registers. -/
structure CoolCtx where
  /-- the bay's HEALTH slot takes part (R373) -/
  healthJoin : Vector Bool 8
  /-- bus-post slots that hold a pressure (R370) -/
  pressPosts : List Nat
  /-- slots that a zone selected and that were stale or faulted when last looked at (R402, SENSOR_FAULT) -/
  badSlots : List Nat
  /-- a cooling engine has been RUNNING since the full device reset (R378) -/
  coolRan : Bool
  /-- the channel has been in RUN since the full device reset (R389) -/
  motRan : Vector Bool 12
  /-- a drive die's thermal trip is in force (R388) -/
  trip : Vector Bool 2
  /-- the bands of a loop's last samples, newest first, at most five (R396) -/
  bands : Vector (List Nat) 8
  ports : Vector CoolPorts 2
  deriving DecidableEq, Repr

def CoolCtx.reset : CoolCtx where
  healthJoin := Vector.replicate 8 false
  pressPosts := []
  badSlots := []
  coolRan := false
  motRan := Vector.replicate 12 false
  trip := Vector.replicate 2 false
  bands := Vector.replicate 8 []
  ports := Vector.replicate 2 ⟨0, 0, 0, false⟩

/-! ### Two-wire buses (R406–R434) -/

/-- Where a transfer stands (R407, R410, R411). -/
inductive BusPhase where
  | idle | waitFree | running | addrRetry | backoff
  deriving DecidableEq, Repr

/-- A bus beside its registers: the ports of its engine, the transfer in progress, the Host Notify queue, the target. -/
structure BusCtx where
  /-- BP_XFER_A, BP_XFER_B, BP_BUF by byte, and BP_CONV_OUT (R414) -/
  xferA : BitVec 32
  xferB : BitVec 32
  buf : Mem
  convOut : BitVec 32
  goLost : Bool
  phase : BusPhase
  /-- BP_XFER_A and BP_XFER_B as BP_GO found them -/
  curA : BitVec 32
  curB : BitVec 32
  result : Nat
  rcount : Nat
  arbLosses : Nat
  addrRetries : Nat
  /-- the bytes the controller sent in its last attempt, in bus order -/
  wire : List (BitVec 8)
  /-- the bus is free (R407) -/
  free : Bool
  /-- BUS_CFG as it applies to the bus: a change waits for the next free bus (R432) -/
  cfgNow : BitVec 32
  /-- Host Notify entries: sender address and data word, oldest first (R421) -/
  hn : List (Nat × Nat)
  /-- the code last selected on the target (R417) -/
  tgtSel : Option Nat
  /-- the bytes the target sent in the last transaction it answered -/
  tgtOut : List (BitVec 8)
  /-- BUSm_ALERT_N asserted by the device, and STATUS when last looked at (R422) -/
  alert : Bool
  lastStatus : Nat
  /-- the channel of the segment request that is pending (R427) -/
  segCh : Option Nat
  /-- the outcome of a segment cycle is to be judged (R428) -/
  judging : Bool
  deriving DecidableEq, Repr

def BusCtx.reset : BusCtx where
  xferA := 0
  xferB := 0
  buf := []
  convOut := 0
  goLost := false
  phase := .idle
  curA := 0
  curB := 0
  result := 0
  rcount := 0
  arbLosses := 0
  addrRetries := 0
  wire := []
  free := false
  cfgNow := 4
  hn := []
  tgtSel := none
  tgtOut := []
  alert := false
  lastStatus := 128
  segCh := none
  judging := false

/-! ### The host port and MMP (R502–R538) -/

/-- A host event of the queue (R531, R532): code (R533), source, and DETAIL: the 16 bytes firmware wrote, or the values of an
event the device raises itself (R9, R19, R40, R177, R292). -/
structure EvRec where
  seq : Nat
  code : Nat
  source : Nat
  ft : Nat
  wall : Nat
  detail : List Nat
  /-- it has been sent in the session in force -/
  sent : Bool
  /-- RESENT -/
  again : Bool
  deriving DecidableEq, Repr

/-- A message the device sends (R518): TYPE, REPLY, TAG, RESULT, CODE, INDEX and its body; an EVENT message carries
records. -/
structure MmpOut where
  kind : Nat
  reply : Bool
  tag : Nat
  result : Nat
  code : Nat
  index : Nat
  body : List (BitVec 8)
  records : List EvRec
  deriving DecidableEq, Repr

/-- What leaves on the host port (R508, R510, R536). -/
inductive EthOut where
  | arp (ip : BitVec 32) (dest : BitVec 48)
  | neighbour (ip : BitVec 128) (dest : BitVec 48)
  | echo (v6 : Bool) (data : List (BitVec 8)) (dest : BitVec 48)
  | dhcp (v6 : Bool) (addr : BitVec 128)
  | lldp (mac : BitVec 48) (ttl : Nat) (addrs : List (BitVec 128))
  /-- a gratuitous ARP and an unsolicited neighbour advertisement -/
  | announce
  | hello (kind session : Nat) (payload : List (BitVec 8)) (dest : BitVec 48)
  | data (session psn ack window : Nat) (m : MmpOut) (dest : BitVec 48)
  | ack (session asn ack window : Nat) (dest : BitVec 48)
  | relayed (packet : List (BitVec 8))
  deriving DecidableEq, Repr

/-- An unfinished handshake (R514, R515). -/
structure Handshake where
  id : Nat
  maxp : Nat
  th1 : List (BitVec 8)
  nonces : List (BitVec 8)
  ephPriv : Nat
  ephHost : List (BitVec 8)
  hostKey : List (BitVec 8)
  /-- the WINDOW of HS_RESP -/
  window : Nat
  deriving DecidableEq, Repr

/-- The session in force (R510–R516). -/
structure MmpSession where
  id : Nat
  maxp : Nat
  /-- the 72 bytes of keys and salts -/
  keys : List (BitVec 8)
  /-- the link-layer address of its most recent authenticated packet (R509) -/
  peer : BitVec 48
  rxAck : Nat
  rxWindow : Nat
  rxHeld : List (Nat × List (BitVec 8))
  txNext : Nat
  /-- the highest PSN the host accepts -/
  txTop : Nat
  unacked : List (Nat × MmpOut)
  txWait : List MmpOut
  asnTx : Nat
  asnRx : Nat
  expiries : Nat
  deriving DecidableEq, Repr

/-- A LOAD in progress (R523). -/
structure LoadCtx where
  object : Nat
  slot : Nat
  bytes : List (BitVec 8)
  tTrial : Nat
  deriving DecidableEq, Repr

/-- A host program (R524–R526): its core, whom its reply goes to, its output, and INSTRET as it began. -/
structure HostRun where
  core : Fin 4
  session : Nat
  tag : Nat
  out : List (BitVec 32)
  instret : BitVec 64
  deriving DecidableEq, Repr

/-- The host port beside the ETH registers. -/
structure EthCtx where
  /-- unfinished handshakes, oldest first -/
  hs : List Handshake
  sess : Option MmpSession
  /-- messages for the ETH island itself, those that wait for room in the inbound ring, and those handed to firmware and not
  answered, each with its SESSION_ID, oldest first -/
  inbox : List (Nat × List (BitVec 8))
  fwWait : List (Nat × List (BitVec 8))
  fwReqs : List (Nat × List (BitVec 8))
  loads : List LoadCtx
  /-- the host code slots (R523) -/
  code : Vector (List (BitVec 8)) 8
  runs : List HostRun
  /-- the event queue, and the next EVT_SEQ and TAG; the EVENT messages not acknowledged, as TAG and last EVT_SEQ -/
  events : List EvRec
  evSeq : Nat
  evTag : Nat
  evMsgs : List (Nat × Nat)
  /-- records lost that no EVENTS_LOST has reported -/
  lostDue : Nat
  /-- open streams: STREAM_ID and the messages not yet sent (R534) -/
  streams : List (Nat × List MmpOut)
  nextStream : Nat
  /-- the times of the last echo replies and handshake answers (R508, R515) -/
  echoTimes : List Nat
  hsTimes : List Nat
  out : List EthOut
  deriving DecidableEq, Repr

def EthCtx.reset : EthCtx where
  hs := []
  sess := none
  inbox := []
  fwWait := []
  fwReqs := []
  loads := []
  code := Vector.replicate 8 []
  runs := []
  events := []
  evSeq := 1
  evTag := 0
  evMsgs := []
  lostDue := 0
  streams := []
  nextStream := 1
  echoTimes := []
  hsTimes := []
  out := []

/-! ### The twin link (R539–R575) -/

/-- A STEP that waits for its ACK (R552). -/
structure StepPend where
  id : Nat
  seq : Fin 9
  change : SeqChange
  /-- a program's write, which takes effect on the ACK; hardware's changes have taken effect already -/
  held : Bool
  deriving DecidableEq, Repr

/-- A record sent to the partner (R546), by the fields that vary. -/
inductive TwinTx where
  | hb (state cool power act pumpStop lastFs : Nat)
  | step (id : Nat) (seq : Fin 9) (change : SeqChange)
  | ack (id : Nat)
  | verdict (bay result code slice epoch step tile : Nat)
  | sealNote (bay job mode : Nat) (r : TxRec)
  | fsRecord (bytes : List (BitVec 8))
  | request (seq : Fin 9) (q : SeqRequest)
  | relay (packet : EthOut)
  | act (what : Nat)
  | mirror (swap : Bool)
  deriving DecidableEq, Repr

/-- The records coming in on a twin lane (R148, R545): the bytes of a record not yet whole, and whether the rest of a record
whose LENGTH could not be used is being passed over. -/
structure TwinRx where
  stream : List (BitVec 8)
  skipping : Bool
  deriving DecidableEq, Repr

/-- The pair's state beside the TWIN registers. -/
structure TwinCtx where
  lanes : Vector LaneCtx 2
  rx : Vector TwinRx 2
  /-- the next STEP_ID, and the STEPs that wait for their ACK, oldest first (R552) -/
  nextStep : Nat
  steps : List StepPend
  /-- records sent to the partner, oldest first -/
  tx : List TwinTx
  /-- off requests passed to the lead whose going-down has not been seen (R555) -/
  offReqs : List (Fin 9)
  /-- the body of the partner's last heartbeat: STATE, COOL, POWER, ACT, PUMP_STOP, LAST_FS_SEQ (R547) -/
  partner : Nat × Nat × Nat × Nat × Nat × Nat
  /-- TWIN_HB_OUT (R548) -/
  hbOut : Bool
  /-- the highest Flowstone SEQ from the lead that this device holds (R547) -/
  leadFs : Nat
  /-- sequencers that start over running rails after a takeover and have not begun (R565) -/
  takeover : Vector Bool 9
  deriving DecidableEq, Repr

def TwinCtx.reset : TwinCtx where
  lanes := Vector.replicate 2 LaneCtx.reset
  rx := Vector.replicate 2 ⟨[], false⟩
  nextStep := 0
  steps := []
  tx := []
  offReqs := []
  partner := (0, 0, 0, 0, 0, 0)
  hbOut := false
  leadFs := 0
  takeover := Vector.replicate 9 false

/-! ### Golden checks (R494) -/

/-- A bay's golden check beside the GOLD registers: the slot it uses, and that the START now held has passed. -/
structure GoldCtx where
  slot : Nat
  pass : Bool
  deriving DecidableEq, Repr

/-! ### Pins and supplies (R570, R592–R599, R611) -/

/-- The levels of the straps, supplies and clocks; no reset changes them. -/
structure PinCtx where
  /-- VSTBY is good -/
  vstby : Bool
  vcore : Bool
  vsrd085 : Bool
  vsrd12 : Bool
  vdd1 : Bool
  vdd2 : Bool
  vddq : Bool
  /-- the VIO banks that are good: RAIL, BAY, BFL, BUS, TRAY, MOT, XSPI0, XSPI1 -/
  vio : Vector Bool 8
  xtal : Bool
  /-- MRST_N is asserted -/
  mrst : Bool
  /-- the bridge switch is open (R594) -/
  bridgeOpen : Bool
  /-- TRAY_SEATED is high -/
  seated : Bool
  pairMode : Bool
  pairId : Bool
  /-- BOOT_MODE[1:0] -/
  bootMode : Nat
  /-- ETH_RATE as GPIO0 and GPIO1 strap it (R503) -/
  ethRate : Nat
  deriving DecidableEq, Repr

/-- Every supply good, every clock present, no reset asserted, and every strap 0. -/
def PinCtx.normal : PinCtx where
  vstby := true
  vcore := true
  vsrd085 := true
  vsrd12 := true
  vdd1 := true
  vdd2 := true
  vddq := true
  vio := Vector.replicate 8 true
  xtal := true
  mrst := false
  bridgeOpen := false
  seated := true
  pairMode := false
  pairId := false
  bootMode := 0
  ethRate := 0

/-- TRAY_SEATED as it is read: 0 while its bank is not good (R599). -/
def PinCtx.seatedSeen (p : PinCtx) : Bool := p.seated && p.vio[(4 : Fin 8)]

/-! ### Boot, attestation and activation (R435–R489) -/

/-- Where the boot flow stands: the security core is held; the cores run an image being verified; the image is verified and
LOCK_ALL is awaited; the output gate is open; the mask ROM waits for recovery; or the boot has ended without a gate. -/
inductive BootPhase where
  | held | verifying | verified | running | recovery | dead
  deriving DecidableEq, Repr

/-- What the boot knows of the components it loaded: digests as numbers, and header fields. -/
structure ImageInfo where
  secDigest : BitVec 256
  packDigest : BitVec 256
  mgmtDigest : BitVec 256
  secSvn : Nat
  mgmtSvn : Nat
  lockId : Nat
  entry : Nat
  mgmtLen : Nat
  version : Nat
  deriving DecidableEq, Repr

def ImageInfo.none : ImageInfo where
  secDigest := 0
  packDigest := 0
  mgmtDigest := 0
  secSvn := 0
  mgmtSvn := 0
  lockId := 0
  entry := 0
  mgmtLen := 0
  version := 0

/-- A chunked VERIFY or STAGE (R463, R464): the operation, the kind or component, and the bytes so far. -/
structure ChunkCtx where
  stage : Bool
  kind : Nat
  bytes : List (BitVec 8)
  tTrial : Nat
  deriving DecidableEq, Repr

/-- The measurements (R469) as they stood when the gate last opened or an activation last ended. -/
structure Measures where
  rom : BitVec 256
  secfw : BitVec 256
  mgmt : BitVec 256
  pack : BitVec 256
  state : List (BitVec 8)
  keys : BitVec 256
  deriving DecidableEq, Repr

def Measures.none : Measures where
  rom := 0
  secfw := 0
  mgmt := 0
  pack := 0
  state := List.replicate 16 0#8
  keys := 0

/-- The SPDM responder: how far the requests in order have come (0 none, 1 version, 2 capabilities, 3 algorithms), the
bytes its signatures cover so far, and its last answer. -/
structure SpdmCtx where
  stage : Nat
  vca : List (BitVec 8)
  certs : List (BitVec 8)
  meas : List (BitVec 8)
  last : List (BitVec 8)
  deriving DecidableEq, Repr

def SpdmCtx.reset : SpdmCtx where
  stage := 0
  vca := []
  certs := []
  meas := []
  last := []

/-- An activation beside SEC_ACT_STAT (R482, R488): its method, whether it is a pair's, the digest D and header fields of the
staged MGMT, whether this device and its partner have reached QUIESCED, and whether each has reported its end. -/
structure ActCtx where
  method : Nat
  pair : Bool
  staged : ImageInfo
  mine : Bool
  partner : Bool
  mineDone : Bool
  partnerDone : Bool
  deriving DecidableEq, Repr

def ActCtx.reset : ActCtx where
  method := 0
  pair := false
  staged := ImageInfo.none
  mine := false
  partner := false
  mineDone := false
  partnerDone := false

/-- The boot flow beside the SEC registers. -/
structure BootCtx where
  phase : BootPhase
  /-- slots still to try, the first of the list before SKIP removed any, and whether a strap names the slot (R447) -/
  left : List (Fin 2)
  first : Fin 2
  named : Bool
  slot : Fin 2
  image : ImageInfo
  /-- the trial watchdog counts (R453) -/
  trialOn : Bool
  /-- a LOCK_ID is recorded in the UCR island (R451) -/
  lockSet : Bool
  chunk : Option ChunkCtx
  meas : Measures
  spdm : SpdmCtx
  act : ActCtx
  /-- handovers since the full device reset -/
  handovers : Nat
  deriving DecidableEq, Repr

def BootCtx.reset : BootCtx where
  phase := .held
  left := []
  first := 0
  named := false
  slot := 0
  image := ImageInfo.none
  trialOn := false
  lockSet := false
  chunk := none
  meas := Measures.none
  spdm := SpdmCtx.reset
  act := ActCtx.reset
  handovers := 0

/-! ### The whole device -/

/-- Everything a full device reset clears, and the levels on the pins, which it does not. -/
structure Device where
  regs : RegFile
  mem : Mem
  /-- lines (address divided by 64, rising) whose poison mark is the opposite of their channel's (R300) -/
  poison : List Nat
  /-- channels lost in a commons restart, whose lines read as poisoned until written (R40) -/
  lost : Vector Bool 32
  engs : Vector ECtx 43
  sec : SecCore
  cores : Vector MCtx 4
  pru : Pru
  mcs : Vector McCtx 16
  /-- for each landing window, the bytes counted so far: offset in the range, and the byte, oldest first (R314) -/
  landed : Vector (List (Nat × BitVec 8)) 64
  seqs : Vector SeqCtx 9
  links : Vector LinkCtx 8
  wits : Vector WitCtx 8
  gcs : Vector GcCtx 12
  /-- completions on their way to the seal gates, oldest first, and the bay the arbiter served last (R247, R251) -/
  gdone : List (Bay × List (BitVec 8))
  arbLast : Bay
  stns : Vector StnCtx 8
  fs : FsCtx
  /-- the phases of the host port's lanes (R505) -/
  hostLanes : Vector LanePhase 4
  golds : Vector GoldCtx 8
  /-- the fuse shadow (R438) -/
  shadow : FuseFields
  twin : TwinCtx
  cool : CoolCtx
  buses : Vector BusCtx 12
  /-- microseconds, moved on as it is read (assumption log 4) -/
  clock : Nat
  /-- Flowstone time in seconds, moved on as it is read (R272) -/
  ft : Nat
  tray : TrayCtx
  pins : PinCtx
  boot : BootCtx
  /-- golden images accepted for a slot that a check still uses (R493) -/
  goldNext : Vector (Option (List (BitVec 8))) 4
  /-- the restart in progress: 0 none, 1 firmware, 2 commons; and the times of the last firmware restarts (R34–R36) -/
  restart : Nat
  fwTimes : List Nat
  /-- records sent on each witness lane, oldest first -/
  txRecs : Vector (List TxRec) 8
  eth : EthCtx
  /-- the seal ledgers as firmware keeps them for export (R213) -/
  ledgers : Vector (List (List (BitVec 8))) 8
  /-- _LO words written and held, and _HI halves captured by a read, each with its initiator and the address of the
  _LO register (R583) -/
  loHeld : List (Initiator × Nat × BitVec 32)
  hiCaptured : List (Initiator × Nat × BitVec 32)
  /-- the count of free values used so far (assumption log 2) -/
  freeCtr : Nat
  deriving DecidableEq, Repr

def Device.reset : Device where
  regs := []
  mem := []
  poison := []
  lost := Vector.replicate 32 false
  engs := Vector.ofFn (fun i => { ECtx.reset with toff := decide (i.val < 9) })
  sec := SecCore.reset
  cores := Vector.replicate 4 MCtx.reset
  pru := Pru.reset
  mcs := Vector.replicate 16 McCtx.reset
  landed := Vector.replicate 64 []
  seqs := Vector.replicate 9 SeqCtx.reset
  links := Vector.replicate 8 LinkCtx.reset
  wits := Vector.replicate 8 WitCtx.reset
  gcs := Vector.replicate 12 GcCtx.reset
  gdone := []
  arbLast := 7
  stns := Vector.replicate 8 StnCtx.reset
  fs := FsCtx.reset
  hostLanes := Vector.replicate 4 .quiet
  golds := Vector.replicate 8 ⟨0, false⟩
  shadow := FuseFields.blank
  twin := TwinCtx.reset
  cool := CoolCtx.reset
  buses := Vector.replicate 12 BusCtx.reset
  clock := 0
  ft := 0
  tray := TrayCtx.reset
  pins := PinCtx.normal
  boot := BootCtx.reset
  goldNext := Vector.replicate 4 none
  restart := 0
  fwTimes := []
  txRecs := Vector.replicate 8 []
  eth := EthCtx.reset
  ledgers := Vector.replicate 8 []
  loHeld := []
  hiCaptured := []
  freeCtr := 0

/-- What no restart clears: the fuses and the flash parts. -/
structure Nonvolatile where
  /-- the hold-up area: the written slots of 0 to 255, rising (R354, R356) -/
  holdup : List (Nat × HoldupRec)
  /-- the Flowstone log, in slot order (R282) -/
  fsLog : List FsSlot
  /-- the stencil area of the store flash: the bytes of the pack in each slot (R276) -/
  packs : Vector (List (BitVec 8)) 16
  /-- the golden area: the image in each slot (R491, R493) -/
  golden : Vector (List (BitVec 8)) 4
  /-- the two copies of the settings (R489) -/
  settings : Vector (List (BitVec 8)) 2
  fuses : Fuses
  /-- the OTP patch region (R437, R439) -/
  otp : List (BitVec 8)
  /-- the boot flash: the directory copies that are valid, the certificate region, slots A and B (R442) -/
  dirs : Vector (Option BootDir) 2
  cert : List (BitVec 8)
  slots : Vector BootSlot 2
  deriving DecidableEq, Repr

/-- The block without its command queue. -/
structure Sys where
  dev : Device
  nv : Nonvolatile
  deriving DecidableEq, Repr

/-- The block and the commands waiting, first in, first out. -/
structure State where
  sys : Sys
  pending : List Instr
  deriving DecidableEq, Repr

/-- Why a step stops with a fault. -/
inductive Fault where
  /-- No meaning raises it: every command of this block answers a next state. Safe: were it raised, the model would
  stop where the hardware goes on. -/
  | stuck
  deriving DecidableEq, Repr

/-- Why a command has no meaning. -/
inductive Refusal where
  /-- Raised by an arm of `exec` whose command has no meaning yet. Safe: the model stops where the hardware goes on. -/
  | notModelled (mnemonic : String)
  deriving DecidableEq, Repr

def Nonvolatile.reset : Nonvolatile where
  holdup := []
  fsLog := []
  packs := Vector.replicate 16 []
  golden := Vector.replicate 4 []
  settings := Vector.replicate 2 []
  fuses := ⟨FuseFields.blank, 0⟩
  otp := []
  dirs := Vector.replicate 2 none
  cert := []
  slots := Vector.replicate 2 ⟨[], [], []⟩

def Sys.reset : Sys where
  dev := Device.reset
  nv := Nonvolatile.reset

/-- The block right after a full device reset, with no command waiting. -/
def State.reset : State where
  sys := Sys.reset
  pending := []

end Sys2Proof.Machine
end

