-- ==== Sys2Proof/Machine/Ops.lean ====
section
/-! DEFINITION. The named operations every meaning is written with: the register file and its fields, free values,
host events, memory and poison, the engines' and cores' contexts, taking an exception on a management core and
returning from it. -/

namespace Sys2Proof.Machine

/-- Entry i of a vector replaced. -/
def vset {α : Type} {n : Nat} (v : Vector α n) (i : Fin n) (x : α) : Vector α n := v.set i.val x i.isLt

/-! ### The block and its queue -/

/-- The block changed, the queue kept. -/
def State.onSys (s : State) (f : Sys → Sys) : State := { s with sys := f s.sys }

/-- What a full device reset clears changed; fuses, flash and queue kept. -/
def State.onDev (s : State) (f : Device → Device) : State := { s with sys := { s.sys with dev := f s.sys.dev } }

/-- The device part of the block changed. -/
def Sys.onDev (y : Sys) (f : Device → Device) : Sys := { y with dev := f y.dev }

/-! ### Registers and their fields -/

/-- The value of a field in a register word. -/
def Fld.get (f : Fld) (v : BitVec 32) : Nat := bitsOf v.toNat f.lo f.width

/-- The register word with a field replaced; a value too wide keeps its low bits. -/
def Fld.put (f : Fld) (v : BitVec 32) (x : Nat) : BitVec 32 :=
  BitVec.ofNat 32 (v.toNat - f.get v * 2 ^ f.lo + x % 2 ^ f.width * 2 ^ f.lo)

/-- The word a register holds. -/
def Device.reg (d : Device) (a : Nat) : BitVec 32 := sparseGet (regReset a) d.regs a

/-- The register at a set to a whole word. -/
def Device.setReg (d : Device) (a : Nat) (v : BitVec 32) : Device :=
  { d with regs := sparseSet (regReset a) d.regs a v }

/-- The value of a field of the register at a. -/
def Device.fld (d : Device) (a : Nat) (f : Fld) : Nat := f.get (d.reg a)

/-- A one-bit field is 1. -/
def Device.flag (d : Device) (a : Nat) (f : Fld) : Bool := d.fld a f != 0

/-- A field of the register at a replaced. -/
def Device.setFld (d : Device) (a : Nat) (f : Fld) (x : Nat) : Device := d.setReg a (f.put (d.reg a) x)

/-- A field set to 1. -/
def Device.on (d : Device) (a : Nat) (f : Fld) : Device := d.setFld a f 1

/-- A field set to 0. -/
def Device.off (d : Device) (a : Nat) (f : Fld) : Device := d.setFld a f 0

/-- A counter field counted up by n; it saturates at its largest value. -/
def Device.count (d : Device) (a : Nat) (f : Fld) (n : Nat) : Device :=
  d.setFld a f (min (d.fld a f + n) (2 ^ f.width - 1))

/-- Bit i of a mask field. -/
def Device.maskBit (d : Device) (a : Nat) (f : Fld) (i : Nat) : Bool := bit (d.fld a f) i

/-- Bit i of a mask field set to b. -/
def Device.setMaskBit (d : Device) (a : Nat) (f : Fld) (i : Nat) (b : Bool) : Device :=
  d.setFld a f (d.fld a f - natOf (bit (d.fld a f) i) * 2 ^ i + natOf b * 2 ^ i)

/-- The registers picked return to their reset values (R8, R38); what is held or captured of them is lost. -/
def Device.resetRegs (d : Device) (p : Nat → Bool) : Device :=
  { d with
    regs := d.regs.filter (fun e => !p e.1)
    loHeld := d.loHeld.filter (fun e => !p e.2.1)
    hiCaptured := d.hiCaptured.filter (fun e => !p e.2.1) }

/-! ### Islands (R14, R17, R25) -/

/-- The STATE of island i: 0 ISOLATED, 1 RESET, 2 RUN, 3 OFF. -/
def Device.islandState (d : Device) (i : Nat) : Nat := d.fld (R.ISLE_ENTRY i) F.ISLE_ENTRY.STATE

/-- An access to island i is answered (R25). -/
def Device.answers (d : Device) (i : Nat) : Bool := d.islandState i == 2

/-! ### Free values (assumption log 2) -/

/-- A fresh free 32-bit value. -/
def Device.fresh (d : Device) : BitVec 32 × Device :=
  (Config.freeWord d.freeCtr, { d with freeCtr := d.freeCtr + 1 })

/-- A fresh free 64-bit value. -/
def Device.fresh64 (d : Device) : BitVec 64 × Device :=
  (Config.freeDWord d.freeCtr, { d with freeCtr := d.freeCtr + 1 })

/-- A fresh free lapse of time. -/
def Device.lapse (d : Device) : Nat × Device :=
  (Config.freeElapsed d.freeCtr, { d with freeCtr := d.freeCtr + 1 })

/-! ### Time and host events -/

/-- Flowstone time as it is read (R272). -/
def Device.readFt (d : Device) : Nat × Device :=
  let (t, d) := d.lapse
  ((d.ft + t) % 2 ^ 48, { d with ft := (d.ft + t) % 2 ^ 48 })

/-- Host wall time: 0 while the host has supplied none, and otherwise free (R531; assumption log 4). -/
def Device.wallTime (d : Device) : Nat × Device :=
  if d.reg R.MMP_WALL_LO = 0#32 ∧ d.reg R.MMP_WALL_HI = 0#32 then (0, d)
  else
    let (w, d) := d.fresh64
    (w.toNat, d)

/-- What the registers show of the event queue. -/
def Device.showEvents (d : Device) : Device := d.setFld R.ETH_EVT_STAT F.ETH_EVT_STAT.COUNT d.eth.events.length

/-- A record joins the event queue; one that finds it full is counted and dropped (R532). -/
def Device.raise (d : Device) (code source : Nat) (detail : List Nat) : Device :=
  if 4096 ≤ d.eth.events.length then
    ({ d with eth := { d.eth with lostDue := d.eth.lostDue + 1 } } : Device).count R.ETH_EVT_STAT F.ETH_EVT_STAT.LOST 1
  else
    let (ft, d) := d.readFt
    let (wall, d) := d.wallTime
    let e : EvRec := {
      seq := d.eth.evSeq, code := code, source := source, ft := ft, wall := wall, detail := detail, sent := false, again := false }
    ({ d with eth := { d.eth with events := d.eth.events ++ [e], evSeq := d.eth.evSeq + 1 } } : Device).showEvents

/-- CONFIG_REJECT names the register (R9). -/
def Device.configReject (d : Device) (a : Nat) : Device := d.raise 0x0102 0xFF [a]

/-! ### Memory (R293–R306, R577) -/

/-- The byte at an address. -/
def memByte (m : Mem) (a : Nat) : BitVec 8 := sparseGet 0#8 m a

/-- One byte written. -/
def memPut (m : Mem) (a : Nat) (b : BitVec 8) : Mem := sparseSet 0#8 m a b

/-- n bytes from address a, in address order. -/
def memBytes (m : Mem) (a : Nat) : Nat → List (BitVec 8)
  | 0 => []
  | n + 1 => memByte m a :: memBytes m (a + 1) n

/-- The little-endian number in n bytes from address a (R4). -/
def memNat (m : Mem) (a : Nat) : Nat → Nat
  | 0 => 0
  | n + 1 => (memByte m a).toNat + 256 * memNat m (a + 1) n

/-- Bytes written from address a upward. -/
def memPuts (m : Mem) (a : Nat) : List (BitVec 8) → Mem
  | [] => m
  | b :: l => memPuts (memPut m a b) (a + 1) l

/-- The n low bytes of a number, little-endian (R4). -/
def natBytes : Nat → Nat → List (BitVec 8)
  | 0, _ => []
  | n + 1, v => BitVec.ofNat 8 v :: natBytes n (v / 256)

/-- The number a list of bytes stands for, little-endian. -/
def bytesNat : List (BitVec 8) → Nat
  | [] => 0
  | b :: l => b.toNat + 256 * bytesNat l

/-- The number a list of bytes stands for, big-endian. -/
def bytesNatBe (l : List (BitVec 8)) : Nat := bytesNat l.reverse

/-- The address ranges of R577. -/
def inRom (a : Nat) : Bool := decide (a < 0x40000)
def inSram (a : Nat) : Bool := decide (0x10000000 ≤ a ∧ a < 0x11000000)
def inWindow (a : Nat) : Bool := decide (0x20000000 ≤ a ∧ a < 0x30000000)
def inDram (a : Nat) : Bool := decide (0x100000000 ≤ a ∧ a < 0x1000000000)

/-- The two regions only the FLASH island writes (R295). -/
def inReserved (a : Nat) : Bool := decide (0xFB0000000 ≤ a ∧ a < 0x1000000000)

/-- Channel of an LPDDR4X address (R294). -/
def channelOf (a : Nat) : Nat := (a - 0x100000000) / 256 % 32

/-- Channel offset of an LPDDR4X address (R294). -/
def chanOffset (a : Nat) : Nat := (a - 0x100000000) / 256 / 32 * 256 + (a - 0x100000000) % 256

/-- Controller of an LPDDR4X address (R294). -/
def controllerOf (a : Nat) : Nat := channelOf a / 2

/-- Rank of an LPDDR4X address (R294). -/
def rankOf (a : Nat) : Nat := if chanOffset a < 960 * 1024 * 1024 then 0 else 1

/-- The system address of an offset in a channel (R294, backwards). -/
def addrOfChannel (ch off : Nat) : Nat := 0x100000000 + (off / 256 * 32 + ch) * 256 + off % 256

/-- What the mark of a line is where it is not listed: set for a channel lost under R40. -/
def Device.markDefault (d : Device) (l : Nat) : Bool :=
  inDram (l * 64) && d.lost.toList.getD (channelOf (l * 64)) false

/-- The line holding address a is poisoned (R300). -/
def Device.poisoned (d : Device) (a : Nat) : Bool :=
  d.poison.contains (a / 64) != d.markDefault (a / 64)

/-- The line put among rising lines. -/
def lineInsert (l : Nat) : List Nat → List Nat
  | [] => [l]
  | x :: t => if l < x then l :: x :: t else if l = x then x :: t else x :: lineInsert l t

/-- The line holding a marked poisoned, or not. -/
def Device.mark (d : Device) (a : Nat) (p : Bool) : Device :=
  { d with poison :=
      if p = d.markDefault (a / 64) then d.poison.filter (fun l => l != a / 64) else lineInsert (a / 64) d.poison }

/-- The lines from a that n bytes touch, each with whether the bytes cover all of it. -/
def touchedLines (a n : Nat) : List (Nat × Bool) :=
  if n = 0 then [] else
    (List.range ((a + n - 1) / 64 - a / 64 + 1)).map (fun i =>
      let l := a / 64 + i
      (l * 64, decide (a ≤ l * 64 ∧ l * 64 + 64 ≤ a + n)))

/-- Some line of n bytes from a is poisoned. -/
def Device.poisonedRange (d : Device) (a n : Nat) : Bool := (touchedLines a n).any (fun l => d.poisoned l.1)

/-- Poison after a write of n bytes at a: a clean write of a whole line clears it, a write of less leaves it, and a
write of poisoned data sets it (R300, R301). -/
def Device.writePoison (d : Device) (a n : Nat) (bad : Bool) : Device :=
  (touchedLines a n).foldl (fun d l => if bad then d.mark l.1 true else if l.2 then d.mark l.1 false else d) d

/-- Bytes written to memory at a, with the poison they carry. -/
def Device.store (d : Device) (a : Nat) (bs : List (BitVec 8)) (bad : Bool) : Device :=
  { d.writePoison a bs.length bad with mem := memPuts d.mem a bs }

/-! ### Engine and core contexts -/

/-- The context of an E- or G-profile unit; a management core has none of this kind. -/
def Device.ectx (d : Device) : EUnit → ECtx
  | .core _ => ECtx.reset
  | .eng e => d.engs[e.slot]
  | .sec => d.sec.ctx

/-- The context of an E- or G-profile unit replaced. -/
def Device.setEctx (d : Device) (u : EUnit) (c : ECtx) : Device :=
  match u with
  | .core _ => d
  | .eng e => { d with engs := vset d.engs e.slot c }
  | .sec => { d with sec := { d.sec with ctx := c } }

/-- The context of a loadable engine. -/
def Device.eng (d : Device) (e : Eng) : ECtx := d.engs[e.slot]

/-- The context of a loadable engine replaced. -/
def Device.setEng (d : Device) (e : Eng) (c : ECtx) : Device := { d with engs := vset d.engs e.slot c }

/-- The STATE of an engine (R129): 0 OFF, 1 STARTING, 2 RUNNING, 3 STOPPING, 4 FAULTED. -/
def Device.engState (d : Device) (e : Eng) : Nat := d.fld (R.ENG_STATUS e.win) F.ENG_STATUS.STATE

/-- A management core's context replaced. -/
def Device.setCore (d : Device) (c : Fin 4) (m : MCtx) : Device := { d with cores := vset d.cores c m }

/-- A general register of an E- or G-profile unit; g0 reads as zero (R45). -/
def ECtx.g (c : ECtx) (r : Nat) : BitVec 32 := if r = 0 then 0#32 else c.regs.toList.getD r 0#32

/-- A general register of an E- or G-profile unit written; a write to g0 is discarded (R45). -/
def ECtx.setG (c : ECtx) (r : Nat) (v : BitVec 32) : ECtx :=
  if h : r ≠ 0 ∧ r < 16 then { c with regs := vset c.regs ⟨r, h.2⟩ v } else c

/-- A general register of a management core; g0 reads as zero (R45). -/
def MCtx.g (c : MCtx) (r : Nat) : BitVec 64 := if r = 0 then 0#64 else c.regs.toList.getD r 0#64

/-- A general register of a management core written; a write to g0 is discarded (R45). -/
def MCtx.setG (c : MCtx) (r : Nat) (v : BitVec 64) : MCtx :=
  if h : r ≠ 0 ∧ r < 32 then { c with regs := vset c.regs ⟨r, h.2⟩ v } else c

/-- Fields of STATUS (R99). -/
def MCtx.priv (c : MCtx) : Bool := c.status.getLsbD 0
def MCtx.intEnable (c : MCtx) : Bool := c.status.getLsbD 1
def MCtx.pie (c : MCtx) : Bool := c.status.getLsbD 2
def MCtx.ppriv (c : MCtx) : Bool := c.status.getLsbD 3
def MCtx.exl (c : MCtx) : Bool := c.status.getLsbD 4

/-- STATUS from its fields (R99). -/
def statusOf (priv ie pie ppriv exl : Bool) : BitVec 64 :=
  BitVec.ofNat 64 (natOf priv + 2 * natOf ie + 4 * natOf pie + 8 * natOf ppriv + 16 * natOf exl)

/-- The entry of an exception or interrupt on a management core (R93): PPRIV and PIE take PRIV and IE, IE falls, PRIV
and EXL rise, EPC, CAUSE and TVAL are written, and execution continues at TVEC. -/
def MCtx.enter (c : MCtx) (cause epc tval : BitVec 64) : MCtx :=
  { c with
    status := statusOf true false c.intEnable c.priv true
    epc := epc
    cause := cause
    tval := tval
    pc := c.tvec
    hold := .none }

/-- A synchronous exception, or a WATCHDOG expiry: it stops the core while EXL is 1 (R96), and is entered otherwise
(R93). -/
def MCtx.except (c : MCtx) (cause epc tval : BitVec 64) : MCtx :=
  if c.exl then { c with stopped := true, hold := .none } else c.enter cause epc tval

/-- The return from an exception (R94). -/
def MCtx.retx (c : MCtx) : MCtx :=
  { c with
    pc := c.epc
    status := statusOf c.ppriv c.pie c.pie c.ppriv false }

end Sys2Proof.Machine
end

