-- ==== Sys2Proof/Machine/EthBase.lean ====
section
/-! DEFINITION. Sending on the host port: frames, the flow of MMP DATA packets, replies, events, the end of a session and the
end of a host program (R509, R511–R513, R516–R518, R520, R526, R531, R532, R536). -/

namespace Sys2Proof.Machine

/-- The host port's own state changed. -/
def Device.onEth (d : Device) (f : EthCtx → EthCtx) : Device := { d with eth := f d.eth }

/-- LINK of the port. -/
def Device.ethLink (d : Device) : Bool := d.flag R.ETH_STAT F.ETH_STAT.LINK

/-- A frame leaves on the port, or over the twin link while the partner relays; with neither it is lost. -/
def Device.ethSend (d : Device) (o : EthOut) : Device :=
  if d.ethLink then
    (d.onEth (fun e => { e with out := e.out ++ [o] })).count R.ETH_TX_FRAMES F.ETH_TX_FRAMES.COUNT 1
  else if d.flag R.ETH_STAT F.ETH_STAT.RELAY_OUT && d.flag R.TWIN_STATUS F.TWIN_STATUS.LINK then
    { d with twin := { d.twin with tx := d.twin.tx ++ [.relay o] } }
  else d

/-- The session in force replaced. -/
def Device.setSess (d : Device) (s : Option MmpSession) : Device := d.onEth (fun e => { e with sess := s })

/-- A session is in force with this SESSION_ID. -/
def Device.sessIs (d : Device) (id : Nat) : Bool :=
  match d.eth.sess with
  | none => false
  | some s => s.id == id

/-! ### The end of a session (R516, R517) -/

/-- Records sent in a session that has ended are sent again in the next. -/
def EvRec.unsend (e : EvRec) : EvRec := { e with sent := false, again := e.again || e.sent }

/-- The session ends: replies and streams go, LOADs, host programs and events stay. -/
def Device.endSession (d : Device) : Device :=
  let d := d.onEth (fun e => { e with
    sess := none
    streams := []
    evMsgs := []
    events := e.events.map EvRec.unsend })
  d.off R.ETH_STAT F.ETH_STAT.HOST

/-! ### DATA packets (R511–R513) -/

/-- The next message that waits: a reply or event first, then the streams in turn. -/
def EthCtx.nextMsg (e : EthCtx) (s : MmpSession) : Option (MmpOut × MmpSession × List (Nat × List MmpOut)) :=
  match s.txWait with
  | m :: rest => some (m, { s with txWait := rest }, e.streams)
  | [] => match e.streams with
    | [] => none
    | (id, ms) :: others => match ms with
      | [] => none
      | [m] => some (m, s, others)
      | m :: more => some (m, s, others ++ [(id, more)])

/-- Messages leave while the host's window lets them; the session ends before a PSN could reach 2^40. -/
def Device.mmpPump : Nat → Device → Device
  | 0, d => d
  | n + 1, d =>
    match d.eth.sess with
    | none => d
    | some s =>
      if s.txTop < s.txNext then d
      else match d.eth.nextMsg s with
        | none => d
        | some (m, s, streams) =>
          if 2 ^ 40 ≤ s.txNext + 1 then d.endSession
          else
            let d := d.onEth (fun e => { e with
              sess := some { s with txNext := s.txNext + 1, unacked := s.unacked ++ [(s.txNext, m)] }
              streams := streams })
            Device.mmpPump n (d.ethSend (.data s.id s.txNext s.rxAck s.rxWindow m s.peer))

/-- As many messages as wait. -/
def EthCtx.waiting (e : EthCtx) : Nat :=
  (e.sess.elim 0 (fun s => s.txWait.length)) + (e.streams.map (fun p => p.2.length)).sum

/-- Whatever may leave leaves. -/
def Device.mmpFlow (d : Device) : Device := Device.mmpPump d.eth.waiting d

/-- A message handed over for the session with an identifier; one of another session is discarded (R521). -/
def Device.mmpSend (d : Device) (id : Nat) (m : MmpOut) : Device :=
  match d.eth.sess with
  | none => d
  | some s => if s.id = id then (d.setSess (some { s with txWait := s.txWait ++ [m] })).mmpFlow else d

/-! ### Replies (R518–R520) -/

/-- A reply. -/
def replyOf (kind tag result code index : Nat) (body : List (BitVec 8)) : MmpOut where
  kind := kind
  reply := true
  tag := tag
  result := result
  code := code
  index := index
  body := body
  records := []

/-- The results of R520. -/
def mmpOk : Nat := 0
def mmpBadMsg : Nat := 1
def mmpDenied : Nat := 2
def mmpBusy : Nat := 3
def mmpRefused : Nat := 4
def mmpPoisoned : Nat := 5
def mmpXdown : Nat := 6
def mmpUnsupported : Nat := 7

/-! ### Events (R532) -/

/-- Records that fit one EVENT message, at most 64. -/
def MmpSession.eventRoom (s : MmpSession) : Nat := min 64 ((s.maxp * 1024 - 16) / 48)

/-- EVENT messages carry every queued record not yet sent in this session. -/
def Device.flushEvents : Nat → Device → Device
  | 0, d => d
  | n + 1, d =>
    match d.eth.sess with
    | none => d
    | some s =>
      let recs := (d.eth.events.filter (fun e => !e.sent)).take s.eventRoom
      match recs.getLast? with
      | none => d
      | some last =>
        let tag := d.eth.evTag
        let d := d.onEth (fun e => { e with
          events := e.events.map (fun x => if recs.any (fun r => r.seq == x.seq) then { x with sent := true } else x)
          evTag := (tag + 1) % 2 ^ 16
          evMsgs := e.evMsgs ++ [(tag, last.seq)] })
        Device.flushEvents n (d.mmpSend s.id
          { kind := 7, reply := false, tag := tag, result := 0, code := 0, index := 0, body := [], records := recs })

/-- Every record that waits is sent. -/
def Device.sendEvents (d : Device) : Device := Device.flushEvents d.eth.events.length d

/-! ### Host programs (R525, R526) -/

/-- The reply of a host program that has ended. -/
def Device.runReply (d : Device) (r : HostRun) (ending : Nat) (tval : BitVec 64) : Device :=
  let c := d.cores[r.core]
  let body := natBytes 1 ending ++ natBytes 1 r.core.val ++ natBytes 2 r.out.length ++ natBytes 4 0 ++
    natBytes 8 (c.g 1).toNat ++ natBytes 8 tval.toNat ++ natBytes 8 (c.instret - r.instret).toNat ++
    r.out.flatMap (fun w => natBytes 4 w.toNat)
  let d := d.onEth (fun e => { e with runs := e.runs.filter (fun x => x.core != r.core) })
  d.mmpSend r.session (replyOf 4 r.tag mmpOk 0 0 body)

/-- A user-mode exception on a core that runs a host program: TRAP with code 1 appends the low 32 bits of g2 to its output;
any other exception, and HALT, ends it (R101, R525). -/
def Device.runException (d : Device) (c : Fin 4) (cause tval : BitVec 64) : Device :=
  match d.eth.runs.find? (fun r => r.core == c) with
  | none => d
  | some r =>
    let m := d.cores[c]
    if m.priv then d
    else if cause = 0x0C#64 ∧ tval = 1#64 ∧ r.out.length < 256 then
      let r := { r with out := r.out ++ [(m.g 2).truncate 32] }
      d.onEth (fun e => { e with runs := e.runs.map (fun x => if x.core == c then r else x) })
    else d.runReply r (cause.toNat % 256) tval

/-- Every host program ends with a code: 0xFD at a firmware restart or handover. -/
def Device.runsEnd (d : Device) (ending : Nat) : Device := d.eth.runs.foldl (fun d r => d.runReply r ending 0#64) d

/-! ### Relay (R536) -/

/-- RELAY_ENDED, with the time the port was down. -/
def Device.relayEnded (d : Device) : Device :=
  let (t, d) := d.lapse
  d.raise 0x0C03 0xFF [t]

/-- Relay ends with the twin link. -/
def Device.relayLost (d : Device) : Device :=
  if d.flag R.ETH_STAT F.ETH_STAT.RELAY_OUT || d.flag R.ETH_STAT F.ETH_STAT.RELAY_IN then
    ((d.off R.ETH_STAT F.ETH_STAT.RELAY_OUT).off R.ETH_STAT F.ETH_STAT.RELAY_IN).relayEnded
  else d

end Sys2Proof.Machine
end

