-- ==== Sys2Proof/Machine/Flags.lean ====
section
/-! DEFINITION. What a write does to each kind of register field (R6, R7, R9): the access codes, the judgment of a
settable field against its range, and the flags that a write of 1 clears. -/

namespace Sys2Proof.Machine

/-- A field that a write sets to a value. -/
def Access.settable : Access → Bool
  | .rw => true
  | .rwl => true
  | _ => false

/-- A write would change a settable field (R9). -/
def FieldRow.changes (f : FieldRow) (old v : BitVec 32) : Bool := f.access.settable && f.fld.get v != f.fld.get old

/-- A write's value for a settable field that it would change lies outside the range, or is denied for another reason
(R9). -/
def FieldRow.refused (f : FieldRow) (deny : Fld → Bool) (old v : BitVec 32) : Bool :=
  f.changes old v && (!f.limit.admits (f.fld.get v) || deny f.fld)

/-- The word after one field's part of a write: a settable field takes an admitted value, a W1C field loses the bits
written as 1, and every other field keeps its value. -/
def FieldRow.write (f : FieldRow) (deny : Fld → Bool) (old v w : BitVec 32) : BitVec 32 :=
  match f.access with
  | .w1c => f.fld.put w ((f.fld.get old) &&& ((2 ^ f.fld.width - 1) - f.fld.get v))
  | _ => if f.changes old v && !f.refused deny old v then f.fld.put w (f.fld.get v) else w

/-- The word a register holds after a write, judged field by field (R9); reserved bits keep their value (R7). -/
def writeFields (fs : List FieldRow) (deny : Fld → Bool) (old v : BitVec 32) : BitVec 32 :=
  fs.foldl (fun w f => f.write deny old v w) old

/-- Some field of a write is refused. -/
def writeRefused (fs : List FieldRow) (deny : Fld → Bool) (old v : BitVec 32) : Bool :=
  fs.any (fun f => f.refused deny old v)

/-- The fields of the register at an address. -/
def fieldsAt (a : Nat) : List FieldRow :=
  match regRowAt a with
  | none => []
  | some r => r.fields

/-- A write of a whole register, field by field; one CONFIG_REJECT names the register where a field is refused (R9).
`deny` judges a field by the word as it stands after the same write. -/
def Device.writeReg (d : Device) (a : Nat) (v : BitVec 32) (deny : BitVec 32 → Fld → Bool) : Device :=
  let old := d.reg a
  let fs := fieldsAt a
  let after := writeFields fs (fun _ => false) old v
  let d1 := d.setReg a (writeFields fs (deny after) old v)
  if writeRefused fs (deny after) old v then d1.configReject a else d1

end Sys2Proof.Machine
end

