-- ==== Sys2Proof/Machine/EngineBase.lean ====
section
/-! DEFINITION. The states of a loadable engine (R134–R140): starting, stopping, halting and faulting, with what the
chapter of each engine type adds left to it. -/

namespace Sys2Proof.Machine

/-- Microseconds as they are read (assumption log 4). -/
def Device.now (d : Device) : Nat × Device :=
  let (t, d) := d.lapse
  (d.clock + t, { d with clock := d.clock + t })

/-- Every loadable engine. -/
def engines : List Eng :=
  (List.finRange 9).map .seq ++ (List.finRange 2).map .cool ++ (List.finRange 12).map .bus ++
    (List.finRange 8).map .wit ++ (List.finRange 12).map .gc

/-- STATE of an engine set. -/
def Device.setState (d : Device) (e : Eng) (st : Nat) : Device :=
  d.setFld (R.ENG_STATUS e.win) F.ENG_STATUS.STATE st

/-- PEND of an engine. -/
def Device.pend (d : Device) (e : Eng) : Bool := d.flag (R.ENG_CTL e.win) F.ENG_CTL.PEND

/-- PEND of an engine set. -/
def Device.setPend (d : Device) (e : Eng) (b : Bool) : Device := d.setFld (R.ENG_CTL e.win) F.ENG_CTL.PEND (natOf b)

/-- The engine is OFF or FAULTED. -/
def Device.engIdle (d : Device) (e : Eng) : Bool := d.engState e == 0 || d.engState e == 4

/-- The engine is RUNNING or STOPPING. -/
def Device.engRuns (d : Device) (e : Eng) : Bool := d.engState e == 2 || d.engState e == 3

/-- Entry k is defined (R134). -/
def Device.entryDefined (d : Device) (e : Eng) (k : Nat) : Bool :=
  d.maskBit (R.ENG_PROG_INFO e.win) F.ENG_PROG_INFO.ENTRY_MASK k

/-- ENG_CTL.ENTRY. -/
def Device.startEntry (d : Device) (e : Eng) : Nat := d.fld (R.ENG_CTL e.win) F.ENG_CTL.ENTRY

/-- An install is open. -/
def Device.loadOpen (d : Device) (e : Eng) : Bool := d.flag (R.ENG_LOAD_STATUS e.win) F.ENG_LOAD_STATUS.OPEN

/-- PROG_VALID. -/
def Device.progValid (d : Device) (e : Eng) : Bool := d.flag (R.ENG_STATUS e.win) F.ENG_STATUS.PROG_VALID

/-- The program continues at entry k: a WAIT, SLEEP or YIELD in progress ends at once without writing gd; a port write
that waits for its ACK completes first (R134, R552). -/
def Device.engGoto (d : Device) (e : Eng) (k : Nat) : Device :=
  let c := d.eng e
  d.setEng e { c with
    pc := 4 * d.fld (R.ENG_ENTRY e.win k) F.ENG_ENTRY.INDEX
    hold := if c.hold = .step then .step else .none }

/-- Entry into STARTING: g1 to g15, the local data and the inbound mailbox are cleared (R134). -/
def Device.engStarting (d : Device) (e : Eng) : Device :=
  let d := (d.setPend e false).setState e 1
  let d := d.count (R.ENG_STATUS e.win) F.ENG_STATUS.START_CNT 1
  d.setEng e { d.eng e with regs := Vector.replicate 16 0#32, data := [], mboxIn := [], hold := .none }

/-- A START is refused (R134, R140). -/
def Device.startRefused (d : Device) (e : Eng) : Bool :=
  !d.progValid e || d.loadOpen e || !d.entryDefined e (d.startEntry e)

/-- A START reaches the engine (R134, R135, R139); `held` says that the block holds it. -/
def Device.engStartReq (d : Device) (e : Eng) (held : Bool) : Device :=
  match d.engState e with
  | 1 => d
  | 2 => d
  | 3 => d.setPend e true
  | _ =>
    if d.pend e then d
    else if d.startRefused e then d.on (R.ENG_STATUS e.win) F.ENG_STATUS.START_REJ
    else if (d.eng e).toff || !(d.eng e).released || held then d.setPend e true
    else d.engStarting e

/-- A held START acts when nothing holds it any more, stays held while an install is open, and is refused without a valid
program or a defined entry (R134, R140). -/
def Device.engTryPend (d : Device) (e : Eng) (held : Bool) : Device :=
  if !(d.engIdle e && d.pend e) || (d.eng e).toff || !(d.eng e).released || held || d.loadOpen e then d
  else if d.startRefused e then (d.on (R.ENG_STATUS e.win) F.ENG_STATUS.START_REJ).setPend e false
  else d.engStarting e

/-- T_off_min starts (R134). -/
def Device.toffStart (d : Device) (e : Eng) : Device := d.setEng e { d.eng e with toff := true }

/-- Entry into OFF; T_off_min starts where the block's rules let it (R134, R338). -/
def Device.engOff (d : Device) (e : Eng) (toff : Bool) : Device :=
  let faulted := d.engState e == 4
  let d := d.setState e 0
  let d := d.setEng e { d.eng e with hold := .none }
  if toff && !faulted then d.toffStart e else d

/-- Entry into FAULTED with CAUSE and PC (R90, R129, R134). -/
def Device.engFaulted (d : Device) (e : Eng) (c : Cause) (pc : Nat) (toff : Bool) : Device :=
  let d := d.setState e 4
  let d := d.setFld (R.ENG_FAULT e.win) F.ENG_FAULT.CAUSE c.code
  let d := d.setFld (R.ENG_FAULT e.win) F.ENG_FAULT.PC pc
  let d := d.count (R.ENG_FAULT e.win) F.ENG_FAULT.FAULT_CNT 1
  let d := d.setEng e { d.eng e with hold := .none }
  if toff then d.toffStart e else d

/-- The start check passes: the program begins at ENG_CTL.ENTRY (R134). -/
def Device.engRunning (d : Device) (e : Eng) : Device := (d.setState e 2).engGoto e (d.startEntry e)

/-- The program continues at its stop entry. -/
def Device.engStopping (d : Device) (e : Eng) : Device := (d.setState e 3).engGoto e 1

/-- What a STOP does (R134): to the stop entry, or to OFF with the engine-lost action `lost`. -/
def Device.engStopReq (d : Device) (e : Eng) (lost : Device → Device) : Device :=
  match d.engState e with
  | 1 => lost ((d.engOff e true).setPend e false)
  | 2 => if d.entryDefined e 1 then d.engStopping e else lost (d.engOff e true)
  | _ => d.setPend e false

/-- What a KILL does (R134). -/
def Device.engKillReq (d : Device) (e : Eng) (lost : Device → Device) : Device :=
  match d.engState e with
  | 0 => d.setPend e false
  | 4 => (d.engOff e false).setPend e false
  | _ => lost ((d.engOff e true).setPend e false)

/-- The words of the program store that an install gives (R131): instructions 0 to CODE_LEN − 1. -/
def Device.programBytes (d : Device) (e : Eng) (len : Nat) : List (BitVec 8) :=
  (List.range len).flatMap (fun x => natBytes 4 (d.reg (e.win + 0x1000 + 4 * x)).toNat)

end Sys2Proof.Machine
end

