-- ==== Sys2Proof/Machine/BusBase.lean ====
section
/-! DEFINITION. What a two-wire bus shows of the tray as a target: its STATUS word and the alert it asserts when that
word changes (R416, R422). -/

namespace Sys2Proof.Machine

/-- A bus's context. -/
def Device.bus (d : Device) (m : Fin 12) : BusCtx := d.buses[m]

/-- A bus's context replaced. -/
def Device.setBus (d : Device) (m : Fin 12) (c : BusCtx) : Device := { d with buses := vset d.buses m c }

/-- The buses. -/
def busIds : List (Fin 12) := List.finRange 12

/-- The STATUS word of the target (R416). -/
def Device.statusWord (d : Device) : Nat :=
  d.fld R.TR_STAT F.TR_STAT.VIN_LOW +
  2 * natOf (d.fld (R.SQ_STATUS 8) F.SQ_STATUS.PWR == 4) +
  4 * d.fld R.CL_MODE F.CL_MODE.FAIL_OVR +
  8 * d.fld R.CL_MODE F.CL_MODE.LEAK_OVR +
  16 * d.fld R.CL_MODE F.CL_MODE.FAULT_OVR +
  32 * natOf (d.fld R.PC_STAT F.PC_STAT.CAP_MASK != 0) +
  64 * natOf ((List.range 8).any (fun b => d.fld (R.WIT_HEALTH b) F.WIT_HEALTH.BAY_HEALTH == 2)) +
  128 * natOf (d.fld R.CL_MODE F.CL_MODE.MODE_NOW == 2)

/-- A change of the STATUS word asserts BUSm_ALERT_N of every bus whose ALERT_OUT is 1 (R422). -/
def Device.alertCheck (d : Device) : Device :=
  let w := d.statusWord
  busIds.foldl (fun d m =>
    let c := d.bus m
    if c.lastStatus = w then d
    else d.setBus m { c with
      lastStatus := w
      alert := c.alert || d.flag (R.BUS_CFG m.val) F.BUS_CFG.ALERT_OUT }) d

end Sys2Proof.Machine
end

