-- ==== Sys2Proof/Machine/LinkBase.lean ====
section
/-! DEFINITION. Sending on the witness link: records as bytes, their flits, credit, and the end of a session
(R145–R158, R164, R168, R170, R184, R186). -/

namespace Sys2Proof.Machine

/-! ### Records as bytes -/

/-- TYPE of a record (R159). -/
def TxRec.type : TxRec → Nat
  | .hello _ _ => 0x01
  | .caps _ => 0x02
  | .epoch _ _ _ _ _ => 0x04
  | .sealRec _ _ _ => 0x40
  | .hold _ _ _ => 0x41
  | .replay _ _ _ _ _ _ => 0x42
  | .observe _ _ _ => 0x43
  | .fence _ _ => 0x44
  | .unfence _ _ => 0x45
  | .stencil _ _ _ _ _ _ _ => 0x46
  | .throttle _ _ => 0x47
  | .maint _ _ => 0x48
  | .nak _ _ _ _ _ => 0x4F

/-- EPOCH and STEP of a record's header; zero in a link-scoped record (R158). -/
def TxRec.epochStep : TxRec → Nat × Nat
  | .epoch e s _ _ _ => (e, s)
  | .sealRec e s _ => (e, s)
  | .hold e s _ => (e, s)
  | .replay e s _ _ _ _ => (e, s)
  | .observe e s _ => (e, s)
  | _ => (0, 0)

/-- Zero bytes. -/
def zeros (n : Nat) : List (BitVec 8) := List.replicate n 0#8

/-- Bytes padded with zeros to a multiple of 4. -/
def pad4 (l : List (BitVec 8)) : List (BitVec 8) := l ++ zeros ((4 - l.length % 4) % 4)

/-- The body of a record on bay b (R164, R168). -/
def TxRec.body (b : Bay) : TxRec → List (BitVec 8)
  | .hello pair pid =>
    natBytes 4 0x4E524D41 ++ natBytes 1 1 ++ natBytes 1 1 ++ natBytes 1 b.val ++
      natBytes 1 (natOf pair + 2 * natOf pid) ++ natBytes 2 1024 ++ natBytes 2 4096 ++ natBytes 2 64 ++ zeros 34
  | .caps m => natBytes 1 1 ++ natBytes 1 4 ++ zeros 2 ++ natBytes 4 m ++ zeros 8
  | .epoch _ _ lag shift sd => natBytes 1 lag ++ natBytes 1 shift ++ zeros 6 ++ natBytes 8 sd
  | .sealRec _ _ sd => natBytes 8 sd ++ zeros 8
  | .hold _ _ c => natBytes 1 c ++ zeros 15
  | .replay _ _ tile rs os f => natBytes 4 tile ++ natBytes 1 rs ++ natBytes 1 os ++ natBytes 1 f ++ zeros 9
  | .observe _ _ m => natBytes 1 m ++ zeros 15
  | .fence s r => natBytes 1 s ++ natBytes 1 r ++ zeros 14
  | .unfence s r => natBytes 1 s ++ natBytes 1 r ++ zeros 14
  | .stencil id s part last off len data =>
    natBytes 4 id ++ natBytes 1 s ++ natBytes 1 part ++ natBytes 1 (natOf last) ++ zeros 1 ++ natBytes 4 off ++
      natBytes 4 len ++ pad4 data
  | .throttle t c => natBytes 1 t ++ natBytes 1 c ++ zeros 14
  | .maint tag bs => natBytes 2 tag ++ zeros 2 ++ bs
  | .nak c ty e s det =>
    natBytes 1 c ++ natBytes 1 ty ++ natBytes 2 e ++ natBytes 6 s ++ zeros 2 ++ natBytes 4 det

/-- A record with its header (R157): generation 1. -/
def TxRec.bytes (b : Bay) (r : TxRec) : List (BitVec 8) :=
  let body := r.body b
  natBytes 1 (1 + 16 * b.val) ++ natBytes 1 r.type ++ natBytes 2 r.epochStep.1 ++ natBytes 6 r.epochStep.2 ++
    natBytes 2 (16 + body.length) ++ zeros 4 ++ body

/-! ### Flits -/

/-- The flits of one record: payloads of 240 bytes, the first with FIRST_REC 0, the last filled up with padding
(R145, R148). -/
def packFlits (bs : List (BitVec 8)) : List (Nat × List (BitVec 8)) :=
  (List.range ((bs.length + 239) / 240)).map (fun i =>
    let p := (bs.drop (240 * i)).take 240
    (if i = 0 then 0 else 0xFF, p ++ zeros (240 - p.length)))

/-- A flit as it leaves: the acknowledgement and credit fields are those of the moment (R150, R154). -/
def LaneCtx.stamp (l : LaneCtx) (cr : Nat × Nat × Nat) (f : TxFlit) : SentFlit where
  kind := 1
  fseq := f.fseq
  nak := false
  ackValid := l.rxAny
  ackSeq := (l.rxNext + 255) % 256
  firstRec := f.firstRec
  credits := (cr.1 % 65536, cr.2.1 % 65536, cr.2.2 % 65536)
  payload := f.payload

/-- Waiting flits leave while fewer than 64 are unacknowledged and the lane runs (R150). -/
def LaneCtx.pump (l : LaneCtx) (cr : Nat × Nat × Nat) : LaneCtx :=
  if l.phase ≠ .run then l
  else
    let out := (l.wait.take (64 - l.buf.length)).zipIdx.map (fun p =>
      { fseq := (l.nextSeq + p.2) % 256, firstRec := p.1.1, payload := p.1.2 : TxFlit })
    { l with
      buf := l.buf ++ out
      wait := l.wait.drop out.length
      nextSeq := (l.nextSeq + out.length) % 256
      sent := l.sent ++ out.map (l.stamp cr) }

/-- A record's flits join those that wait to leave. -/
def LaneCtx.enqueue (l : LaneCtx) (cr : Nat × Nat × Nat) (bs : List (BitVec 8)) : LaneCtx :=
  { l with wait := l.wait ++ packFlits bs }.pump cr

/-! ### Sessions -/

/-- The session state of bay b (R170, R185): 0 DOWN, 1 TRAINED, 2 HELLO, 3 READY, 4 ACTIVE. -/
def Device.session (d : Device) (b : Bay) : Nat := d.fld (R.WITL_STATUS b.val) F.WITL_STATUS.STATE

/-- The session state set. -/
def Device.setSession (d : Device) (b : Bay) (st : Nat) : Device :=
  d.setFld (R.WITL_STATUS b.val) F.WITL_STATUS.STATE st

/-- The link state of bay b. -/
def Device.link (d : Device) (b : Bay) : LinkCtx := d.links[b]

/-- The link state of bay b replaced. -/
def Device.setLink (d : Device) (b : Bay) (k : LinkCtx) : Device := { d with links := vset d.links b k }

/-- The device sends a record on bay b's lane. -/
def Device.sendRec (d : Device) (b : Bay) (r : TxRec) : Device :=
  let k := d.link b
  let d := d.setLink b { k with lane := k.lane.enqueue k.returned (r.bytes b) }
  { d with txRecs := vset d.txRecs b (d.txRecs[b] ++ [r]) }

/-- DEV units the device holds (R154). -/
def LinkCtx.devHeld (k : LinkCtx) : Nat := k.devGrant + k.devTotal - k.devUsed

/-- Units of credit a record takes (R153). -/
def unitsOf (len : Nat) : Nat := (len + 63) / 64

/-- STENCIL records leave in order while the device holds credit for the whole of the next (R155). -/
def Device.pumpDev (d : Device) (b : Bay) : Device :=
  (d.link b).devWait.foldl (fun d r =>
    let k := d.link b
    let n := unitsOf (r.bytes b).length
    if k.devWait.head? = some r ∧ n ≤ k.devHeld then
      (d.setLink b { k with devWait := k.devWait.drop 1, devUsed := k.devUsed + n }).sendRec b r
    else d) d

/-- A STENCIL record handed to the lane, or held until there is credit. -/
def Device.sendDev (d : Device) (b : Bay) (r : TxRec) : Device :=
  (d.setLink b { d.link b with devWait := (d.link b).devWait ++ [r] }).pumpDev b

/-- What the end of a session clears: GO and FULL, with TX_LOST for an unsent MAINT (R184, R186), the MAINT requests
open and what was received and not yet taken. -/
def Device.endMaint (d : Device) (b : Bay) : Device :=
  let d := if d.flag (R.WITL_MAINT_TXCTL b.val) F.WITL_MAINT_TXCTL.GO then
    (d.off (R.WITL_MAINT_TXCTL b.val) F.WITL_MAINT_TXCTL.GO).on (R.WITL_MAINT_RXSTAT b.val) F.WITL_MAINT_RXSTAT.TX_LOST
    else d
  let d := d.off (R.WITL_MAINT_RXSTAT b.val) F.WITL_MAINT_RXSTAT.FULL
  d.setLink b { d.link b with tags := [] }

end Sys2Proof.Machine
end

