-- ==== Sys2Proof/Machine/Formats.lean ====
section
/-! DEFINITION. Number formats (R232, R233), the packing of elements (R165), CRC-32C (R146) and CRC-8. -/

namespace Sys2Proof.Machine

/-- Which patterns of a floating-point format are not finite. -/
inductive Special where
  /-- none -/
  | none
  /-- exponent and fraction all ones: NaN (E4M3) -/
  | nanOnly
  /-- exponent all ones: infinity where the fraction is 0, else NaN -/
  | ieee
  deriving DecidableEq, Repr

/-- A floating-point element: its exponent bits, fraction bits, bias and special patterns. -/
structure FloatFmt where
  ebits : Nat
  fbits : Nat
  bias : Nat
  special : Special
  deriving DecidableEq, Repr

/-- The element of a format code, where it is a floating-point one (R232). -/
def floatFmt : Nat → Option FloatFmt
  | 0x00 => some ⟨8, 23, 127, .ieee⟩
  | 0x01 => some ⟨8, 7, 127, .ieee⟩
  | 0x02 => some ⟨5, 10, 15, .ieee⟩
  | 0x03 => some ⟨4, 3, 7, .nanOnly⟩
  | 0x04 => some ⟨5, 2, 15, .ieee⟩
  | 0x05 => some ⟨4, 3, 7, .nanOnly⟩
  | 0x06 => some ⟨5, 2, 15, .ieee⟩
  | 0x07 => some ⟨3, 2, 3, .none⟩
  | 0x08 => some ⟨2, 3, 1, .none⟩
  | 0x09 => some ⟨2, 1, 1, .none⟩
  | _ => none

/-- The width of an element of a format code in bits (R232). -/
def fmtWidth (f : Nat) : Nat :=
  match f with
  | 0x00 => 32
  | 0x01 => 16
  | 0x02 => 16
  | 0x07 => 6
  | 0x08 => 6
  | 0x09 => 4
  | 0x0C => 4
  | 0x0D => 32
  | _ => 8

/-- A format code of R232 that is not reserved. -/
def fmtDefined (f : Nat) : Bool := decide (f ≤ 0x0D)

/-- An MX format (R165). -/
def fmtMx (f : Nat) : Bool := decide (0x05 ≤ f ∧ f ≤ 0x0A)

/-- An integer format. -/
def fmtInt (f : Nat) : Bool := f == 0x0B || f == 0x0C || f == 0x0D

/-- A two's complement number of w bits. -/
def signed (w n : Nat) : Int := if n < 2 ^ (w - 1) then (n : Int) else (n : Int) - 2 ^ w

/-- The number a floating-point element's bits stand for. -/
def FloatFmt.num (f : FloatFmt) (n : Nat) : Num :=
  let frac := n % 2 ^ f.fbits
  let ex := n / 2 ^ f.fbits % 2 ^ f.ebits
  let neg := bit n (f.ebits + f.fbits)
  let top := 2 ^ f.ebits - 1
  let sign (m : Nat) : Int := if neg then -(m : Int) else m
  if f.special = .ieee ∧ ex = top then (if frac = 0 then .inf neg else .nan)
  else if f.special = .nanOnly ∧ ex = top ∧ frac = 2 ^ f.fbits - 1 then .nan
  else if ex = 0 then .fin (sign frac) (1 - (f.bias : Int) - f.fbits)
  else .fin (sign (2 ^ f.fbits + frac)) ((ex : Int) - f.bias - f.fbits)

/-- The number an element's bits stand for, without block scale (R232). -/
def elemNum (f n : Nat) : Num :=
  match floatFmt f with
  | some p => p.num n
  | none => if f = 0x0A then .fin (signed 8 n) (-6) else .fin (signed (fmtWidth f) n) 0

/-- The value of a block scale byte (R233). -/
def scaleNum (s : Nat) : Num := if s = 0xFF then .nan else .fin 1 ((s : Int) - 127)

/-- A number times a block scale (R233). -/
def Num.scale (x s : Num) : Num :=
  match x, s with
  | .nan, _ => .nan
  | _, .nan => .nan
  | _, .inf _ => .nan
  | .inf n, _ => .inf n
  | .fin m e, .fin _ k => .fin m (e + k)

/-- Element e of width w in a packed list of bytes, bit 0 first (R165). -/
def elemBits (bs : List (BitVec 8)) (w e : Nat) : Nat :=
  bytesNat ((bs.drop (e * w / 8)).take 5) / 2 ^ (e * w % 8) % 2 ^ w

/-- The place of a finite element in the ordered set of its format's finite values, +0 and −0 being one (R311). -/
def FloatFmt.place (f : FloatFmt) (n : Nat) : Int :=
  let mag := n % 2 ^ (f.ebits + f.fbits)
  if bit n (f.ebits + f.fbits) then -(mag : Int) else mag

/-- An element matches the expected one within a tolerance (R311). -/
def elemMatches (f tol a b : Nat) : Bool :=
  match floatFmt f with
  | none =>
    let w := if f = 0xFF then 8 else fmtWidth f
    if f = 0xFF then a == b else decide ((signed w a - signed w b).natAbs ≤ tol)
  | some p =>
    match p.num a, p.num b with
    | .nan, .nan => true
    | .inf x, .inf y => x == y
    | .fin _ _, .fin _ _ => decide ((p.place a - p.place b).natAbs ≤ tol)
    | _, _ => false

/-! ### Exact numbers and their rounding (R196, R243) -/

/-- m · 2^e as a whole number of units 2^k, for k at most e. -/
def scaleTo (m : Int) (e k : Int) : Int := m * 2 ^ (e - k).toNat

/-- The exact sum of two finite numbers. -/
def finAdd (a b : Int × Int) : Int × Int :=
  let k := min a.2 b.2
  (scaleTo a.1 a.2 k + scaleTo b.1 b.2 k, k)

/-- a ≤ b for two finite numbers. -/
def finLe (a b : Int × Int) : Bool :=
  let k := min a.2 b.2
  decide (scaleTo a.1 a.2 k ≤ scaleTo b.1 b.2 k)

/-- A magnitude m · 2^e rounded up to p significant bits with no unit below 2^emin. -/
def roundUpMag (p : Nat) (emin : Int) (m : Nat) (e : Int) : Nat × Int :=
  if m = 0 then (0, emin)
  else
    let k := max (e + (m.log2 + 1 : Nat) - p) emin
    if k ≤ e then (m, e) else ((m + 2 ^ (k - e).toNat - 1) / 2 ^ (k - e).toNat, k)

/-- A magnitude rounded down in the same way. -/
def roundDownMag (p : Nat) (emin : Int) (m : Nat) (e : Int) : Nat × Int :=
  if m = 0 then (0, emin)
  else
    let k := max (e + (m.log2 + 1 : Nat) - p) emin
    if k ≤ e then (m, e) else (m / 2 ^ (k - e).toNat, k)

/-- A magnitude rounded to nearest, ties to even. -/
def roundNearMag (p : Nat) (emin : Int) (m : Nat) (e : Int) : Nat × Int :=
  if m = 0 then (0, emin)
  else
    let k := max (e + (m.log2 + 1 : Nat) - p) emin
    if k ≤ e then (m, e)
    else
      let u := 2 ^ (k - e).toNat
      let q := m / u
      let r := m % u
      (if 2 * r < u ∨ (2 * r = u ∧ q % 2 = 0) then q else q + 1, k)

/-- m · 2^e is below 2^n. -/
def magBelow (m : Nat) (e : Int) (n : Nat) : Bool := finLe ((m : Int), e) (1, (n : Int)) && !finLe (1, (n : Int)) ((m : Int), e)

/-- The binary64 format. -/
def binary64 : FloatFmt := ⟨11, 52, 1023, .ieee⟩

/-- A magnitude rounded up to binary64; none where it overflows to infinity. -/
def up64 (m : Nat) (e : Int) : Option (Nat × Int) :=
  let r := roundUpMag 53 (-1074) m e
  if magBelow r.1 r.2 1024 then some r else none

/-- One bit of a reflected CRC-32C division. -/
def crcBit (c : BitVec 32) : BitVec 32 :=
  if c.getLsbD 0 then (c >>> 1) ^^^ 0x82F63B78#32 else c >>> 1

/-- One byte taken into a CRC-32C. -/
def crcByte (c : BitVec 32) (b : BitVec 8) : BitVec 32 :=
  crcBit (crcBit (crcBit (crcBit (crcBit (crcBit (crcBit (crcBit (c ^^^ b.zeroExtend 32))))))))

/-- CRC-32C of a list of bytes: initial value all ones, inverted result (R146). -/
def crc32c (bs : List (BitVec 8)) : BitVec 32 := ~~~ (bs.foldl crcByte 0xFFFFFFFF#32)

/-- One bit of the SMBus CRC-8 division (polynomial 0x07). -/
def pecBit (c : BitVec 8) : BitVec 8 := if c.getLsbD 7 then (c <<< 1) ^^^ 0x07#8 else c <<< 1

/-- One byte taken into a PEC. -/
def pecByte (c b : BitVec 8) : BitVec 8 :=
  pecBit (pecBit (pecBit (pecBit (pecBit (pecBit (pecBit (pecBit (c ^^^ b))))))))

/-- The PEC of a list of bytes (R409). -/
def pec (bs : List (BitVec 8)) : BitVec 8 := bs.foldl pecByte 0#8

end Sys2Proof.Machine
end

