-- ==== Sys2Proof/Machine/MemCtl.lean ====
section
/-! DEFINITION. Memory controllers: errors found on reads, the patrol scrubber, training (R293–R309). -/

namespace Sys2Proof.Machine

/-- Controller j as an index. -/
def mcIndex (j : Nat) : Fin 16 := ⟨j % 16, Nat.mod_lt _ (by decide)⟩

/-- The record of a line poisoned at its controller (R299, R306, R40): kind 1 uncorrectable, 2 parity, 3 lost. -/
def Device.mcRecord (d : Device) (a kind : Nat) (byScrub : Bool) : Device :=
  let j := controllerOf a
  let d := d.setReg (R.MC_ERR_ADDR_LO j) (BitVec.ofNat 32 (a / 64 * 64))
  let d := d.setFld (R.MC_ERR_ADDR_HI j) F.MC_ERR_ADDR_HI.ADDR (a / 2 ^ 32)
  let d := d.on (R.MC_ERR_ADDR_HI j) F.MC_ERR_ADDR_HI.VALID
  let d := d.setFld (R.MC_ERR_INFO j) F.MC_ERR_INFO.KIND kind
  let d := d.setFld (R.MC_ERR_INFO j) F.MC_ERR_INFO.CHANNEL (channelOf a % 2)
  let d := d.setFld (R.MC_ERR_INFO j) F.MC_ERR_INFO.RANK (rankOf a)
  d.setFld (R.MC_ERR_INFO j) F.MC_ERR_INFO.BY_SCRUB (natOf byScrub)

/-- A correctable error found by a read (R298). -/
def Device.corrected (d : Device) (a : Nat) : Device :=
  let j := controllerOf a
  let d := d.count (R.MC_CE_CNT j (channelOf a % 2)) F.MC_CE_CNT.COUNT 1
  let (t, d) := d.lapse
  let c := d.mcs[mcIndex j]
  let now := c.timer + t
  let times := (now :: c.ceTimes).filter (fun x => decide (now < x + 3600000000))
  let d := { d with mcs := vset d.mcs (mcIndex j) { c with timer := now, ceTimes := times } }
  if d.fld (R.MC_CE_THRESH j) F.MC_CE_THRESH.LIMIT < times.length then d.on (R.MC_EVENT j) F.MC_EVENT.CE_RATE else d

/-- An uncorrectable error found by a read; written back poisoned unless another write reached the line (R299, R308). -/
def Device.uncorrectable (d : Device) (a : Nat) (byScrub raced : Bool) : Device :=
  let j := controllerOf a
  let d := if raced then d else d.mark a true
  let d := d.count (R.MC_UE_CNT j (channelOf a % 2)) F.MC_UE_CNT.COUNT 1
  (d.mcRecord a 1 byScrub).on (R.MC_EVENT j) F.MC_EVENT.UE

/-- A write that reaches a controller with a parity error: the whole line is written poisoned (R306). -/
def Device.parityWrite (d : Device) (a : Nat) : Device :=
  let j := controllerOf a
  let d := (d.mark a true).count (R.MC_PAR_CNT j) F.MC_PAR_CNT.COUNT 1
  (d.mcRecord a 2 false).on (R.MC_EVENT j) F.MC_EVENT.PARITY

/-- What a read of the line at a finds on its way (R298, R299, R306); memory outside LPDDR4X has no controller, and
there an error only marks the line (R301). -/
def Device.readPath (d : Device) (a : Nat) (p : PathErr) : Device :=
  match p with
  | .clean => d
  | .corrected => if inDram a then d.corrected a else d
  | .uncorrectable => if inDram a then d.uncorrectable a false false else d.mark a true
  | .transit => d.mark a true

/-- Controller state READY (R296). -/
def Device.mcReady (d : Device) (j : Nat) : Bool := d.fld (R.MC_STATUS j) F.MC_STATUS.STATE == 1

/-- All sixteen controllers are READY (R296, R30). -/
def Device.allReady (d : Device) : Bool := (List.range 16).all (fun j => d.mcReady j && d.answers (72 + j))

/-- One scrub read: line at offset off of channel ch of controller j, what it found, and whether another write has
reached the line since (R307, R308). -/
def devScrubRead (j : Fin 16) (ch : Fin 2) (off : Nat) (found : PathErr) (raced : Bool) (d : Device) : Device :=
  if d.mcReady j ∧ d.answers (72 + j) ∧ off < 1920 * 1024 * 1024 then
    let a := addrOfChannel (2 * j.val + ch.val) (off / 64 * 64)
    let d := match found with
      | .corrected => d.corrected a
      | .uncorrectable => d.uncorrectable a true raced
      | _ => d
    let n := d.fld (R.MC_SCRUB_POS j) F.MC_SCRUB_POS.LINES + 1
    if n < 62914560 then d.setFld (R.MC_SCRUB_POS j) F.MC_SCRUB_POS.LINES n
    else (d.setFld (R.MC_SCRUB_POS j) F.MC_SCRUB_POS.LINES 0).count (R.MC_SCRUB_PASSES j) F.MC_SCRUB_PASSES.COUNT 1
  else d

/-- SCRUB_READ (R307, R308, R298, R299). -/
def execScrubRead (j : Fin 16) (ch : Fin 2) (off : Nat) (found : PathErr) (raced : Bool) (s : State) :
    Host.Outcome State Fault Refusal := .next (s.onDev (devScrubRead j ch off found raced))

/-- SCRUB_LATE: a pass is not complete after 1.25 periods (R309). -/
def devScrubLate (j : Fin 16) (d : Device) : Device :=
  if d.answers (72 + j) then d.on (R.MC_EVENT j) F.MC_EVENT.SCRUB_LATE else d

def execScrubLate (j : Fin 16) (s : State) : Host.Outcome State Fault Refusal := .next (s.onDev (devScrubLate j))

end Sys2Proof.Machine
end

