-- ==== Sys2Proof/Machine/Trowel.lean ====
section
/-! DEFINITION. Trowels: landing windows and descriptors (R310–R325). -/

namespace Sys2Proof.Machine

/-- One trowel operation with its parameters, from a window's registers or from a descriptor (R310, R320, R325). -/
structure TrowelOp where
  op : Nat
  fmt : Nat
  tol : Nat
  lines : Nat
  src : Nat
  param : Nat
  map : Nat
  rows : Nat
  rowBytes : Nat
  deriving DecidableEq, Repr

/-- Elements have this many bits; bytes where FMT is 0xFF (R311). -/
def TrowelOp.width (t : TrowelOp) : Nat := if t.fmt = 0xFF then 8 else fmtWidth t.fmt

/-- Bytes of the range. -/
def TrowelOp.len (t : TrowelOp) : Nat := t.lines * 64

/-- Columns of a CSUM_ACC (R311). -/
def TrowelOp.cols (t : TrowelOp) : Nat := t.rowBytes * 8 / t.width

/-- PARAM takes part in the operation. -/
def TrowelOp.usesParam (t : TrowelOp) : Bool := t.op == 1 || t.op == 3 || t.op == 4 || t.op == 6

/-- The output ranges of an operation: address and bytes (R310). -/
def TrowelOp.outputs (t : TrowelOp) : List (Nat × Nat) :=
  match t.op with
  | 1 => [(t.param, 8 * (t.rows + t.cols + 1))]
  | 3 => if t.map = 0 then [] else [(t.map, (t.len * 8 / t.width + 7) / 8)]
  | 4 => [(t.param, 64)]
  | 5 => [(t.src, t.len)]
  | 6 => [(t.param, t.len)]
  | _ => []

/-- A range lies in usable memory (R293). -/
def usable (a n : Nat) : Bool := decide (0x100000000 ≤ a ∧ a + n ≤ 0x1000000000)

/-- FMT suits the operation (R311). -/
def TrowelOp.fmtSuits (t : TrowelOp) : Bool :=
  match t.op with
  | 1 => fmtDefined t.fmt && !fmtMx t.fmt
  | 3 => t.fmt == 0xFF || fmtDefined t.fmt
  | _ => true

/-- The first failing check of R316 for a window (win) or a descriptor; 0 where it passes. The window checks that
depend on other windows are given as overlap and busy. -/
def TrowelOp.check (t : TrowelOp) (win overlap busy : Bool) : Nat :=
  let lineOk (a : Nat) : Bool := decide (a % 64 = 0) && usable a 64
  if !(lineOk t.src && (!t.usesParam || lineOk t.param) && (t.op != 3 || t.map == 0 || lineOk t.map)) then 1
  else if !(decide (1 ≤ t.lines ∧ t.lines ≤ 2 ^ 27) && usable t.src t.len && t.outputs.all (fun o => usable o.1 o.2)) then 2
  else if win && overlap then 3
  else if (t.op = 3 ∨ (win = true ∧ t.op = 6)) ∧ t.param % 8192 ≠ t.src % 8192 then 4
  else if !(decide (1 ≤ t.op ∧ t.op ≤ 6) && !(win && t.op == 5) && t.fmtSuits && (t.fmt != 0xFF || t.tol == 0)) then 5
  else if t.op = 1 ∧ ¬(t.rows * t.rowBytes = t.len ∧ t.cols ≤ 65536) then 6
  else if win && busy then 7
  else if t.outputs.any (fun o => (List.range ((o.2 + 63) / 64)).any (fun k => inReserved (o.1 + 64 * k))) then 8
  else 0

/-- The bytes counted at an offset. -/
def countedAt (log : List (Nat × BitVec 8)) (o : Nat) : List (BitVec 8) :=
  log.filterMap (fun p => if p.1 = o then some p.2 else none)

/-- Every byte of the range was counted exactly once: the range's bytes (R311). -/
def exactlyOnce (log : List (Nat × BitVec 8)) (n : Nat) : Option (List (BitVec 8)) :=
  if log.length = n then
    (List.range n).mapM (fun o => match countedAt log o with
      | [b] => some b
      | _ => none)
  else none

/-- The exclusive-or fold of counted bytes into 64 (R311). -/
def foldLines (log : List (Nat × BitVec 8)) : List (BitVec 8) :=
  (List.range 64).map (fun i => (log.filter (fun p => p.1 % 64 == i)).foldl (fun x p => x ^^^ p.2) 0#8)

/-- The counted bytes as (offset, byte) pairs of a range read from memory. -/
def logOf (bs : List (BitVec 8)) : List (Nat × BitVec 8) := (List.range bs.length).zip bs

/-- The values of element e as it was counted: one for each time that all of its bytes were. -/
def countedElem (log : List (Nat × BitVec 8)) (w e : Nat) : List Nat :=
  let first := e * w / 8
  let last := (e * w + w - 1) / 8
  let bytes := (List.range (last - first + 1)).map (fun i => countedAt log (first + i))
  let times := ((bytes.map (·.length)).min?).getD 0
  (List.range times).map (fun k => bytesNat (bytes.map (fun l => l.getD k 0#8)) / 2 ^ (e * w % 8) % 2 ^ w)

/-- A sum of elements, exact for the integer formats; a float sum is a free value, since the order of its additions is
not fixed (R311). -/
def intSum (t : TrowelOp) (xs : List Nat) : Nat :=
  ((xs.foldl (fun (acc : Int) x => acc + signed t.width x) 0) % 2 ^ 64).toNat

/-- The sums CSUM_ACC writes: rows, columns, total, 8 bytes each (R311). -/
def csumBytes (t : TrowelOp) (log : List (Nat × BitVec 8)) (d : Device) : List (BitVec 8) × Device :=
  let elem (r c : Nat) : List Nat := countedElem (log.filterMap (fun p =>
      if r * t.rowBytes ≤ p.1 ∧ p.1 < (r + 1) * t.rowBytes then some (p.1 - r * t.rowBytes, p.2) else none)) t.width c
  if fmtInt t.fmt then
    let row (r : Nat) : List Nat := (List.range t.cols).flatMap (elem r)
    let col (c : Nat) : List Nat := (List.range t.rows).flatMap (fun r => elem r c)
    let rs := (List.range t.rows).map (fun r => intSum t (row r))
    let cs := (List.range t.cols).map (fun c => intSum t (col c))
    let all := intSum t ((List.range t.rows).flatMap row)
    ((rs ++ cs ++ [all]).flatMap (natBytes 8), d)
  else
    (List.range (t.rows + t.cols + 1)).foldl (fun (acc : List (BitVec 8) × Device) _ =>
      let (v, d) := acc.2.fresh64
      (acc.1 ++ natBytes 8 v.toNat, d)) ([], d)

/-- The elements of the range that were counted and do not match the expected data at PARAM, each as often as it was
counted so (R311). -/
def mismatches (t : TrowelOp) (log : List (Nat × BitVec 8)) (m : Mem) : List Nat :=
  (List.range (t.len * 8 / t.width)).flatMap (fun e =>
    let want := bytesNat (memBytes m (t.param + e * t.width / 8) 5) / 2 ^ (e * t.width % 8) % 2 ^ t.width
    ((countedElem log t.width e).filter (fun x => !elemMatches t.fmt t.tol x want)).map (fun _ => e))

/-- The mismatch bitmap (R311). -/
def bitmapBytes (n : Nat) (bad : List Nat) : List (BitVec 8) :=
  (List.range ((n + 7) / 8)).map (fun i =>
    BitVec.ofNat 8 ((List.range 8).foldl (fun acc k => acc + natOf (bad.contains (8 * i + k)) * 2 ^ k) 0))

/-- The results of an operation over the counted bytes: what it writes to memory, and RESULT (R310, R311). A CRC32C
over bytes not each counted once is a free value. -/
def Device.trowelResult (t : TrowelOp) (log : List (Nat × BitVec 8)) (d : Device) : BitVec 32 × Device :=
  match t.op with
  | 1 =>
    let (bs, d) := csumBytes t log d
    (0#32, d.store t.param bs false)
  | 2 =>
    match exactlyOnce log t.len with
    | some bs => (crc32c bs, d)
    | none => d.fresh
  | 3 =>
    let bad := mismatches t log d.mem
    let d := if t.map = 0 then d else d.store t.map (bitmapBytes (t.len * 8 / t.width) bad) false
    (BitVec.ofNat 32 bad.length, d)
  | 4 => (0#32, d.store t.param (foldLines log) false)
  | _ => (0#32, d)

/-! ### Landing windows -/

/-- Controller and index of window w (R312, R325). -/
def winJ (w : Nat) : Nat := w / 4
def winI (w : Nat) : Nat := w % 4

/-- An address held in a _LO and a _HI register. -/
def Device.addr48 (d : Device) (lo hi : Nat) : Nat := (d.reg lo).toNat + (d.reg hi).toNat % 2 ^ 16 * 2 ^ 32

/-- The operation a window's registers describe (R325). -/
def Device.windowOp (d : Device) (w : Nat) : TrowelOp :=
  let j := winJ w
  let i := winI w
  { op := d.fld (R.TW_CTL j i) F.TW_CTL.OP
    fmt := d.fld (R.TW_CTL j i) F.TW_CTL.FMT
    tol := d.fld (R.TW_CTL j i) F.TW_CTL.TOL_ULP
    lines := d.fld (R.TW_LEN j i) F.TW_LEN.LINES
    src := d.addr48 (R.TW_BASE_LO j i) (R.TW_BASE_HI j i)
    param := d.addr48 (R.TW_PARAM_LO j i) (R.TW_PARAM_HI j i)
    map := d.addr48 (R.TW_MAP_LO j i) (R.TW_MAP_HI j i)
    rows := d.fld (R.TW_GEOM j i) F.TW_GEOM.ROWS_M1 + 1
    rowBytes := d.fld (R.TW_ROW_BYTES j i) F.TW_ROW_BYTES.BYTES }

/-- Window w is ARMED. -/
def Device.armed (d : Device) (w : Nat) : Bool := d.flag (R.TW_STATUS (winJ w) (winI w)) F.TW_STATUS.ARMED

/-- Window index as a place of the log. -/
def winIndex (w : Nat) : Fin 64 := ⟨w % 64, Nat.mod_lt _ (by decide)⟩

/-- COVERED of window w (R315). -/
def Device.covered (d : Device) (w : Nat) : Nat :=
  (d.reg (R.TW_COVERED_LO (winJ w) (winI w))).toNat +
    d.fld (R.TW_COVERED_HI (winJ w) (winI w)) F.TW_COVERED_HI.BYTES * 2 ^ 32

def Device.setCovered (d : Device) (w n : Nat) : Device :=
  (d.setReg (R.TW_COVERED_LO (winJ w) (winI w)) (BitVec.ofNat 32 n)).setFld
    (R.TW_COVERED_HI (winJ w) (winI w)) F.TW_COVERED_HI.BYTES (n / 2 ^ 32)

/-- A window writes its results over what was counted: none where it met poison, in what landed or in what it was compared
with (R303, R315). -/
def Device.windowResults (d : Device) (w : Nat) : Device :=
  let st := R.TW_STATUS (winJ w) (winI w)
  let t := d.windowOp w
  let d := if t.op = 3 ∧ d.poisonedRange t.param t.len = true then d.on st F.TW_STATUS.POISON else d
  let (v, d) := if d.flag st F.TW_STATUS.POISON && t.op != 6 then d.fresh else d.trowelResult t d.landed[winIndex w]
  if t.op = 2 ∨ t.op = 3 then d.setReg (R.TW_RESULT (winJ w) (winI w)) v else d

/-- A window arms, or is refused with the code of R316 (R313). -/
def Device.armWindow (d : Device) (w : Nat) : Device :=
  let j := winJ w
  let i := winI w
  let t := d.windowOp w
  let overlap := (List.range 64).any (fun v => v != w && d.armed v &&
    (let o := d.windowOp v; decide (t.src < o.src + o.len ∧ o.src < t.src + t.len)))
  let code := t.check true overlap (d.armed w)
  if code ≠ 0 then d.setFld (R.TW_CTL j i) F.TW_CTL.REJECT code
  else
    let d := d.setFld (R.TW_CTL j i) F.TW_CTL.REJECT 0
    let d := (d.setReg (R.TW_STATUS j i) 0#32).on (R.TW_STATUS j i) F.TW_STATUS.ARMED
    let d := (d.setCovered w 0).setReg (R.TW_RESULT j i) 0#32
    { d with landed := vset d.landed (winIndex w) [] }

/-- A window closes: CSUM_ACC and XFOLD write their results, unless COMPLETE has (R317). -/
def Device.closeWindow (d : Device) (w : Nat) : Device :=
  let st := R.TW_STATUS (winJ w) (winI w)
  if d.armed w then
    let t := d.windowOp w
    let d := if !d.flag st F.TW_STATUS.COMPLETE && (t.op == 1 || t.op == 4) then d.windowResults w else d
    (d.off st F.TW_STATUS.ARMED).on st F.TW_STATUS.CLOSED
  else d

/-- A window folds in what it counts until COVERED equals LEN; a COPY writes it at PARAM too. -/
def Device.windowFold (d : Device) (w : Nat) (mine : List (Nat × BitVec 8)) (bad : Bool) : Device :=
  let t := d.windowOp w
  let d := { d with landed := vset d.landed (winIndex w) (d.landed[winIndex w] ++ mine) }
  match mine.head? with
  | some p => if t.op = 6 then d.store (t.param + p.1) (mine.map (·.2)) bad else d
  | none => d

/-- COVERED has reached LEN: the results are written. -/
def Device.windowComplete (d : Device) (w : Nat) : Device :=
  let d := (d.on (R.TW_STATUS (winJ w) (winI w)) F.TW_STATUS.COMPLETE).windowResults w
  if d.flag (R.TW_CTL (winJ w) (winI w)) F.TW_CTL.IRQ then d.on (R.MC_EVENT (winJ w)) F.MC_EVENT.WIN_DONE else d

/-- Bytes counted after COMPLETE. -/
def Device.windowOver (d : Device) (w : Nat) : Device :=
  let (v, d) := (d.on (R.TW_STATUS (winJ w) (winI w)) F.TW_STATUS.OVER).fresh
  d.setReg (R.TW_RESULT (winJ w) (winI w)) v

/-- One window counts a landing of bytes at a (R314, R315); a sample window counts by extents, and never completes
(R318). -/
def Device.landIn (a : Nat) (bs : List (BitVec 8)) (bad : Bool) (d : Device) (w : Nat) : Device :=
  let t := d.windowOp w
  let mine := (logOf bs).filterMap (fun p =>
    if t.src ≤ a + p.1 ∧ a + p.1 < t.src + t.len then some (a + p.1 - t.src, p.2) else none)
  if d.armed w && !mine.isEmpty then
    let st := R.TW_STATUS (winJ w) (winI w)
    let d := if bad then d.on st F.TW_STATUS.POISON else d
    let was := d.covered w
    let d := d.setCovered w (was + mine.length)
    if w < 8 then d
    else if d.flag st F.TW_STATUS.COMPLETE then d.windowOver w
    else if was + mine.length < t.len then d.windowFold w mine bad
    else
      let d := (d.windowFold w (mine.take (t.len - was)) bad).windowComplete w
      if t.len < was + mine.length then d.windowOver w else d
  else d

/-- A write by a lane, the Ethernet block, the FLASH island, a core, the security core or an engine: memory, and every
ARMED window whose range it meets (R314). -/
def Device.land (d : Device) (a : Nat) (bs : List (BitVec 8)) (bad : Bool) : Device :=
  (List.range 64).foldl (Device.landIn a bs bad) (d.store a bs bad)

/-- The initiators that may write window w (R312). -/
def windowOwner (i : Initiator) (w : Nat) : Bool := 16 ≤ w || i == .eng (.wit ⟨w % 8, Nat.mod_lt _ (by decide)⟩)

/-- A write of the word v to TW_CTL of window w: the settings, then ARM and CLOSE (R313, R317, R325). -/
def devTwCtlWrite (i : Initiator) (w : Fin 64) (v : BitVec 32) (d : Device) : Device :=
  let a := R.TW_CTL (winJ w) (winI w)
  if !windowOwner i w || !d.answers (72 + winJ w) then d
  else
    let was := d.armed w
    let put (d : Device) (f : Fld) : Device := if was then d else d.setFld a f (f.get v)
    let changed := [F.TW_CTL.OP, F.TW_CTL.IRQ, F.TW_CTL.FMT, F.TW_CTL.TOL_ULP].any (fun f => f.get v != d.fld a f)
    let d := if was && changed then d.configReject a
      else [F.TW_CTL.OP, F.TW_CTL.IRQ, F.TW_CTL.FMT, F.TW_CTL.TOL_ULP].foldl put d
    let d := if F.TW_CTL.ARM.get v = 1 then d.armWindow w else d
    if F.TW_CTL.CLOSE.get v = 1 && was then d.closeWindow w else d

/-- TW_ARM (R313, R316): a write of TW_CTL with ARM. -/
def execTwArm (i : Initiator) (w : Fin 64) (v : BitVec 32) (s : State) : Host.Outcome State Fault Refusal :=
  .next (s.onDev (devTwCtlWrite i w (v ||| 0x10#32)))

/-- TW_CLOSE (R317): a write of TW_CTL with CLOSE. -/
def execTwClose (i : Initiator) (w : Fin 64) (v : BitVec 32) (s : State) : Host.Outcome State Fault Refusal :=
  .next (s.onDev (devTwCtlWrite i w (v ||| 0x20#32)))

/-- WINDOW_LANDING (R314): a write of bytes at a by an initiator whose writes are landings; nothing lands in the two
regions that only the FLASH island writes (R295), nor outside memory. -/
def devWindowLanding (a : Nat) (bs : List (BitVec 8)) (path : PathErr) (d : Device) : Device :=
  if usable a bs.length && !inReserved a && !inReserved (a + bs.length - 1) then
    let d := d.land a bs (path == .transit)
    if path = .transit then d.parityWrite a else d
  else d

def execWindowLanding (a : Nat) (bs : List (BitVec 8)) (path : PathErr) (s : State) :
    Host.Outcome State Fault Refusal := .next (s.onDev (devWindowLanding a bs path))

/-! ### Descriptors (R320, R321) -/

/-- The operation a descriptor in memory describes. -/
def descOp (m : Mem) (a : Nat) : TrowelOp :=
  { op := memNat m a 1
    fmt := memNat m (a + 2) 1
    tol := memNat m (a + 3) 1
    lines := memNat m (a + 4) 4 % 2 ^ 28
    src := memNat m (a + 8) 6
    param := memNat m (a + 16) 6
    map := memNat m (a + 24) 6
    rows := memNat m (a + 30) 2 + 1
    rowBytes := memNat m (a + 32) 4 }

/-- STATUS, REJECT and, where it is given, RESULT written into a descriptor by its home trowel j, with DESC_DONE where
the descriptor asks for it. -/
def Device.descEnd (j : Fin 16) (a status reject : Nat) (result : Option (BitVec 32)) (d : Device) : Device :=
  let irq := memNat d.mem (a + 1) 1 % 2
  let d := d.store (a + 48) (natBytes 1 status ++ natBytes 1 reject) false
  let d := match result with
    | some v => d.store (a + 52) (natBytes 4 v.toNat) false
    | none => d
  if irq = 1 then d.on (R.MC_EVENT j) F.MC_EVENT.DESC_DONE else d

/-- The next queued descriptor that passes its checks starts; those that fail end REFUSED, and one that lies in a
poisoned line ends POISON (R316, R321). -/
def Device.startDesc (j : Fin 16) : List Nat → Device → Device
  | [], d => { d with mcs := vset d.mcs j { d.mcs[j] with running := none, queue := [] } }
  | a :: q, d =>
    if d.poisoned a then Device.startDesc j q (d.descEnd j a 2 0 none)
    else
      let code := (descOp d.mem a).check false false false
      if code = 0 then { d with mcs := vset d.mcs j { d.mcs[j] with running := some a, queue := q } }
      else Device.startDesc j q (d.descEnd j a 3 code none)

/-- TRW_DQ_GO: the descriptor at TRW_DQ_ADDR is queued; a GO while eight are queued is ignored and sets QFULL (R321).
A descriptor that does not lie in system SRAM or LPDDR4X is not taken (R577). -/
def devTrwDqGo (j : Fin 16) (d : Device) : Device :=
  if !d.answers (72 + j) then d
  else
    let a := d.addr48 (R.TRW_DQ_ADDR_LO j) (R.TRW_DQ_ADDR_HI j)
    let c := d.mcs[j]
    if !(inSram a || inDram a) then d
    else if c.queue.length = 8 then d.on (R.MC_EVENT j) F.MC_EVENT.QFULL
    else match c.running with
      | some _ => { d with mcs := vset d.mcs j { c with queue := c.queue ++ [a] } }
      | none => d.startDesc j (c.queue ++ [a])

def execTrwDqGo (j : Fin 16) (s : State) : Host.Outcome State Fault Refusal := .next (s.onDev (devTrwDqGo j))

/-- A copy of one line with its poison mark (R302). -/
def Device.copyLine (d : Device) (src dst : Nat) : Device := d.store dst (memBytes d.mem src 64) (d.poisoned src)

/-- A running descriptor ends with its result, or with POISON where a line it consumes is poisoned (R303, R311); the
next one starts. -/
def Device.runDesc (j : Fin 16) (a : Nat) (d : Device) : Device :=
  let t := descOp d.mem a
  let bad := (t.op != 5 && t.op != 6 && d.poisonedRange t.src t.len) || (t.op == 3 && d.poisonedRange t.param t.len)
  let d :=
    if bad then d.descEnd j a 2 0 none
    else if t.op = 5 then
      let pat := memBytes d.mem (a + 40) 8
      (d.store t.src ((List.range (t.lines * 8)).flatMap (fun _ => pat)) false).descEnd j a 1 0 none
    else if t.op = 6 then
      ((List.range t.lines).foldl (fun d i => d.copyLine (t.src + 64 * i) (t.param + 64 * i)) d).descEnd j a 1 0 none
    else
      let (v, d) := d.trowelResult t (logOf (memBytes d.mem t.src t.len))
      d.descEnd j a 1 0 (if t.op = 2 ∨ t.op = 3 then some v else none)
  d.startDesc j d.mcs[j].queue

/-- The running descriptor of home trowel j, where its operation is op, comes to its end. -/
def devTrowel (op : Nat) (j : Fin 16) (d : Device) : Device :=
  match d.mcs[j].running with
  | some a => if d.answers (72 + j) ∧ d.allReady = true ∧ (descOp d.mem a).op = op then d.runDesc j a else d
  | none => d

/-- TROWEL_CSUM_ACC to TROWEL_COPY (R310, R311). -/
def execTrowelCsumAcc (j : Fin 16) (s : State) : Host.Outcome State Fault Refusal := .next (s.onDev (devTrowel 1 j))
def execTrowelCrc32c (j : Fin 16) (s : State) : Host.Outcome State Fault Refusal := .next (s.onDev (devTrowel 2 j))
def execTrowelCmpExp (j : Fin 16) (s : State) : Host.Outcome State Fault Refusal := .next (s.onDev (devTrowel 3 j))
def execTrowelXfold (j : Fin 16) (s : State) : Host.Outcome State Fault Refusal := .next (s.onDev (devTrowel 4 j))
def execTrowelFill (j : Fin 16) (s : State) : Host.Outcome State Fault Refusal := .next (s.onDev (devTrowel 5 j))
def execTrowelCopy (j : Fin 16) (s : State) : Host.Outcome State Fault Refusal := .next (s.onDev (devTrowel 6 j))

end Sys2Proof.Machine
end

