-- ==== Sys2Proof/Machine/FlowBase.lean ====
section
/-! DEFINITION. Flowstone's unit states as their records give them (R262–R265, R283, R284), the queue of events that
wait for their records (R285), and the end of a stencil run and of a session (R170, R277–R281). -/

namespace Sys2Proof.Machine

/-! ### Settings (R264, R265, R291) -/

/-- T_norm_int, T_obs_int, T_obs_win and T_fault in seconds. -/
def Device.tNormInt (d : Device) : Nat := d.fld R.FS_CFG0 F.FS_CFG0.T_NORM_INT * 60
def Device.tObsInt (d : Device) : Nat := d.fld R.FS_CFG0 F.FS_CFG0.T_OBS_INT * 60
def Device.tObsWin (d : Device) : Nat := d.fld R.FS_CFG1 F.FS_CFG1.T_OBS_WIN * 86400
def Device.tFault (d : Device) : Nat := d.fld R.FS_CFG1 F.FS_CFG1.T_FAULT * 86400

/-- REQ (R265). -/
def Device.reqPasses (d : Device) : Nat := max 1 (d.tObsWin / d.tObsInt / 2)

/-- The visit interval of a state. -/
def Device.visitInterval (d : Device) (state : Nat) : Nat := if state = 1 then d.tObsInt else d.tNormInt

/-! ### Units -/

/-- A unit that no record names. -/
def UnitState.fresh (id : Nat) : UnitState where
  id := id
  state := 0
  before := 0
  lastFault := none
  faults := []
  winStart := 0
  passes := 0
  lastVisit := 0
  timeouts := 0
  due := 0
  reason := 3
  place := (0xFF, 0xFF)
  win := 0
  req := 1

/-- The state of a unit, where its records give one. -/
def Device.unit? (d : Device) (id : Nat) : Option UnitState := d.fs.units.find? (fun u => u.id == id)

/-- The state of a unit; one never seen is NORMAL. -/
def Device.unit (d : Device) (id : Nat) : UnitState := (d.unit? id).getD (UnitState.fresh id)

/-- A unit's state replaced. -/
def setUnit (l : List UnitState) (u : UnitState) : List UnitState :=
  if l.any (fun x => x.id == u.id) then l.map (fun x => if x.id == u.id then u else x) else l ++ [u]

/-- A unit's state replaced in the device. -/
def Device.setUnit (d : Device) (u : UnitState) : Device :=
  { d with fs := { d.fs with units := Sys2Proof.Machine.setUnit d.fs.units u } }

/-- The unit in a slice by the latest UNIT_MAP. -/
def Device.unitOf (d : Device) (b : Bay) (slice : Nat) : Option Nat := ((d.link b).slices[slice]?).map (·.unitId)

/-- A window opens: PASSES is zero, and the settings of the moment apply to it. -/
def Device.openWindow (d : Device) (u : UnitState) (ft : Nat) : UnitState :=
  { u with winStart := ft, passes := 0, win := d.tObsWin, req := d.reqPasses }

/-- A confirmed fault or stencil failure noted in the unit's history. -/
def UnitState.noteFault (u : UnitState) (ft : Nat) : UnitState :=
  { u with lastFault := some ft, faults := u.faults ++ [ft] }

/-- The codes of the verdicts that are confirmed faults (R263). -/
def confirmedCode (c : Nat) : Bool := c == 1 || c == 4 || c == 6

/-- The outcomes that count as neither a pass nor a failure (R281). -/
def outcomeNeither (o : Nat) : Bool := decide (4 ≤ o)

/-- The unit's state after one of its records (R262): the state the record gives, and what R264 and R277 attach to the
event it records. -/
def Device.replayRecord (d : Device) (u : UnitState) (r : FsRecord) : UnitState :=
  let was := u.state
  let u := if r.after = 0xFF then u else { u with state := r.after }
  let changed := u.state != was
  let u := { u with place := if r.bay < 8 then (r.bay, r.slice) else u.place }
  match r.kind with
  | 0x01 =>
    if !confirmedCode r.cause then u
    else
      let u := u.noteFault r.ft
      let u := if u.state = 1 then d.openWindow u r.ft else u
      let u := if u.state = 2 ∧ changed then { u with reason := 1 } else u
      if was = 0 then { u with due := r.ft } else if changed then { u with due := r.ft + d.visitInterval u.state } else u
  | 0x03 =>
    let u := if bit r.flags 0 then u.noteFault r.ft else u
    let u := if changed && u.state == 1 then d.openWindow u r.ft
      else if u.state = 1 ∧ r.cause = 1 then { u with passes := u.passes + 1 } else u
    let u := if u.state = 2 ∧ changed then { u with reason := 2 } else u
    let step := if outcomeNeither r.cause then min 3600 (d.visitInterval u.state) else d.visitInterval u.state
    { u with lastVisit := r.cause, due := if was = 0 ∧ u.state = 1 then r.ft else r.ft + step }
  | 0x02 =>
    let u := if u.state = 3 ∧ changed then { u with before := was } else u
    let u := if u.state = 1 ∧ changed then d.openWindow u r.ft else u
    let u := if u.state = 2 ∧ changed then { u with reason := 3 } else u
    if changed then { u with due := r.ft + d.visitInterval u.state } else u
  | 0x04 =>
    let u := if u.state = 1 ∧ changed then d.openWindow u r.ft else u
    if changed || r.before == 0xFF then { u with due := r.ft + d.visitInterval u.state, reason := 3 } else u
  | 0x06 =>
    let u := if r.cause = 0xFF then u else { u with lastFault := some (r.ft - r.cause * 86400) }
    let u := if u.state = 1 then d.openWindow u r.ft else u
    { u with due := r.ft + d.visitInterval u.state, reason := 3 }
  | _ => u

/-! ### What the registers show (R262, R290) -/

/-- The slices other than `except` that the UNIT_MAP shows ACTIVE and Flowstone does not hold FENCED (R266). -/
def Device.activeSlices (d : Device) (b : Bay) (leaveOut : Option Nat) : Nat :=
  (((d.link b).slices.zipIdx).filter (fun p =>
    some p.2 != leaveOut && p.1.state == 0 && (d.unit p.1.unitId).state != 2)).length

/-- The bay's health: 0 NORMAL, 1 DEGRADED, 2 RETIRED (R262). -/
def Device.bayHealth (d : Device) (b : Bay) : Nat :=
  let sts := (d.link b).slices.map (fun s => (d.unit s.unitId).state)
  if sts.contains 3 then 2 else if sts.contains 2 then 1 else 0

/-- WIT_HEALTH, WIT_UNIT and WIT_UNITID of a bay formed again. -/
def Device.refreshUnits (d : Device) (b : Bay) : Device :=
  let k := d.link b
  let d := d.setFld (R.WIT_HEALTH b.val) F.WIT_HEALTH.BAY_HEALTH (d.bayHealth b)
  let d := d.setFld (R.WIT_HEALTH b.val) F.WIT_HEALTH.ACTIVE (d.activeSlices b none)
  let d := d.setFld (R.WIT_HEALTH b.val) F.WIT_HEALTH.SLICES_MIN k.slicesMin
  let d := (k.slices.zipIdx).foldl (fun d p =>
    let u := d.unit p.1.unitId
    let a := R.WIT_UNIT b.val p.2
    let d := d.setFld a F.WIT_UNIT.STATE u.state
    let d := d.setFld a F.WIT_UNIT.DISABLED (natOf (p.1.state == 2))
    let d := d.setFld a F.WIT_UNIT.TIMEOUTS (min u.timeouts 15)
    let d := d.setFld a F.WIT_UNIT.FAULTS (min ((u.faults.filter (fun t => decide (d.ft ≤ t + d.tFault))).length) 255)
    let d := d.setFld a F.WIT_UNIT.PASSES (min u.passes 4095)
    (d.setReg (R.WIT_UNITID_LO b.val p.2) (BitVec.ofNat 32 p.1.unitId)).setReg (R.WIT_UNITID_HI b.val p.2)
      (BitVec.ofNat 32 (p.1.unitId / 2 ^ 32))) d
  d.alertCheck

/-- Every bay's registers formed again. -/
def Device.refreshAllUnits (d : Device) : Device := (List.finRange 8).foldl Device.refreshUnits d

/-! ### Events that wait for their records (R263, R285) -/

/-- An event joins the queue; a further confirmed fault against the unit in the same step, not yet recorded, only adds
to the count of tiles (R263). -/
def Device.fsEnqueue (d : Device) (e : FsEvent) : Device :=
  let same : FsEvent → Bool := fun x =>
    match x, e with
    | .fault b s u c _ ep st _ _, .fault b' s' u' c' _ ep' st' _ _ =>
      confirmedCode c && confirmedCode c' && b == b' && s == s' && u == u' && ep == ep' && st == st'
    | _, _ => false
  let more : FsEvent → FsEvent := fun x =>
    match x with
    | .fault b s u c f ep st tile n => .fault b s u c f ep st tile (n + 1)
    | y => y
  let q := d.fs.queue
  { d with fs := { d.fs with queue := if q.any same then q.map (fun x => if same x then more x else x) else q ++ [e] } }

/-! ### The end of a run and of a visit (R277–R281) -/

/-- The bay's stencil state. -/
def Device.stn (d : Device) (b : Bay) : StnCtx := d.stns[b]

/-- The bay's stencil state replaced. -/
def Device.setStn (d : Device) (b : Bay) (c : StnCtx) : Device := { d with stns := vset d.stns b c }

/-- PASS, FAIL or RUN_ERROR, or any other outcome, counted; OUTCOME shown; the stencil window closes (R281, R290, R319). -/
def Device.runRecord (d : Device) (b : Bay) (outcome mism : Nat) : Device :=
  let a := R.WIT_STN_STAT b.val
  let d := (d.off a F.WIT_STN_STAT.RUNNING).setFld a F.WIT_STN_STAT.OUTCOME outcome
  let d := if outcome = 2 then d.setFld (R.WIT_STN_MISMATCH b.val) F.WIT_STN_MISMATCH.COUNT mism else d
  let d := match outcome with
    | 1 => d.count (R.WIT_STN_PASS_CNT b.val) F.WIT_STN_PASS_CNT.COUNT 1
    | 2 => d.count (R.WIT_STN_FAIL_CNT b.val) F.WIT_STN_FAIL_CNT.COUNT 1
    | 3 => d.count (R.WIT_STN_FAIL_CNT b.val) F.WIT_STN_FAIL_CNT.COUNT 1
    | _ => d.count (R.WIT_STN_OTHER_CNT b.val) F.WIT_STN_OTHER_CNT.COUNT 1
  d.closeWindow (8 + b.val)

/-- The visit ends with its deciding run; the third TIMEOUT in a row counts as a failure (R281). -/
def Device.visitEnd (d : Device) (b : Bay) (v : VisitCtx) (r : RunCtx) (outcome mism : Nat) : Device :=
  let u := d.unit v.unitId
  let third := outcome == 5 && 2 ≤ u.timeouts
  let failure := outcome == 2 || outcome == 3 || third
  let u := { u with timeouts := if outcome = 1 ∨ failure = true then 0 else if outcome = 5 then u.timeouts + 1 else u.timeouts }
  let d := if (d.unit? v.unitId).isSome then d.setUnit u else d
  let d := d.setStn b { d.stn b with visit := none }
  let pack := (d.reg (R.STN_ID r.slot)).toNat
  d.fsEnqueue (.visit b v.slice v.unitId outcome failure (v.runs + 1) pack r.runId mism)

/-- A run that ends ABORTED with its session or its bay's rails (R281). -/
def Device.runAbort (d : Device) (b : Bay) : Device :=
  match (d.stn b).visit with
  | none => d
  | some v =>
    match v.run with
    | none => d.setStn b { d.stn b with visit := none }
    | some r => (d.runRecord b 6 0).visitEnd b v r 6 0

/-- A session goes DOWN (R170, R184, R186, R281). -/
def Device.sessionDown (d : Device) (b : Bay) : Device :=
  if d.session b = 0 then d
  else
    let d := (d.setSession b 0).endMaint b
    let d := d.setLink b { d.link b with inbox := [], stream := [], fenceWait := [], devWait := [] }
    let d := d.setStn b { d.stn b with noPack := false }
    d.runAbort b

end Sys2Proof.Machine
end

