-- ==== Sys2Proof/Machine/Power.lean ====
section
/-! DEFINITION. Power sequencing and supervision (R327–R367): rails, power states, going-downs, the safe stop, forced
off, the hold-up record, the button, the power cap and the throttle lines. -/

namespace Sys2Proof.Machine

/-! ### Roles (R540) -/

/-- ROLE: 0 SINGLE, 1 LEAD, 2 SHADOW, 3 ORPHAN. -/
def Device.role (d : Device) : Nat := d.fld R.TWIN_STATUS F.TWIN_STATUS.ROLE

/-- The device's sequencers FOLLOW the lead's (R551). -/
def Device.follow (d : Device) : Bool := d.role == 2

/-- The link path to the partner is up (R548). -/
def Device.twinUp (d : Device) : Bool := d.flag R.TWIN_STATUS F.TWIN_STATUS.LINK

/-- A record sent to the partner. -/
def Device.twinSend (d : Device) (r : TwinTx) : Device := { d with twin := { d.twin with tx := d.twin.tx ++ [r] } }

/-- A STEP sent; one that needs an ACK waits for it (R552). -/
def Device.sendStep (d : Device) (i : Fin 9) (c : SeqChange) (held : Bool) : Device :=
  let t := d.twin
  let steps := match c with
    | .pwr _ => t.steps
    | _ => t.steps ++ [⟨t.nextStep, i, c, held⟩]
  { d with twin := { t with tx := t.tx ++ [.step t.nextStep i c], nextStep := t.nextStep + 1, steps := steps } }

/-- As LEAD, a change hardware has made is sent as a STEP (R552). -/
def Device.twinStep (d : Device) (i : Fin 9) (c : SeqChange) : Device := if d.role = 1 then d.sendStep i c false else d

/-- A sequencer that starts over running rails after a takeover, or no longer (R565). -/
def Device.setTakeover (d : Device) (i : Fin 9) (b : Bool) : Device :=
  { d with twin := { d.twin with takeover := vset d.twin.takeover i b } }

/-! ### Names of a sequencer's state -/

/-- PWR of sequencer i (R365): 0 OFF, 1 UP, 2 ON, 3 DOWN, 4 FORCED_OFF. -/
def Device.pwr (d : Device) (i : Fin 9) : Nat := d.fld (R.SQ_STATUS i.val) F.SQ_STATUS.PWR

/-- The tray power state (R345). -/
def Device.trayPwr (d : Device) : Nat := d.pwr 8

/-- PWR is UP or ON. -/
def Device.pwrUp (d : Device) (i : Fin 9) : Bool := d.pwr i == 1 || d.pwr i == 2

/-- The bay of a sequencer. -/
def bayOf (i : Fin 9) : Option Bay := if h : i.val < 8 then some ⟨i.val, h⟩ else none

/-- The sequencer of a bay. -/
def seqOf (b : Bay) : Fin 9 := ⟨b.val, by omega⟩

/-- The bays. -/
def bays : List Bay := List.finRange 8

/-- The sequencers. -/
def seqIds : List (Fin 9) := List.finRange 9

/-- The bits of the channels a sequencer has (R327). -/
def chanMask (i : Fin 9) : Nat := if i = 8 then 0xFFFF else 0xFF

/-- The sequencer and local channel of rail k (R327). -/
def railSeq (k : Fin 80) : Fin 9 := ⟨if k.val < 64 then k.val / 8 else 8, by split <;> omega⟩
def railChan (k : Fin 80) : Nat := if k.val < 64 then k.val % 8 else k.val - 64

/-- SQ_RAIL_EN, SQ_RAIL_PG and SEEN of a sequencer. -/
def Device.railEn (d : Device) (i : Fin 9) : Nat := d.fld (R.SQ_RAIL_ST i.val) F.SQ_RAIL_ST.EN
def Device.railPg (d : Device) (i : Fin 9) : Nat := d.fld (R.SQ_RAIL_ST i.val) F.SQ_RAIL_ST.PG
def Device.railSeen (d : Device) (i : Fin 9) : Nat := d.fld (R.SQ_RAIL_ST2 i.val) F.SQ_RAIL_ST2.SEEN

/-- The program bits of SQ_BAY_OUT: 1 OFF, 2 PFW, 4 THR, 8 RST. -/
def Device.bayOut (d : Device) (i : Fin 9) : Nat := d.fld (R.SQ_BAYSIG i.val) F.SQ_BAYSIG.OUT

/-- The sequencer's own state replaced. -/
def Device.setSeq (d : Device) (i : Fin 9) (c : SeqCtx) : Device := { d with seqs := vset d.seqs i c }

/-- A device of a pair that has not joined, or that stands aside (R540, R543). -/
def Device.unjoined (d : Device) : Bool := d.role == 2 && !d.flag R.TWIN_STATUS F.TWIN_STATUS.JOINED

/-- RAILk_EN as the device drives it (R328): held deasserted until the output gate opens (R451), while the device is
unjoined (R540) and while its bank is not good (R599). -/
def Device.railLine (d : Device) (i : Fin 9) (c : Nat) : Bool :=
  bit (d.railEn i) c && d.tray.gate && !d.unjoined && d.pins.vio[(0 : Fin 8)]

/-! ### Throttle sources (R363) -/

/-- The lowest of a list, d where it is empty. -/
def lowest (d : Nat) (l : List Nat) : Nat := (l.min?).getD d

/-- The THERMAL target of a bay: the lowest HOT_TGT of the hot zones that name it (R383). -/
def Device.thermalTargets (d : Device) (b : Bay) : List Nat :=
  ((List.range 16).filter (fun z => d.flag (R.CL_ZSTAT z) F.CL_ZSTAT.HOT && d.maskBit (R.CL_ZCFG z) F.CL_ZCFG.BAYS b.val)).map
    (fun z => d.fld (R.CL_ZCFG z) F.CL_ZCFG.HOT_TGT)

/-- The LEAK targets of a bay: those of the latched loops that name it (R397). -/
def Device.leakTargets (d : Device) (b : Bay) : List Nat :=
  ((List.range 8).filter (fun l => d.flag (R.CL_LK_STAT l) F.CL_LK_STAT.LATCHED &&
    d.maskBit (R.CL_LK_A l) F.CL_LK_A.BAYS b.val)).map (fun l => d.fld (R.CL_LK_C l) F.CL_LK_C.LEAK_TGT)

/-- The active throttle sources of a bay, as (CAUSE, target). -/
def Device.thrSources (d : Device) (b : Bay) : List (Nat × Nat) :=
  (if d.maskBit R.PC_STAT F.PC_STAT.CAP_MASK b.val then
    [(if d.fld R.PC_STAT F.PC_STAT.SRC = 1 then 5 else 1, d.fld R.PC_CFG F.PC_CFG.TGT_PCT)] else []) ++
  (match d.thermalTargets b with
    | [] => []
    | l => [(2, lowest 100 l)]) ++
  (match d.leakTargets b with
    | [] => []
    | l => [(3, lowest 100 l)]) ++
  (if d.maskBit R.PC_HOST_THR F.PC_HOST_THR.BAYS b.val then [(4, d.fld R.PC_HOST_THR F.PC_HOST_THR.TGT_PCT)] else []) ++
  (if bit (d.bayOut (seqOf b)) 2 then [(6, 1)] else [])

/-- TARGET_PCT and CAUSE of a bay's THROTTLE: the lowest target, a tie to the lower cause; 100 and the lowest released
cause where none is active (R363). -/
def throttleOf (old now : List (Nat × Nat)) : TxRec :=
  match now with
  | [] => .throttle 100 (lowest 0 (old.map (·.1)))
  | l =>
    let t := lowest 100 (l.map (·.2))
    .throttle t (lowest 0 ((l.filter (fun p => p.2 = t)).map (·.1)))

/-- A change of a bay's sources hands a THROTTLE to its witness engine, unless its lane is DOWN (R363). -/
def Device.refreshThr (d : Device) (b : Bay) : Device :=
  let now := d.thrSources b
  let old := d.tray.thr[b]
  if now = old then d
  else
    let d := { d with tray := { d.tray with thr := vset d.tray.thr b now } }
    if d.session b = 0 then d else d.sendRec b (throttleOf old now)

/-- Every bay's sources looked at again. -/
def Device.refreshThrs (d : Device) : Device := bays.foldl Device.refreshThr d

/-- BAYn_THR_N is asserted (R363). -/
def Device.thrLine (d : Device) (b : Bay) : Bool := !(d.thrSources b).isEmpty

/-! ### The cap in force (R361) -/

/-- The caps that apply, each with its SRC code. -/
def Device.caps (d : Device) : List (Nat × Nat) :=
  let pcap := d.fld R.PC_CAP F.PC_CAP.PCAP
  [(pcap, 0)] ++
  (if d.flag R.CL_MODE F.CL_MODE.BLIND then [(pcap * d.fld R.PC_CFG F.PC_CFG.BLIND_PCT / 100, 1)] else []) ++
  (if d.role = 3 then [(d.fld R.PC_CAP F.PC_CAP.PCAP_HALF, 2)] else [])

/-- PC_EFF and PC_STAT.SRC: the lowest cap, a tie to the lower code. -/
def Device.refreshCap (d : Device) : Device :=
  let eff := lowest 0 (d.caps.map (·.1))
  let src := lowest 0 ((d.caps.filter (fun p => p.1 = eff)).map (·.2))
  ((d.setFld R.PC_EFF F.PC_EFF.CAP_EFF eff).setFld R.PC_STAT F.PC_STAT.SRC src).refreshThrs.alertCheck

/-- A bay drops out of CAP_MASK. -/
def Device.capDrop (d : Device) (b : Bay) : Device :=
  if !d.maskBit R.PC_STAT F.PC_STAT.CAP_MASK b.val then d
  else
    let d := d.setMaskBit R.PC_STAT F.PC_STAT.CAP_MASK b.val false
    { d with tray := { d.tray with capOrder := d.tray.capOrder.filter (· != b) } }.refreshThr b |>.alertCheck

/-! ### PWR, rails and lines -/

/-- PWR set: a bay that leaves ON leaves CAP_MASK (R362), and one that reaches OFF or FORCED_OFF ends its session
(R170) and takes its HEALTH slot out of every zone (R373). -/
def Device.setPwr (d : Device) (i : Fin 9) (v : Nat) : Device :=
  let d := ((d.setFld (R.SQ_STATUS i.val) F.SQ_STATUS.PWR v).setTakeover i false).twinStep i (.pwr v)
  match bayOf i with
  | none => d.alertCheck
  | some b =>
    let d := if v = 2 then d else d.capDrop b
    if v = 0 ∨ v = 4 then
      { d with cool := { d.cool with healthJoin := vset d.cool.healthJoin b false } }.sessionDown b
    else d

/-- SQ_RAIL_EN written (R328, R330, R333): each rise is counted, and SEEN follows enable and power-good. -/
def Device.setEnables (d : Device) (i : Fin 9) (v : Nat) : Device :=
  let old := d.railEn i
  let new := v &&& chanMask i
  let d := d.setFld (R.SQ_RAIL_ST i.val) F.SQ_RAIL_ST.EN new
  let d := d.setFld (R.SQ_RAIL_ST2 i.val) F.SQ_RAIL_ST2.SEEN ((d.railSeen i ||| d.railPg i) &&& new)
  (List.range 16).foldl (fun d c =>
    if bit new c && !bit old c then d.count (R.SQ_CNT_A i.val c) F.SQ_CNT_A.ENABLES 1 else d) d

/-- One enable cleared by hardware; sent as a STEP afterwards (R552). -/
def Device.clearRail (d : Device) (i : Fin 9) (c : Nat) : Device :=
  if bit (d.railEn i) c then
    let v := d.railEn i - 2 ^ c
    (d.setEnables i v).twinStep i (.en v)
  else d

/-- SQ_BAY_OUT written; a change of THR is a change of a throttle source. -/
def Device.setBayOut (d : Device) (i : Fin 9) (v : Nat) : Device :=
  match bayOf i with
  | none => d
  | some b => (d.setFld (R.SQ_BAYSIG i.val) F.SQ_BAYSIG.OUT v).refreshThr b

/-- The lines hardware itself asserts, set; sent as a STEP afterwards (R552). -/
def Device.setLines (d : Device) (i : Fin 9) (c : SeqCtx) : Device :=
  (d.setSeq i c).twinStep i (.out (d.bayOut i ||| (natOf c.hwOff + 2 * natOf c.hwPfw + 8 * natOf c.hwRst)))

/-- BAYn_PFW_N asserted by hardware until PWR becomes OFF (R340). -/
def Device.assertPfw (d : Device) (i : Fin 9) : Device := d.setLines i { d.seqs[i] with hwPfw := true }

/-- The device asserts line j of a bay: 0 OFF, 1 PFW, 2 THR, 3 RST. -/
def Device.asserts (d : Device) (b : Bay) (j : Nat) : Bool :=
  let c := d.seqs[seqOf b]
  bit (d.bayOut (seqOf b)) j || match j with
    | 0 => c.hwOff
    | 1 => c.hwPfw
    | 2 => d.thrLine b
    | _ => c.hwRst

/-! ### Golden checks around a START (R494, R496) -/

/-- GOLD_BAYn_CFG.SLOT names a slot. -/
def Device.goldNamed (d : Device) (b : Bay) : Bool := d.fld (R.GOLD_BAY_CFG b.val) F.GOLD_BAY_CFG.SLOT != 7

/-- STATE of a bay's golden check: 0 IDLE, 1 CHECK, 2 REFLASH, 3 VERIFY. -/
def Device.goldState (d : Device) (b : Bay) : Nat := d.fld (R.GOLD_BAY_STAT b.val) F.GOLD_BAY_STAT.STATE

/-- The golden check of a bay whose START is held begins, on the device that drives the bay flash (R494, R499). -/
def Device.goldBegin (d : Device) (b : Bay) : Device :=
  if d.pend (.seq (seqOf b)) && d.goldNamed b && !d.golds[b].pass && d.goldState b == 0 && d.answers 47 && !d.follow then
    let d := d.setFld (R.GOLD_BAY_STAT b.val) F.GOLD_BAY_STAT.STATE 1
    let d := d.setFld (R.GOLD_BAY_STAT b.val) F.GOLD_BAY_STAT.ATTEMPTS 0
    { d with golds := vset d.golds b ⟨d.fld (R.GOLD_BAY_CFG b.val) F.GOLD_BAY_CFG.SLOT, false⟩ }
  else d

/-- A STOP or KILL cancels the held START: a check in its first read ends at once (R496). -/
def Device.goldCancel (d : Device) (b : Bay) : Device :=
  let d := { d with golds := vset d.golds b { d.golds[b] with pass := false } }
  if d.goldState b = 1 then d.setFld (R.GOLD_BAY_STAT b.val) F.GOLD_BAY_STAT.STATE 0 else d

/-! ### Starting (R334, R338, R345, R494, R554) -/

/-- What holds a START to a sequencer beyond T_off_min and release. -/
def Device.seqHeld (d : Device) (i : Fin 9) : Bool :=
  (d.pwr i != 0 && !d.twin.takeover[i]) || (d.role == 1 && !d.twinUp) || d.flag R.TWIN_STATUS F.TWIN_STATUS.SUSPENDED ||
  match bayOf i with
  | none => false
  | some b => d.trayPwr != 2 || (d.goldNamed b && !d.golds[b].pass)

/-- A START that has acted uses up its golden check. -/
def Device.goldUsed (d : Device) (i : Fin 9) : Device :=
  match bayOf i with
  | none => d
  | some b => if d.engState (.seq i) = 1 then { d with golds := vset d.golds b { d.golds[b] with pass := false } } else d

/-- A held START to a sequencer looked at again. -/
def Device.seqTryPend (d : Device) (i : Fin 9) : Device := (d.engTryPend (.seq i) (d.seqHeld i)).goldUsed i

/-- A request that reaches a FOLLOW sequencer is passed to the lead; an off request that cannot be passed on makes the
shadow act alone, and an on request is dropped (R555). An unjoined device takes none. -/
def Device.passRequest (d : Device) (i : Fin 9) (q : SeqRequest) : Device :=
  let off := q == .stop || q == .down
  if !d.flag R.TWIN_STATUS F.TWIN_STATUS.JOINED then d
  else if d.twinUp then
    let d := d.twinSend (.request i q)
    if off then { d with twin := { d.twin with offReqs := d.twin.offReqs ++ [i] } } else d
  else if off then
    if i = 8 then { d with tray := { d.tray with killOut := true } } else d.setSeq i { d.seqs[i] with hwOff := true }
  else d

/-- A START to a sequencer. -/
def Device.seqStart (d : Device) (i : Fin 9) : Device :=
  if d.pwr i = 4 then (d.setPend (.seq i) false).on R.TR_EVENT F.TR_EVENT.START_DISCARDED
  else if d.follow then d.passRequest i .start
  else
    let d := (d.engStartReq (.seq i) (d.seqHeld i)).goldUsed i
    match bayOf i with
    | none => d
    | some b => d.goldBegin b

/-! ### OFF reached (R334, R338) -/

/-- What PWR becoming OFF does: SQ_BAY_OUT takes 0x0B, hardware's own lines are released, and T_off_min starts. -/
def Device.reachOff (d : Device) (i : Fin 9) : Device :=
  let d := d.setPwr i 0
  let d := match bayOf i with
    | none => d
    | some _ => (d.setBayOut i 0x0B).twinStep i (.out 0x0B)
  let d := d.setSeq i SeqCtx.reset
  let d := (d.off (R.SQ_STATUS i.val) F.SQ_STATUS.WARN).toffStart (.seq i)
  if i = 8 then { d with tray := { d.tray with killOut := false } } else d

/-- DOWN ends once every enable is 0 and the engine is OFF or FAULTED. -/
def Device.pwrOffCheck (d : Device) (i : Fin 9) : Device :=
  if d.pwr i = 3 ∧ d.railEn i = 0 ∧ d.engIdle (.seq i) then d.reachOff i else d

/-! ### The safe stop (R337, R342) -/

/-- The last act of a safe stop: BAYn_OFF_N asserted, and PWR looked at. With PWR already OFF, nothing would release
hardware's lines, and they become those of SQ_BAY_OUT (assumption log 20). -/
def Device.safeStopEnd (d : Device) (i : Fin 9) : Device :=
  if i = 8 then (d.setSeq i { d.seqs[i] with safeStop := false }).pwrOffCheck i
  else if d.pwr i = 0 then (d.setSeq i SeqCtx.reset).setBayOut i (d.bayOut i ||| 0x0B)
  else (d.setLines i { d.seqs[i] with safeStop := false, hwOff := true }).pwrOffCheck i

/-- A going-down noted: LAST_DOWN, DOWN_CNT, WENT_DOWN and PWR (R334). -/
def Device.noteDown (d : Device) (i : Fin 9) (cause : Nat) : Device :=
  let d := d.setFld (R.SQ_STATUS i.val) F.SQ_STATUS.LAST_DOWN cause
  let d := d.count (R.SQ_STATUS i.val) F.SQ_STATUS.DOWN_CNT 1
  (d.on (R.SQ_STATUS i.val) F.SQ_STATUS.WENT_DOWN).setPwr i 3

/-- The safe stop of a bay sequencer begins: PFW and RST asserted; nothing is left to clear where no enable is 1. -/
def Device.baySafeStop (d : Device) (i : Fin 9) : Device :=
  if d.tray.forced then d
  else
    let d := if d.pwrUp i then d.noteDown i 6 else d
    let d := d.setLines i { d.seqs[i] with hwPfw := true, hwRst := true, safeStop := true }
    if d.railEn i = 0 then d.safeStopEnd i else d

/-- A going-down of a bay sequencer (R335): it continues at entry 1, or from UP at entry 2 where that is defined; the
safe stop runs where the entry is not defined. -/
def Device.bayDown (d : Device) (i : Fin 9) (cause : Nat) : Device :=
  let e : Eng := .seq i
  let entry := if d.pwr i = 1 ∧ d.entryDefined e 2 then 2 else 1
  let off := d.pwr i == 0
  let d := if d.pwrUp i then d.noteDown i cause else d
  let d := d.off (R.SQ_STATUS i.val) F.SQ_STATUS.WARN
  if d.engState e = 2 ∧ d.entryDefined e entry then (d.setState e 3).engGoto e entry
  else if d.engIdle e then d
  else (d.engOff e off).baySafeStop i

/-- A STOP to a bay sequencer (R134, R335, R339, R496). -/
def Device.bayStop (d : Device) (i : Fin 9) : Device :=
  let e : Eng := .seq i
  let d := match bayOf i with
    | none => d
    | some b => if d.pend e then d.goldCancel b else d
  match d.engState e with
  | 1 => (d.setPend e false).bayDown i 1
  | 2 => d.bayDown i 1
  | _ => if d.twin.takeover[i] then (d.setPend e false).baySafeStop i else d.setPend e false

/-- The safe stop of SEQ8 begins: STOP to every bay that is not OFF; its own rails wait for them (R342). -/
def Device.traySafeStop (d : Device) : Device :=
  if d.tray.forced then d
  else
    let d := if d.pwrUp 8 then d.noteDown 8 6 else d
    let d := bays.foldl (fun d b => if d.pwr (seqOf b) = 0 then d else d.bayStop (seqOf b)) d
    let d := d.setSeq 8 { d.seqs[(8 : Fin 9)] with safeStop := true }
    if d.railEn 8 = 0 then d.safeStopEnd 8 else d

/-- The engine-lost action of a sequencer. -/
def Device.seqLost (d : Device) (i : Fin 9) : Device := if i = 8 then d.traySafeStop else d.baySafeStop i

/-- A going-down of any sequencer. -/
def Device.seqDown (d : Device) (i : Fin 9) (cause : Nat) : Device :=
  if i ≠ 8 then d.bayDown i cause
  else
    let e : Eng := .seq 8
    let entry := if d.pwr 8 = 1 ∧ d.entryDefined e 2 then 2 else 1
    let off := d.pwr 8 == 0
    let d := if d.pwrUp 8 then d.noteDown 8 cause else d
    let d := d.off (R.SQ_STATUS 8) F.SQ_STATUS.WARN
    if d.engState e = 2 ∧ d.entryDefined e entry then (d.setState e 3).engGoto e entry
    else if d.engIdle e then d
    else (d.engOff e off).traySafeStop

/-- A STOP to a sequencer; to a FOLLOW one it is a request to the lead. -/
def Device.seqStop (d : Device) (i : Fin 9) : Device :=
  if d.follow then d.passRequest i .stop
  else if i ≠ 8 then d.bayStop i
  else
    let d := { d with tray := { d.tray with lastStart := false } }
    match d.engState (.seq 8) with
    | 1 => (d.setPend (.seq 8) false).seqDown 8 1
    | 2 => d.seqDown 8 1
    | _ => if d.twin.takeover[(8 : Fin 9)] then (d.setPend (.seq 8) false).traySafeStop else d.setPend (.seq 8) false

/-- A KILL of a sequencer (R134, R337). -/
def Device.seqKill (d : Device) (i : Fin 9) : Device :=
  let e : Eng := .seq i
  let d := match bayOf i with
    | none => { d with tray := { d.tray with lastStart := false } }
    | some b => if d.pend e then d.goldCancel b else d
  match d.engState e with
  | 0 => if d.twin.takeover[i] then (d.setPend e false).seqLost i else d.setPend e false
  | 4 => (d.engOff e false).setPend e false
  | _ => ((d.engOff e (d.pwr i == 0)).setPend e false).seqLost i

/-- A sequencer program halts (R337): an orderly end only in STOPPING. -/
def Device.seqHalt (d : Device) (i : Fin 9) : Device :=
  let e : Eng := .seq i
  let orderly := d.engState e == 3
  let d := d.engOff e (d.pwr i == 0)
  if orderly && d.railEn i == 0 then d.pwrOffCheck i else d.seqLost i

/-- A sequencer faults: the safe stop with LAST_DOWN 0x6 (R342). -/
def Device.seqFault (d : Device) (i : Fin 9) (c : Cause) (pc : Nat) : Device :=
  let d := d.engFaulted (.seq i) c pc (d.pwr i == 0)
  let d := if d.pwr i = 3 then d.setFld (R.SQ_STATUS i.val) F.SQ_STATUS.LAST_DOWN 6 else d
  (d.off (R.SQ_STATUS i.val) F.SQ_STATUS.WARN).seqLost i

/-- A sequencer enters RUNNING: at entry 0 its PWR goes UP (R334). After a takeover it begins over running rails with PWR
UP, or goes on with the going-down that was in progress (R565). -/
def Device.seqRunning (d : Device) (i : Fin 9) : Device :=
  if d.twin.takeover[i] then
    let d := d.setTakeover i false
    if d.pwr i = 3 then d.engStopping (.seq i) else (d.engRunning (.seq i)).setPwr i 1
  else
  let d := d.engRunning (.seq i)
  if d.startEntry (.seq i) = 0 ∧ d.pwr i = 0 then d.setPwr i 1 else d

/-! ### SQ_CMD (R334, R336, R346) -/

/-- The tray reaches ON: STARTs to the bays, and held ones looked at (R345, R346). -/
def Device.bayAutoStart (d : Device) : Device :=
  let mask := if d.tray.lastStart then d.fld R.TR_STAT F.TR_STAT.BAYS_LAST else d.fld R.TR_CFG F.TR_CFG.BAY_AUTO
  let d := { d with tray := { d.tray with lastStart := false } }
  bays.foldl (fun d b =>
    let d := if bit mask b.val then d.seqStart (seqOf b) else d
    d.seqTryPend (seqOf b)) d

/-- SQ_COOL.FANS_PROVEN: CL_MODE's, and in a pair with the link up the partner's too (R559). -/
def Device.fansProven (d : Device) : Bool :=
  d.flag R.CL_MODE F.CL_MODE.FANS_PROVEN &&
    (!((d.role == 1 || d.role == 2) && d.twinUp) || bit d.twin.partner.2.1 0)

/-- SQ_CMD.ON (R334). -/
def Device.seqOn (d : Device) (i : Fin 9) : Device :=
  if d.pwr i ≠ 1 then d
  else if i ≠ 8 ∧ !d.fansProven then d.on (R.SQ_STATUS i.val) F.SQ_STATUS.ON_REFUSED
  else
    let d := d.setPwr i 2
    if i = 8 then d.bayAutoStart else d

/-- SQ_CMD.DOWN (R336): none while STOPPING. -/
def Device.seqCmdDown (d : Device) (i : Fin 9) : Device :=
  if d.engState (.seq i) = 3 then d else d.seqDown i 2

/-- A write of SQ_CMD: DOWN applies where both are written. -/
def Device.seqCmd (d : Device) (i : Fin 9) (v : Nat) : Device :=
  if d.follow then
    if bit v 1 then d.passRequest i .down else if bit v 0 then d.passRequest i .on else d
  else if bit v 1 then d.seqCmdDown i
  else if bit v 0 then d.seqOn i
  else d

/-! ### Rails as they are judged (R329–R333, R340) -/

/-- A running fault (R340, R339, R551): PFW, SQ_FAULTED and the counter, T_warn, and the FAULT entry. -/
def Device.runningFault (d : Device) (i : Fin 9) (c : Nat) : Device :=
  let e : Eng := .seq i
  let d := if i = 8 then bays.foldl (fun d b => if d.pwr (seqOf b) = 0 then d else d.assertPfw (seqOf b)) d
    else d.assertPfw i
  let d := d.setMaskBit (R.SQ_FAULTED i.val) F.SQ_FAULTED.FAULTED c true
  let d := d.count (R.SQ_CNT_B i.val c) F.SQ_CNT_B.FAULTS 1
  if d.follow || d.engState e == 3 then d
  else
    let d := d.on (R.SQ_STATUS i.val) F.SQ_STATUS.WARN
    if d.engState e = 2 ∧ d.entryDefined e 3 then d.engGoto e 3 else d

/-- RAIL_PG_RISE (R329, R330). -/
def devRailPgRise (k : Fin 80) (d : Device) : Device :=
  let i := railSeq k
  let c := railChan k
  if !d.pins.vio[(0 : Fin 8)] then d else
  let d := d.setMaskBit (R.SQ_RAIL_ST i.val) F.SQ_RAIL_ST.PG c true
  if bit (d.railEn i) c then d.setMaskBit (R.SQ_RAIL_ST2 i.val) F.SQ_RAIL_ST2.SEEN c true else d

def execRailPgRise (k : Fin 80) (s : State) : Host.Outcome State Fault Refusal := .next (s.onDev (devRailPgRise k))

/-- RAIL_PG_FALL (R329, R331): the fall of a running rail is a running fault. -/
def devRailPgFall (k : Fin 80) (d : Device) : Device :=
  let i := railSeq k
  let c := railChan k
  let d := d.setMaskBit (R.SQ_RAIL_ST i.val) F.SQ_RAIL_ST.PG c false
  if bit (d.railEn i) c && bit (d.railSeen i) c then d.runningFault i c else d

def execRailPgFall (k : Fin 80) (s : State) : Host.Outcome State Fault Refusal := .next (s.onDev (devRailPgFall k))

/-- RAIL_PG_GLITCH (R331). -/
def devRailPgGlitch (k : Fin 80) (d : Device) : Device :=
  let i := railSeq k
  let c := railChan k
  if bit (d.railEn i) c && bit (d.railSeen i) c then d.count (R.SQ_CNT_B i.val c) F.SQ_CNT_B.GLITCHES 1 else d

def execRailPgGlitch (k : Fin 80) (s : State) : Host.Outcome State Fault Refusal := .next (s.onDev (devRailPgGlitch k))

/-- RAIL_LATE: a WAIT on SQ_RAIL_PG with ALL has timed out (R332). -/
def Device.railLate (d : Device) (i : Fin 9) (mask : Nat) : Device :=
  (List.range 16).foldl (fun d c =>
    if bit mask c && bit (d.railEn i) c && !bit (d.railSeen i) c then
      (d.setMaskBit (R.SQ_RAIL_ST2 i.val) F.SQ_RAIL_ST2.LATE c true).count (R.SQ_CNT_A i.val c) F.SQ_CNT_A.UP_TIMEOUTS 1
    else d) d

/-- T_WARN_EXPIRY (R341). -/
def devTWarnExpiry (i : Fin 9) (d : Device) : Device :=
  if !d.flag (R.SQ_STATUS i.val) F.SQ_STATUS.WARN then d
  else
    let d := d.off (R.SQ_STATUS i.val) F.SQ_STATUS.WARN
    if d.engState (.seq i) = 3 then d else d.seqDown i 3

def execTWarnExpiry (i : Fin 9) (s : State) : Host.Outcome State Fault Refusal := .next (s.onDev (devTWarnExpiry i))

/-- T_DOWN_MAX_EXPIRY (R343). -/
def devTDownMaxExpiry (i : Fin 9) (d : Device) : Device :=
  if d.engState (.seq i) = 3 then
    ((d.setFld (R.SQ_STATUS i.val) F.SQ_STATUS.LAST_DOWN 7).seqKill i).pwrOffCheck i
  else d

def execTDownMaxExpiry (i : Fin 9) (s : State) : Host.Outcome State Fault Refusal :=
  .next (s.onDev (devTDownMaxExpiry i))

/-- The highest channel enabled. -/
def topChan (en : Nat) : Option Nat := ((List.range 16).reverse).find? (bit en)

/-- SAFE_STOP_STEP (R342): the next enabled rail is cleared, in reverse channel order; SEQ8's once every bay is OFF. -/
def devSafeStopStep (i : Fin 9) (d : Device) : Device :=
  if !d.seqs[i].safeStop || d.tray.forced then d
  else if i = 8 ∧ !bays.all (fun b => d.pwr (seqOf b) == 0) then d
  else match topChan (d.railEn i) with
    | none => d.safeStopEnd i
    | some c =>
      let d := d.clearRail i c
      if d.railEn i = 0 then d.safeStopEnd i else d

def execSafeStopStep (i : Fin 9) (s : State) : Host.Outcome State Fault Refusal := .next (s.onDev (devSafeStopStep i))

/-- SQ_CNT_CLR (R333). -/
def Device.clearCounters (d : Device) (i : Fin 9) (mask : Nat) : Device :=
  (List.range 16).foldl (fun d c =>
    if bit (mask &&& chanMask i) c then (d.setReg (R.SQ_CNT_A i.val c) 0#32).setReg (R.SQ_CNT_B i.val c) 0#32 else d) d

def execSqCntClr (i : Fin 9) (clr : BitVec 16) (s : State) : Host.Outcome State Fault Refusal :=
  .next (s.onDev (fun d => if d.answers (1 + i.val) then d.clearCounters i clr.toNat else d))

/-! ### Hold-up records (R354–R356) -/

/-- The code of a cause (R355). -/
def ForceCause.code : ForceCause → Nat
  | .vinLow => 1
  | .longPress => 2
  | .killIn => 3

/-- The bit of TR_EVENT of a cause (R366). -/
def ForceCause.event : ForceCause → Fld
  | .vinLow => F.TR_EVENT.VIN_LOW
  | .longPress => F.TR_EVENT.BTN_LONG
  | .killIn => F.TR_EVENT.KILL_IN

/-- Bit n set: bay n is UP or ON. -/
def Device.baysUp (d : Device) : Nat := bays.foldl (fun n b => n + natOf (d.pwrUp (seqOf b)) * 2 ^ b.val) 0

/-- The words of ten bytes with one bit for each of the 80 channels. -/
def railBytes (f : Fin 9 → Nat) : List Nat := bays.map (fun b => f (seqOf b) % 256) ++ [f 8 % 256, f 8 / 256]

/-- A hold-up record as it stands at the judgment; SEQ is given as it is written (R355). -/
def Device.holdupNow (d : Device) (cause : Nat) : Device :=
  let (ft, d) := d.readFt
  let r : HoldupRec := {
    cause := cause
    vin := d.fld R.TR_VIN F.TR_VIN.VIN
    seq := 0
    ft := ft
    trayPwr := d.trayPwr
    baysLast := d.baysUp
    railEn := railBytes d.railEn
    railPg := railBytes d.railPg
    vhold := d.fld R.TR_VIN F.TR_VIN.VHOLD
    counters := (List.finRange 80).flatMap (fun k =>
      let i := railSeq k
      let c := railChan k
      [d.fld (R.SQ_CNT_A i.val c) F.SQ_CNT_A.ENABLES, d.fld (R.SQ_CNT_A i.val c) F.SQ_CNT_A.UP_TIMEOUTS,
        d.fld (R.SQ_CNT_B i.val c) F.SQ_CNT_B.FAULTS, d.fld (R.SQ_CNT_B i.val c) F.SQ_CNT_B.GLITCHES])
    torn := false }
  { d with tray := { d.tray with holdup := d.tray.holdup ++ [r] } }

/-- The slot after the record with the highest SEQ where the next record goes; none where no slot is empty (R354). -/
def holdupSlot (l : List (Nat × HoldupRec)) : Option Nat :=
  let start := match (l.map (fun p => p.2.seq)).max? with
    | none => 0
    | some m => match l.find? (fun p => p.2.seq == m) with
      | none => 0
      | some p => p.1 + 1
  ((List.range 256).map (fun k => (start + k) % 256)).find? (fun k => !l.any (fun p => p.1 == k))

/-- The next hold-up SEQ. -/
def Device.huSeq (d : Device) : Nat := (d.reg R.TR_HU_SEQ_LO).toNat + 2 ^ 32 * (d.reg R.TR_HU_SEQ_HI).toNat

/-- The next hold-up SEQ set. -/
def Device.setHuSeq (d : Device) (n : Nat) : Device :=
  (d.setReg R.TR_HU_SEQ_LO (BitVec.ofNat 32 n)).setReg R.TR_HU_SEQ_HI (BitVec.ofNat 32 (n / 2 ^ 32))

/-- HOLDUP_WRITE_DONE (R354). -/
def sysHoldupWriteDone (y : Sys) : Sys :=
  match y.dev.tray.holdup with
  | [] => y
  | r :: rest =>
    let d := { y.dev with tray := { y.dev.tray with holdup := rest } }
    match holdupSlot y.nv.holdup with
    | none => { y with dev := d.on R.TR_EVENT F.TR_EVENT.HU_FAILED }
    | some k =>
      { dev := (d.on R.TR_EVENT F.TR_EVENT.HU_WRITTEN).setHuSeq (d.huSeq + 1)
        nv := { y.nv with holdup := sparseInsert k { r with seq := d.huSeq } y.nv.holdup } }

def execHoldupWriteDone (s : State) : Host.Outcome State Fault Refusal := .next (s.onSys sysHoldupWriteDone)

/-! ### Forced off (R334, R350–R353) -/

/-- A forced off takes a sequencer: PWR to FORCED_OFF, PEND cleared, the engine KILLed, PFW asserted (R334, R351). -/
def Device.forceSeq (d : Device) (i : Fin 9) : Device :=
  let e : Eng := .seq i
  let d := if d.pwrUp i then
      (d.count (R.SQ_STATUS i.val) F.SQ_STATUS.DOWN_CNT 1).on (R.SQ_STATUS i.val) F.SQ_STATUS.WENT_DOWN
    else d
  let d := if d.pwr i = 0 then d else d.setFld (R.SQ_STATUS i.val) F.SQ_STATUS.LAST_DOWN 8
  let d := (d.setPwr i 4).off (R.SQ_STATUS i.val) F.SQ_STATUS.WARN
  let d := (d.engOff e false).setPend e false
  let d := match bayOf i with
    | none => d
    | some b => (d.goldCancel b).assertPfw i
  d.setSeq i { d.seqs[i] with safeStop := false }

/-- A cause of a forced off is judged: it begins one with its hold-up record, or joins the one in force (R351, R354). -/
def Device.forceOff (d : Device) (c : ForceCause) : Device :=
  if d.tray.forced then
    if d.tray.forceActive.contains c then d
    else
      let d := d.on R.TR_EVENT c.event
      { d with tray := { d.tray with
          forceActive := d.tray.forceActive ++ [c]
          forceAll := if d.tray.forceAll.contains c then d.tray.forceAll else d.tray.forceAll ++ [c] } }
  else
    let d := (d.on R.TR_EVENT c.event).holdupNow c.code
    let d := d.setFld R.TR_STAT F.TR_STAT.BAYS_LAST d.baysUp
    let d := { d with
      tray := { d.tray with
        forceActive := [c]
        forceAll := [c]
        forceStep := 0
        forced := true
        trayWas := d.pwrUp 8
        lastStart := false
        killOut := true
        vinWait := false }
      twin := { d.twin with steps := [] } }
    (seqIds.foldl Device.forceSeq d).on R.TR_STAT F.TR_STAT.FORCING

/-- FORCED_OFF ends once the schedule has run and every cause has gone; POLICY then acts where VIN_LOW was the only
cause (R334, R351, R352). -/
def Device.forceEnd (d : Device) : Device :=
  if !d.tray.forced || !d.tray.forceActive.isEmpty || d.flag R.TR_STAT F.TR_STAT.FORCING then d
  else
    let only := d.tray.forceAll == [.vinLow]
    let was := d.tray.trayWas
    let d := { d with tray := { d.tray with forced := false, forceAll := [], killOut := false } }
    let d := seqIds.foldl (fun d i => if d.pwr i = 4 then d.reachOff i else d) d
    match d.fld R.TR_CFG F.TR_CFG.POLICY with
    | 1 => if only then d.seqStart 8 else d
    | 2 => if only && was then ({ d with tray := { d.tray with lastStart := true } } : Device).seqStart 8 else d
    | _ => d

/-- A cause of the forced off goes. -/
def Device.forceGone (d : Device) (c : ForceCause) : Device :=
  { d with tray := { d.tray with forceActive := d.tray.forceActive.filter (· != c) } }.forceEnd

/-- FORCED_OFF_STEP: the next 100 µs of the schedule (R351). -/
def devForcedOffStep (d : Device) : Device :=
  if !d.flag R.TR_STAT F.TR_STAT.FORCING then d
  else
    let n := d.tray.forceStep + 1
    let d := { d with tray := { d.tray with forceStep := n } }
    let d := if n ≤ 8 then bays.foldl (fun d b => d.clearRail (seqOf b) (8 - n)) d else d.clearRail 8 (24 - n)
    let d := if n = 8 then
        bays.foldl (fun d b => d.setLines (seqOf b) { d.seqs[seqOf b] with hwRst := true, hwOff := true }) d
      else d
    if n < 24 then d else (d.off R.TR_STAT F.TR_STAT.FORCING).forceEnd

def execForcedOffStep (s : State) : Host.Outcome State Fault Refusal := .next (s.onDev devForcedOffStep)

/-- VIN and VHOLD as last measured, in 10 mV. -/
def Device.measured (d : Device) (vin vhold : Nat) : Device :=
  (d.setFld R.TR_VIN F.TR_VIN.VIN (min vin 0xFFFF)).setFld R.TR_VIN F.TR_VIN.VHOLD (min vhold 0xFFFF)

/-- VIN_LOW (R350, R556): below 36 V; in a pair with its link up, once the partner shows it too. -/
def devVinLow (vin vhold : Nat) (d : Device) : Device :=
  let d := (d.measured vin vhold).setFld R.TR_STAT F.TR_STAT.VIN_OK (natOf (decide (4200 < vin)))
  if 3600 ≤ vin ∨ d.flag R.TR_STAT F.TR_STAT.VIN_LOW then d
  else
    let d := (d.on R.TR_STAT F.TR_STAT.VIN_LOW).alertCheck
    if (d.role == 1 || d.role == 2) && d.twinUp && !bit d.twin.partner.2.2.1 0 then
      { d with tray := { d.tray with vinWait := true } }
    else d.forceOff .vinLow

def execVinLow (vin vhold : Nat) (s : State) : Host.Outcome State Fault Refusal := .next (s.onDev (devVinLow vin vhold))

/-- VIN_RETURN (R350, R352): above 42 V. -/
def devVinReturn (vin vhold : Nat) (d : Device) : Device :=
  let d := d.measured vin vhold
  if vin ≤ 4200 then d
  else
    let d := d.on R.TR_STAT F.TR_STAT.VIN_OK
    if !d.flag R.TR_STAT F.TR_STAT.VIN_LOW then d
    else
      let d := ((d.off R.TR_STAT F.TR_STAT.VIN_LOW).on R.TR_EVENT F.TR_EVENT.VIN_RETURN).alertCheck
      { d with tray := { d.tray with vinWait := false } }.forceGone .vinLow

def execVinReturn (vin vhold : Nat) (s : State) : Host.Outcome State Fault Refusal :=
  .next (s.onDev (devVinReturn vin vhold))

/-- HOLD_OK_CHANGE (R350): HOLD_OK is 1 while VHOLD is at or above 40 V. -/
def devHoldOkChange (vhold : Nat) (d : Device) : Device :=
  (d.setFld R.TR_VIN F.TR_VIN.VHOLD (min vhold 0xFFFF)).setFld R.TR_STAT F.TR_STAT.HOLD_OK (natOf (decide (4000 ≤ vhold)))

def execHoldOkChange (vhold : Nat) (s : State) : Host.Outcome State Fault Refusal :=
  .next (s.onDev (devHoldOkChange vhold))

/-- KILL_IN (R358). -/
def devKillIn (d : Device) : Device :=
  if d.tray.killOut || !d.pins.vio[(4 : Fin 8)] then d else d.forceOff .killIn

def execKillIn (s : State) : Host.Outcome State Fault Refusal := .next (s.onDev devKillIn)

def execKillInRelease (s : State) : Host.Outcome State Fault Refusal := .next (s.onDev (·.forceGone .killIn))

/-! ### External off, presence and the button (R357, R358) -/

/-- EXT_OFF (R358, R551). -/
def devExtOff (b : Bay) (d : Device) : Device :=
  let i := seqOf b
  if d.asserts b 0 || !d.pwrUp i || d.follow || !d.pins.vio[(1 : Fin 8)] then d
  else (d.on (R.SQ_STATUS i.val) F.SQ_STATUS.EXT_OFF).seqDown i 5

def execExtOff (b : Bay) (s : State) : Host.Outcome State Fault Refusal := .next (s.onDev (devExtOff b))

/-- PRESENCE_LOST (R358, R551). -/
def devPresenceLost (b : Bay) (d : Device) : Device :=
  let i := seqOf b
  if !d.pwrUp i || d.follow then d else (d.assertPfw i).seqDown i 4

def execPresenceLost (b : Bay) (s : State) : Host.Outcome State Fault Refusal := .next (s.onDev (devPresenceLost b))

/-- BTN_PRESS (R357). -/
def devBtnPress (d : Device) : Device :=
  if d.tray.btn || !d.pins.vio[(4 : Fin 8)] then d else { d with tray := { d.tray with btn := true, btnLong := false } }

def execBtnPress (s : State) : Host.Outcome State Fault Refusal := .next (s.onDev devBtnPress)

/-- LONG_PRESS (R357): a press held for T_long. -/
def devLongPress (d : Device) : Device :=
  if !d.tray.btn || d.tray.btnLong then d
  else ({ d with tray := { d.tray with btnLong := true } } : Device).forceOff .longPress

def execLongPress (s : State) : Host.Outcome State Fault Refusal := .next (s.onDev devLongPress)

/-- BTN_RELEASE (R357): a short press is an on request while the tray is OFF or DOWN, an off request while it is UP or
ON, and ignored while it is FORCED_OFF; the release of a long press ends that cause. -/
def devBtnRelease (d : Device) : Device :=
  if !d.tray.btn then d
  else
    let long := d.tray.btnLong
    let d := { d with tray := { d.tray with btn := false, btnLong := false } }
    if long then d.forceGone .longPress
    else match d.trayPwr with
      | 0 => (d.on R.TR_EVENT F.TR_EVENT.BTN_ON).seqStart 8
      | 3 => (d.on R.TR_EVENT F.TR_EVENT.BTN_ON).seqStart 8
      | 4 => d
      | _ => (d.on R.TR_EVENT F.TR_EVENT.BTN_OFF).seqStop 8

def execBtnRelease (s : State) : Host.Outcome State Fault Refusal := .next (s.onDev devBtnRelease)

/-! ### The power cap (R360–R362, R557) -/

/-- P_NOW in watts: VIN in 10 mV, each IMON in mV of 2,500 mV full scale (R360, R367). -/
def Device.pNow (d : Device) (vin : Nat) (imon : List Nat) : Nat :=
  (bays.map (fun b => imon.getD b.val 0 * d.fld (R.PC_ISCALE b.val) F.PC_ISCALE.FULL_SCALE)).sum * vin / 25000000

/-- The sample's P_NOW recorded. -/
def Device.capSample (d : Device) (vin : Nat) (imon : List Nat) : Device :=
  let d := d.refreshCap
  let d := d.setFld R.TR_VIN F.TR_VIN.VIN (min vin 0xFFFF)
  d.setFld R.PC_STAT F.PC_STAT.P_NOW (min (d.pNow vin imon) 0xFFFF)

/-- The first ON bay at or after NEXT that the cap does not throttle (R362). -/
def Device.capNext (d : Device) : Option Bay :=
  let n := d.fld R.PC_STAT F.PC_STAT.NEXT
  ((List.finRange 8).map (fun k => (⟨(n + k.val) % 8, Nat.mod_lt _ (by decide)⟩ : Bay))).find?
    (fun b => d.pwr (seqOf b) == 2 && !d.maskBit R.PC_STAT F.PC_STAT.CAP_MASK b.val)

/-- CAP_ENGAGE: P_NOW above CAP_EFF in every sample for 100 µs (R362). -/
def devCapEngage (vin : Nat) (imon : List Nat) (d : Device) : Device :=
  let d := d.capSample vin imon
  if d.follow || d.pNow vin imon ≤ d.fld R.PC_EFF F.PC_EFF.CAP_EFF then d
  else match d.capNext with
    | none => d.on R.TR_EVENT F.TR_EVENT.CAP_SATURATED
    | some b =>
      let d := d.setMaskBit R.PC_STAT F.PC_STAT.CAP_MASK b.val true
      let d := d.setFld R.PC_STAT F.PC_STAT.NEXT ((b.val + 1) % 8)
      let d := (d.count R.PC_ENGAGE_CNT F.PC_ENGAGE_CNT.COUNT 1).on R.TR_EVENT F.TR_EVENT.CAP_ENGAGED
      { d with tray := { d.tray with capOrder := d.tray.capOrder ++ [b] } }.refreshThr b |>.alertCheck

def execCapEngage (vin : Nat) (imon : List Nat) (s : State) : Host.Outcome State Fault Refusal :=
  .next (s.onDev (devCapEngage vin imon))

/-- CAP_RELEASE: P_NOW below CAP_EFF × (100 − HYST_PCT) % for 1 ms (R362). -/
def devCapRelease (vin : Nat) (imon : List Nat) (d : Device) : Device :=
  let d := d.capSample vin imon
  if d.fld R.PC_EFF F.PC_EFF.CAP_EFF * (100 - d.fld R.PC_CFG F.PC_CFG.HYST_PCT) ≤ d.pNow vin imon * 100 then d
  else match d.tray.capOrder with
    | [] => d
    | b :: _ => d.capDrop b

def execCapRelease (vin : Nat) (imon : List Nat) (s : State) : Host.Outcome State Fault Refusal :=
  .next (s.onDev (devCapRelease vin imon))

end Sys2Proof.Machine
end

