-- ==== Sys2Proof/Machine/CoolBase.lean ====
section
/-! DEFINITION. Cooling: sensor slots, overrides, modes, the throttle of hot zones and the command of a channel
(R370–R383, R391–R400). -/

namespace Sys2Proof.Machine

/-! ### Conversions (R371, R372) -/

/-- Fixed point with 48 fraction bits. -/
def fxOne : Int := 2 ^ 48

/-- The natural logarithm of num / den in fixed point, for positive num and den: the argument is brought near 1 by a
power of two, and the series of the inverse hyperbolic tangent gives the rest. -/
def fxLn (num den : Nat) : Int :=
  let k : Int := (Nat.log2 num : Int) - Nat.log2 den
  let n : Int := if 0 ≤ k then num else num * 2 ^ k.natAbs
  let m : Int := if 0 ≤ k then den * 2 ^ k.natAbs else den
  let z : Int := (n - m) * fxOne / (n + m)
  let z2 := z * z / fxOne
  let series := (List.range 24).foldl (fun (acc : Int × Int) (i : Nat) => (acc.1 + acc.2 / (2 * (i : Int) + 1), acc.2 * z2 / fxOne)) (0, z)
  2 * series.1 + k * 195103586505167

/-- Temperature in 0.1 °C of an NTC from its resistance num / den ohms, R25 and B, clamped (R371); rounded to the
nearest (assumption log 24). -/
def ntcTemp (num den r25 b : Nat) : Int :=
  let l := fxLn num (den * r25)
  let div := 20 * fxOne * b + 5963 * l
  if div ≤ 0 then 1500
  else max (-550) (min 1500 ((20 * 5963 * fxOne * b / div - 5463 + 1) / 2))

/-- What an analog input reads. -/
inductive AinRead where
  | value (v : Int)
  | open
  | short
  | range
  /-- a value the manual states nothing for: outside what the slot can hold -/
  | unstated
  deriving DecidableEq, Repr

/-- An NTC input at uv microvolts: 5 µA through R gives uv / 5 ohms (R371). -/
def ntcRead (p1 p2 uv : Nat) : AinRead :=
  if 2450000 ≤ uv then .open
  else if 4 * uv < p1 then .short
  else .value (ntcTemp uv 5 (10 * p1) p2)

/-- A LINEAR input at uv microvolts: 0 at V0 and FULL at V1 (R372). -/
def linearRead (v0 full v1 uv : Nat) : AinRead :=
  if (uv : Int) < 1000 * ((v0 : Int) - 50) ∨ 1000 * (v1 + 50) < uv then .range
  else if uv < 1000 * v0 then .unstated
  else
    let v := (uv - 1000 * v0) * full / (1000 * (v1 - v0))
    if v < 65536 then .value v else .unstated

/-- The 16-bit word of a signed value. -/
def word16 (v : Int) : Nat := (v % 65536).toNat

/-- The signed value of a 16-bit word. -/
def signed16 (n : Nat) : Int := if n < 32768 then n else (n : Int) - 65536

/-! ### Sensor slots (R370–R374) -/

/-- A slot updated: its value and flags set, STALE cleared. -/
def Device.putSlot (d : Device) (s : Nat) (value : Nat) (isOpen short range temp : Bool) : Device :=
  let a := R.CL_SENS s
  let d := (d.setFld a F.CL_SENS.VALUE value).setFld a F.CL_SENS.OPEN (natOf isOpen)
  let d := (d.setFld a F.CL_SENS.SHORT (natOf short)).setFld a F.CL_SENS.RANGE (natOf range)
  (d.setFld a F.CL_SENS.STALE 0).setFld a F.CL_SENS.TEMP (natOf temp)

/-- An analog input's slot updated from what it reads; the manual states no VALUE for a faulted reading, and it is a free
value (assumption log 24). -/
def Device.putAin (d : Device) (s : Nat) (temp : Bool) : AinRead → Device
  | .value v => d.putSlot s (word16 v) false false false temp
  | r =>
    let (x, d) := d.fresh
    d.putSlot s (x.toNat % 65536) (r == .open) (r == .short) (r == .range) temp

/-- A slot is faulted (R374). -/
def Device.slotFaulted (d : Device) (s : Nat) : Bool :=
  let a := R.CL_SENS s
  d.flag a F.CL_SENS.OPEN || d.flag a F.CL_SENS.SHORT || d.flag a F.CL_SENS.RANGE

/-- A slot is stale or faulted. -/
def Device.slotBad (d : Device) (s : Nat) : Bool := d.flag (R.CL_SENS s) F.CL_SENS.STALE || d.slotFaulted s

/-- A slot takes part in zones: a HEALTH slot only while it has joined and its bay has power (R373). -/
def Device.slotJoins (d : Device) (s : Nat) : Bool :=
  if h : 48 ≤ s ∧ s < 56 then
    let b : Bay := ⟨s - 48, by omega⟩
    d.cool.healthJoin[b] && d.pwr (seqOf b) != 0 && d.pwr (seqOf b) != 4
  else true

/-- What a slot that takes part reads as in a zone, in 0.1 °C (R374). -/
def Device.slotTemp (d : Device) (s : Nat) : Int :=
  if d.slotBad s || !d.flag (R.CL_SENS s) F.CL_SENS.TEMP then 1500
  else signed16 (d.fld (R.CL_SENS s) F.CL_SENS.VALUE)

/-- The slots a zone selects that take part. -/
def Device.zoneSlots (d : Device) (z : Nat) : List Nat :=
  (List.range 112).filter (fun s => bit (d.reg (R.CL_ZSEL z (s / 32))).toNat (s % 32) && d.slotJoins s)

/-- SENSOR_FAULT sets as a slot selected by a zone becomes stale or faulted (R374, R402). -/
def Device.refreshBad (d : Device) : Device :=
  let bad := (List.range 112).filter (fun s => d.slotBad s && d.slotJoins s &&
    (List.range 16).any (fun z => bit (d.reg (R.CL_ZSEL z (s / 32))).toNat (s % 32)))
  let d1 := { d with cool := { d.cool with badSlots := bad } }
  if bad.any (fun s => !d.cool.badSlots.contains s) then d1.on R.CL_EVENT F.CL_EVENT.SENSOR_FAULT else d1

/-! ### Modes and overrides (R378, R379, R392, R397, R400) -/

/-- Kind of an analog input: 0 UNUSED, 1 NTC, 2 LINEAR. -/
def Device.ainKind (d : Device) (i : Nat) : Nat := d.fld (R.CL_AIN_A i) F.CL_AIN_A.KIND

/-- AIN0 to AIN7 that are of kind NTC. -/
def Device.safeNtcs (d : Device) : List Nat := (List.range 8).filter (fun i => d.ainKind i == 1)

/-- The device is in recovery wait, or its fuses are at fault (R378, R438). -/
def Device.coolSafeBoot (d : Device) : Bool :=
  decide (2 ≤ d.fld R.SEC_BOOT_STATUS F.SEC_BOOT_STATUS.MODE)

/-- MODE_NOW (R378): 0 AUTO, 1 MANUAL, 2 SAFE. -/
def Device.modeNow (d : Device) : Nat :=
  let m := d.fld R.CL_MODE F.CL_MODE.MODE
  if m = 2 ∨ d.coolSafeBoot ∨ !d.cool.coolRan then 2 else m

/-- A loop is enabled and in a sensor-fault state: OPEN, SHORT, DRIFT or PENDING (R396, R400). -/
def Device.loopFault (d : Device) (l : Nat) : Bool :=
  let st := d.fld (R.CL_LK_STAT l) F.CL_LK_STAT.STATE
  d.flag (R.CL_LK_A l) F.CL_LK_A.EN && 2 ≤ st && st ≤ 5

/-- The states CL_MODE shows, and the cap and throttles that follow from them, formed again. -/
def Device.refreshCool (d : Device) : Device :=
  let d := d.setFld R.CL_MODE F.CL_MODE.MODE_NOW d.modeNow
  let d := d.setFld R.CL_MODE F.CL_MODE.FAIL_OVR
    (natOf (d.fld R.CL_FAILED F.CL_FAILED.MOT != 0 || d.fld R.CL_FAILED F.CL_FAILED.AUX != 0))
  let d := d.setFld R.CL_MODE F.CL_MODE.LEAK_OVR
    (natOf ((List.range 8).any (fun l => d.flag (R.CL_LK_STAT l) F.CL_LK_STAT.LATCHED)))
  let fault := natOf ((List.range 8).any d.loopFault)
  let d := (d.setFld R.CL_MODE F.CL_MODE.FAULT_OVR fault).setFld R.CL_MODE F.CL_MODE.BLIND fault
  let d := if d.safeNtcs.isEmpty then d.on R.CL_MODE F.CL_MODE.SAFE_HOT else d
  d.refreshCap

/-! ### Pairs (R550, R558, R559) -/

/-- The channel is of the device's own half in a pair. -/
def Device.ownHalf (d : Device) (c : Nat) : Bool :=
  if d.flag R.TWIN_STATUS F.TWIN_STATUS.PAIR_ID then (5 ≤ c ∧ c ≤ 9) ∨ c = 11 else c ≤ 4 ∨ c = 10

/-- The channel is a spare of a pair. -/
def Device.spare (d : Device) (c : Nat) : Bool := d.role != 0 && !d.ownHalf c

/-- A direct-drive channel is enabled: a LEAD or SHADOW holds its spares disabled (R558). -/
def Device.motEnabled (d : Device) (c : Fin 12) : Bool :=
  d.flag (R.MOT_CFG c.val) F.MOT_CFG.EN && !(d.spare c.val && d.role != 3)

/-- A bit of the partner's COOL byte while the link is up (R559). -/
def Device.partnerCool (d : Device) (k : Nat) : Bool :=
  (d.role == 1 || d.role == 2) && d.twinUp && bit d.twin.partner.2.1 k

/-- The fan override: a failed channel, a leak, a faulted leak sensor, the survivor, or the partner's (R380, R559). -/
def Device.fanOverride (d : Device) : Bool :=
  d.flag R.CL_MODE F.CL_MODE.FAIL_OVR || d.flag R.CL_MODE F.CL_MODE.LEAK_OVR || d.flag R.CL_MODE F.CL_MODE.FAULT_OVR ||
    d.role == 3 || d.partnerCool 1 || d.partnerCool 2 || d.partnerCool 3

/-- A direct-drive channel is stopped by a WET response of this device or of its partner (R397, R559). -/
def Device.pumpStopped (d : Device) (c : Nat) : Bool :=
  (List.range 8).any (fun l => d.flag (R.CL_LK_STAT l) F.CL_LK_STAT.LATCHED && d.maskBit (R.CL_LK_A l) F.CL_LK_A.PUMPS c) ||
    ((d.role == 1 || d.role == 2) && d.twinUp && bit d.twin.partner.2.2.2.2.1 c)

/-! ### The command of a channel (R380): direct drive c below 12, auxiliary channel c − 16 from 16 -/

/-- The channel maps to zone z. -/
def Device.mapped (d : Device) (c z : Nat) : Bool := d.maskBit (R.CL_MAP c) F.CL_MAP.ZONES z

/-- The base command of a channel in the mode in force. -/
def Device.baseCommand (d : Device) (c : Nat) : Nat :=
  let zs := (List.range 16).filter (d.mapped c)
  match d.modeNow with
  | 0 => (zs.map (fun z => d.fld (R.CL_ZSTAT z) F.CL_ZSTAT.DEMAND)).foldl max (d.fld (R.CL_MAP c) F.CL_MAP.FLOOR)
  | 1 => if zs.any (fun z => d.flag (R.CL_ZSTAT z) F.CL_ZSTAT.HOT) then 100 else d.fld (R.CL_MAP c) F.CL_MAP.MANUAL
  | _ => if d.flag R.CL_MODE F.CL_MODE.SAFE_HOT then 100 else 40

/-- Direct-drive channel c has profile PUMP. -/
def Device.isPump (d : Device) (c : Nat) : Bool := d.flag (R.MOT_CFG c) F.MOT_CFG.PROFILE

/-- The command of an enabled channel that is neither FAILED nor ABSENT. -/
def Device.command (d : Device) (c : Nat) : Nat :=
  let pump := c < 12 && d.isPump c
  if c < 12 && d.pumpStopped c then 0
  else if !pump && d.fanOverride then 100
  else if pump && (List.range 12).any (fun k => k != c && d.isPump k && d.maskBit R.CL_FAILED F.CL_FAILED.MOT k) then 100
  else d.baseCommand c

/-- An auxiliary channel is enabled. -/
def Device.auxEnabled (d : Device) (n : Nat) : Bool := d.flag (R.AX_CFG n) F.AX_CFG.EN

/-! ### Proven fans (R393, R558) -/

/-- FANS_PROVEN formed again. Whether a tach pulse of a running auxiliary channel has come within the last second is
not among the commands, and is a free value (assumption log 25). -/
def Device.refreshProven (d : Device) : Device :=
  let mot := (List.finRange 12).all (fun c =>
    !d.maskBit R.CL_PROVE F.CL_PROVE.MOT c.val || d.spare c.val || d.fld (R.MOT_STAT c.val) F.MOT_STAT.STATE == 3)
  let named := (List.range 8).filter (d.maskBit R.CL_PROVE F.CL_PROVE.AUX)
  let running := named.all (fun n => d.fld (R.AX_STAT n) F.AX_STAT.STATE == 1)
  if named.isEmpty then d.setFld R.CL_MODE F.CL_MODE.FANS_PROVEN (natOf mot)
  else
    let (x, d) := d.fresh
    d.setFld R.CL_MODE F.CL_MODE.FANS_PROVEN (natOf (mot && running && x.getLsbD 0))

end Sys2Proof.Machine
end

