-- ==== Sys2Proof/Machine/Motor.lean ====
section
/-! DEFINITION. Direct-drive motors and auxiliary fans (R380, R381, R385–R393, R614). -/

namespace Sys2Proof.Machine

/-- STATE of a direct-drive channel (R404): 0 OFF, 1 IDLE, 2 START, 3 RUN, 4 WAIT, 5 FAILED, 6 ABSENT. -/
def Device.motState (d : Device) (c : Fin 12) : Nat := d.fld (R.MOT_STAT c.val) F.MOT_STAT.STATE

/-- STATE set, and FANS_PROVEN formed again (R393). -/
def Device.setMot (d : Device) (c : Fin 12) (st : Nat) : Device :=
  (d.setFld (R.MOT_STAT c.val) F.MOT_STAT.STATE st).refreshProven

/-- The drive die of a channel. -/
def motDie (c : Fin 12) : Fin 2 := if c.val < 6 then 0 else 1

/-- A channel becomes FAILED: its CL_FAILED bit, CH_FAILED and the failure override (R389, R392). -/
def Device.motFailed (d : Device) (c : Fin 12) : Device :=
  ((d.setMot c 5).setMaskBit R.CL_FAILED F.CL_FAILED.MOT c.val true).on R.CL_EVENT F.CL_EVENT.CH_FAILED |>.refreshCool

/-- The drive die's trip takes a channel that is not OFF to FAILED with OVERTEMP, whatever TRIES holds (R388, R389). -/
def Device.motTrip (d : Device) (c : Fin 12) : Device :=
  if d.motState c = 0 ∨ d.motState c = 5 then d
  else
    let d := d.setFld (R.MOT_STAT c.val) F.MOT_STAT.CAUSE 5
    (d.count (R.MOT_CNT c.val) F.MOT_CNT.FAILS 1).motFailed c

/-- A channel that leaves OFF or FAILED fails again at once while its die's trip is in force. -/
def Device.motLeave (d : Device) (c : Fin 12) : Device := if d.cool.trip[motDie c] then d.motTrip c else d

/-- A start begins (R387). -/
def Device.motStart (d : Device) (c : Fin 12) : Device :=
  (d.setMot c 2).count (R.MOT_CNT c.val) F.MOT_CNT.STARTS 1

/-- START where the command is above 0 %, otherwise IDLE (R389). -/
def Device.motResume (d : Device) (c : Fin 12) : Device := if d.command c.val = 0 then d.setMot c 1 else d.motStart c

/-- A failed attempt: TRIES and FAILS count, CAUSE is noted, and the fourth makes the channel FAILED (R388, R389). -/
def Device.motFail (d : Device) (c : Fin 12) (cause : Nat) : Device :=
  let a := R.MOT_STAT c.val
  let t := d.fld a F.MOT_STAT.TRIES + 1
  let d := (d.setFld a F.MOT_STAT.TRIES t).setFld a F.MOT_STAT.CAUSE cause
  let d := d.count (R.MOT_CNT c.val) F.MOT_CNT.FAILS 1
  if 4 ≤ t then d.motFailed c else d.setMot c 4

/-- A channel goes OFF: bridge off, TRIES 0 (R389). -/
def Device.motOff (d : Device) (c : Fin 12) : Device :=
  (d.setFld (R.MOT_STAT c.val) F.MOT_STAT.TRIES 0).setMot c 0

/-- What EN and the pair rules ask of a channel: OFF while it is not enabled, IDLE as it leaves OFF (R389, R558). -/
def Device.motEnable (d : Device) (c : Fin 12) : Device :=
  if !d.motEnabled c then (if d.motState c = 0 then d else d.motOff c)
  else if d.motState c = 0 then (d.setMot c 1).motLeave c
  else d

/-! ### Profiles and limits (R385, R386, R614) -/

/-- The values a change of PROFILE loads (R385). -/
def Device.loadProfile (d : Device) (c : Fin 12) (pump : Bool) : Device :=
  let pick (a b : Nat) : Nat := if pump then b else a
  let d := (d.setFld (R.MOT_CFG c.val) F.MOT_CFG.POLES (pick 4 2)).setFld (R.MOT_CFG c.val) F.MOT_CFG.P_MAX (pick 80 100)
  let d := d.setFld (R.MOT_SPEED c.val) F.MOT_SPEED.MIN_RPM (pick 1500 500)
  let d := d.setFld (R.MOT_SPEED c.val) F.MOT_SPEED.MAX_RPM (pick 20000 6000)
  let d := d.setFld (R.MOT_RAMP c.val) F.MOT_RAMP.RAMP (pick 5000 1000)
  d.setFld (R.CL_MAP c.val) F.CL_MAP.FLOOR (pick 20 40)

/-- The sum of P_MAX over the enabled channels, with channel c's MOT_CFG taken as w (R386). -/
def Device.powerSum (d : Device) (c : Fin 12) (w : BitVec 32) : Nat :=
  ((List.finRange 12).map (fun k =>
    let v := if k = c then w else d.reg (R.MOT_CFG k.val)
    F.MOT_CFG.EN.get v * F.MOT_CFG.P_MAX.get v)).sum

/-- A write of MOT_CFG (R385, R386, R614): each field by its own range, POLES also by POLES × MAX_RPM, and what would
raise the sum of P_MAX above 1,050 W refused; a change of PROFILE loads its values. -/
def Device.writeMotCfg (d : Device) (c : Fin 12) (v : BitVec 32) : Device :=
  let a := R.MOT_CFG c.val
  let old := d.reg a
  let turn := F.MOT_CFG.PROFILE.get v != F.MOT_CFG.PROFILE.get old
  let powerOk (w : BitVec 32) : Bool := decide (10 ≤ F.MOT_CFG.P_MAX.get w ∧ F.MOT_CFG.P_MAX.get w ≤ 150)
  let pmax (w : BitVec 32) : BitVec 32 :=
    if turn then F.MOT_CFG.P_MAX.put w (if F.MOT_CFG.PROFILE.get v = 1 then 100 else 80)
    else if powerOk w then w else F.MOT_CFG.P_MAX.put w (F.MOT_CFG.P_MAX.get old)
  let exceeds (w : BitVec 32) : Bool :=
    decide (1050 < d.powerSum c (pmax w)) && decide (d.powerSum c old < d.powerSum c (pmax w))
  let loads (w : BitVec 32) : Bool := turn && !exceeds w
  let deny (w : BitVec 32) (f : Fld) : Bool :=
    if f == F.MOT_CFG.POLES then
      !loads w && (F.MOT_CFG.POLES.get w == 0 ||
        decide (150000 < F.MOT_CFG.POLES.get w * d.fld (R.MOT_SPEED c.val) F.MOT_SPEED.MAX_RPM))
    else if f == F.MOT_CFG.P_MAX then exceeds w || (!turn && !powerOk w)
    else (f == F.MOT_CFG.EN || f == F.MOT_CFG.PROFILE) && exceeds w
  let d := d.writeReg a v deny
  let d := if d.fld a F.MOT_CFG.PROFILE != F.MOT_CFG.PROFILE.get old then
      d.loadProfile c (d.flag a F.MOT_CFG.PROFILE) else d
  (d.motEnable c).refreshCool

/-- What MOT_SPEED's fields are denied for: MIN_RPM not below MAX_RPM, or POLES × MAX_RPM above 150,000 (R385, R614). -/
def Device.denySpeed (d : Device) (c : Nat) (w : BitVec 32) (f : Fld) : Bool :=
  decide (F.MOT_SPEED.MAX_RPM.get w ≤ F.MOT_SPEED.MIN_RPM.get w) ||
    (f == F.MOT_SPEED.MAX_RPM && decide (150000 < d.fld (R.MOT_CFG c) F.MOT_CFG.POLES * F.MOT_SPEED.MAX_RPM.get w))

/-- MOT_CFG_WRITE. -/
def execMotCfgWrite (c : Fin 12) (v : BitVec 32) (s : State) : Host.Outcome State Fault Refusal :=
  .next (s.onDev (fun d => if d.answers (12 + c.val) then d.writeMotCfg c v else d))

/-! ### Starts, locks and failed attempts (R387–R389) -/

/-- HALL_FAULT sets on a channel that uses its Hall inputs (R387). -/
def Device.hallFault (d : Device) (c : Fin 12) (bad : Bool) : Device :=
  if bad && d.flag (R.MOT_CFG c.val) F.MOT_CFG.HALL then d.on (R.MOT_STAT c.val) F.MOT_STAT.HALL_FAULT else d

/-- A winding carries no current: a channel that has never run is ABSENT, one that has run has failed (R389). -/
def Device.motDead (d : Device) (c : Fin 12) : Device :=
  if d.cool.motRan[c] then d.motFail c 4 else (d.setMot c 6).on R.CL_EVENT F.CL_EVENT.CH_ABSENT

/-- MOTOR_ALIGN_DONE: the alignment and winding check of 100 ms ends. -/
def devMotorAlignDone (c : Fin 12) (dead hallBad : Bool) (d : Device) : Device :=
  if d.motState c ≠ 2 then d
  else
    let d := d.hallFault c hallBad
    if dead then d.motDead c else d

def execMotorAlignDone (c : Fin 12) (dead hallBad : Bool) (s : State) : Host.Outcome State Fault Refusal :=
  .next (s.onDev (devMotorAlignDone c dead hallBad))

/-- MOTOR_LOCK: the channel enters RUN; the setpoint its ramp begins from is a free value (assumption log 25). -/
def devMotorLock (c : Fin 12) (hallBad : Bool) (d : Device) : Device :=
  if d.motState c ≠ 2 then d
  else
    let d := d.hallFault c hallBad
    let d := { d with cool := { d.cool with motRan := vset d.cool.motRan c true } }
    let (x, d) := d.fresh
    (d.setFld (R.MOT_CMD c.val) F.MOT_CMD.RPM_CMD x.toNat).setMot c 3

def execMotorLock (c : Fin 12) (hallBad : Bool) (s : State) : Host.Outcome State Fault Refusal :=
  .next (s.onDev (devMotorLock c hallBad))

/-- LOCK_DEADLINE: no lock within 1.5 s. -/
def devLockDeadline (c : Fin 12) (hallBad : Bool) (d : Device) : Device :=
  if d.motState c ≠ 2 then d else (d.hallFault c hallBad).motFail c 1

def execLockDeadline (c : Fin 12) (hallBad : Bool) (s : State) : Host.Outcome State Fault Refusal :=
  .next (s.onDev (devLockDeadline c hallBad))

/-- LOCK_LOSS on a running channel is a stall (R388). -/
def devLockLoss (c : Fin 12) (d : Device) : Device := if d.motState c = 3 then d.motFail c 2 else d

def execLockLoss (c : Fin 12) (s : State) : Host.Outcome State Fault Refusal := .next (s.onDev (devLockLoss c))

/-- LOW_SPEED_STALL: RPM below STALL_PCT of RPM_CMD for 1 s (R388). -/
def devLowSpeedStall (c : Fin 12) (rpm : BitVec 16) (d : Device) : Device :=
  if d.motState c = 3 ∧
      rpm.toNat * 100 < d.fld (R.MOT_RAMP c.val) F.MOT_RAMP.STALL_PCT * d.fld (R.MOT_CMD c.val) F.MOT_CMD.RPM_CMD then
    d.motFail c 2
  else d

def execLowSpeedStall (c : Fin 12) (rpm : BitVec 16) (s : State) : Host.Outcome State Fault Refusal :=
  .next (s.onDev (devLowSpeedStall c rpm))

/-- OVERCURRENT in START or RUN (R388). -/
def devOvercurrent (c : Fin 12) (d : Device) : Device :=
  if d.motState c = 2 ∨ d.motState c = 3 then d.motFail c 3 else d

def execOvercurrent (c : Fin 12) (s : State) : Host.Outcome State Fault Refusal := .next (s.onDev (devOvercurrent c))

/-- OPEN_WINDING on a running channel (R388). -/
def devOpenWinding (c : Fin 12) (d : Device) : Device := if d.motState c = 3 then d.motFail c 4 else d

def execOpenWinding (c : Fin 12) (s : State) : Host.Outcome State Fault Refusal := .next (s.onDev (devOpenWinding c))

/-- RETRY_WAIT_END: 2 s after a failed attempt (R389). -/
def devRetryWaitEnd (c : Fin 12) (d : Device) : Device := if d.motState c = 4 then d.motResume c else d

def execRetryWaitEnd (c : Fin 12) (s : State) : Host.Outcome State Fault Refusal := .next (s.onDev (devRetryWaitEnd c))

/-- TRIES_RESET: 10 s in RUN (R388). -/
def devTriesReset (c : Fin 12) (d : Device) : Device :=
  if d.motState c = 3 then d.setFld (R.MOT_STAT c.val) F.MOT_STAT.TRIES 0 else d

def execTriesReset (c : Fin 12) (s : State) : Host.Outcome State Fault Refusal := .next (s.onDev (devTriesReset c))

/-! ### Drive dies (R388, R390) -/

/-- The channels of a drive die. -/
def dieChannels (t : Fin 2) : List (Fin 12) := (List.finRange 12).filter (fun c => motDie c == t)

/-- The drive die's reading judged against the derating and trip levels, in 0.1 °C. -/
def Device.dieReading (d : Device) (t : Fin 2) (temp : Int) : Device :=
  let derate := decide (1150 ≤ temp ∧ temp < 1250)
  let was := (dieChannels t).any (fun c => d.flag (R.MOT_STAT c.val) F.MOT_STAT.DERATE)
  let d := (dieChannels t).foldl (fun d c => d.setFld (R.MOT_STAT c.val) F.MOT_STAT.DERATE (natOf derate)) d
  let d := if derate && !was then d.on R.CL_EVENT F.CL_EVENT.DERATE else d
  let trip := decide (1250 ≤ temp)
  let d := { d with cool := { d.cool with trip := vset d.cool.trip t trip } }
  if trip then (dieChannels t).foldl Device.motTrip d else d

/-- DRIVE_THERMAL_TRIP: the die's sensor reaches 125 °C. -/
def execDriveThermalTrip (t : Fin 2) (temp : Int) (s : State) : Host.Outcome State Fault Refusal :=
  .next (s.onDev (fun d => if 1250 ≤ temp then d.dieReading t temp else d))

/-- DRIVE_DERATE: the die's sensor is between 115 °C and 125 °C. -/
def execDriveDerate (t : Fin 2) (temp : Int) (s : State) : Host.Outcome State Fault Refusal :=
  .next (s.onDev (fun d => if 1150 ≤ temp ∧ temp < 1250 then d.dieReading t temp else d))

/-! ### Commands in force (R380, R381) -/

/-- The speed target of a direct-drive channel (R381). -/
def Device.motTarget (d : Device) (c : Fin 12) (p : Nat) : Nat :=
  let lo := d.fld (R.MOT_SPEED c.val) F.MOT_SPEED.MIN_RPM
  if p = 0 then 0 else lo + p * (d.fld (R.MOT_SPEED c.val) F.MOT_SPEED.MAX_RPM - lo) / 100

/-- The setpoint moves toward the target by RAMP over 10 ms (R387). -/
def rampStep (cmd target ramp : Nat) : Nat :=
  if cmd ≤ target then min target (cmd + ramp / 100) else max target (cmd - ramp / 100)

/-- One direct-drive channel's command formed, with the moves between IDLE, START and RUN that it draws. -/
def Device.motCommand (d : Device) (c : Fin 12) : Device :=
  let d := d.motEnable c
  let a := R.MOT_CMD c.val
  match d.motState c with
  | 0 => d.setFld a F.MOT_CMD.PCT 0
  | 5 => d.setFld a F.MOT_CMD.PCT 0
  | 6 => d.setFld a F.MOT_CMD.PCT 0
  | st =>
    let p := d.command c.val
    let d := d.setFld a F.MOT_CMD.PCT p
    if p = 0 then (if st = 2 ∨ st = 3 then d.setMot c 1 else d)
    else if st = 1 then d.motStart c
    else if st = 3 then
      d.setFld a F.MOT_CMD.RPM_CMD (rampStep (d.fld a F.MOT_CMD.RPM_CMD) (d.motTarget c p)
        (d.fld (R.MOT_RAMP c.val) F.MOT_RAMP.RAMP))
    else d

/-- One auxiliary channel's duty: a FAILED one keeps its last (R380, R391). -/
def Device.auxCommand (d : Device) (n : Nat) : Device :=
  match d.fld (R.AX_STAT n) F.AX_STAT.STATE with
  | 0 => d.setFld (R.AX_STAT n) F.AX_STAT.DUTY 0
  | 2 => d
  | _ => d.setFld (R.AX_STAT n) F.AX_STAT.DUTY (d.command (16 + n))

/-- CHANNEL_COMMAND: every channel's command, every 10 ms. -/
def devChannelCommand (d : Device) : Device :=
  (List.range 8).foldl Device.auxCommand ((List.finRange 12).foldl Device.motCommand d.refreshCool)

def execChannelCommand (s : State) : Host.Outcome State Fault Refusal := .next (s.onDev devChannelCommand)

/-! ### Auxiliary fans (R391) -/

/-- What AX_CFG.EN asks of a channel: OFF, or RUN as it is enabled. -/
def Device.auxEnable (d : Device) (n : Nat) : Device :=
  let st := d.fld (R.AX_STAT n) F.AX_STAT.STATE
  if !d.auxEnabled n then ((d.setFld (R.AX_STAT n) F.AX_STAT.STATE 0).setFld (R.AX_STAT n) F.AX_STAT.DUTY 0).refreshProven
  else if st = 0 then (d.setFld (R.AX_STAT n) F.AX_STAT.STATE 1).refreshProven
  else d

/-- AUX_TACH_FAIL: above 20 % for 1 s with no tach pulse. -/
def devAuxTachFail (n : Fin 8) (d : Device) : Device :=
  if d.fld (R.AX_STAT n.val) F.AX_STAT.STATE = 1 ∧ 20 < d.fld (R.AX_STAT n.val) F.AX_STAT.DUTY then
    let d := d.setFld (R.AX_STAT n.val) F.AX_STAT.STATE 2
    let d := d.setMaskBit R.CL_FAILED F.CL_FAILED.AUX n.val true
    (d.on R.CL_EVENT F.CL_EVENT.CH_FAILED).refreshCool.refreshProven
  else d

def execAuxTachFail (n : Fin 8) (s : State) : Host.Outcome State Fault Refusal := .next (s.onDev (devAuxTachFail n))

/-! ### Acknowledged repairs (R389, R391, R392, R401) -/

/-- CL_FAIL_ACK of one direct-drive channel. -/
def Device.ackMot (d : Device) (c : Fin 12) : Device :=
  let st := d.motState c
  let failed := d.maskBit R.CL_FAILED F.CL_FAILED.MOT c.val
  if st = 5 ∨ st = 6 ∨ (st = 0 ∧ failed = true) then
    let d := (d.setFld (R.MOT_STAT c.val) F.MOT_STAT.TRIES 0).setMaskBit R.CL_FAILED F.CL_FAILED.MOT c.val false
    let d := d.refreshCool
    if st = 0 then d else (d.motResume c).motLeave c
  else d

/-- CL_FAIL_ACK of one auxiliary channel. -/
def Device.ackAux (d : Device) (n : Nat) : Device :=
  let d := d.setMaskBit R.CL_FAILED F.CL_FAILED.AUX n false
  let d := if d.fld (R.AX_STAT n) F.AX_STAT.STATE = 2 then d.setFld (R.AX_STAT n) F.AX_STAT.STATE 1 else d
  d.refreshCool.refreshProven

/-- A write of CL_FAIL_ACK. -/
def Device.failAck (d : Device) (v : BitVec 32) : Device :=
  let d := (List.finRange 12).foldl (fun d c => if v.getLsbD c.val then d.ackMot c else d) d
  (List.range 8).foldl (fun d n => if v.getLsbD (16 + n) then d.ackAux n else d) d

def execClFailAck (v : BitVec 32) (s : State) : Host.Outcome State Fault Refusal :=
  .next (s.onDev (fun d => if d.answers 10 then d.failAck v else d))

end Sys2Proof.Machine
end

