-- ==== Sys2Proof/Machine/Cooling.lean ====
section
/-! DEFINITION. Cooling's sampling, zones, flow, loop anomalies and leak loops (R370–R383, R394–R400). -/

namespace Sys2Proof.Machine

/-! ### Loop anomalies (R395) -/

/-- A pressure slot's reading is low, faulted or stale, or the slot holds no pressure. -/
def Device.pressureLow (d : Device) (l : Nat) : Bool :=
  let s := d.fld (R.CL_LK_B l) F.CL_LK_B.P_SLOT
  let holds := (s < 48 && d.ainKind s == 2) || d.cool.pressPosts.contains s
  s != 0x7F && (!holds || d.slotBad s || d.fld (R.CL_SENS s) F.CL_SENS.VALUE < d.fld (R.CL_LK_B l) F.CL_LK_B.P_LOW)

/-- The flow input of a loop reads low while one of its pumps runs. -/
def Device.flowLow (d : Device) (l : Nat) : Bool :=
  d.flag (R.CL_LK_B l) F.CL_LK_B.FLOW_EN &&
    (List.finRange 12).any (fun c => d.maskBit (R.CL_LK_A l) F.CL_LK_A.PUMPS c.val && d.motState c == 3) &&
    decide (d.fld (R.CL_FLOW (d.fld (R.CL_LK_B l) F.CL_LK_B.FLOW)) F.CL_FLOW.RATE < d.fld (R.CL_LK_C l) F.CL_LK_C.F_LOW)

/-- ANOMALY falls on every loop on which neither condition holds. -/
def Device.refreshAnomaly (d : Device) : Device :=
  (List.range 8).foldl (fun d l => if d.pressureLow l || d.flowLow l then d else d.off (R.CL_LK_STAT l) F.CL_LK_STAT.ANOMALY) d

/-! ### Sampling (R370–R374, R379) -/

/-- One analog input sampled at uv microvolts. -/
def Device.sampleAin (d : Device) (i uv : Nat) : Device :=
  let p1 := d.fld (R.CL_AIN_A i) F.CL_AIN_A.P1
  let p2 := d.fld (R.CL_AIN_B i) F.CL_AIN_B.P2
  match d.ainKind i with
  | 1 => d.putAin i true (ntcRead p1 p2 uv)
  | 2 => d.putAin i false (linearRead p1 p2 (d.fld (R.CL_AIN_B i) F.CL_AIN_B.P3) uv)
  | _ => d.putSlot i (d.fld (R.CL_SENS i) F.CL_SENS.VALUE) false false false false

/-- SAFE_HOT sets where an NTC of AIN0 to AIN7 reads above 70.0 °C or faulted, or none is fitted (R379). -/
def Device.safeHotSet (d : Device) : Device :=
  if d.safeNtcs.any (fun i => d.slotFaulted i || decide (700 < signed16 (d.fld (R.CL_SENS i) F.CL_SENS.VALUE))) then
    d.on R.CL_MODE F.CL_MODE.SAFE_HOT
  else d

/-- SENSOR_SAMPLE: AIN0 to AIN47 in microvolts, and the logic, drive and input dies in 0.1 °C. -/
def devSensorSample (ain : List Nat) (dies : List Int) (d : Device) : Device :=
  let d := ain.zipIdx.foldl (fun d p => if p.2 < 48 then d.sampleAin p.2 p.1 else d) d
  let d := dies.zipIdx.foldl (fun d p => if p.2 < 4 then d.putSlot (56 + p.2) (word16 p.1) false false false true else d) d
  let d := match dies with
    | [_, t0, t1, _] => (d.dieReading 0 t0).dieReading 1 t1
    | _ => d
  d.safeHotSet.refreshBad.refreshAnomaly.refreshCool

def execSensorSample (ain : List Nat) (dies : List Int) (s : State) : Host.Outcome State Fault Refusal :=
  .next (s.onDev (devSensorSample ain dies))

/-- SAFE_HOT_CLEAR: all NTCs of AIN0 to AIN7 at or below 65.0 °C for 10 s (R379). -/
def devSafeHotClear (d : Device) : Device :=
  if !d.safeNtcs.isEmpty && d.safeNtcs.all (fun i =>
      !d.slotFaulted i && decide (signed16 (d.fld (R.CL_SENS i) F.CL_SENS.VALUE) ≤ 650)) then
    d.off R.CL_MODE F.CL_MODE.SAFE_HOT
  else d

def execSafeHotClear (s : State) : Host.Outcome State Fault Refusal := .next (s.onDev devSafeHotClear)

/-- SLOT_STALE: 2 s without an update (R374). -/
def execSlotStale (slot : Fin 112) (s : State) : Host.Outcome State Fault Refusal :=
  .next (s.onDev (fun d => (d.on (R.CL_SENS slot.val) F.CL_SENS.STALE).refreshBad))

/-- HEALTH_SLOT_JOIN: 30 s after PWR left OFF (R373). -/
def devHealthSlotJoin (b : Bay) (d : Device) : Device :=
  if d.pwr (seqOf b) = 0 ∨ d.pwr (seqOf b) = 4 then d
  else { d with cool := { d.cool with healthJoin := vset d.cool.healthJoin b true } }.refreshBad

def execHealthSlotJoin (b : Bay) (s : State) : Host.Outcome State Fault Refusal := .next (s.onDev (devHealthSlotJoin b))

/-- The slot of a bay's HEALTH record: the highest good reading rounded up to 0.1 °C, RANGE with a failed reading, and 0
with no good one (R373). Readings are 16-bit words in 0.0625 °C. -/
def Device.healthSlot (d : Device) (b : Bay) (temps : List Nat) : Device :=
  let good := (temps.filter (· != 0x8000)).map signed16
  let v : Int := match good.max? with
    | none => 0
    | some t => (10 * t + 15) / 16
  let d := d.putSlot (48 + b.val) (word16 v) false false (temps.contains 0x8000) true
  let d := if d.pwr (seqOf b) = 0 ∨ d.pwr (seqOf b) = 4 then d
    else { d with cool := { d.cool with healthJoin := vset d.cool.healthJoin b true } }
  d.refreshBad

/-- A bus engine's post to slot 64 + 4m + j (R370, R374). -/
def Device.busPost (d : Device) (slot value : Nat) (pressure fault : Bool) : Device :=
  let d := { d with cool := { d.cool with
    pressPosts := if pressure then (if d.cool.pressPosts.contains slot then d.cool.pressPosts else d.cool.pressPosts ++ [slot])
      else d.cool.pressPosts.filter (· != slot) } }
  (d.putSlot slot value false false fault (!pressure)).refreshBad.refreshAnomaly

/-! ### Zones (R375, R376, R383) -/

/-- One zone's temperature formed: EMPTY reads +150.0 °C without FAULT and takes part in no throttle. -/
def Device.zoneEval (d : Device) (z : Nat) : Device :=
  let a := R.CL_ZSTAT z
  match d.zoneSlots z with
  | [] =>
    let d := (d.setFld a F.CL_ZSTAT.TEMP 1500).setFld a F.CL_ZSTAT.FAULT 0
    (d.on a F.CL_ZSTAT.EMPTY).off a F.CL_ZSTAT.HOT
  | s :: l =>
    let t := (l.map d.slotTemp).foldl max (d.slotTemp s)
    let fault := (s :: l).any d.slotBad
    let d := (d.setFld a F.CL_ZSTAT.TEMP (word16 t)).setFld a F.CL_ZSTAT.FAULT (natOf fault)
    d.off a F.CL_ZSTAT.EMPTY

/-- ZONE_EVAL: every zone, every 10 ms. -/
def devZoneEval (d : Device) : Device := ((List.range 16).foldl Device.zoneEval d).refreshBad.refreshThrs

def execZoneEval (s : State) : Host.Outcome State Fault Refusal := .next (s.onDev devZoneEval)

/-- A zone's temperature. -/
def Device.zoneTemp (d : Device) (z : Nat) : Int := signed16 (d.fld (R.CL_ZSTAT z) F.CL_ZSTAT.TEMP)

/-- ZONE_HOT: at or above T_HOT for 1 s (R383). -/
def devZoneHot (z : Fin 16) (d : Device) : Device :=
  let a := R.CL_ZSTAT z.val
  if d.flag a F.CL_ZSTAT.EMPTY || d.flag a F.CL_ZSTAT.HOT ||
      decide (d.zoneTemp z.val < d.fld (R.CL_ZCFG z.val) F.CL_ZCFG.T_HOT) then d
  else ((d.on a F.CL_ZSTAT.HOT).on R.CL_EVENT F.CL_EVENT.THERMAL).refreshThrs

def execZoneHot (z : Fin 16) (s : State) : Host.Outcome State Fault Refusal := .next (s.onDev (devZoneHot z))

/-- ZONE_COOL: below T_HOT − 5.0 °C for 10 s (R383). -/
def devZoneCool (z : Fin 16) (d : Device) : Device :=
  if decide (d.zoneTemp z.val < (d.fld (R.CL_ZCFG z.val) F.CL_ZCFG.T_HOT : Int) - 50) then
    (d.off (R.CL_ZSTAT z.val) F.CL_ZSTAT.HOT).refreshThrs
  else d

def execZoneCool (z : Fin 16) (s : State) : Host.Outcome State Fault Refusal := .next (s.onDev (devZoneCool z))

/-- The zones a cooling engine owns (R376). -/
def ownZones (i : Fin 2) : List Nat := (List.range 8).map (fun z => 8 * i.val + z)

/-- While a cooling engine is not RUNNING, its zones have demand 100 (R376); RUNNING lets the modes of R378 apply. -/
def Device.coolSync (d : Device) (i : Fin 2) : Device :=
  if d.engState (.cool i) = 2 then { d with cool := { d.cool with coolRan := true } }.refreshCool
  else (ownZones i).foldl (fun d z => d.setFld (R.CL_ZSTAT z) F.CL_ZSTAT.DEMAND 100) d

/-- The engine-lost action of a cooling engine (R377). -/
def Device.coolLost (d : Device) (i : Fin 2) : Device := (d.coolSync i).on R.CL_EVENT F.CL_EVENT.ENGINE_LOST

/-! ### Flow (R394) -/

/-- FLOW_RATE: the pulses of the last second on one input. -/
def devFlowRate (f : Fin 4) (pulses : Nat) (d : Device) : Device :=
  let k := d.fld (R.CL_FLOW_CFG f.val) F.CL_FLOW_CFG.K
  (d.setFld (R.CL_FLOW f.val) F.CL_FLOW.RATE (if k = 0 then 0 else min (pulses * 6000 / k) 65535)).refreshAnomaly

def execFlowRate (f : Fin 4) (pulses : Nat) (s : State) : Host.Outcome State Fault Refusal :=
  .next (s.onDev (devFlowRate f pulses))

/-! ### Leak loops (R396–R400) -/

/-- The state of a band of loop resistance (R396): 0 DRY, 1 WET, 2 OPEN, 3 SHORT, 4 DRIFT. -/
def leakBand (ohms : Nat) : Nat :=
  if ohms < 100 then 3 else if ohms < 5000 then 1 else if ohms < 8000 then 4 else if ohms ≤ 12000 then 0
  else if ohms ≤ 20000 then 4 else 2

/-- STATE of a loop. -/
def Device.loopState (d : Device) (l : Nat) : Nat := d.fld (R.CL_LK_STAT l) F.CL_LK_STAT.STATE

/-- A WET response comes into force (R397). -/
def Device.loopWet (d : Device) (l : Nat) : Device :=
  ((d.on (R.CL_LK_STAT l) F.CL_LK_STAT.LATCHED).on R.CL_EVENT F.CL_EVENT.LEAK_WET).refreshCool

/-- A sensor fault and an anomaly at the same moment latch the WET response by inference (R397). -/
def Device.loopInfer (d : Device) (l : Nat) : Device :=
  if d.loopFault l && d.flag (R.CL_LK_STAT l) F.CL_LK_STAT.ANOMALY && !d.flag (R.CL_LK_STAT l) F.CL_LK_STAT.INFERRED then
    (d.on (R.CL_LK_STAT l) F.CL_LK_STAT.INFERRED).loopWet l
  else d

/-- A loop takes a new state from its samples (R396, R397, R400). -/
def Device.loopTakes (d : Device) (l st : Nat) : Device :=
  let d := d.setFld (R.CL_LK_STAT l) F.CL_LK_STAT.STATE st
  let d := if 2 ≤ st then d.on R.CL_EVENT F.CL_EVENT.LEAK_FAULT else d
  let d := if st = 1 then d.loopWet l else d.refreshCool
  d.loopInfer l

/-- LEAK_SAMPLE: one measurement of one loop. -/
def devLeakSample (l : Fin 8) (ohms : Nat) (d : Device) : Device :=
  if !d.flag (R.CL_LK_A l.val) F.CL_LK_A.EN then d
  else
    let d := d.setFld (R.CL_LK_STAT l.val) F.CL_LK_STAT.OHMS (min (ohms / 10) 0xFFFF)
    let st := leakBand ohms
    let l5 := (st :: d.cool.bands[l]).take 5
    let d := { d with cool := { d.cool with bands := vset d.cool.bands l l5 } }
    if l5 = [st, st, st, st, st] ∧ d.loopState l.val ≠ st then d.loopTakes l.val st else d.loopInfer l.val

def execLeakSample (l : Fin 8) (ohms : Nat) (s : State) : Host.Outcome State Fault Refusal :=
  .next (s.onDev (devLeakSample l ohms))

/-- What CL_LKl_A.EN asks of a loop: DISABLED while 0, PENDING as it is enabled again (R396). -/
def Device.loopEnable (d : Device) (l : Fin 8) : Device :=
  let en := d.flag (R.CL_LK_A l.val) F.CL_LK_A.EN
  let st := d.loopState l.val
  let clear (d : Device) : Device := { d with cool := { d.cool with bands := vset d.cool.bands l [] } }
  let d := if !en then clear (d.setFld (R.CL_LK_STAT l.val) F.CL_LK_STAT.STATE 6)
    else if st = 6 then clear (d.setFld (R.CL_LK_STAT l.val) F.CL_LK_STAT.STATE 5)
    else d
  (d.refreshCool).loopInfer l.val

/-- LOOP_ANOMALY: a condition of R395 has held for 1 s. -/
def devLoopAnomaly (l : Fin 8) (d : Device) : Device :=
  if !(d.pressureLow l.val || d.flowLow l.val) then d
  else
    let d := d.on (R.CL_LK_STAT l.val) F.CL_LK_STAT.ANOMALY
    let d := if d.loopState l.val = 0 then d.on R.CL_EVENT F.CL_EVENT.LOOP_ANOMALY else d
    d.loopInfer l.val

def execLoopAnomaly (l : Fin 8) (s : State) : Host.Outcome State Fault Refusal := .next (s.onDev (devLoopAnomaly l))

/-- A loop is in the shut condition (R398). -/
def Device.loopShut (d : Device) (l : Nat) : Bool :=
  d.loopState l == 1 || (d.loopFault l && d.flag (R.CL_LK_STAT l) F.CL_LK_STAT.ANOMALY)

/-- T_SHUT_EXPIRY: the shut condition has lasted T_SHUT without a break; a STOP goes to SEQ8 (R347, R398). -/
def devTShutExpiry (l : Fin 8) (d : Device) : Device :=
  if d.loopShut l.val then (d.on R.CL_EVENT F.CL_EVENT.LEAK_SHUTDOWN).seqStop 8 else d

def execTShutExpiry (l : Fin 8) (s : State) : Host.Outcome State Fault Refusal := .next (s.onDev (devTShutExpiry l))

/-- CL_LK_ACK of one loop (R399). -/
def Device.loopAck (d : Device) (l : Nat) : Device :=
  let a := R.CL_LK_STAT l
  if d.loopState l = 0 ∧ d.flag a F.CL_LK_STAT.ANOMALY = false then
    ((d.off a F.CL_LK_STAT.LATCHED).off a F.CL_LK_STAT.INFERRED).refreshCool
  else d.on a F.CL_LK_STAT.ACK_REJ

/-- A write of CL_LK_ACK. -/
def Device.leakAck (d : Device) (v : BitVec 32) : Device :=
  (List.range 8).foldl (fun d l => if v.getLsbD l then d.loopAck l else d) d

def execClLkAck (v : BitVec 32) (s : State) : Host.Outcome State Fault Refusal :=
  .next (s.onDev (fun d => if d.answers 25 then d.leakAck v else d))

end Sys2Proof.Machine
end

