-- ==== Sys2Proof/Machine/Bus.lean ====
section
/-! DEFINITION. Two-wire buses (R406–R433): the controller's transfers, the target, Host Notify and alerts, stuck buses
and segment cycles. -/

namespace Sys2Proof.Machine

/-! ### The segment's power (R426–R428) -/

/-- UNPOWERED: SEG_EN is 1 and the rail's enable or power-good is 0. -/
def Device.unpowered (d : Device) (m : Fin 12) : Bool :=
  let ch := d.fld (R.BUS_CFG m.val) F.BUS_CFG.SEG_CH
  d.flag (R.BUS_CFG m.val) F.BUS_CFG.SEG_EN && !(bit (d.railEn 8) ch && bit (d.railPg 8) ch)

/-- STUCK. -/
def Device.busStuck (d : Device) (m : Fin 12) : Bool := d.flag (R.BUS_STAT m.val) F.BUS_STAT.STUCK

/-- A segment power cycle is requested (R427); absorbed while the bus's own request is pending. -/
def Device.segRequest (d : Device) (m : Fin 12) : Device :=
  if d.flag (R.BUS_STAT m.val) F.BUS_STAT.SEG_PENDING then d
  else
    let ch := d.fld (R.BUS_CFG m.val) F.BUS_CFG.SEG_CH
    let d := d.on (R.BUS_STAT m.val) F.BUS_STAT.SEG_PENDING
    let d := d.count (R.BUS_STAT m.val) F.BUS_STAT.SEG_CYCLES 1
    let d := d.count (R.BUS_STUCK_CNT m.val) F.BUS_STUCK_CNT.SEG_CYCLES 1
    let d := { d with tray := { d.tray with segReq := d.tray.segReq ||| 2 ^ ch } }
    d.setBus m { d.bus m with segCh := some ch, judging := false }

/-- SQ_SEG_DONE (R348, R427, R428): the requests served end, and every bus that made one judges its outcome next; one
that is not STUCK has no episode left. -/
def Device.segDone (d : Device) (mask : Nat) : Device :=
  let d := { d with tray := { d.tray with segReq := d.tray.segReq - (d.tray.segReq &&& mask) } }
  busIds.foldl (fun d m =>
    match (d.bus m).segCh with
    | none => d
    | some ch =>
      if !bit mask ch then d
      else
        let d := d.off (R.BUS_STAT m.val) F.BUS_STAT.SEG_PENDING
        let d := if d.busStuck m then d else d.setFld (R.BUS_STAT m.val) F.BUS_STAT.SEG_CYCLES 0
        d.setBus m { d.bus m with segCh := none, judging := d.busStuck m }) d

/-- BP_SEG_REQ (R427): ignored while SEG_EN is 0. -/
def Device.progSegReq (d : Device) (m : Fin 12) (v : BitVec 32) : Device :=
  if v.getLsbD 0 && d.flag (R.BUS_CFG m.val) F.BUS_CFG.SEG_EN then d.segRequest m else d

/-! ### Transfers (R407–R415) -/

/-- The fields of BP_XFER_A and BP_XFER_B (R414). -/
def BusCtx.addr (c : BusCtx) : Nat := bitsOf c.curA.toNat 0 7
def BusCtx.proto (c : BusCtx) : Nat := bitsOf c.curA.toNat 8 4
def BusCtx.pec (c : BusCtx) : Bool := bit c.curA.toNat 12
def BusCtx.cmd (c : BusCtx) : Nat := bitsOf c.curA.toNat 16 8
def BusCtx.wlen (c : BusCtx) : Nat := bitsOf c.curB.toNat 0 9
def BusCtx.rlen (c : BusCtx) : Nat := bitsOf c.curB.toNat 16 9

/-- BUSY. -/
def BusCtx.busy (c : BusCtx) : Bool := c.phase != .idle

/-- The protocol starts with a command code (R408). -/
def protoCmd (p : Nat) : Bool := p == 2 || (4 ≤ p && p ≤ 0xB)

/-- The protocol writes WLEN bytes as a counted block. -/
def protoBlockW (p : Nat) : Bool := p == 9 || p == 0xB

/-- The protocol reads a counted block. -/
def protoBlockR (p : Nat) : Bool := p == 0xA || p == 0xB

/-- The data bytes the protocol writes. -/
def BusCtx.writeLen (c : BusCtx) : Nat :=
  match c.proto with
  | 0x4 => 1
  | 0x6 => 2
  | 0x8 => 2
  | 0x9 => c.wlen
  | 0xB => c.wlen
  | 0xC => c.wlen
  | 0xE => c.wlen
  | _ => 0

/-- The bytes a protocol without a count reads. -/
def BusCtx.readLen (c : BusCtx) : Nat :=
  match c.proto with
  | 0x3 => 1
  | 0x5 => 1
  | 0x7 => 2
  | 0x8 => 2
  | 0xD => c.rlen
  | 0xE => c.rlen
  | _ => 0

/-- The protocol has a read phase. -/
def protoReads (p : Nat) : Bool := p == 3 || p == 5 || p == 7 || p == 8 || p == 0xA || p == 0xB || p == 0xD || p == 0xE

/-- The protocol writes something and then repeats START. -/
def protoRestart (p : Nat) : Bool := p == 5 || p == 7 || p == 8 || p == 0xA || p == 0xB || p == 0xE

/-- The bytes after the address in the write phase: command, count and data. -/
def BusCtx.sent (c : BusCtx) : List (BitVec 8) :=
  (if protoCmd c.proto then natBytes 1 c.cmd else []) ++
  (if protoBlockW c.proto then natBytes 1 c.wlen else []) ++ memBytes c.buf 0 c.writeLen

/-- The first address byte. -/
def BusCtx.addrByte (c : BusCtx) : BitVec 8 :=
  BitVec.ofNat 8 (2 * c.addr + natOf (c.proto == 1 || c.proto == 3 || c.proto == 0xD))

/-- The address byte after a repeated START. -/
def BusCtx.restartByte (c : BusCtx) : List (BitVec 8) :=
  if protoRestart c.proto then natBytes 1 (2 * c.addr + 1) else []

/-- Arguments the controller refuses (R413): a reserved protocol, a length out of range, PEC with a quick command, or an
address the device itself answers. -/
def BusCtx.badArg (c : BusCtx) : Bool :=
  c.proto == 0xF ||
  (protoBlockW c.proto && !(1 ≤ c.wlen && c.wlen ≤ 255)) ||
  ((c.proto == 0xC || c.proto == 0xE) && !(1 ≤ c.wlen && c.wlen ≤ 256)) ||
  ((c.proto == 0xD || c.proto == 0xE) && !(1 ≤ c.rlen && c.rlen ≤ 256)) ||
  (c.pec && c.proto ≤ 1) || c.addr == 0x08 ||
  (F.BUS_CFG.TGT_EN.get c.cfgNow == 1 && c.addr == F.BUS_CFG.TGT_ADDR.get c.cfgNow)

/-- A transfer ends with a result (R415). -/
def Device.busEnd (d : Device) (m : Fin 12) (result : Nat) (free : Bool) : Device :=
  let d := d.count (R.BUS_XFER_CNT m.val) F.BUS_XFER_CNT.COUNT 1
  d.setBus m { d.bus m with phase := .idle, result := result, free := free, cfgNow := d.reg (R.BUS_CFG m.val) }

/-- A transfer that may begin: at once on a free bus, else once it is free (R407). -/
def Device.busBegin (d : Device) (m : Fin 12) : Device :=
  let c := d.bus m
  d.setBus m { c with phase := if c.free then .running else .waitFree }

/-- BP_GO (R413–R415, R424, R426, R433): ignored with GO_LOST while BUSY. -/
def Device.busGo (d : Device) (m : Fin 12) : Device :=
  let c := d.bus m
  if c.busy then d.setBus m { c with goLost := true }
  else
    let c := { c with curA := c.xferA, curB := c.xferB, arbLosses := 0, addrRetries := 0, rcount := 0, wire := [] }
    let d := d.setBus m c
    if d.unpowered m then d.busEnd m 7 c.free
    else if d.busStuck m then d.busEnd m 6 c.free
    else if c.badArg || !d.flag (R.BUS_CFG m.val) F.BUS_CFG.CTRL_EN then d.busEnd m 9 c.free
    else d.busBegin m

/-- BUS_FREE (R407). -/
def devBusFree (m : Fin 12) (d : Device) : Device :=
  if d.busStuck m then d
  else
    let c := { d.bus m with free := true }
    let c := if c.phase = .running then c else { c with cfgNow := d.reg (R.BUS_CFG m.val) }
    d.setBus m (if c.phase = .waitFree && !d.unpowered m then { c with phase := .running } else c)

def execBusFree (m : Fin 12) (s : State) : Host.Outcome State Fault Refusal := .next (s.onDev (devBusFree m))

/-- Bytes of the read phase, placed in BP_BUF from byte 0. -/
def BusCtx.place (c : BusCtx) (bs : List (BitVec 8)) : BusCtx := { c with buf := memPuts c.buf 0 bs, rcount := bs.length }

/-- The read phase: the count byte of a block, the data bytes, and whether a PEC byte follows. Beyond what another part
drives, a byte reads 0xFF. A count of 0 ends the read at the count byte (R408). -/
def BusCtx.readPhase (c : BusCtx) (data : List (BitVec 8)) : List (BitVec 8) × List (BitVec 8) × Bool :=
  let at_ := fun n => data.getD n 0xFF#8
  if protoBlockR c.proto then
    let n := (at_ 0).toNat
    ([at_ 0], (List.range n).map (fun i => at_ (i + 1)), n != 0)
  else ([], (List.range c.readLen).map at_, true)

/-- One attempt at the transaction as the other parts answer it (R408–R412). -/
def Device.busRun (d : Device) (m : Fin 12) (r : BusRun) : Device :=
  let d := if r.stretches = 0 then d else
    (d.count (R.BUS_STRETCH_CNT m.val) F.BUS_STRETCH_CNT.COUNT r.stretches).on (R.BUS_EVENT m.val)
      F.BUS_EVENT.MIDBYTE_STRETCH
  let c := d.bus m
  if r.lost then
    let d := (d.count (R.BUS_ARB_CNT m.val) F.BUS_ARB_CNT.COUNT 1).on (R.BUS_EVENT m.val) F.BUS_EVENT.ARB_LOST
    let d := d.setBus m { c with arbLosses := c.arbLosses + 1 }
    if c.arbLosses < 8 then d.setBus m { d.bus m with phase := .backoff, free := false } else d.busEnd m 3 false
  else if !r.addrAck then
    let d := d.count (R.BUS_NACK_CNT m.val) F.BUS_NACK_CNT.COUNT 1
    let d := d.setBus m { c with wire := [c.addrByte] }
    if c.addrRetries < 3 then d.setBus m { d.bus m with phase := .addrRetry, addrRetries := c.addrRetries + 1 }
    else d.busEnd m 1 true
  else if !r.dataAck && c.sent ≠ [] then
    (d.setBus m { c with wire := c.addrByte :: c.sent }).busEnd m 2 true
  else if protoRestart c.proto && !r.restartAck then
    ((d.setBus m { c with wire := c.addrByte :: c.sent ++ c.restartByte }).count (R.BUS_NACK_CNT m.val)
      F.BUS_NACK_CNT.COUNT 1).busEnd m 1 true
  else if protoReads c.proto then
    let p := c.readPhase r.data
    let d := d.setBus m { c.place p.2.1 with wire := c.addrByte :: c.sent ++ c.restartByte }
    if c.pec && p.2.2 && pec (c.addrByte :: c.sent ++ c.restartByte ++ p.1 ++ p.2.1) != r.pec then
      ((d.count (R.BUS_PEC_CNT m.val) F.BUS_PEC_CNT.COUNT 1).on (R.BUS_EVENT m.val) F.BUS_EVENT.PEC_ERR).busEnd m 4 true
    else d.busEnd m 0 true
  else
    let bs := c.addrByte :: c.sent
    (d.setBus m { c with wire := if c.pec then bs ++ [pec bs] else bs }).busEnd m 0 true

/-- A transaction of one protocol runs: only while the transfer in progress is of that protocol and on the bus. -/
def devBusProto (m : Fin 12) (p : Nat) (r : BusRun) (d : Device) : Device :=
  let c := d.bus m
  if c.phase ≠ .running ∨ c.proto ≠ p then d
  else if d.unpowered m then d.busEnd m 7 false
  else d.busRun m r

def execQuickW (m : Fin 12) (r : BusRun) (s : State) : Host.Outcome State Fault Refusal :=
  .next (s.onDev (devBusProto m 0x0 r))

def execQuickR (m : Fin 12) (r : BusRun) (s : State) : Host.Outcome State Fault Refusal :=
  .next (s.onDev (devBusProto m 0x1 r))

def execSendByte (m : Fin 12) (r : BusRun) (s : State) : Host.Outcome State Fault Refusal :=
  .next (s.onDev (devBusProto m 0x2 r))

def execRecvByte (m : Fin 12) (r : BusRun) (s : State) : Host.Outcome State Fault Refusal :=
  .next (s.onDev (devBusProto m 0x3 r))

def execWriteByte (m : Fin 12) (r : BusRun) (s : State) : Host.Outcome State Fault Refusal :=
  .next (s.onDev (devBusProto m 0x4 r))

def execReadByte (m : Fin 12) (r : BusRun) (s : State) : Host.Outcome State Fault Refusal :=
  .next (s.onDev (devBusProto m 0x5 r))

def execWriteWord (m : Fin 12) (r : BusRun) (s : State) : Host.Outcome State Fault Refusal :=
  .next (s.onDev (devBusProto m 0x6 r))

def execReadWord (m : Fin 12) (r : BusRun) (s : State) : Host.Outcome State Fault Refusal :=
  .next (s.onDev (devBusProto m 0x7 r))

def execProcCall (m : Fin 12) (r : BusRun) (s : State) : Host.Outcome State Fault Refusal :=
  .next (s.onDev (devBusProto m 0x8 r))

def execBlockWrite (m : Fin 12) (r : BusRun) (s : State) : Host.Outcome State Fault Refusal :=
  .next (s.onDev (devBusProto m 0x9 r))

def execBlockRead (m : Fin 12) (r : BusRun) (s : State) : Host.Outcome State Fault Refusal :=
  .next (s.onDev (devBusProto m 0xA r))

def execBlockProcCall (m : Fin 12) (r : BusRun) (s : State) : Host.Outcome State Fault Refusal :=
  .next (s.onDev (devBusProto m 0xB r))

def execI2cWrite (m : Fin 12) (r : BusRun) (s : State) : Host.Outcome State Fault Refusal :=
  .next (s.onDev (devBusProto m 0xC r))

def execI2cRead (m : Fin 12) (r : BusRun) (s : State) : Host.Outcome State Fault Refusal :=
  .next (s.onDev (devBusProto m 0xD r))

def execI2cWriteRead (m : Fin 12) (r : BusRun) (s : State) : Host.Outcome State Fault Refusal :=
  .next (s.onDev (devBusProto m 0xE r))

/-- ADDR_NACK_RETRY (R410): 1 ms after the NACK. -/
def devAddrNackRetry (m : Fin 12) (d : Device) : Device :=
  if (d.bus m).phase = .addrRetry then d.busBegin m else d

def execAddrNackRetry (m : Fin 12) (s : State) : Host.Outcome State Fault Refusal := .next (s.onDev (devAddrNackRetry m))

/-- ARB_BACKOFF_END (R411): the back-off runs from a free bus. -/
def devArbBackoffEnd (m : Fin 12) (d : Device) : Device :=
  if (d.bus m).phase = .backoff ∧ (d.bus m).free then d.busBegin m else d

def execArbBackoffEnd (m : Fin 12) (s : State) : Host.Outcome State Fault Refusal := .next (s.onDev (devArbBackoffEnd m))

/-- CLK_TIMEOUT (R412). -/
def devClkTimeout (m : Fin 12) (d : Device) : Device :=
  if (d.bus m).phase ≠ .running then d
  else (d.on (R.BUS_EVENT m.val) F.BUS_EVENT.CLK_TIMEOUT).busEnd m 5 false

def execClkTimeout (m : Fin 12) (s : State) : Host.Outcome State Fault Refusal := .next (s.onDev (devClkTimeout m))

/-! ### The device as a target (R416–R422) -/

/-- The exact words of a list of numbers, low byte first. -/
def words16 (l : List Nat) : List (BitVec 8) := l.flatMap (natBytes 2)

/-- The value of a command code of the target, its count byte included (R416); the speeds of the motors are measured as
they are captured (assumption log 27). -/
def Device.tgtValue (d : Device) (m : Fin 12) (code : Nat) : Option (List (BitVec 8)) × Device :=
  match code with
  | 0x00 => (some (natBytes 1 8 ++ [0x08#8, 0x16#8, 0xA1#8, 0x01#8] ++ natBytes 1 (d.fld R.IO_STRAP F.IO_STRAP.PAIR_ID) ++
      natBytes 1 m.val ++ [0#8, 0#8]), d)
  | 0x01 => (some (natBytes 2 d.statusWord), d)
  | 0x02 => (some (natBytes 1 d.trayPwr), d)
  | 0x03 => (some (natBytes 1 8 ++ bays.flatMap (fun b => natBytes 1 (d.pwr (seqOf b)))), d)
  | 0x04 => (some (natBytes 2 (d.fld R.TR_VIN F.TR_VIN.VIN)), d)
  | 0x05 => (some (natBytes 2 (d.fld R.PC_STAT F.PC_STAT.P_NOW)), d)
  | 0x06 => (some (natBytes 2 (d.fld R.PC_EFF F.PC_EFF.CAP_EFF)), d)
  | 0x07 => (some (natBytes 1 8 ++ (List.range 8).flatMap (fun l => natBytes 1 (d.reg (R.CL_LK_STAT l)).toNat)), d)
  | 0x08 => (some (natBytes 1 32 ++ words16 ((List.range 16).map (fun z => d.fld (R.CL_ZSTAT z) F.CL_ZSTAT.TEMP))), d)
  | 0x09 =>
    let p := (List.range 12).foldl (fun p _ => let q := p.2.fresh; (p.1 ++ [q.1.toNat % 65536], q.2)) (([] : List Nat), d)
    (some (natBytes 1 24 ++ words16 p.1), p.2)
  | _ => (none, d)

/-- TGT_EN and TGT_ADDR as they apply to the bus. -/
def BusCtx.tgtEn (c : BusCtx) : Bool := F.BUS_CFG.TGT_EN.get c.cfgNow == 1
def BusCtx.tgtAddr (c : BusCtx) : Nat := F.BUS_CFG.TGT_ADDR.get c.cfgNow

/-- The bytes a read takes: the value, the PEC over the transaction, then 0xFF (R418). -/
def tgtRead (head value : List (BitVec 8)) (n : Nat) : List (BitVec 8) :=
  (List.range n).map (fun i => (value ++ [pec (head ++ value)]).getD i 0xFF#8)

/-- TGT_TRANSACTION (R416–R418, R420): a transaction addressed to TGT_ADDR. -/
def devTgtTransaction (m : Fin 12) (t : TgtRun) (d : Device) : Device :=
  let c := d.bus m
  if !c.tgtEn || d.busStuck m then d
  else if d.flag (R.BUS_STAT m.val) F.BUS_STAT.ASLEEP then d.off (R.BUS_STAT m.val) F.BUS_STAT.ASLEEP
  else
    let d := d.count (R.BUS_TGT_CNT m.val) F.BUS_TGT_CNT.COUNT 1
    let w := BitVec.ofNat 8 (2 * c.tgtAddr)
    let r := BitVec.ofNat 8 (2 * c.tgtAddr + 1)
    match t.code with
    | some code =>
      match d.tgtValue m code with
      | (none, d) => d.setBus m { c with tgtOut := [] }
      | (some v, d) =>
        if t.wlen ≠ 0 then d.setBus m { c with tgtOut := [] }
        else
          let c := { c with tgtSel := some code }
          match t.rlen with
          | none => d.setBus m { c with tgtOut := [] }
          | some n => d.setBus m { c with tgtOut := tgtRead [w, BitVec.ofNat 8 code, r] v n }
    | none =>
      match t.rlen with
      | none => d.setBus m { c with tgtOut := [] }
      | some n =>
        match d.tgtValue m (c.tgtSel.getD 0x01) with
        | (none, d) => d
        | (some v, d) => d.setBus m { c with tgtOut := tgtRead [r] v n }

def execTgtTransaction (m : Fin 12) (t : TgtRun) (s : State) : Host.Outcome State Fault Refusal :=
  .next (s.onDev (devTgtTransaction m t))

/-- TGT_SLEEP (R420): T_SLEEP of 0 never sleeps. -/
def devTgtSleep (m : Fin 12) (d : Device) : Device :=
  if d.fld (R.BUS_TGT m.val) F.BUS_TGT.T_SLEEP = 0 then d else d.on (R.BUS_STAT m.val) F.BUS_STAT.ASLEEP

def execTgtSleep (m : Fin 12) (s : State) : Host.Outcome State Fault Refusal := .next (s.onDev (devTgtSleep m))

/-- TGT_SCL_TIMEOUT (R419). -/
def devTgtSclTimeout (m : Fin 12) (d : Device) : Device := d.on (R.BUS_EVENT m.val) F.BUS_EVENT.TGT_TIMEOUT

def execTgtSclTimeout (m : Fin 12) (s : State) : Host.Outcome State Fault Refusal := .next (s.onDev (devTgtSclTimeout m))

/-- HOST_NOTIFY (R421): NACKed with HN_DROP while the queue is full. -/
def devHostNotify (m : Fin 12) (addr : BitVec 7) (data : BitVec 16) (d : Device) : Device :=
  let c := d.bus m
  if d.busStuck m then d
  else if 8 ≤ c.hn.length then d.on (R.BUS_EVENT m.val) F.BUS_EVENT.HN_DROP
  else (d.count (R.BUS_TGT_CNT m.val) F.BUS_TGT_CNT.COUNT 1).setBus m { c with hn := c.hn ++ [(addr.toNat, data.toNat)] }

def execHostNotify (m : Fin 12) (addr : BitVec 7) (data : BitVec 16) (s : State) : Host.Outcome State Fault Refusal :=
  .next (s.onDev (devHostNotify m addr data))

/-- ALERT_RESPONSE (R422): the alerting target answers with its address; the alert ends where no other responder won. -/
def devAlertResponse (m : Fin 12) (won : Bool) (d : Device) : Device :=
  let c := d.bus m
  if !c.alert || d.busStuck m then d
  else (d.count (R.BUS_TGT_CNT m.val) F.BUS_TGT_CNT.COUNT 1).setBus m
    { c with tgtOut := if won then natBytes 1 (2 * c.tgtAddr) else [], alert := !won }

def execAlertResponse (m : Fin 12) (won : Bool) (s : State) : Host.Outcome State Fault Refusal :=
  .next (s.onDev (devAlertResponse m won))

/-! ### Stuck buses (R424–R428, R432) -/

/-- BUS_STUCK (R424): not judged while UNPOWERED. -/
def devBusStuck (m : Fin 12) (d : Device) : Device :=
  if d.unpowered m || d.busStuck m then d
  else
    let d := (d.on (R.BUS_STAT m.val) F.BUS_STAT.STUCK).on (R.BUS_EVENT m.val) F.BUS_EVENT.STUCK
    let d := d.count (R.BUS_STUCK_CNT m.val) F.BUS_STUCK_CNT.STUCK 1
    let d := if (d.bus m).busy then d.busEnd m 6 false else d.setBus m { d.bus m with free := false }
    if d.flag (R.BUS_CFG m.val) F.BUS_CFG.SEG_EN then d.segRequest m else d

def execBusStuck (m : Fin 12) (s : State) : Host.Outcome State Fault Refusal := .next (s.onDev (devBusStuck m))

/-- BUS_STUCK_CLEAR (R424, R428): the lines have been high for 50 µs, so the bus is free, and the episode ends. -/
def devBusStuckClear (m : Fin 12) (d : Device) : Device :=
  if !d.busStuck m then d
  else
    let d := (d.off (R.BUS_STAT m.val) F.BUS_STAT.STUCK).on (R.BUS_EVENT m.val) F.BUS_EVENT.STUCK_CLEAR
    let d := d.setFld (R.BUS_STAT m.val) F.BUS_STAT.SEG_CYCLES 0
    d.setBus m { d.bus m with free := true, judging := false, cfgNow := d.reg (R.BUS_CFG m.val) }

def execBusStuckClear (m : Fin 12) (s : State) : Host.Outcome State Fault Refusal := .next (s.onDev (devBusStuckClear m))

/-- BUS_UNPOWERED (R426, R432): a transfer in flight ends, and no STOP is sent. -/
def devBusUnpowered (m : Fin 12) (d : Device) : Device :=
  if !d.unpowered m then d
  else if (d.bus m).busy then d.busEnd m 7 false
  else d.setBus m { d.bus m with free := false }

def execBusUnpowered (m : Fin 12) (s : State) : Host.Outcome State Fault Refusal := .next (s.onDev (devBusUnpowered m))

/-- SEG_OUTCOME (R428): T_STUCK after SQ_SEG_DONE; a bus still STUCK requests again, at most three times an episode. -/
def devSegOutcome (m : Fin 12) (d : Device) : Device :=
  if !(d.bus m).judging then d
  else
    let d := d.setBus m { d.bus m with judging := false }
    if !d.busStuck m then d
    else if 3 ≤ d.fld (R.BUS_STAT m.val) F.BUS_STAT.SEG_CYCLES then d.on (R.BUS_EVENT m.val) F.BUS_EVENT.SEG_FAILED
    else if d.flag (R.BUS_CFG m.val) F.BUS_CFG.SEG_EN then d.segRequest m
    else d

def execSegOutcome (m : Fin 12) (s : State) : Host.Outcome State Fault Refusal := .next (s.onDev (devSegOutcome m))

/-- SEG_RETRY (R428, R432): a new episode of three cycles; a pending request stands. -/
def devSegRetry (m : Fin 12) (d : Device) : Device :=
  let pending := d.flag (R.BUS_STAT m.val) F.BUS_STAT.SEG_PENDING
  let d := d.setFld (R.BUS_STAT m.val) F.BUS_STAT.SEG_CYCLES 0
  if d.busStuck m && d.flag (R.BUS_CFG m.val) F.BUS_CFG.SEG_EN && !pending then d.segRequest m else d

def execSegRetry (m : Fin 12) (s : State) : Host.Outcome State Fault Refusal := .next (s.onDev (devSegRetry m))

/-! ### The engine's ports and its loss (R414, R430, R431) -/

/-- Ten times mantissa · 2^exponent, rounded to nearest with ties to even, saturating at the 32-bit limits (R430). -/
def tenTimes (mant : Int) (ex : Int) : BitVec 32 :=
  let n := 10 * mant
  let v : Int :=
    if 0 ≤ ex then n * 2 ^ ex.toNat
    else
      let q := n / 2 ^ (-ex).toNat
      let r := n - q * 2 ^ (-ex).toNat
      if 2 * r < 2 ^ (-ex).toNat then q
      else if 2 ^ (-ex).toNat < 2 * r then q + 1
      else if q % 2 = 0 then q else q + 1
  BitVec.ofInt 32 (max (-(2 ^ 31)) (min v (2 ^ 31 - 1)))

/-- BP_CONV_IN (R414, R430). -/
def busConv (v : BitVec 32) : BitVec 32 :=
  let raw := v.toNat % 65536
  if bit v.toNat 24 then tenTimes (raw : Int) (signed 5 (bitsOf v.toNat 16 5))
  else tenTimes (signed 11 (raw % 2048)) (signed 5 (raw / 2048))

/-- The engine-lost action of a bus engine (R431). -/
def Device.busLost (d : Device) (m : Fin 12) : Device :=
  let d := d.on (R.BUS_EVENT m.val) F.BUS_EVENT.ENGINE_LOST
  let c := d.bus m
  if c.busy then d.busEnd m 8 (c.free || c.phase == .running) else d

end Sys2Proof.Machine
end

