-- ==== Sys2Proof/Machine/WitBase.lean ====
section
/-! DEFINITION. What the witness chapters share: the bay's check-and-seal state, holds (R174), violations and NAK
(R175, R177), the work queue and credit (R153, R154, R189), the ledger and the buffered events (R213, R228). -/

namespace Sys2Proof.Machine

/-- A bay's check-and-seal state. -/
def Device.wit (d : Device) (b : Bay) : WitCtx := d.wits[b]

/-- A bay's check-and-seal state replaced. -/
def Device.setWit (d : Device) (b : Bay) (w : WitCtx) : Device := { d with wits := vset d.wits b w }

/-- A bay's current epoch; 0 when none (R185). -/
def Device.epoch (d : Device) (b : Bay) : Nat := d.fld (R.WITL_STATUS b.val) F.WITL_STATUS.EPOCH

/-- The session is READY or ACTIVE. -/
def Device.ready (d : Device) (b : Bay) : Bool := d.session b == 3 || d.session b == 4

/-- 48-bit steps held in two registers. -/
def Device.step48 (d : Device) (lo hi : Nat) : Nat := (d.reg lo).toNat + (d.reg hi).toNat % 2 ^ 16 * 2 ^ 32

/-- WIT_SEALED: VALID, and the last sealed step (R227). -/
def Device.sealedValid (d : Device) (b : Bay) : Bool := d.flag (R.WIT_SEALED_HI b.val) F.WIT_SEALED_HI.VALID
def Device.sealedStep (d : Device) (b : Bay) : Nat := d.step48 (R.WIT_SEALED_LO b.val) (R.WIT_SEALED_HI b.val)

/-- The last sealed step of the current epoch. -/
def Device.sealed? (d : Device) (b : Bay) : Option Nat := if d.sealedValid b then some (d.sealedStep b) else none

/-- The lowest step of the current epoch that is not sealed. -/
def Device.nextSeal (d : Device) (b : Bay) : Nat :=
  match d.sealed? b with
  | none => (d.wit b).firstStep
  | some s => (s + 1) % 2 ^ 48

/-! ### Lead-only records (R184, R560) -/

/-- The device sends the records that only a lead sends: it is not a SHADOW, and has joined where it is of a pair. -/
def Device.leads (d : Device) : Bool := d.role != 2

/-- As LEAD, a record is noted to the shadow (R546, R560). -/
def Device.sealNote (d : Device) (b : Bay) (r : TxRec) : Device :=
  if d.role = 1 then d.twinSend (.sealNote b.val (d.wit b).job (d.fld (R.WIT_CTL b.val) F.WIT_CTL.MODE) r) else d

/-- A record that only a LEAD, an ORPHAN or a single device sends; a LEAD notes it to the shadow first (R560). -/
def Device.leadRec (d : Device) (b : Bay) (r : TxRec) : Device := if !d.leads then d else (d.sealNote b r).sendRec b r

/-! ### Holds (R174) -/

/-- The hold set: 1 LAG, 2 JOB_FAULT, 4 PROTOCOL, 8 HOST. -/
def Device.holds (d : Device) (b : Bay) : Nat := d.fld (R.WITL_STATUS b.val) F.WITL_STATUS.HOLD_MASK

/-- The hold set changed; it becoming non-empty starts the 1 ms of a quiet point (R193). -/
def Device.setHolds (d : Device) (b : Bay) (m : Nat) : Device :=
  let was := d.holds b
  let d := d.setFld (R.WITL_STATUS b.val) F.WITL_STATUS.HOLD_MASK m
  if was = 0 ∧ m ≠ 0 then d.setWit b { d.wit b with openedInHold := false } else d

/-- A HOLD with the set in force; its STEP is the oldest unsealed step (R168). Each device sends its own lane's holds
(R184), and a LEAD notes them (R546). -/
def Device.sendHold (d : Device) (b : Bay) : Device :=
  let r : TxRec := .hold (d.epoch b) (d.nextSeal b) (d.holds b)
  if d.ready b then (d.sealNote b r).sendRec b r else d

/-- A cause joins or leaves the set; a HOLD carries every such change. -/
def Device.hold (d : Device) (b : Bay) (cause : Nat) (on : Bool) : Device :=
  let m := if on then d.holds b ||| cause else d.holds b - (d.holds b &&& cause)
  if m = d.holds b then d else (d.setHolds b m).sendHold b

/-- Causes cleared on both sides by a SEAL or an EPOCH: no HOLD is sent. -/
def Device.unhold (d : Device) (b : Bay) (causes : Nat) : Device :=
  d.setHolds b (d.holds b - (d.holds b &&& causes))

/-! ### Violations (R175–R177) -/

/-- The causes of R175. -/
inductive NakCause where
  | header | length | unknownType | noCredit | noSession | epochAhead | stepOrder | countMismatch | dupTile | badField
  | sliceNotActive | unsolicited | sampleSet | fenceTimeout | helloState
  deriving DecidableEq, Repr

/-- The code of a cause. -/
def NakCause.code : NakCause → Nat
  | .header => 0x01
  | .length => 0x02
  | .unknownType => 0x03
  | .noCredit => 0x04
  | .noSession => 0x05
  | .epochAhead => 0x06
  | .stepOrder => 0x07
  | .countMismatch => 0x08
  | .dupTile => 0x09
  | .badField => 0x0A
  | .sliceNotActive => 0x0B
  | .unsolicited => 0x0C
  | .sampleSet => 0x0D
  | .fenceTimeout => 0x0E
  | .helloState => 0x0F

/-- The causes that hold the bay with PROTOCOL. -/
def NakCause.holdsBay : NakCause → Bool
  | .epochAhead => true
  | .stepOrder => true
  | .countMismatch => true
  | .dupTile => true
  | .sliceNotActive => true
  | .sampleSet => true
  | .fenceTimeout => true
  | _ => false

/-- The last time noted for a cause. -/
def timeOf (l : List (Nat × Nat)) (c : Nat) : Option Nat := (l.find? (fun p => p.1 == c)).map (·.2)

/-- A cause's time noted. -/
def noteTime (l : List (Nat × Nat)) (c t : Nat) : List (Nat × Nat) := (c, t) :: l.filter (fun p => p.1 != c)

/-- At least `gap` microseconds lie between the last time and now. -/
def timeDue (last : Option Nat) (now gap : Nat) : Bool :=
  match last with
  | none => true
  | some t => decide (t + gap ≤ now)

/-- A violation: counted always, answered with at most one NAK of its cause per 100 µs, raised to the host at most once
per second, and held where the table says so. -/
def Device.violation (d : Device) (b : Bay) (c : NakCause) (ty ep step detail : Nat) : Device :=
  let d := d.count (R.WITL_NAK_CNT b.val c.code) F.WITL_NAK_CNT.COUNT 1
  let d := d.setFld (R.WITL_NAK_LAST b.val) F.WITL_NAK_LAST.CAUSE c.code
  let d := d.setFld (R.WITL_NAK_LAST b.val) F.WITL_NAK_LAST.REC_TYPE ty
  let (t, d) := d.now
  let k := d.link b
  let send := timeDue (timeOf k.nakTimes c.code) t 100
  let event := timeDue (timeOf k.nakEvents c.code) t 1000000
  let d := d.setLink b { k with
    nakTimes := if send then noteTime k.nakTimes c.code t else k.nakTimes
    nakEvents := if event then noteTime k.nakEvents c.code t else k.nakEvents }
  let d := if send && d.session b != 0 then d.sendRec b (.nak c.code ty ep step detail) else d
  let d := if event then d.raise 0x0301 b.val [c.code, ty] else d
  if c.holdsBay then d.hold b 4 true else d

/-! ### The work queue and credit (R153, R154, R189, R203) -/

/-- The bytes of the sample area (R227). -/
def Device.areaBytes (d : Device) (b : Bay) : Nat := d.fld (R.WIT_SAMPLE_SIZE b.val) F.WIT_SAMPLE_SIZE.MIB * 2 ^ 20

/-- Where the sample area begins. -/
def Device.areaBase (d : Device) (b : Bay) : Nat := (d.reg (R.WIT_SAMPLE_BASE b.val)).toNat * 2 ^ 16

/-- A witness engine arms its sample window over its sample area, with CRC32C in extent mode, once every controller is READY
(R318, R322). -/
def Device.armSample (d : Device) (b : Bay) : Device :=
  let w := b.val
  let j := winJ w
  let i := winI w
  let base := d.areaBase b
  if !d.allReady then d
  else
    let d := d.closeWindow w
    if d.areaBytes b = 0 then d
    else
      let d := (d.setReg (R.TW_CTL j i) 0).setFld (R.TW_CTL j i) F.TW_CTL.OP 2
      let d := d.setFld (R.TW_LEN j i) F.TW_LEN.LINES (d.areaBytes b / 64)
      let d := (d.setReg (R.TW_BASE_LO j i) (BitVec.ofNat 32 base)).setFld (R.TW_BASE_HI j i) F.TW_BASE_HI.ADDR (base / 2 ^ 32)
      d.armWindow w

/-- Bytes of an extent: PART_LEN rounded up to whole lines; none for a part that found no place. -/
def PartCtx.extent (p : PartCtx) : Nat := if p.addr = 0 then 0 else (p.len + 63) / 64 * 64

/-- Every part held in a bay's sample area. -/
def WitCtx.parts (w : WitCtx) : List PartCtx := w.steps.flatMap (fun s => s.samples.flatMap (·.parts))

/-- Bytes of the sample area in use. -/
def WitCtx.areaUsed (w : WitCtx) : Nat := (w.parts.map PartCtx.extent).sum

/-- CTRL and DATA units whose records are consumed are granted again: none while the work queue is full, and DATA only
while memory is available, an extent is free and the sample area has room (R30, R189, R203, R318). -/
def Device.grant (d : Device) (b : Bay) : Device :=
  let k := d.link b
  let w := d.wit b
  if 1024 ≤ w.items.length then d
  else
    let ctrl := k.owed.1
    let out := 4096 + k.returned.2.1 - k.used.2.1
    let room := if w.parts.isEmpty then k.owed.2 else (d.areaBytes b - w.areaUsed) / 64 - out
    let data := if (List.range 16).all (fun j => d.fld (R.MC_STATUS j) F.MC_STATUS.STATE == 1 && d.answers (72 + j)) &&
        decide (w.parts.length < 4096) then min k.owed.2 room else 0
    d.setLink b { k with
      returned := (k.returned.1 + ctrl, k.returned.2.1 + data, k.returned.2.2)
      owed := (0, k.owed.2 - data) }

/-- An item joins the work queue; none is dropped. -/
def Device.pushItem (d : Device) (b : Bay) (i : WorkItem) : Device :=
  d.setWit b { d.wit b with items := (d.wit b).items ++ [i] }

/-! ### The ledger and the events (R29, R213, R228) -/

/-- The kind of a ledger append. -/
inductive LedgerKind where
  | sealed | jobFault | void
  deriving DecidableEq, Repr

/-- The code of a kind. -/
def LedgerKind.code : LedgerKind → Nat
  | .sealed => 1
  | .jobFault => 2
  | .void => 3

/-- One append of 32 bytes, WALL_TIME left to firmware. -/
def Device.ledgerAppend (d : Device) (b : Bay) (kind : LedgerKind) (ep step verdict flags count : Nat) : Device :=
  let w := d.wit b
  let e := natBytes 8 w.ledgerSeq ++ natBytes 1 kind.code ++ natBytes 1 b.val ++ natBytes 2 ep ++ natBytes 6 step ++
    natBytes 1 verdict ++ natBytes 1 flags ++ natBytes 4 (min count (2 ^ 32 - 1)) ++ zeros 8
  d.setWit b { w with ledger := w.ledger ++ [e], ledgerSeq := w.ledgerSeq + 1 }

/-- One buffered host event of 16 bytes; with 256 buffered a further one has no place (assumption log 29). -/
def Device.witEvent (d : Device) (b : Bay) (code verdict slice tile step ep : Nat) : Device :=
  if 256 ≤ (d.wit b).events.length then d else
  let e := natBytes 1 code ++ natBytes 1 b.val ++ natBytes 1 verdict ++ natBytes 1 slice ++ natBytes 4 tile ++
    natBytes 6 step ++ natBytes 2 ep
  d.setWit b { d.wit b with events := (d.wit b).events ++ [e] }

/-- The ledger buffer and the event buffer have room (R29). -/
def WitCtx.room (w : WitCtx) : Bool := decide (w.ledger.length < 4096) && decide (w.events.length < 256)

/-! ### Jobs (R205, R220) -/

/-- The bays of the job that bay b belongs to: those with the same JOB_ID in effect, or b alone where it is 0. -/
def Device.jobOf (d : Device) (b : Bay) : List Bay :=
  if (d.wit b).job = 0 then [b] else bays.filter (fun c => (d.wit c).job == (d.wit b).job)

/-- A job fault is in force for the bay's job. -/
def Device.jobFaulted (d : Device) (b : Bay) : Bool := d.flag (R.WIT_STAT b.val) F.WIT_STAT.FAULTED

/-- The mode in force (R227): 0 OFF, 1 OBSERVE, 2 GATE. -/
def Device.witMode (d : Device) (b : Bay) : Nat := d.fld (R.WIT_STAT b.val) F.WIT_STAT.MODE_NOW

end Sys2Proof.Machine
end

