-- ==== Sys2Proof/Machine/Link.lean ====
section
/-! DEFINITION. Lanes and flits (R141–R152, R504, R505, R544): training, alignment, the retry of R149 and R150, credit
totals, and the record stream made into records (R148, R176). -/

namespace Sys2Proof.Machine

/-! ### A lane of any kind -/

/-- The retry state of a witness or twin lane; a host-port lane has none. -/
def Device.lane (d : Device) : Lane → LaneCtx
  | .wit b => (d.link b).lane
  | .twin j => d.twin.lanes[j]
  | .host l => { LaneCtx.reset with phase := d.hostLanes[l] }

/-- The lane's state replaced. -/
def Device.setLane (d : Device) (x : Lane) (l : LaneCtx) : Device :=
  match x with
  | .wit b => d.setLink b { d.link b with lane := l }
  | .twin j => { d with twin := { d.twin with lanes := vset d.twin.lanes j l } }
  | .host i => { d with hostLanes := vset d.hostLanes i l.phase }

/-- The credit totals that go out on a lane (R154): those of its bay; on a twin lane CREDIT0 (assumption log 28). -/
def Device.laneCredits (d : Device) : Lane → Nat × Nat × Nat
  | .wit b => (d.link b).returned
  | _ => (0, 0, 0)

/-- A lane's phase. -/
def Device.phase (d : Device) (x : Lane) : LanePhase := (d.lane x).phase

/-- What the registers show of a lane in RUN: ALIGNED, the LANES bit, and LINK while all four host lanes run. -/
def Device.showLane (d : Device) (x : Lane) : Device :=
  let run := d.phase x == .run
  match x with
  | .wit b => d.setFld (R.WITL_STATUS b.val) F.WITL_STATUS.ALIGNED (natOf run)
  | .twin j => d.setMaskBit R.TWIN_STATUS F.TWIN_STATUS.LANES j.val run
  | .host l =>
    let d := d.setMaskBit R.ETH_STAT F.ETH_STAT.LANES l.val run
    d.setFld R.ETH_STAT F.ETH_STAT.LINK (natOf (d.fld R.ETH_STAT F.ETH_STAT.LANES == 15))

/-- A lane enters a phase. -/
def Device.setPhase (d : Device) (x : Lane) (p : LanePhase) : Device :=
  (d.setLane x { d.lane x with phase := p }).showLane x

/-- Lanes train only with REFCLK present (R505). -/
def Device.refPresent (d : Device) : Bool := d.flag R.ISLE_REFCLK F.ISLE_REFCLK.PRESENT

/-- The lane's island (R14). -/
def laneIsland : Lane → Nat
  | .wit b => 53 + b.val
  | .twin j => 69 + j.val
  | .host l => 49 + l.val

/-- The output gate lets a lane leave electrical idle (R42, R451, R459); a twin lane stays QUIET in single configuration
(R539). -/
def Device.laneGate (d : Device) : Lane → Bool
  | .wit _ => d.tray.gate
  | .twin _ => d.flag R.SEC_BOOT_STATUS F.SEC_BOOT_STATUS.GATE && d.flag R.TWIN_STATUS F.TWIN_STATUS.PAIR_MODE
  | .host _ => d.flag R.SEC_BOOT_STATUS F.SEC_BOOT_STATUS.GATE || d.fld R.SEC_BOOT_STATUS F.SEC_BOOT_STATUS.MODE == 2

/-- LANE_DETECT_DONE (R505): both sides see markers; a quiet lane leaves QUIET once the output gate lets it pass. -/
def devLaneDetectDone (x : Lane) (d : Device) : Device :=
  if !d.refPresent || !d.answers (laneIsland x) then d
  else match d.phase x with
    | .quiet => if d.laneGate x then d.setPhase x .train else d
    | .detect => d.setPhase x .train
    | _ => d

def execLaneDetectDone (x : Lane) (s : State) : Host.Outcome State Fault Refusal :=
  .next (s.onDev (devLaneDetectDone x))

/-- LANE_TRAIN_DONE (R505). -/
def devLaneTrainDone (x : Lane) (d : Device) : Device :=
  if d.phase x = .train ∧ d.refPresent then d.setPhase x .align else d

def execLaneTrainDone (x : Lane) (s : State) : Host.Outcome State Fault Refusal := .next (s.onDev (devLaneTrainDone x))

/-- Every unacknowledged flit sent again, with the acknowledgement and credits of the moment (R150). -/
def LaneCtx.resend (l : LaneCtx) (cr : Nat × Nat × Nat) : LaneCtx :=
  { l with sent := l.sent ++ l.buf.map (l.stamp cr) }

/-- A retrain of a lane (R152): it returns to TRAIN with its retry state kept. -/
def Device.retrain (d : Device) (x : Lane) : Device :=
  let d := d.setPhase x .train
  match x with
  | .wit b => d.count (R.WITL_LANE b.val) F.WITL_LANE.RETRAINS 1
  | _ => d

/-- Resends begin (R150); the sixteenth from the same oldest flit retrains the lane (R152). -/
def Device.startResend (d : Device) (x : Lane) : Device :=
  let l := d.lane x
  if l.buf.isEmpty then d
  else if l.resends = 16 then (d.setLane x { l with resends := 0 }).retrain x
  else
    let d := d.setLane x { l.resend (d.laneCredits x) with resends := l.resends + 1 }
    match x with
    | .wit b => d.count (R.WITL_RETRY_TX b.val) F.WITL_RETRY_TX.COUNT 1
    | _ => d

/-- A session begins (R170): sequence numbers, credit totals and buffers are zeroed and HELLO is sent. -/
def Device.sessionStart (d : Device) (b : Bay) : Device :=
  let d := (d.setLink b { LinkCtx.reset with lane := { LaneCtx.reset with phase := .run } }).setSession b 1
  d.sendRec b (.hello (d.role != 0) (d.flag R.TWIN_STATUS F.TWIN_STATUS.PAIR_ID))

/-- ALIGN_LOCK (R143, R152, R170). -/
def devAlignLock (x : Lane) (d : Device) : Device :=
  if d.phase x ≠ .align then d
  else
    let d := d.setPhase x .run
    match x with
    | .wit b =>
      if d.session b = 0 then d.sessionStart b
      else
        let l := (d.lane x).resend (d.laneCredits x)
        d.setLane x (l.pump (d.laneCredits x))
    | .twin _ =>
      let l := (d.lane x).resend (d.laneCredits x)
      d.setLane x (l.pump (d.laneCredits x))
    | .host _ => d

def execAlignLock (x : Lane) (s : State) : Host.Outcome State Fault Refusal := .next (s.onDev (devAlignLock x))

/-- ALIGN_LOSS (R143, R152, R505). -/
def devAlignLoss (x : Lane) (d : Device) : Device := if d.phase x = .run then d.retrain x else d

def execAlignLoss (x : Lane) (s : State) : Host.Outcome State Fault Refusal := .next (s.onDev (devAlignLoss x))

/-! ### Discards and retry requests (R144, R146, R149) -/

/-- A flit with NAK goes out, an IDLE one (R147, R149). -/
def Device.sendNak (d : Device) (x : Lane) : Device :=
  let l := d.lane x
  let cr := d.laneCredits x
  let f : SentFlit := { l.stamp cr { fseq := 0, firstRec := 0, payload := zeros 240 } with kind := 0, nak := true }
  let d := d.setLane x { l with sent := l.sent ++ [f] }
  match x with
  | .wit b => d.count (R.WITL_RETRY_REQ b.val) F.WITL_RETRY_REQ.COUNT 1
  | _ => d

/-- A flit discarded: the first after an accepted one asks for a resend. -/
def Device.discardFlit (d : Device) (x : Lane) : Device :=
  let l := d.lane x
  if l.naked then d else (d.setLane x { l with naked := true }).sendNak x

/-- NAK_REPEAT_TIMER (R149). -/
def devNakRepeatTimer (x : Lane) (d : Device) : Device :=
  if (d.lane x).naked ∧ d.phase x = .run then d.sendNak x else d

def execNakRepeatTimer (x : Lane) (s : State) : Host.Outcome State Fault Refusal := .next (s.onDev (devNakRepeatTimer x))

/-- RESEND_TIMEOUT (R150). -/
def devResendTimeout (x : Lane) (d : Device) : Device := if d.phase x = .run then d.startResend x else d

def execResendTimeout (x : Lane) (s : State) : Host.Outcome State Fault Refusal := .next (s.onDev (devResendTimeout x))

/-! ### The record stream (R148, R154, R157, R176) -/

/-- The bounds of LENGTH by type, for records an accelerator sends and the types it may not send (R159, R617); the
general bounds otherwise. -/
def lengthBounds (ty slices : Nat) : Nat × Nat :=
  match ty with
  | 0x01 => (64, 64)
  | 0x02 => (32, 32)
  | 0x03 => (48, 32 + 16 * slices)
  | 0x04 => (32, 32)
  | 0x10 => (32, 32)
  | 0x11 => (48, 16 + 32 * 2047)
  | 0x12 => (44, 65532)
  | 0x13 => (32, 32)
  | 0x14 => (32, 65532)
  | 0x20 => (36, 64)
  | 0x30 => (20, 4096)
  | 0x40 => (32, 32)
  | 0x41 => (32, 32)
  | 0x42 => (32, 32)
  | 0x43 => (32, 32)
  | 0x44 => (32, 32)
  | 0x45 => (32, 32)
  | 0x46 => (32, 4096)
  | 0x47 => (32, 32)
  | 0x48 => (20, 4096)
  | 0x4F => (32, 32)
  | _ => (16, 65532)

/-- LENGTH suits the type: a CSUM holds whole entries, and a UNIT_MAP its SLICES entries (R159). -/
def lengthOk (ty len : Nat) : Bool :=
  let p := lengthBounds ty 64
  decide (16 ≤ len) && len % 4 == 0 && decide (p.1 ≤ len ∧ len ≤ p.2) &&
    (ty != 0x11 || len % 32 == 16) && (ty != 0x03 || len % 16 == 0)

/-- The credit class of an accelerator's record: 0 CTRL, 1 DATA, 2 AUX; none for other types (R153). -/
def creditClass (ty : Nat) : Option Nat :=
  if ty = 0x12 ∨ ty = 0x14 then some 1
  else if ty = 0x30 then some 2
  else if ty ∈ [0x01, 0x02, 0x03, 0x10, 0x11, 0x13, 0x20] then some 0
  else none

/-- One class of a triple. -/
def tripleGet (t : Nat × Nat × Nat) (c : Nat) : Nat := if c = 0 then t.1 else if c = 1 then t.2.1 else t.2.2
def tripleAdd (t : Nat × Nat × Nat) (c n : Nat) : Nat × Nat × Nat :=
  if c = 0 then (t.1 + n, t.2) else if c = 1 then (t.1, t.2.1 + n, t.2.2) else (t.1, t.2.1, t.2.2 + n)

/-- The grants of the device's HELLO (R153). -/
def grantOf (c : Nat) : Nat := if c = 0 then 1024 else if c = 1 then 4096 else 64

/-- A whole record joins the inbox: it uses the credit of its class where its sender held enough (R153, R155). -/
def LinkCtx.takeRecord (k : LinkCtx) (bs : List (BitVec 8)) : LinkCtx :=
  let ty := bytesNat ((bs.drop 1).take 1)
  match creditClass ty with
  | none => { k with inbox := k.inbox ++ [⟨bs, k.streamPos, false, false⟩] }
  | some c =>
    let n := unitsOf bs.length
    let beyond := grantOf c + tripleGet k.returned c < tripleGet k.used c + n
    { k with
      inbox := k.inbox ++ [⟨bs, k.streamPos, false, beyond⟩]
      used := if beyond then k.used else tripleAdd k.used c n }

/-- Records taken off the front of the stream while they are whole. A zero byte where a record would begin is padding
to the end of the flit; a LENGTH violation discards what follows (R148, R176). -/
def LinkCtx.split : Nat → LinkCtx → LinkCtx
  | 0, k => k
  | n + 1, k =>
    match k.stream with
    | [] => k
    | x :: _ =>
      if x = 0#8 then { k with stream := [], streamPos := k.streamPos + k.stream.length }
      else if k.stream.length < 16 then k
      else
        let ty := bytesNat ((k.stream.drop 1).take 1)
        let len := bytesNat ((k.stream.drop 10).take 2)
        if !lengthOk ty len then
          { k with
            inbox := k.inbox ++ [⟨k.stream.take 16, k.streamPos, true, false⟩]
            streamPos := k.streamPos + k.stream.length
            stream := []
            skipping := true }
        else if k.stream.length < len then k
        else
          let k1 := k.takeRecord (k.stream.take len)
          LinkCtx.split n { k1 with stream := k.stream.drop len, streamPos := k.streamPos + len }

/-- The payload of an accepted DATA flit joins the record stream. -/
def LinkCtx.feed (k : LinkCtx) (firstRec : Nat) (payload : List (BitVec 8)) : LinkCtx :=
  let at0 := k.streamPos + k.stream.length
  if k.skipping then
    if firstRec = 0xFF then { k with streamPos := at0 + payload.length }
    else LinkCtx.split 16 { k with skipping := false, stream := payload.drop firstRec, streamPos := at0 + firstRec }
  else LinkCtx.split 16 { k with stream := k.stream ++ payload }

/-! ### The records of a twin lane (R545) -/

/-- A header of R545 whose LENGTH can be used. -/
def twinLength (bs : List (BitVec 8)) : Option Nat :=
  let n := bytesNat ((bs.drop 2).take 2)
  if 16 ≤ n ∧ n ≤ 8192 ∧ n % 4 = 0 then some n else none

/-- A header keeps to R545 and R546: generation 1, a type of the table or one kept for later, reserved fields zero. -/
def twinHeaderOk (bs : List (BitVec 8)) : Bool :=
  let ty := bytesNat ((bs.drop 1).take 1)
  bytesNat (bs.take 1) == 1 && (decide (1 ≤ ty ∧ ty ≤ 0x0A) || decide (0x80 ≤ ty)) &&
    decide (bytesNat ((bs.drop 8).take 1) < 16) && bytesNat ((bs.drop 9).take 7) == 0

/-- Records taken off the stream while they are whole; the number dropped comes with the rest. What a good record does is
the command of its type. -/
def TwinRx.split : Nat → TwinRx → Nat × TwinRx
  | 0, r => (0, r)
  | n + 1, r =>
    match r.stream with
    | [] => (0, r)
    | x :: _ =>
      if x = 0#8 then (0, { r with stream := [] })
      else if r.stream.length < 16 then (0, r)
      else match twinLength r.stream with
        | none => (1, ⟨[], true⟩)
        | some len =>
          if r.stream.length < len then (0, r)
          else
            let bad := natOf (!twinHeaderOk r.stream)
            let (k, r) := TwinRx.split n { r with stream := r.stream.drop len }
            (bad + k, r)

/-- The payload of an accepted DATA flit on twin lane j. -/
def Device.twinFeed (d : Device) (j : Fin 2) (firstRec : Nat) (payload : List (BitVec 8)) : Device :=
  let r := d.twin.rx[j]
  let (bad, r) :=
    if r.skipping then if firstRec = 0xFF then (0, r) else TwinRx.split 16 ⟨payload.drop firstRec, false⟩
    else TwinRx.split 16 { r with stream := r.stream ++ payload }
  ({ d with twin := { d.twin with rx := vset d.twin.rx j r } } : Device).count R.TWIN_BAD_CNT F.TWIN_BAD_CNT.COUNT bad

/-! ### Flits (R144–R150, R154) -/

/-- Acknowledgement: flits up to ACKSEQ leave the replay buffer; progress ends the count of resends (R150, R152). -/
def LaneCtx.ack (l : LaneCtx) (seq : Nat) : LaneCtx :=
  match l.buf.findIdx? (fun f => f.fseq == seq) with
  | none => l
  | some i => { l with buf := l.buf.drop (i + 1), resends := 0 }

/-- The DEV credit total of an accepted flit (R154). -/
def LinkCtx.devCredit (k : LinkCtx) (total : Nat) : LinkCtx :=
  { k with devTotal := k.devTotal + (total + 65536 - k.devTotal % 65536) % 65536 }

/-- A flit that passes R144 and R146. -/
def Device.takeFlit (d : Device) (x : Lane) (bs : List (BitVec 8)) : Device :=
  let fseq := bytesNat (bs.take 1)
  let ctl := bytesNat ((bs.drop 1).take 1)
  let ackSeq := bytesNat ((bs.drop 2).take 1)
  let firstRec := bytesNat ((bs.drop 3).take 1)
  let cr0 := bytesNat ((bs.drop 4).take 2)
  let l := d.lane x
  let l := if bit ctl 3 then l.ack ackSeq else l
  let d := d.setLane x l
  let d := match x with
    | .wit b => (d.setLink b ((d.link b).devCredit cr0)).pumpDev b
    | _ => d
  let d := if bit ctl 2 then d.startResend x else d
  let d :=
    if ctl % 4 = 1 then
      let l := d.lane x
      if fseq = l.rxNext then
        let d := d.setLane x { l with rxNext := (l.rxNext + 1) % 256, rxAny := true, naked := false }
        match x with
        | .wit b => d.setLink b ((d.link b).feed firstRec ((bs.drop 12).take 240))
        | .twin j => d.twinFeed j firstRec ((bs.drop 12).take 240)
        | .host _ => d
      else d.discardFlit x
    else d
  let l := d.lane x
  d.setLane x (l.pump (d.laneCredits x))

/-- A flit received (R144, R146, R149). -/
def Device.receiveFlit (d : Device) (x : Lane) (bs : List (BitVec 8)) (fec : FlitFec) : Device :=
  if d.phase x ≠ .run then d
  else
    let d := match x with
      | .wit b =>
        (d.count (R.WITL_FEC_CORR b.val) F.WITL_FEC_CORR.COUNT fec.corrected).count (R.WITL_FEC_UNCORR b.val)
          F.WITL_FEC_UNCORR.COUNT fec.uncorrected
      | .twin _ => d
      | .host _ =>
        (d.count R.ETH_FEC_CORR F.ETH_FEC_CORR.COUNT fec.corrected).count R.ETH_FEC_UNCORR F.ETH_FEC_UNCORR.COUNT
          fec.uncorrected
    match x with
    | .host _ => d
    | _ =>
      let ctl := bytesNat ((bs.drop 1).take 1)
      if fec.hit then d.discardFlit x
      else if bs.length ≠ 256 ∨ (crc32c (bs.take 252)).toNat ≠ bytesNat (bs.drop 252) then
        (match x with
          | .wit b => d.count (R.WITL_CRC_ERR b.val) F.WITL_CRC_ERR.COUNT 1
          | _ => d).discardFlit x
      else if 2 ≤ ctl % 4 ∨ 16 ≤ ctl ∨ bytesNat ((bs.drop 10).take 2) ≠ 0 then d.discardFlit x
      else d.takeFlit x bs

/-- T_LINK_EXPIRY (R170, R544): a lane that is not back ends its session; a twin lane starts afresh. -/
def devTLinkExpiry (x : Lane) (d : Device) : Device :=
  if d.phase x = .run then d
  else match x with
    | .wit b =>
      if d.session b = 0 then d
      else ((d.sessionDown b).count (R.WITL_LANE b.val) F.WITL_LANE.LINK_LOST 1).raise 0x0304 b.val []
    | .twin j =>
      let d := d.setLane x { LaneCtx.reset with phase := d.phase x }
      { d with twin := { d.twin with rx := vset d.twin.rx j ⟨[], false⟩ } }
    | .host _ => d

def execTLinkExpiry (x : Lane) (s : State) : Host.Outcome State Fault Refusal := .next (s.onDev (devTLinkExpiry x))

end Sys2Proof.Machine
end

