-- ==== Sys2Proof/Machine/Hashing.lean ====
section
/-! DEFINITION. SHA-256 and ECDSA P-256 verification, as the manual names them (R116, R117, R128, R201). -/

namespace Sys2Proof.Machine

/-! ### SHA-256 -/

/-- The round constants. -/
def shaK : List (BitVec 32) :=
  [0x428a2f98#32, 0x71374491#32, 0xb5c0fbcf#32, 0xe9b5dba5#32, 0x3956c25b#32, 0x59f111f1#32, 0x923f82a4#32, 0xab1c5ed5#32,
    0xd807aa98#32, 0x12835b01#32, 0x243185be#32, 0x550c7dc3#32, 0x72be5d74#32, 0x80deb1fe#32, 0x9bdc06a7#32, 0xc19bf174#32,
    0xe49b69c1#32, 0xefbe4786#32, 0x0fc19dc6#32, 0x240ca1cc#32, 0x2de92c6f#32, 0x4a7484aa#32, 0x5cb0a9dc#32, 0x76f988da#32] ++
  [0x983e5152#32, 0xa831c66d#32, 0xb00327c8#32, 0xbf597fc7#32, 0xc6e00bf3#32, 0xd5a79147#32, 0x06ca6351#32, 0x14292967#32,
    0x27b70a85#32, 0x2e1b2138#32, 0x4d2c6dfc#32, 0x53380d13#32, 0x650a7354#32, 0x766a0abb#32, 0x81c2c92e#32, 0x92722c85#32,
    0xa2bfe8a1#32, 0xa81a664b#32, 0xc24b8b70#32, 0xc76c51a3#32, 0xd192e819#32, 0xd6990624#32, 0xf40e3585#32, 0x106aa070#32] ++
  [0x19a4c116#32, 0x1e376c08#32, 0x2748774c#32, 0x34b0bcb5#32, 0x391c0cb3#32, 0x4ed8aa4a#32, 0x5b9cca4f#32, 0x682e6ff3#32,
    0x748f82ee#32, 0x78a5636f#32, 0x84c87814#32, 0x8cc70208#32, 0x90befffa#32, 0xa4506ceb#32, 0xbef9a3f7#32, 0xc67178f2#32]

/-- The initial hash value. -/
def shaInit : List (BitVec 32) :=
  [0x6a09e667#32, 0xbb67ae85#32, 0x3c6ef372#32, 0xa54ff53a#32, 0x510e527f#32, 0x9b05688c#32, 0x1f83d9ab#32, 0x5be0cd19#32]

/-- A big-endian word of four bytes. -/
def beWord (l : List (BitVec 8)) : BitVec 32 :=
  BitVec.ofNat 32 (l.foldl (fun n b => 256 * n + b.toNat) 0)

/-- The n bytes of a number, big-endian. -/
def beBytes (n v : Nat) : List (BitVec 8) := ((List.range n).map (fun i => BitVec.ofNat 8 (v / 256 ^ i))).reverse

/-- The words of a block, newest first after n steps of the schedule. -/
def shaSchedule : Nat → List (BitVec 32) → List (BitVec 32)
  | 0, w => w
  | n + 1, w =>
    let g := fun i => w.getD i 0#32
    let s0 := (g 14).rotateRight 7 ^^^ (g 14).rotateRight 18 ^^^ ((g 14) >>> 3)
    let s1 := (g 1).rotateRight 17 ^^^ (g 1).rotateRight 19 ^^^ ((g 1) >>> 10)
    shaSchedule n ((g 15 + s0 + g 6 + s1) :: w)

/-- One round on the eight working variables. -/
def shaRound (v : List (BitVec 32)) (kw : BitVec 32 × BitVec 32) : List (BitVec 32) :=
  let g := fun i => v.getD i 0#32
  let s1 := (g 4).rotateRight 6 ^^^ (g 4).rotateRight 11 ^^^ (g 4).rotateRight 25
  let ch := ((g 4) &&& (g 5)) ^^^ ((~~~ (g 4)) &&& (g 6))
  let t1 := g 7 + s1 + ch + kw.1 + kw.2
  let s0 := (g 0).rotateRight 2 ^^^ (g 0).rotateRight 13 ^^^ (g 0).rotateRight 22
  let maj := ((g 0) &&& (g 1)) ^^^ ((g 0) &&& (g 2)) ^^^ ((g 1) &&& (g 2))
  [t1 + s0 + maj, g 0, g 1, g 2, g 3 + t1, g 4, g 5, g 6]

/-- One 64-byte block taken into a hash value. -/
def shaBlock (h : List (BitVec 32)) (block : List (BitVec 8)) : List (BitVec 32) :=
  let w16 := (List.range 16).map (fun i => beWord ((block.drop (4 * i)).take 4))
  let w := (shaSchedule 48 w16.reverse).reverse
  List.zipWith (· + ·) h ((shaK.zip w).foldl shaRound h)

/-- Whole blocks of a message, n of them. -/
def shaBlocks : Nat → List (BitVec 32) → List (BitVec 8) → List (BitVec 32)
  | 0, h, _ => h
  | n + 1, h, m => shaBlocks n (shaBlock h (m.take 64)) (m.drop 64)

/-- The padding of a message whose whole length is n bytes. -/
def shaPad (n : Nat) : List (BitVec 8) :=
  0x80#8 :: List.replicate ((119 - n % 64) % 64) 0#8 ++ beBytes 8 (8 * n)

/-- The digest bytes of a hash value. -/
def shaDigest (h : List (BitVec 32)) : List (BitVec 8) := h.flatMap (fun x => beBytes 4 x.toNat)

/-- SHA-256 of a message. -/
def sha256 (m : List (BitVec 8)) : List (BitVec 8) :=
  let p := m ++ shaPad m.length
  shaDigest (shaBlocks (p.length / 64) shaInit p)

/-! ### HMAC and HKDF with SHA-256 (R514) -/

/-- HMAC-SHA-256. -/
def hmac (key msg : List (BitVec 8)) : List (BitVec 8) :=
  let k := if 64 < key.length then sha256 key else key
  let k := k ++ List.replicate (64 - k.length) 0#8
  sha256 (k.map (· ^^^ 0x5c#8) ++ sha256 (k.map (· ^^^ 0x36#8) ++ msg))

/-- The first 96 bytes that HKDF-SHA-256 yields. -/
def hkdf (salt ikm info : List (BitVec 8)) : List (BitVec 8) :=
  let prk := hmac salt ikm
  let t1 := hmac prk (info ++ [1#8])
  let t2 := hmac prk (t1 ++ info ++ [2#8])
  let t3 := hmac prk (t2 ++ info ++ [3#8])
  t1 ++ t2 ++ t3

/-! ### ECDSA on the curve P-256 -/

/-- The field prime, the curve's b, the group order and the base point. -/
def p256p : Nat := 0xffffffff00000001000000000000000000000000ffffffffffffffffffffffff
def p256b : Nat := 0x5ac635d8aa3a93e7b3ebbd55769886bc651d06b0cc53b0f63bce3c3e27d2604b
def p256n : Nat := 0xffffffff00000000ffffffffffffffffbce6faada7179e84f3b9cac2fc632551
def p256gx : Nat := 0x6b17d1f2e12c4247f8bce6e563a440f277037d812deb33a0f4a13945d898c296
def p256gy : Nat := 0x4fe342e2fe1a7f9b8ee7eb4a7c0f9e162bce33576b315ececbb6406837bf51f5

/-- a^e mod m over the low k bits of e. -/
def powMod (m : Nat) : Nat → Nat → Nat → Nat
  | 0, _, _ => 1
  | k + 1, a, e => (if e % 2 = 1 then a else 1) * powMod m k (a * a % m) (e / 2) % m

/-- The inverse modulo a prime of at most 256 bits. -/
def invMod (m a : Nat) : Nat := powMod m 256 (a % m) (m - 2)

/-- A point: none at infinity. -/
abbrev P256 := Option (Nat × Nat)

/-- The sum of two points. -/
def p256Add (a b : P256) : P256 :=
  match a, b with
  | none, q => q
  | q, none => q
  | some (x1, y1), some (x2, y2) =>
    if x1 = x2 ∧ (y1 + y2) % p256p = 0 then none
    else
      let l := if x1 = x2 then (3 * x1 * x1 + (p256p - 3)) * invMod p256p (2 * y1) % p256p
        else (y2 + p256p - y1) * invMod p256p (x2 + p256p - x1) % p256p
      let x3 := (l * l + 2 * p256p - x1 - x2) % p256p
      some (x3, (l * (x1 + p256p - x3) + p256p - y1) % p256p)

/-- k times a point, over the low n bits of k. -/
def p256Mul : Nat → Nat → P256 → P256
  | 0, _, _ => none
  | n + 1, k, q =>
    let r := p256Mul n (k / 2) (p256Add q q)
    if k % 2 = 1 then p256Add q r else r

/-- A point lies on the curve with coordinates in range. -/
def p256On (x y : Nat) : Bool :=
  decide (x < p256p ∧ y < p256p) && (y * y % p256p == (x * x * x + (p256p - 3) * x + p256b) % p256p)

/-- The signature (r, s) of a digest verifies under the public key (x, y). -/
def ecdsaVerify (digest x y r s : Nat) : Bool :=
  decide (1 ≤ r ∧ r < p256n ∧ 1 ≤ s ∧ s < p256n) && p256On x y &&
    (let w := invMod p256n s
     let u1 := digest * w % p256n
     let u2 := r * w % p256n
     match p256Add (p256Mul 256 u1 (some (p256gx, p256gy))) (p256Mul 256 u2 (some (x, y))) with
     | none => false
     | some (px, _) => px % p256n == r)

end Sys2Proof.Machine
end

