-- ==== Sys2Proof/Machine/Verdict.lean ====
section
/-! DEFINITION. The compare pipeline (R196–R198), the selection hash (R201), suspect tiles (R214), verdicts and job
faults (R217–R220), and the voiding of steps (R224). -/

namespace Sys2Proof.Machine

/-! ### Comparing (R196, R198) -/

/-- U_EXP, C_FMT and FLOOR_EXP of a format on a bay. -/
def Device.tol (d : Device) (b : Bay) (f : Nat) : Nat × Nat × Nat :=
  let a := R.WIT_TOL b.val f
  (d.fld a F.WIT_TOL.U_EXP, d.fld a F.WIT_TOL.C_FMT, d.fld a F.WIT_TOL.FLOOR_EXP)

/-- floor_fmt of FLOOR_EXP: 0 means zero. -/
def floorOf (fl : Nat) : Nat × Int := if fl = 0 then (0, 0) else (1, -(fl : Int))

/-- τ for a finite MAG that is not negative, every operation rounded up; none for an infinite τ. -/
def tauOf (scale : Nat) (t : Nat × Nat × Nat) (k : Nat) (mag : Nat × Int) : Option (Nat × Int) :=
  let c := if t.1 = 0 then 0 else scale * t.2.1 * k
  match up64 (c * mag.1) (mag.2 - (t.1 : Int)) with
  | none => none
  | some p =>
    let fl := floorOf t.2.2
    let s := finAdd ((p.1 : Int), p.2) ((fl.1 : Int), fl.2)
    up64 s.1.toNat s.2

/-- |a − b| ≤ τ, exactly. -/
def withinTau (a b : Int × Int) (tau : Option (Nat × Int)) : Bool :=
  match tau with
  | none => true
  | some t =>
    let df := finAdd a (-b.1, b.2)
    finLe ((df.1.natAbs : Int), df.2) ((t.1 : Int), t.2)

/-- The entry passes, with its τ; an entry with a NaN, an infinity or a negative MAG fails. -/
def Device.compareEntry (d : Device) (b : Bay) (fmt k sOut sPred mag : Nat) : Bool × Option (Nat × Int) :=
  match binary64.num sOut, binary64.num sPred, binary64.num mag with
  | .fin m1 e1, .fin m2 e2, .fin m3 e3 =>
    if m3 < 0 then (false, some (0, 0))
    else
      let tau := tauOf (d.fld (R.WIT_CTL b.val) F.WIT_CTL.TOL_SCALE) (d.tol b fmt) k (m3.toNat, e3)
      (withinTau (m1, e1) (m2, e2) tau, tau)
  | _, _, _ => (false, some (0, 0))

/-! ### Selection (R201) -/

/-- A tile of a step is selected for sampling. -/
def selected (seed : BitVec 64) (epoch : Nat) (b : Bay) (step tile shift : Nat) : Bool :=
  if shift = 0 then false
  else
    let m := [0x41#8, 0x4D#8, 0x52#8, 0x53#8] ++ natBytes 8 seed.toNat ++ natBytes 2 epoch ++ natBytes 1 b.val ++
      natBytes 6 step ++ natBytes 4 tile
    bytesNat ((sha256 m).take 8) % 2 ^ shift == 0

/-- The tile of an open or unsealed step is selected. -/
def StepCtx.selects (s : StepCtx) (b : Bay) (tile : Nat) : Bool := selected s.seed s.epoch b s.step tile s.shift

/-! ### Steps and tiles -/

/-- A step that is not sealed. -/
def Device.stepCtx? (d : Device) (b : Bay) (step : Nat) : Option StepCtx := (d.wit b).steps.find? (fun s => s.step == step)

/-- A step replaced. -/
def Device.setStep (d : Device) (b : Bay) (s : StepCtx) : Device :=
  d.setWit b { d.wit b with steps := (d.wit b).steps.map (fun x => if x.step == s.step then s else x) }

/-- The suspect tiles that no verdict has cleared. -/
def StepCtx.openSuspects (s : StepCtx) : List SuspectCtx := s.suspects.filter (fun t => !s.cleared.contains t.tile)

/-- A REPLAY is outstanding for the tile. -/
def SuspectCtx.out (t : SuspectCtx) : Bool :=
  match t.replay with
  | none => false
  | some r => !r.complete && !t.done

/-- REPLAY records outstanding on a bay (R215). -/
def WitCtx.replaysOut (w : WitCtx) : Nat := (w.steps.map (fun s => (s.suspects.filter SuspectCtx.out).length)).sum

/-- Part of the SAMPLE of a tile. -/
def StepCtx.sample? (s : StepCtx) (tile : Nat) (replay : Bool) : Option SampleCtx :=
  s.samples.find? (fun x => x.tile == tile && x.replay == replay)

/-- The step is clear (R206). -/
def StepCtx.clear (s : StepCtx) (b : Bay) : Bool :=
  s.closed && !s.bad && !s.faulted && s.openSuspects.isEmpty &&
    s.csums.all (fun c => s.cleared.contains c.tile ||
      (!c.failed && (!s.selects b c.tile ||
        match s.sample? c.tile false with
        | none => false
        | some x => x.passed)))

/-- What WIT_STAT shows of the suspects, the REPLAYs and a change that waits (R193, R227). -/
def Device.showWit (d : Device) (b : Bay) : Device :=
  let w := d.wit b
  let a := R.WIT_STAT b.val
  let d := d.setFld a F.WIT_STAT.SUSPECT_TILES (min 255 (w.steps.map (fun s => s.openSuspects.length)).sum)
  d.setFld a F.WIT_STAT.REPLAY_OUT w.replaysOut

/-! ### Job faults (R213, R220, R228) -/

/-- The codes of verdicts whose action is JOB_FAULT (R217, R218, R267, R562). -/
def jobFaultCode (c : Nat) : Bool := c == 1 || c == 5 || c == 6 || c == 7 || c == 8 || c == 9 || c == 10

/-- A job fault comes into force for the bay's job: GATE bays are held; a ledger append and an event name the step. -/
def Device.jobFault (d : Device) (b : Bay) (code step tile slice : Nat) (suspects : Nat) (observed : Bool) : Device :=
  let ep := d.epoch b
  let d := d.count (R.WIT_JOB_FAULT_CNT b.val) F.WIT_JOB_FAULT_CNT.COUNT 1
  let job := d.jobOf b
  let d := job.foldl (fun d c => d.on (R.WIT_STAT c.val) F.WIT_STAT.FAULTED) d
  let d := job.foldl (fun d c => if d.witMode c = 2 then d.hold c 2 true else d) d
  let d := d.ledgerAppend b .jobFault ep step code 0 suspects
  d.witEvent b (if observed then 2 else 1) code slice tile step ep

/-- WIT_VERDICT0 to 3 (R219, R227). -/
def Device.showVerdict (d : Device) (b : Bay) (code orig run cluster : Nat) (same : Bool) (tile step : Nat) : Device :=
  let a := R.WIT_VERDICT0 b.val
  let d := d.setFld a F.WIT_VERDICT0.VERDICT code
  let d := d.setFld a F.WIT_VERDICT0.ORIG_SLICE orig
  let d := d.setFld a F.WIT_VERDICT0.RUN_SLICE run
  let d := d.setFld a F.WIT_VERDICT0.CLUSTER cluster
  let d := d.setFld a F.WIT_VERDICT0.SAME_SLICE (natOf same)
  let d := d.setReg (R.WIT_VERDICT1 b.val) (BitVec.ofNat 32 tile)
  let d := d.setReg (R.WIT_VERDICT2 b.val) (BitVec.ofNat 32 step)
  let d := d.setFld (R.WIT_VERDICT3 b.val) F.WIT_VERDICT3.STEP_HI (step / 2 ^ 32)
  d.setFld (R.WIT_VERDICT3 b.val) F.WIT_VERDICT3.EPOCH (d.epoch b)

/-- A shadow reports its first JOB_FAULT verdict of a step to the lead, an unjoined one none (R540, R561). -/
def Device.tellFault (d : Device) (b : Bay) (code slice step tile : Nat) : Device :=
  if d.role = 2 ∧ d.flag R.TWIN_STATUS F.TWIN_STATUS.JOINED = true then
    d.twinSend (.verdict b.val 3 code slice (d.epoch b) step tile) else d

/-- A verdict on a suspect tile or on a step, with all that follows from it (R217–R220, R263). -/
def Device.verdict (d : Device) (b : Bay) (code step tile orig run cluster : Nat) (same : Bool) : Device :=
  let d := d.showVerdict b code orig run cluster same tile step
  match d.stepCtx? b step with
  | none => d
  | some s =>
    let observed := s.mode == 1
    let ep := d.epoch b
    let flags := natOf same + 2 * natOf observed
    let blame := if code = 4 then run else orig
    let d := if !d.leads then d
      else if confirmedCode code then
        if (d.wit b).faultSeen.contains (step, blame) && !d.fs.queue.any (fun e => match e with
            | .fault b' (some s') _ _ _ ep' st' _ _ => b' == b && s' == blame && ep' == ep && st' == step
            | _ => false) then d
        else
          let d := d.setWit b { d.wit b with faultSeen := (d.wit b).faultSeen ++ [(step, blame)] }
          d.fsEnqueue (.fault b (some blame) ((d.unitOf b blame).getD 0) code flags ep step tile 1)
      else if code = 2 ∨ code = 5 ∨ code = 7 ∨ code = 10 then d.fsEnqueue (.fault b none 0 code flags ep step tile 1)
      else d
    let s := { s with
      cleared := if jobFaultCode code then s.cleared else s.cleared ++ [tile]
      faulted := s.faulted || jobFaultCode code
      suspects := s.suspects.map (fun t => if t.tile == tile then { t with done := true } else t) }
    let d := d.setStep b s
    let d := match code with
      | 2 => (d.count (R.WIT_PRED_FAULT_CNT b.val) F.WIT_PRED_FAULT_CNT.COUNT 1).witEvent b 3 code 0xFF tile step ep
      | 3 => d.witEvent b 4 code 0xFF tile step ep
      | 4 => d.witEvent b 4 code run tile step ep
      | _ => if jobFaultCode code then
          (d.jobFault b code step tile (if code = 1 ∨ code = 6 then orig else 0xFF) s.openSuspects.length observed).tellFault
            b code (if code = 1 ∨ code = 6 then orig else 0xFF) step tile
        else d
    d.showWit b

/-! ### Suspect tiles (R214, R218) -/

/-- A tile fails its CSUM entry, or on a cluster as a sample; it becomes suspect once, and its step with it. More than 64
suspect tiles in the step draw MASS_FAIL. -/
def Device.suspect (d : Device) (b : Bay) (step tile slice : Nat) (cluster : Option Nat) : Device :=
  match d.stepCtx? b step with
  | none => d
  | some s =>
    match s.suspects.find? (fun t => t.tile == tile) with
    | some _ =>
      let upd : SuspectCtx → SuspectCtx := fun t =>
        if t.tile != tile then t
        else match cluster with
          | none => { t with csum := true }
          | some c => { t with sample := some (t.sample.getD c) }
      d.setStep b { s with suspects := s.suspects.map upd }
    | none =>
      let kind := if cluster.isNone then 2 else 3
      let t : SuspectCtx :=
        { tile := tile, slice := slice, kind := kind, csum := cluster.isNone, sample := cluster, replay := none, done := false }
      let d := if s.suspects.isEmpty then d.count (R.WIT_SUSPECT_CNT b.val) F.WIT_SUSPECT_CNT.COUNT 1 else d
      let s := { s with suspects := s.suspects ++ [t] }
      let d := (d.setStep b s).pushItem b ⟨kind, slice, cluster.getD 0xFF, tile, step, s.epoch, []⟩
      let d := d.showWit b
      if 64 < s.openSuspects.length && !s.massFail then
        (d.setStep b { s with massFail := true }).verdict b 7 step ((s.openSuspects.map (·.tile)).headD tile) 0xFF 0xFF 0x7F false
      else d

/-! ### Voiding (R224, R252) -/

/-- Every unsealed step of the bay becomes void: a VOID item each, their REPLAYs forgotten, their samples freed, and
their open TAGs closed with a new generation. -/
def Device.voidSteps (d : Device) (b : Bay) : Device :=
  let w := d.wit b
  match w.steps with
  | [] => d
  | s0 :: _ =>
    let ep := d.epoch b
    let n := w.steps.length
    let w := { w with
      items := w.items ++ w.steps.map (fun s => (⟨6, 0xFF, 0xFF, 0, s.step, s.epoch, []⟩ : WorkItem))
      steps := []
      faultSeen := []
      pairEarly := []
      tags := w.tags.map (fun t => if t.isOpen then { t with isOpen := false, await := false, gen := (t.gen + 1) % 65536, cluster := none } else t)
      pend := [] }
    let d := d.setWit b w
    let d := d.count (R.WIT_VOID_CNT b.val) F.WIT_VOID_CNT.COUNT n
    let d := d.ledgerAppend b .void ep s0.step 0 0 n
    ((d.witEvent b 7 0 0xFF 0 s0.step ep).showWit b).grant b

end Sys2Proof.Machine
end

