-- ==== Sys2Proof/Machine/Records.lean ====
section
/-! DEFINITION. The records an accelerator sends (R157–R177, R617): the order of the checks, sessions, UNIT_MAP, steps,
CSUM, SAMPLE, STEP_CLOSE, HEALTH, and the maintenance channel (R180–R186). RESULT is with the stencils. -/

namespace Sys2Proof.Machine

/-! ### Fields of a received record (R157) -/

/-- n bytes of a record from an offset, as a number. -/
def RxRec.u (r : RxRec) (off n : Nat) : Nat := bytesNat ((r.bytes.drop off).take n)

def RxRec.gen (r : RxRec) : Nat := r.u 0 1 % 16
def RxRec.bay (r : RxRec) : Nat := r.u 0 1 / 16
def RxRec.type (r : RxRec) : Nat := r.u 1 1
def RxRec.epoch (r : RxRec) : Nat := r.u 2 2
def RxRec.step (r : RxRec) : Nat := r.u 4 6
def RxRec.len (r : RxRec) : Nat := r.bytes.length

/-- A type with epoch scope among those an accelerator sends. -/
def epochScoped (ty : Nat) : Bool := ty == 0x10 || ty == 0x11 || ty == 0x12 || ty == 0x13

/-! ### What becomes of a record (R160, R170, R172, R617) -/

/-- The outcome of the checks that no body enters. -/
inductive RecFate where
  | take
  /-- of a later generation: counted and skipped -/
  | skip
  /-- of an older epoch: counted and dropped -/
  | stale
  | nak (c : NakCause) (detail : Nat)
  deriving DecidableEq, Repr

/-- Checks 1 to 4 of R617: LENGTH, the generation, HEADER and UNKNOWN_TYPE. -/
def RxRec.frame (r : RxRec) (b : Bay) : RecFate :=
  if r.badLength then .nak .length (r.offset % 2 ^ 32)
  else if 1 < r.gen then .skip
  else if r.gen = 0 ∨ r.u 12 4 ≠ 0 ∨ r.bay ≠ (if r.type = 0x01 then 15 else b.val) ∨
      (epochScoped r.type = true ∧ r.epoch = 0) then .nak .header 0
  else if (creditClass r.type).isNone then .nak .unknownType 0
  else .take

/-- The session check of R170; HELLO and CAPS refused by their fields draw HELLO_STATE under their own rules. -/
def Device.sessionAllows (d : Device) (b : Bay) (ty : Nat) : Bool :=
  match d.session b with
  | 1 => ty == 0x01
  | 2 => ty == 0x02 || (ty == 0x03 && (d.link b).capsSeen) || ty == 0x20 || ty == 0x30
  | 3 => ty != 0x02 && !epochScoped ty
  | 4 => ty != 0x02
  | _ => false

/-- e lies ahead of the epoch c (R172). -/
def epochNewer (e c : Nat) : Bool := let x := (e + 65536 - c) % 65536; decide (1 ≤ x ∧ x ≤ 32767)

/-- Checks 1 to 7 of R617. -/
def Device.recFate (d : Device) (b : Bay) (r : RxRec) : RecFate :=
  match r.frame b with
  | .take =>
    if r.beyond then .nak .noCredit 0
    else if !d.sessionAllows b r.type then .nak .noSession 0
    else if epochScoped r.type && r.epoch != d.epoch b then
      (if epochNewer r.epoch (d.epoch b) then .nak .epochAhead 0 else .stale)
    else .take
  | f => f

/-- Credit of a record no longer held: consumed CTRL units wait for R189, the others return at once (R153). -/
def Device.consume (d : Device) (b : Bay) (r : RxRec) : Device :=
  let n := unitsOf r.len
  let k := d.link b
  if r.beyond || r.badLength then d
  else match creditClass r.type with
    | some 0 => (d.setLink b { k with owed := (k.owed.1 + n, k.owed.2) }).grant b
    | some c => d.setLink b { k with returned := tripleAdd k.returned c n }
    | none => d

/-- A record drops with the violation it draws. -/
def Device.refuse (d : Device) (b : Bay) (r : RxRec) (c : NakCause) (detail : Nat) : Device :=
  (d.consume b r).violation b c r.type r.epoch r.step detail

/-- A record that no command handles further: skipped, stale or refused. -/
def Device.dispose (d : Device) (b : Bay) (r : RxRec) : RecFate → Device
  | .take => d
  | .skip => (d.consume b r).count (R.WITL_FUTURE_CNT b.val) F.WITL_FUTURE_CNT.COUNT 1
  | .stale => (d.consume b r).count (R.WITL_STALE_CNT b.val) F.WITL_STALE_CNT.COUNT 1
  | .nak c x => d.refuse b r c x

/-- The next record to be handled: a MAINT_REPLY waits aside while the reply buffer is full (R181). -/
def Device.front (d : Device) (b : Bay) : Option RxRec :=
  (d.link b).inbox.find? (fun r =>
    !(d.flag (R.WITL_MAINT_RXSTAT b.val) F.WITL_MAINT_RXSTAT.FULL && r.type == 0x30 && r.frame b == .take))

/-- A record leaves the inbox. -/
def Device.pull (d : Device) (b : Bay) (r : RxRec) : Device :=
  d.setLink b { d.link b with inbox := (d.link b).inbox.erase r }

/-- Records that fail checks 1 to 4 are of no type with a command of its own, and are disposed of as they come up. -/
def Device.drain : Nat → Bay → Device → Device
  | 0, _, d => d
  | n + 1, b, d =>
    match d.front b with
    | none => d
    | some r =>
      match r.frame b with
      | .take => d
      | f => Device.drain n b ((d.pull b r).dispose b r f)

/-- Every such record at the front. -/
def Device.drainAll (d : Device) (b : Bay) : Device := d.drain (d.link b).inbox.length b

/-- The command for records of a type: the next record, when it is of that type, passes checks 5 to 7 and is handled, or
is disposed of. -/
def Device.onRecord (d : Device) (b : Bay) (ty : Nat) (f : RxRec → Device → Device) : Device :=
  match d.front b with
  | none => d
  | some r =>
    if r.type ≠ ty ∨ r.frame b ≠ .take then d
    else
      let d := d.pull b r
      (match d.recFate b r with
        | .take => f r d
        | x => d.dispose b r x).drainAll b

/-- FLIT_RECEIVE (R144, R146, R149). -/
def devFlitReceive (x : Lane) (bs : List (BitVec 8)) (fec : FlitFec) (d : Device) : Device :=
  let d := d.receiveFlit x bs fec
  match x with
  | .wit b => d.drainAll b
  | _ => d

def execFlitReceive (x : Lane) (bs : List (BitVec 8)) (fec : FlitFec) (s : State) : Host.Outcome State Fault Refusal :=
  .next (s.onDev (devFlitReceive x bs fec))

/-! ### HELLO and CAPS (R164, R170, R171, R498) -/

/-- A HELLO that passes in TRAINED. -/
def RxRec.helloOk (r : RxRec) : Bool :=
  r.u 16 4 == 0x4E524D41 && r.u 21 1 == 2 && decide (1 ≤ r.u 20 1) && decide (64 ≤ r.u 24 2 ∧ r.u 24 2 ≤ 4096)

/-- The peer registers take a HELLO's fields. -/
def Device.setPeer (d : Device) (b : Bay) (r : RxRec) : Device :=
  let d := (List.range 2).foldl (fun d k => d.setReg (R.WITL_PEER_MODEL b.val k) (BitVec.ofNat 32 (r.u (32 + 4 * k) 4))) d
  let d := (List.range 4).foldl (fun d k => d.setReg (R.WITL_PEER_SERIAL b.val k) (BitVec.ofNat 32 (r.u (40 + 4 * k) 4))) d
  let d := d.setFld (R.WITL_PEER_INFO b.val) F.WITL_PEER_INFO.GEN_MAX (r.u 20 1)
  d.setFld (R.WITL_PEER_INFO b.val) F.WITL_PEER_INFO.DEV_GRANT (r.u 24 2)

/-- MODEL of the bay's accelerator. -/
def Device.peerModel (d : Device) (b : Bay) : Nat :=
  (d.reg (R.WITL_PEER_MODEL b.val 0)).toNat + 2 ^ 32 * (d.reg (R.WITL_PEER_MODEL b.val 1)).toNat

/-- MODEL_MISMATCH where the bay names a golden slot of another MODEL (R498). -/
def Device.modelCheck (d : Device) (b : Bay) : Device :=
  let s := d.fld (R.GOLD_BAY_CFG b.val) F.GOLD_BAY_CFG.SLOT
  if s = 7 then d
  else if d.peerModel b = (d.reg (R.GOLD_MODEL_LO s)).toNat + 2 ^ 32 * (d.reg (R.GOLD_MODEL_HI s)).toNat then d
  else (d.on (R.GOLD_BAY_STAT b.val) F.GOLD_BAY_STAT.MODEL_MISMATCH).setMaskBit R.GOLD_EVENT F.GOLD_EVENT.MISMATCH b.val true

/-- A HELLO that passes: the session is in HELLO, and CAPS goes out. -/
def Device.helloTake (d : Device) (b : Bay) (r : RxRec) : Device :=
  let d := (d.setSession b 2).setFld (R.WITL_STATUS b.val) F.WITL_STATUS.OP_GEN 1
  let d := d.setPeer b r
  let d := d.setLink b { d.link b with devGrant := r.u 24 2, capsSeen := false, mapSeq := none, fenceWait := [] }
  let d := d.setStn b { d.stn b with refused := [], noPack := false }
  (d.sendRec b (.caps 0x3FFF)).modelCheck b

/-- The device's own HELLO (R164). -/
def Device.sendHello (d : Device) (b : Bay) : Device :=
  d.sendRec b (.hello (d.role != 0) (d.flag R.TWIN_STATUS F.TWIN_STATUS.PAIR_ID))

/-- HELLO. -/
def recHello (b : Bay) (r : RxRec) (d : Device) : Device :=
  if !r.helloOk then (d.refuse b r .helloState 0).raise 0x0302 b.val []
  else
    let d := d.consume b r
    if d.session b = 1 then d.helloTake b r
    else (((d.runAbort b).raise 0x0303 b.val []).sendHello b).helloTake b r

def devHello (b : Bay) (d : Device) : Device := d.onRecord b 0x01 (recHello b)

def execHello (b : Bay) (s : State) : Host.Outcome State Fault Refusal := .next (s.onDev (devHello b))

/-- CAPS. -/
def recCaps (b : Bay) (r : RxRec) (d : Device) : Device :=
  if r.u 16 1 ≠ 1 then d.refuse b r .helloState 0
  else if r.u 17 1 < 1 ∨ 4 < r.u 17 1 then d.refuse b r .badField 0
  else
    let d := d.consume b r
    let d := d.setFld (R.WITL_PEER_INFO b.val) F.WITL_PEER_INFO.MAX_L (r.u 17 1)
    d.setLink b { d.link b with capsSeen := true, maxL := r.u 17 1, origOut := bit (r.u 18 1) 0, fmtMask := r.u 20 4 }

def devCaps (b : Bay) (d : Device) : Device := d.onRecord b 0x02 (recCaps b)

def execCaps (b : Bay) (s : State) : Host.Outcome State Fault Refusal := .next (s.onDev (devCaps b))

/-! ### UNIT_MAP (R164, R167, R270) -/

/-- The entries of a UNIT_MAP. -/
def RxRec.mapEntries (r : RxRec) : List SliceEntry :=
  (List.range (r.u 16 1)).map (fun i => ⟨r.u (33 + 16 * i) 1, r.u (40 + 16 * i) 8⟩)

/-- A UNIT_MAP's fields lie in their ranges, and within a session SLICES, the units and MAP_SEQ go on as R167 asks. -/
def LinkCtx.mapOk (k : LinkCtx) (r : RxRec) : Bool :=
  let n := r.u 16 1
  decide (1 ≤ n ∧ n ≤ 64 ∧ r.len = 32 + 16 * n ∧ 1 ≤ r.u 17 1 ∧ r.u 17 1 ≤ n) &&
  (List.range n).all (fun i => r.u (32 + 16 * i) 1 == i && decide (r.u (33 + 16 * i) 1 ≤ 2)) &&
  (match k.mapSeq with
    | none => r.u 20 4 == 0
    | some q => r.u 20 4 == (q + 1) % 2 ^ 32 && r.mapEntries.map (·.unitId) == k.slices.map (·.unitId))

/-- SERIAL bytes 0 to 7 of the accelerator. -/
def Device.peerSerial (d : Device) (b : Bay) : Nat :=
  (d.reg (R.WITL_PEER_SERIAL b.val 0)).toNat + 2 ^ 32 * (d.reg (R.WITL_PEER_SERIAL b.val 1)).toNat

/-- A FENCE or UNFENCE is sent, and a UNIT_MAP is awaited (R167). -/
def Device.sendFence (d : Device) (b : Bay) (slice reason : Nat) (fence : Bool) : Device :=
  if !d.leads || !d.ready b then d
  else
    let d := d.leadRec b (if fence then .fence slice reason else .unfence slice reason)
    d.setLink b { d.link b with fenceWait := (d.link b).fenceWait.filter (fun p => p.1 != slice) ++ [(slice, fence)] }

/-- At READY the map and Flowstone are reconciled (R270): a unit new to the tray or in a new place, or shown FENCED
while held NORMAL or OBSERVED, waits for its record; a slice held FENCED or RETIRED and shown ACTIVE is sent FENCE. -/
def Device.reconcile (d : Device) (b : Bay) : Device :=
  if !d.leads then d
  else
    ((d.link b).slices.zipIdx).foldl (fun d p =>
      let u := d.unit p.1.unitId
      let isNew := (d.unit? p.1.unitId).isNone
      let fenced := p.1.state == 1 && u.state < 2
      let d := if isNew || u.place != (b.val, p.2) || fenced then
          d.fsEnqueue (.seen b p.2 p.1.unitId (d.peerSerial b) fenced) else d
      if 2 ≤ u.state && p.1.state == 0 then d.sendFence b p.2 u.reason true else d) d

/-- UNIT_MAP. -/
def recUnitMap (b : Bay) (r : RxRec) (d : Device) : Device :=
  let k := d.link b
  if !k.mapOk r then d.refuse b r .badField 0
  else
    let d := d.consume b r
    let k := d.link b
    let es := r.mapEntries
    let left := k.fenceWait.filter (fun p => (((es[p.1]?).map (·.state)).getD 1 == 1) != p.2)
    let d := d.setLink b { k with slices := es, slicesMin := r.u 17 1, mapSeq := some (r.u 20 4), fenceWait := left }
    let d := if d.session b = 2 then
        let d := (d.setSession b 3).reconcile b
        match d.thrSources b with
        | [] => d
        | now => d.sendRec b (throttleOf [] now)
      else d
    d.refreshUnits b

def devUnitMap (b : Bay) (d : Device) : Device := d.onRecord b 0x03 (recUnitMap b)

def execUnitMap (b : Bay) (s : State) : Host.Outcome State Fault Refusal := .next (s.onDev (devUnitMap b))

/-- FENCE_TIMEOUT (R167, R175). -/
def devFenceTimeout (b : Bay) (slice : BitVec 6) (d : Device) : Device :=
  let k := d.link b
  if k.fenceWait.any (fun p => p.1 == slice.toNat) then
    (d.setLink b { k with fenceWait := k.fenceWait.filter (fun p => p.1 != slice.toNat) }).violation b .fenceTimeout 0 0 0
      slice.toNat
  else d

def execFenceTimeout (b : Bay) (slice : BitVec 6) (s : State) : Host.Outcome State Fault Refusal :=
  .next (s.onDev (devFenceTimeout b slice))

/-! ### STEP_OPEN (R161, R193, R199, R200) -/

/-- The newest step opened. -/
def Device.openedStep (d : Device) (b : Bay) : Nat := d.step48 (R.WIT_OPENED_LO b.val) (R.WIT_OPENED_HI b.val)

/-- A 48-bit step put in two registers. -/
def Device.setStep48 (d : Device) (lo hi : Nat) (f : Fld) (s : Nat) : Device :=
  (d.setReg lo (BitVec.ofNat 32 s)).setFld hi f (s / 2 ^ 32)

/-- The step that is open. -/
def WitCtx.openStep (w : WitCtx) : Option StepCtx := w.steps.find? (fun s => !s.closed)

/-- The step the accelerator may open next. -/
def Device.nextOpen (d : Device) (b : Bay) : Nat :=
  if (d.wit b).opened then (d.openedStep b + 1) % 2 ^ 48 else (d.wit b).firstStep

/-- SEAL(x) has been sent in the current epoch. -/
def Device.hasSealed (d : Device) (b : Bay) (x : Nat) : Bool :=
  match d.sealed? b with
  | none => false
  | some s => decide (x ≤ s)

/-- The seed in force for a step opened under a mode and a lag. -/
def Device.seedFor (d : Device) (b : Bay) (mode lag t : Nat) : BitVec 64 :=
  let w := d.wit b
  if mode = 2 ∧ w.firstStep + lag + 1 ≤ t then
    ((w.seals.find? (fun p => p.1 == t - lag - 1)).map (·.2)).getD w.epochSeed
  else w.epochSeed

/-- STEP_OPEN. -/
def recStepOpen (b : Bay) (r : RxRec) (d : Device) : Device :=
  let w := d.wit b
  let k := d.link b
  let t := r.step
  let (mode, lag, shift) := w.sent
  let act := r.u 16 8
  let early := mode == 2 && decide (w.firstStep + lag + 1 ≤ t) && !d.hasSealed b (t - lag - 1)
  if w.openStep.isSome || t != d.nextOpen b || early then d.refuse b r .stepOrder 0
  else if 2 ^ k.slices.length ≤ act then d.refuse b r .badField 0
  else match (k.slices.zipIdx).find? (fun p => p.1.state == 1 && bit act p.2) with
    | some p => d.refuse b r .sliceNotActive p.2
    | none =>
      let d := d.consume b r
      let w := d.wit b
      let pair := (w.pairEarly.find? (fun p => p.1 == t)).map (·.2)
      let c : StepCtx :=
        { step := t, epoch := r.epoch, active := act, mode := mode, lag := lag, shift := shift,
          seed := d.seedFor b mode lag t, closed := false, bad := false, csums := [], samples := [], suspects := [],
          cleared := [], massFail := false, faulted := false, pair := pair.map (·.1), pairTile := (pair.map (·.2)).getD 0 }
      let d := d.setWit b { w with
        pairEarly := w.pairEarly.filter (fun p => p.1 != t)
        steps := w.steps ++ [c]
        opened := true
        openedInHold := w.openedInHold || d.holds b != 0 }
      let d := d.setStep48 (R.WIT_OPENED_LO b.val) (R.WIT_OPENED_HI b.val) F.WIT_OPENED_HI.STEP t
      let d := d.setFld (R.WIT_STAT b.val) F.WIT_STAT.MODE_NOW mode
      let d := d.setFld (R.WIT_STAT b.val) F.WIT_STAT.LAG_NOW lag
      d.setFld (R.WIT_STAT b.val) F.WIT_STAT.SHIFT_NOW shift

def devStepOpen (b : Bay) (d : Device) : Device := d.onRecord b 0x10 (recStepOpen b)

def execStepOpen (b : Bay) (s : State) : Host.Outcome State Fault Refusal := .next (s.onDev (devStepOpen b))

/-! ### Completeness of samples and answers (R165, R202, R204, R216) -/

/-- PART_LEN rounded up to a multiple of 4. -/
def PartCtx.padded (p : PartCtx) : Nat := (p.len + 3) / 4 * 4

/-- Every byte of the part has arrived once. -/
def PartCtx.whole (p : PartCtx) : Bool := !p.broken && (p.chunks.map (·.2)).sum == p.padded

/-- A part of the sample, from a slice where the part is an output of a replay answer. -/
def SampleCtx.part? (s : SampleCtx) (part : Nat) (slice : Option Nat) : Option PartCtx :=
  s.parts.find? (fun p => p.part == part && (slice.isNone || slice == some p.slice))

/-- A whole part is there. -/
def SampleCtx.has (s : SampleCtx) (part : Nat) (slice : Option Nat) : Bool :=
  match s.part? part slice with
  | none => false
  | some p => p.whole

/-- Operands A and B are whole, with their scales where their formats are MX. -/
def SampleCtx.inputs (s : SampleCtx) : Bool :=
  s.has 0 none && s.has 1 none && [0, 1].all (fun i =>
    match s.part? i none with
    | none => false
    | some p => !fmtMx p.fmt || s.has (3 + i) none)

/-- The sample has arrived whole, with LAST. -/
def SampleCtx.complete (s : SampleCtx) : Bool := s.inputs && s.has 2 none && s.last

/-- A tile that has its CSUM entry, is selected and has landed whole becomes a SAMPLE_READY item, once. -/
def Device.sampleReady (d : Device) (b : Bay) (step tile : Nat) : Device :=
  match d.stepCtx? b step with
  | none => d
  | some s =>
    match s.sample? tile false with
    | none => d
    | some x =>
      if x.ready || !x.complete || !s.csums.any (fun c => c.tile == tile) || !s.selects b tile then d
      else
        let d := d.setStep b { s with
          samples := s.samples.map (fun y => if y.tile == tile && !y.replay then { y with ready := true } else y) }
        d.pushItem b ⟨1, x.slice, 0xFF, tile, step, s.epoch, []⟩

/-- An outstanding REPLAY whose answer is complete becomes an ANSWER_READY item. -/
def Device.answerReady (d : Device) (b : Bay) (step tile : Nat) : Device :=
  match d.stepCtx? b step with
  | none => d
  | some s =>
    match s.suspects.find? (fun t => t.tile == tile && t.out), s.sample? tile true with
    | some t, some x =>
      match t.replay with
      | none => d
      | some rp =>
        let done := rp.csum && x.has 2 (some rp.runSlice) && (!bit rp.flags 0 || x.inputs) &&
          (!(bit rp.flags 1 && (d.link b).origOut) || x.has 2 (some t.slice)) && x.last
        if !done then d
        else
          let upd : SuspectCtx → SuspectCtx := fun y =>
            if y.tile == tile then { y with replay := some { rp with complete := true } } else y
          let d := d.setStep b { s with suspects := s.suspects.map upd }
          (d.pushItem b ⟨4, t.slice, 0xFF, tile, step, s.epoch, []⟩).showWit b
    | _, _ => d

/-! ### CSUM (R162–R164, R192, R195–R198, R214, R216) -/

/-- One entry of a CSUM record. -/
structure CsumIn where
  tile : Nat
  fmt : Nat
  slice : Nat
  replay : Bool
  kM1 : Nat
  sOut : Nat
  sPred : Nat
  mag : Nat
  deriving DecidableEq, Repr

/-- The entries of a CSUM record, in order. -/
def RxRec.csumEntries (r : RxRec) : List CsumIn :=
  (List.range ((r.len - 16) / 32)).map (fun j =>
    { tile := r.u (16 + 32 * j) 4, fmt := r.u (20 + 32 * j) 1, slice := r.u (21 + 32 * j) 1 % 64,
      replay := bit (r.u (21 + 32 * j) 1) 6, kM1 := r.u (22 + 32 * j) 2, sOut := r.u (24 + 32 * j) 8,
      sPred := r.u (32 + 32 * j) 8, mag := r.u (40 + 32 * j) 8 })

/-- One entry of an open step: compared, and its tile suspect where it fails; a repeated tile draws DUP_TILE. -/
def Device.takeCsum (d : Device) (b : Bay) (r : RxRec) (e : CsumIn) : Device :=
  match d.stepCtx? b r.step with
  | none => d
  | some s =>
    if s.csums.any (fun c => c.tile == e.tile) then d.violation b .dupTile r.type r.epoch r.step e.tile
    else
      let (ok, tau) := d.compareEntry b e.fmt (e.kM1 + 1) e.sOut e.sPred e.mag
      let c : CsumEntry :=
        { tile := e.tile, fmt := e.fmt, slice := e.slice, kM1 := e.kM1, sOut := e.sOut, sPred := e.sPred, mag := e.mag,
          tau := tau, failed := !ok }
      let d := d.setStep b { s with csums := s.csums ++ [c] }
      let d := d.count (R.WIT_CSUM_CNT b.val) F.WIT_CSUM_CNT.COUNT 1
      let d := if ok then d
        else (d.count (R.WIT_CSUM_FAIL b.val) F.WIT_CSUM_FAIL.COUNT 1).suspect b r.step e.tile e.slice none
      d.sampleReady b r.step e.tile

/-- The REPLAY outstanding for a tile of a step whose answer may come from a slice. -/
def Device.replayOut? (d : Device) (b : Bay) (step tile : Nat) : Option (SuspectCtx × ReplayCtx) :=
  match d.stepCtx? b step with
  | none => none
  | some s =>
    match s.suspects.find? (fun t => t.tile == tile && t.out) with
    | none => none
    | some t => t.replay.map (fun rp => (t, rp))

/-- One replay-answer entry: compared, but no verdict follows from it. -/
def Device.takeAnswer (d : Device) (b : Bay) (r : RxRec) (e : CsumIn) : Device :=
  match d.stepCtx? b r.step with
  | none => d
  | some s =>
    let upd : SuspectCtx → SuspectCtx := fun t =>
      if t.tile == e.tile then { t with replay := t.replay.map (fun rp => { rp with csum := true }) } else t
    let d := d.setStep b { s with suspects := s.suspects.map upd }
    let d := d.count (R.WIT_CSUM_CNT b.val) F.WIT_CSUM_CNT.COUNT 1
    let d := if (d.compareEntry b e.fmt (e.kM1 + 1) e.sOut e.sPred e.mag).1 then d
      else d.count (R.WIT_REPLAY_CSUM_FAIL b.val) F.WIT_REPLAY_CSUM_FAIL.COUNT 1
    d.answerReady b r.step e.tile

/-- CSUM. -/
def recCsum (b : Bay) (r : RxRec) (d : Device) : Device :=
  let es := r.csumEntries
  let n := (d.link b).slices.length
  let replay := es.any (·.replay)
  let cur := (d.wit b).openStep
  let inStep := match cur with
    | none => false
    | some s => s.step == r.step
  let off := match cur with
    | none => false
    | some s => s.mode == 0
  if !replay && !inStep then d.refuse b r .stepOrder 0
  else if !replay && off then d.consume b r
  else if es.any (fun e => e.replay != replay || !fmtDefined e.fmt || e.fmt == 0x0D || decide (n ≤ e.slice)) then
    d.refuse b r .badField 0
  else if replay then
    match es.find? (fun e => match d.replayOut? b r.step e.tile with
        | none => true
        | some p => p.2.csum || p.2.runSlice != e.slice) with
    | some e => d.refuse b r .unsolicited e.tile
    | none => es.foldl (fun d e => d.takeAnswer b r e) (d.consume b r)
  else
    match es.find? (fun e => !bit ((cur.map (·.active)).getD 0) e.slice) with
    | some e => d.refuse b r .sliceNotActive e.slice
    | none => es.foldl (fun d e => d.takeCsum b r e) (d.consume b r)

def devCsum (b : Bay) (d : Device) : Device := d.onRecord b 0x11 (recCsum b)

def execCsum (b : Bay) (s : State) : Host.Outcome State Fault Refusal := .next (s.onDev (devCsum b))

/-! ### SAMPLE (R165, R202, R203, R318) -/

/-- The lowest place of an extent of n bytes in the bay's sample area that meets no other; none where it has no room. -/
def Device.extentPlace (d : Device) (b : Bay) (n : Nat) : Option Nat :=
  let held := ((d.wit b).parts.filter (fun p => p.addr != 0)).map (fun p => (p.addr, p.extent))
  let base := d.areaBase b
  let fits : Nat → Bool := fun a => decide (a + n ≤ base + d.areaBytes b) && decide (held.length < 4096) && decide (a ≠ 0) &&
    usable a n && !inReserved a && !inReserved (a + n - 1) && held.all (fun h => decide (a + n ≤ h.1 ∨ h.1 + h.2 ≤ a))
  match (([base] ++ held.map (fun h => h.1 + h.2)).filter fits) with
  | [] => none
  | x :: l => some (l.foldl min x)

/-- The fields of a SAMPLE record. -/
structure SampleIn where
  tile : Nat
  slice : Nat
  replay : Bool
  last : Bool
  part : Nat
  fmt : Nat
  m : Nat
  n : Nat
  kM1 : Nat
  offset : Nat
  len : Nat
  data : List (BitVec 8)
  deriving DecidableEq, Repr

/-- The fields of a SAMPLE record read. -/
def RxRec.sampleIn (r : RxRec) : SampleIn where
  tile := r.u 16 4
  slice := r.u 20 1 % 64
  replay := bit (r.u 20 1) 6
  last := bit (r.u 20 1) 7
  part := r.u 21 1
  fmt := r.u 22 1
  m := r.u 24 2
  n := r.u 26 2
  kM1 := r.u 28 2
  offset := r.u 32 4
  len := r.u 36 4
  data := r.bytes.drop 40

/-- The part the chunk belongs to, among those of its sample. -/
def SampleIn.mine (c : SampleIn) (p : PartCtx) : Bool :=
  p.part == c.part && (p.slice == c.slice || !(c.replay && c.part == 2))

/-- Parts 0 and 3 are of operand A, 1 and 4 of B; 2 stands alone. -/
def operandOf (part : Nat) : Nat := if 3 ≤ part then part - 3 else part

/-- A field outside its range, a format that does not suit, or one that differs from the part already received for the
same operand. -/
def SampleIn.bad (c : SampleIn) (slices : Nat) (have? : List PartCtx) : Bool :=
  decide (4 < c.part) || decide (slices ≤ c.slice) || !fmtDefined c.fmt || (c.part != 2 && c.fmt == 0x0D) ||
  decide (c.m < 1 ∨ 256 < c.m ∨ c.n < 1 ∨ 256 < c.n) || (decide (3 ≤ c.part) && !fmtMx c.fmt) ||
  (c.part != 2 && have?.any (fun p => operandOf p.part == operandOf c.part && p.part != c.part && p.part != 2 &&
    p.fmt != c.fmt))

/-- A chunk that repeats a byte, runs past the part, or differs from its earlier chunks. -/
def SampleIn.clash (c : SampleIn) (p : PartCtx) : Bool :=
  p.len != c.len || p.m != c.m || p.n != c.n || p.kM1 != c.kM1 || p.fmt != c.fmt ||
  decide (p.padded < c.offset + c.data.length) ||
  p.chunks.any (fun x => decide (x.1 < c.offset + c.data.length ∧ c.offset < x.1 + x.2))

/-- A part as its first chunk gives it, with its extent. -/
def Device.newPart (d : Device) (b : Bay) (c : SampleIn) : PartCtx :=
  match d.extentPlace b ((c.len + 63) / 64 * 64) with
  | some a =>
    { part := c.part, slice := c.slice, fmt := c.fmt, m := c.m, n := c.n, kM1 := c.kM1, len := c.len, addr := a,
      chunks := [], broken := false }
  | none =>
    { part := c.part, slice := c.slice, fmt := c.fmt, m := c.m, n := c.n, kM1 := c.kM1, len := c.len, addr := 0,
      chunks := [], broken := true }

/-- The sample of a tile, new where none of its chunks has come. -/
def StepCtx.sampleOrNew (s : StepCtx) (c : SampleIn) : SampleCtx :=
  (s.sample? c.tile c.replay).getD
    { tile := c.tile, slice := c.slice, replay := c.replay, parts := [], last := false, ready := false, passed := false }

/-- A sample put back among those of its step. -/
def StepCtx.putSample (s : StepCtx) (x : SampleCtx) : StepCtx :=
  if (s.sample? x.tile x.replay).isSome then
    { s with samples := s.samples.map (fun y => if y.tile == x.tile && y.replay == x.replay then x else y) }
  else { s with samples := s.samples ++ [x] }

/-- A part put back among those of its sample. -/
def SampleCtx.putPart (x : SampleCtx) (c : SampleIn) (p : PartCtx) : SampleCtx :=
  if x.parts.any c.mine then { x with parts := x.parts.map (fun q => if c.mine q then p else q) }
  else { x with parts := x.parts ++ [p] }

/-- A chunk of a SAMPLE in its place: it lands, or is refused and its part can no longer become whole. -/
def Device.takeChunk (d : Device) (b : Bay) (r : RxRec) (s : StepCtx) (c : SampleIn) (parity : Bool) : Device :=
  let x := s.sampleOrNew c
  let p := (x.parts.find? c.mine).getD (d.newPart b c)
  if c.clash p then
    (d.setStep b (s.putSample (x.putPart c { p with broken := true }))).refuse b r .badField 0
  else
    let d := if p.addr = 0 then d else d.land (p.addr + c.offset) c.data parity
    let p := { p with chunks := p.chunks ++ [(c.offset, c.data.length)] }
    let x := { x.putPart c p with last := x.last || c.last }
    let d := d.setStep b (s.putSample x)
    let k := d.link b
    let d := (d.setLink b { k with owed := (k.owed.1, k.owed.2 + unitsOf r.len) }).grant b
    if c.replay then d.answerReady b r.step c.tile else d.sampleReady b r.step c.tile

/-- The slices from which an answer's part may come. -/
def answersFrom (t : SuspectCtx) (rp : ReplayCtx) (c : SampleIn) : Bool :=
  c.slice == rp.runSlice || (c.part == 2 && bit rp.flags 1 && c.slice == t.slice)

/-- SAMPLE. -/
def recSample (b : Bay) (parity : Bool) (r : RxRec) (d : Device) : Device :=
  let c := r.sampleIn
  let n := (d.link b).slices.length
  if c.replay then
    match d.stepCtx? b r.step, d.replayOut? b r.step c.tile with
    | some s, some (t, rp) =>
      if c.bad n (((s.sample? c.tile true).map (·.parts)).getD []) then d.refuse b r .badField 0
      else if answersFrom t rp c then d.takeChunk b r s c parity
      else d.refuse b r .unsolicited c.tile
    | _, _ => if c.bad n [] then d.refuse b r .badField 0 else d.refuse b r .unsolicited c.tile
  else
    match (d.wit b).openStep with
    | none => d.refuse b r .stepOrder 0
    | some s =>
      if s.step ≠ r.step then d.refuse b r .stepOrder 0
      else if s.mode = 0 then d.consume b r
      else if c.bad n (((s.sample? c.tile false).map (·.parts)).getD []) then d.refuse b r .badField 0
      else if !bit s.active c.slice then d.refuse b r .sliceNotActive c.slice
      else d.takeChunk b r s c parity

def devSample (b : Bay) (parity : Bool) (d : Device) : Device := d.onRecord b 0x12 (recSample b parity)

def execSample (b : Bay) (parity : Bool) (s : State) : Host.Outcome State Fault Refusal :=
  .next (s.onDev (devSample b parity))

/-! ### STEP_CLOSE (R175, R202, R209) -/

/-- The first tile that fails the sample check: sent and not selected, or selected and not whole. -/
def StepCtx.sampleFault (s : StepCtx) (b : Bay) : Option Nat :=
  let sel : Nat → Bool := fun t => s.csums.any (fun c => c.tile == t) && s.selects b t
  match (s.samples.filter (fun x => !x.replay)).find? (fun x => !sel x.tile) with
  | some x => some x.tile
  | none =>
    (s.csums.find? (fun c => sel c.tile && !(match s.sample? c.tile false with
      | none => false
      | some x => x.complete))).map (·.tile)

/-- STEP_CLOSE. -/
def recStepClose (b : Bay) (r : RxRec) (d : Device) : Device :=
  match (d.wit b).openStep with
  | none => d.refuse b r .stepOrder 0
  | some s =>
    if s.step ≠ r.step then d.refuse b r .stepOrder 0
    else if s.mode = 0 then (d.consume b r).setStep b { s with closed := true }
    else if r.u 16 4 ≠ s.csums.length ∨ r.u 20 2 ≠ (s.samples.filter (fun x => !x.replay)).length then
      (d.setStep b { s with closed := true, bad := true }).refuse b r .countMismatch 0
    else match s.sampleFault b with
      | some t => (d.setStep b { s with closed := true, bad := true }).refuse b r .sampleSet t
      | none =>
        let d := (d.consume b r).setStep b { s with closed := true }
        if s.mode = 2 ∧ (d.wit b).firstStep + s.lag ≤ s.step ∧ d.hasSealed b (s.step - s.lag) = false then
          (d.count (R.WIT_LAG_HOLD_CNT b.val) F.WIT_LAG_HOLD_CNT.COUNT 1).hold b 1 true
        else d

def devStepClose (b : Bay) (d : Device) : Device := d.onRecord b 0x13 (recStepClose b)

def execStepClose (b : Bay) (s : State) : Host.Outcome State Fault Refusal := .next (s.onDev (devStepClose b))

/-! ### HEALTH (R164, R166, R373) -/

/-- HEALTH. -/
def recHealth (b : Bay) (r : RxRec) (d : Device) : Device :=
  let n := r.u 16 1
  if n < 1 ∨ 16 < n ∨ r.len ≠ 32 + (2 * n + 3) / 4 * 4 then d.refuse b r .badField 0
  else (d.consume b r).healthSlot b ((List.range n).map (fun i => r.u (32 + 2 * i) 2))

def devHealth (b : Bay) (d : Device) : Device := d.onRecord b 0x20 (recHealth b)

def execHealth (b : Bay) (s : State) : Host.Outcome State Fault Refusal := .next (s.onDev (devHealth b))

/-! ### The maintenance channel (R180–R186) -/

/-- Word i of the transmit and receive buffers. -/
def maintTxWord (b : Bay) (i : Nat) : Nat := 0x20906000 + 0x10000 * b.val + 4 * i
def maintRxWord (b : Bay) (i : Nat) : Nat := 0x20907000 + 0x10000 * b.val + 4 * i

/-- MAINT_REPLY. -/
def recMaintReply (b : Bay) (r : RxRec) (d : Device) : Device :=
  let tag := r.u 16 2
  let k := d.link b
  if 2 < r.u 18 1 then d.refuse b r .badField 0
  else if tag ≠ 0 ∧ k.tags.contains tag = false then d.refuse b r .unsolicited tag
  else
    let d := d.setLink b { k with tags := k.tags.erase tag }
    let d := (List.range ((r.len - 20) / 4)).foldl (fun d i =>
      d.setReg (maintRxWord b i) (BitVec.ofNat 32 (r.u (20 + 4 * i) 4))) d
    let a := R.WITL_MAINT_RXSTAT b.val
    let d := ((d.setFld a F.WITL_MAINT_RXSTAT.LEN (r.len - 20)).setFld a F.WITL_MAINT_RXSTAT.TAG tag).on a
      F.WITL_MAINT_RXSTAT.FULL
    d.setFld (R.WITL_MAINT_RXINFO b.val) F.WITL_MAINT_RXINFO.STATUS (r.u 18 1)

def devMaintReply (b : Bay) (d : Device) : Device := d.onRecord b 0x30 (recMaintReply b)

def execMaintReply (b : Bay) (s : State) : Host.Outcome State Fault Refusal := .next (s.onDev (devMaintReply b))

/-- A body length R186 takes. -/
def maintLenOk (n : Nat) : Bool := decide (4 ≤ n ∧ n ≤ 4076) && n % 4 == 0

/-- MAINT: the record that GO asks for leaves once the session is READY or ACTIVE and its DEV credit is held. -/
def devMaint (b : Bay) (d : Device) : Device :=
  let a := R.WITL_MAINT_TXCTL b.val
  let len := d.fld a F.WITL_MAINT_TXCTL.LEN
  let k := d.link b
  let n := unitsOf (20 + len)
  if d.flag a F.WITL_MAINT_TXCTL.GO && d.ready b && decide (n ≤ k.devHeld) then
    let tag := d.fld a F.WITL_MAINT_TXCTL.TAG
    let body := (List.range (len / 4)).flatMap (fun i => natBytes 4 (d.reg (maintTxWord b i)).toNat)
    let d := d.setLink b { k with devUsed := k.devUsed + n, tags := k.tags ++ [tag] }
    (d.off a F.WITL_MAINT_TXCTL.GO).sendRec b (.maint tag body)
  else d

def execMaint (b : Bay) (s : State) : Host.Outcome State Fault Refusal := .next (s.onDev (devMaint b))

/-- A write of WITL_MAINT_TXCTL: LEN and TAG under R9, then GO (R180, R186). -/
def devMaintGo (b : Bay) (v : BitVec 32) (d : Device) : Device :=
  let a := R.WITL_MAINT_TXCTL b.val
  let len := F.WITL_MAINT_TXCTL.LEN.get v
  let go := F.WITL_MAINT_TXCTL.GO.get v == 1
  let tag := F.WITL_MAINT_TXCTL.TAG.get v
  if go && d.flag a F.WITL_MAINT_TXCTL.GO then d.on (R.WITL_MAINT_RXSTAT b.val) F.WITL_MAINT_RXSTAT.TX_LOST
  else
    let tagOk := tag != 0
    let bad := (len != d.fld a F.WITL_MAINT_TXCTL.LEN && !maintLenOk len) || (tag != d.fld a F.WITL_MAINT_TXCTL.TAG && !tagOk) ||
      (go && !(maintLenOk len && tagOk))
    let d := if maintLenOk len then d.setFld a F.WITL_MAINT_TXCTL.LEN len else d
    let d := if tagOk then d.setFld a F.WITL_MAINT_TXCTL.TAG tag else d
    let d := if go && maintLenOk len && tagOk then d.on a F.WITL_MAINT_TXCTL.GO else d
    if bad then d.configReject a else d

def execWitlMaintGo (b : Bay) (v : BitVec 32) (s : State) : Host.Outcome State Fault Refusal :=
  .next (s.onDev (devMaintGo b v))

/-- WITL_MAINT_RXDONE: the buffer is free, and the AUX credit of its reply returns. -/
def devMaintRxdone (b : Bay) (d : Device) : Device :=
  let a := R.WITL_MAINT_RXSTAT b.val
  if !d.flag a F.WITL_MAINT_RXSTAT.FULL then d
  else
    let k := d.link b
    let n := unitsOf (20 + d.fld a F.WITL_MAINT_RXSTAT.LEN)
    ((d.setLink b { k with returned := tripleAdd k.returned 2 n }).off a F.WITL_MAINT_RXSTAT.FULL).drainAll b

def execWitlMaintRxdone (b : Bay) (s : State) : Host.Outcome State Fault Refusal := .next (s.onDev (devMaintRxdone b))

end Sys2Proof.Machine
end

