-- ==== Sys2Proof/Machine/Seal.lean ====
section
/-! DEFINITION. Modes, epochs and seals (R191–R194, R199, R205–R209, R213, R220–R228): WIT_CTL, quiet points, new and
re-sent epochs, the seal gate, T_replay, and the pops of the buffers. -/

namespace Sys2Proof.Machine

/-- The random source can be used: the CRYPTO island is RUN (R191). -/
def Device.cryptoUp (d : Device) : Bool := d.answers 40

/-- The lag that WIT_CTL asks for: at most the MAX_L the accelerator declared (R227). -/
def Device.askedLag (d : Device) (b : Bay) : Nat :=
  let l := d.fld (R.WIT_CTL b.val) F.WIT_CTL.LAG
  let m := (d.link b).maxL
  if m = 0 then l else min l m

/-- MODE, LAG and SAMPLE_SHIFT as WIT_CTL asks for them. -/
def Device.asked (d : Device) (b : Bay) : Nat × Nat × Nat :=
  (d.fld (R.WIT_CTL b.val) F.WIT_CTL.MODE, d.askedLag b, d.fld (R.WIT_CTL b.val) F.WIT_CTL.SAMPLE_SHIFT)

/-- CHANGE_PENDING follows from what was sent and what is asked for. -/
def Device.showChange (d : Device) (b : Bay) : Device :=
  d.setFld (R.WIT_STAT b.val) F.WIT_STAT.CHANGE_PENDING (natOf (d.asked b != (d.wit b).sent))

/-- A SHADOW refuses the witness settings under R9 (R560). -/
def Device.shadowRefuses (d : Device) : Bool := d.role == 2

/-- WIT_CTL_WRITE (R9, R193, R227). -/
def devWitCtlWrite (b : Bay) (v : BitVec 32) (d : Device) : Device :=
  let a := R.WIT_CTL b.val
  if d.shadowRefuses then d.configReject a
  else
    let mode := F.WIT_CTL.MODE.get v
    let lag := F.WIT_CTL.LAG.get v
    let shift := F.WIT_CTL.SAMPLE_SHIFT.get v
    let scale := F.WIT_CTL.TOL_SCALE.get v
    let host := F.WIT_CTL.HOST_HOLD.get v
    let modeOk := mode != 3
    let m := (d.link b).maxL
    let lagOk := lag == d.fld a F.WIT_CTL.LAG || (decide (1 ≤ lag ∧ lag ≤ 4) && (m == 0 || decide (lag ≤ m)))
    let shiftOk := shift == 0 || decide (4 ≤ shift ∧ shift ≤ 12)
    let scaleOk := decide (1 ≤ scale ∧ scale ≤ 64)
    let d := if modeOk then d.setFld a F.WIT_CTL.MODE mode else d
    let d := if lagOk then d.setFld a F.WIT_CTL.LAG lag else d
    let d := if shiftOk then d.setFld a F.WIT_CTL.SAMPLE_SHIFT shift else d
    let d := if scaleOk then d.setFld a F.WIT_CTL.TOL_SCALE scale else d
    let d := if modeOk && lagOk && shiftOk && scaleOk then d else d.configReject a
    let d := d.setFld a F.WIT_CTL.HOST_HOLD host
    (d.hold b 8 (host == 1)).showChange b

def execWitCtlWrite (b : Bay) (v : BitVec 32) (s : State) : Host.Outcome State Fault Refusal :=
  .next (s.onDev (devWitCtlWrite b v))

/-- The lag point has been reached (R193): STEP_OPEN(t_p − 1) has arrived. -/
def Device.lagPoint (d : Device) (b : Bay) : Bool :=
  let w := d.wit b
  let l := w.sent.2.1
  let last := match d.sealed? b with
    | none => w.firstStep + l
    | some s => s + l + 1
  d.witMode b == 2 && w.opened && decide (last ≤ d.openedStep b)

/-- A quiet point (R193); that a hold has lasted 1 ms is what the command says. -/
def Device.quiet (d : Device) (b : Bay) : Bool :=
  d.lagPoint b || (d.holds b != 0 && !(d.wit b).openedInHold)

/-- A change of WIT_CTL waits. -/
def Device.changeWaits (d : Device) (b : Bay) : Bool := d.asked b != (d.wit b).sent

/-- The current EPOCH re-sent: PROTOCOL clears on both sides (R173, R174). -/
def Device.resendEpoch (d : Device) (b : Bay) : Device :=
  let w := d.wit b
  let (_, lag, shift) := d.asked b
  let d := d.leadRec b (.epoch (d.epoch b) w.firstStep lag shift w.epochSeed.toNat)
  (d.unhold b 4).off (R.WIT_EPOCH_GO b.val) F.WIT_EPOCH_GO.RESEND

/-- QUIET_POINT: the changed values go out, and so does a re-send that was asked for. -/
def devQuietPoint (b : Bay) (d : Device) : Device :=
  let resend := d.flag (R.WIT_EPOCH_GO b.val) F.WIT_EPOCH_GO.RESEND
  if !d.leads || d.session b != 4 || !d.quiet b || !(d.changeWaits b || resend) then d
  else
    let w := d.wit b
    let ask := d.asked b
    let first := if w.opened then (d.openedStep b + 1) % 2 ^ 48 else w.firstStep
    let d := if ask.1 != w.sent.1 then d.leadRec b (.observe (d.epoch b) first ask.1) else d
    let d := if ask.2 != w.sent.2 || resend then d.resendEpoch b else d
    (d.setWit b { d.wit b with sent := ask }).showChange b

def execQuietPoint (b : Bay) (s : State) : Host.Outcome State Fault Refusal := .next (s.onDev (devQuietPoint b))

/-! ### Epochs (R194, R220–R225) -/

/-- Every slice that Flowstone holds FENCED is shown FENCED (R270). -/
def Device.fencesShown (d : Device) (b : Bay) : Bool :=
  (d.link b).slices.all (fun e => (d.unit e.unitId).state != 2 || e.state == 1)

/-- NEW is refused (R223, R267, R270, R286, R289, R560). -/
def Device.newRefused (d : Device) (b : Bay) : Bool :=
  let e := d.fld (R.WIT_EPOCH_NEXT b.val) F.WIT_EPOCH_NEXT.EPOCH
  let c := d.epoch b
  d.shadowRefuses || e == 0 || (c != 0 && !epochNewer e c) || !d.ready b || d.bayHealth b == 2 || !d.fencesShown b ||
    !d.flag R.FS_STATUS F.FS_STATUS.READY || d.flag R.FS_STATUS F.FS_STATUS.RESUME_WAIT

/-- A newer epoch begins on the device's side: the old epoch's steps are void, every hold and job fault of the bay ends,
and its values, first step, seed and JOB_ID take effect. -/
def Device.epochStart (d : Device) (b : Bay) (e first job : Nat) (values : Nat × Nat × Nat) (seed : BitVec 64) : Device :=
  let d := d.voidSteps b
  let d := d.setFld (R.WITL_STATUS b.val) F.WITL_STATUS.EPOCH e
  let d := d.setWit b { d.wit b with
    firstStep := first
    epochSeed := seed
    seals := []
    opened := false
    job := job
    sent := values
    faultSeen := []
    pairEarly := [] }
  let d := d.off (R.WIT_SEALED_HI b.val) F.WIT_SEALED_HI.VALID
  let d := d.off (R.WIT_STAT b.val) F.WIT_STAT.FAULTED
  let d := d.unhold b 15
  let d := if d.session b = 3 then d.setSession b 4 else d
  d.showChange b

/-- EPOCH and then OBSERVE are sent, and the new epoch is in force. -/
def Device.newEpoch (d : Device) (b : Bay) : Device :=
  let e := d.fld (R.WIT_EPOCH_NEXT b.val) F.WIT_EPOCH_NEXT.EPOCH
  let first := d.step48 (R.WIT_FIRST_STEP_LO b.val) (R.WIT_FIRST_STEP_HI b.val)
  let ask := d.asked b
  let (seed, d) := d.fresh64
  let d := d.epochStart b e first (d.fld (R.WIT_JOB b.val) F.WIT_JOB.JOB_ID) ask seed
  let d := d.leadRec b (.epoch e first ask.2.1 ask.2.2 seed.toNat)
  let d := d.leadRec b (.observe e first ask.1)
  let d := (d.off (R.WIT_EPOCH_GO b.val) F.WIT_EPOCH_GO.NEW).off (R.WIT_EPOCH_GO b.val) F.WIT_EPOCH_GO.RESEND
  d.hold b 8 (d.flag (R.WIT_CTL b.val) F.WIT_CTL.HOST_HOLD)

/-- WIT_EPOCH_NEW: NEW is refused, or reads 1 until the EPOCH is sent; none is sent while the CRYPTO island is down. -/
def devWitEpochNew (b : Bay) (d : Device) : Device :=
  let a := R.WIT_EPOCH_GO b.val
  if d.newRefused b then d.configReject a
  else if !d.cryptoUp then d.on a F.WIT_EPOCH_GO.NEW
  else d.newEpoch b

def execWitEpochNew (b : Bay) (s : State) : Host.Outcome State Fault Refusal := .next (s.onDev (devWitEpochNew b))

/-- NEW requests that waited for the random source are sent when it runs again (R191, R223). -/
def Device.sendWaitingEpochs (d : Device) : Device :=
  bays.foldl (fun d b =>
    if d.cryptoUp && d.flag (R.WIT_EPOCH_GO b.val) F.WIT_EPOCH_GO.NEW then d.newEpoch b else d) d

/-- WIT_EPOCH_RESEND: RESEND waits for the next quiet point. -/
def devWitEpochResend (b : Bay) (d : Device) : Device :=
  let a := R.WIT_EPOCH_GO b.val
  if d.shadowRefuses then d.configReject a else d.on a F.WIT_EPOCH_GO.RESEND

def execWitEpochResend (b : Bay) (s : State) : Host.Outcome State Fault Refusal := .next (s.onDev (devWitEpochResend b))

/-! ### The seal gate (R188, R191, R207, R208, R213, R221, R561) -/

/-- The pair condition of R207 for a step of a bay. -/
def Device.pairOk (d : Device) (s : StepCtx) : Bool :=
  d.role != 1 || s.pair == some 1 || s.pair == some 2 || d.flag R.TWIN_STATUS F.TWIN_STATUS.SOLO

/-- What step s of bay c needs for SEAL(s). -/
def Device.sealable (d : Device) (step : Nat) (c : Bay) : Bool :=
  match d.stepCtx? c step with
  | none => false
  | some s =>
    s.mode != 0 && s.clear c && d.nextSeal c == step && (d.wit c).room && d.pairOk s && !d.jobFaulted c &&
      !(d.changeWaits c && d.lagPoint c)

/-- SEAL(s) sent on one bay, with its ledger append; its samples are freed. -/
def Device.sealBay (d : Device) (b : Bay) (step : Nat) : Device :=
  match d.stepCtx? b step with
  | none => d
  | some s =>
    let (seed, d) := d.fresh64
    let d := d.leadRec b (.sealRec (d.epoch b) step seed.toNat)
    let d := d.setStep48 (R.WIT_SEALED_LO b.val) (R.WIT_SEALED_HI b.val) F.WIT_SEALED_HI.STEP step
    let d := d.on (R.WIT_SEALED_HI b.val) F.WIT_SEALED_HI.VALID
    let flags := natOf (s.mode == 1) + 2 * natOf (!s.cleared.isEmpty) + 4 * natOf (s.pair == some 1)
    let d := d.ledgerAppend b .sealed (d.epoch b) step 0 flags s.csums.length
    let d := d.count (R.WIT_SEAL_CNT b.val) F.WIT_SEAL_CNT.COUNT 1
    let d := if d.role = 3 ∨ (d.role = 1 ∧ s.pair = none) then
        d.count R.TWIN_SOLO_SEAL_CNT F.TWIN_SOLO_SEAL_CNT.COUNT 1 else d
    let w := d.wit b
    let d := d.setWit b { w with
      seals := ((step, seed) :: w.seals).take 8
      steps := w.steps.filter (fun x => x.step != step)
      faultSeen := w.faultSeen.filter (fun p => p.1 != step) }
    ((d.unhold b 1).showWit b).grant b

/-- SEAL for the lowest unsealed step of a job on every bay of it, and on while the next is clear too. -/
def Device.sealJob : Nat → Bay → Device → Device
  | 0, _, d => d
  | n + 1, b, d =>
    let job := d.jobOf b
    match (job.map d.nextSeal).min? with
    | none => d
    | some s =>
      if d.cryptoUp && job.all (d.sealable s) then Device.sealJob n b (job.foldl (fun d c => d.sealBay c s) d) else d

/-- A shadow reports each clear step once (R561). -/
def Device.shadowClear (d : Device) (b : Bay) : Device :=
  (d.wit b).steps.foldl (fun d s =>
    if s.pair.isNone && s.clear b then
      (d.setStep b { s with pair := some 1 }).twinSend (.verdict b.val 1 0 0xFF s.epoch s.step 0)
    else d) d

/-- The lead finds a step clear that the shadow found at fault: verdict PAIR_DISAGREE (R562). -/
def Device.pairDisagree (d : Device) (b : Bay) (step tile : Nat) : Device :=
  let d := d.on R.TWIN_EVENT F.TWIN_EVENT.DISAGREE
  let d := d.count R.TWIN_DISAGREE_CNT F.TWIN_DISAGREE_CNT.COUNT 1
  d.verdict b 10 step tile 0xFF 0xFF 0x7F false

/-- The disagreements of a job's steps that have become clear on the lead. -/
def Device.pairCheck (d : Device) (b : Bay) : Device :=
  (d.jobOf b).foldl (fun d c => (d.wit c).steps.foldl (fun d s =>
    if s.pair == some 3 && s.clear c then d.pairDisagree c s.step s.pairTile else d) d) d

/-- A suspension lets no SEAL leave; a forced off, which stands above it, still lets clear steps be sealed (R488, R573). -/
def Device.sealPaused (d : Device) : Bool := d.flag R.TWIN_STATUS F.TWIN_STATUS.SUSPENDED && d.trayPwr != 4

/-- SEAL_JOB: the job of bay b. An unjoined device sends no verdict (R540). -/
def devSealJob (b : Bay) (d : Device) : Device :=
  if d.role = 2 then (if d.flag R.TWIN_STATUS F.TWIN_STATUS.JOINED then d.shadowClear b else d)
  else if d.sealPaused then d
  else (d.pairCheck b).sealJob (d.wit b).steps.length b

def execSealJob (b : Bay) (s : State) : Host.Outcome State Fault Refusal := .next (s.onDev (devSealJob b))

/-! ### T_replay (R31, R216, R217) -/

/-- The Gallery can be used: some cluster's island is RUN. -/
def Device.galleryUp (d : Device) : Bool := (List.range 12).any (fun g => d.answers (88 + g))

/-- REPLAY_TIMEOUT of a suspect tile: verdict TIMEOUT. The timer stands still while memory or Gallery is away. -/
def devReplayTimeout (b : Bay) (step : BitVec 48) (tile : BitVec 32) (d : Device) : Device :=
  if !d.allReady || !d.galleryUp then d
  else match d.replayOut? b step.toNat tile.toNat with
    | none => d
    | some (t, rp) =>
      let d := d.pushItem b ⟨7, t.slice, 0xFF, t.tile, step.toNat, d.epoch b, []⟩
      d.verdict b 6 step.toNat t.tile t.slice rp.runSlice 0x7F (rp.runSlice == t.slice)

def execReplayTimeout (b : Bay) (step : BitVec 48) (tile : BitVec 32) (s : State) : Host.Outcome State Fault Refusal :=
  .next (s.onDev (devReplayTimeout b step tile))

/-! ### The buffers (R227, R228) -/

/-- WIT_LEDGER_POP: firmware takes the oldest append, writes its WALL_TIME and keeps it (R213). -/
def devWitLedgerPop (b : Bay) (d : Device) : Device :=
  match (d.wit b).ledger with
  | [] => d
  | e :: rest =>
    let (wall, d) := d.wallTime
    let d := { d with ledgers := vset d.ledgers b (d.ledgers[b] ++ [e.take 24 ++ natBytes 8 wall]) }
    d.setWit b { d.wit b with ledger := rest }

def execWitLedgerPop (b : Bay) (s : State) : Host.Outcome State Fault Refusal := .next (s.onDev (devWitLedgerPop b))

/-- WIT_EVENT_POP. -/
def devWitEventPop (b : Bay) (d : Device) : Device := d.setWit b { d.wit b with events := (d.wit b).events.drop 1 }

def execWitEventPop (b : Bay) (s : State) : Host.Outcome State Fault Refusal := .next (s.onDev (devWitEventPop b))

end Sys2Proof.Machine
end

