-- ==== Sys2Proof/Machine/Tile.lean ====
section
/-! DEFINITION. The arithmetic of a Gallery cluster: tiles and their elements (R232–R234, R241), exact accumulation
(R235–R240), rounding (R242), the replay bound (R243, R244), and the record of what was loaded and judged (R250). -/

namespace Sys2Proof.Machine

/-! ### Descriptors -/

/-- n bytes of a list from an offset, as a number. -/
def fieldOf (l : List (BitVec 8)) (off n : Nat) : Nat := bytesNat ((l.drop off).take n)

/-- A dispatch descriptor's fields (R245). -/
def GDisp.tag (x : GDisp) : Nat := fieldOf x.desc 0 2
def GDisp.kind (x : GDisp) : Nat := fieldOf x.desc 3 1
def GDisp.tile (x : GDisp) : Nat := fieldOf x.desc 4 4
def GDisp.step (x : GDisp) : Nat := fieldOf x.desc 8 6
def GDisp.m (x : GDisp) : Nat := fieldOf x.desc 16 2
def GDisp.n (x : GDisp) : Nat := fieldOf x.desc 18 2
def GDisp.k (x : GDisp) : Nat := fieldOf x.desc 20 2 + 1
def GDisp.fmtA (x : GDisp) : Nat := fieldOf x.desc 22 1
def GDisp.fmtB (x : GDisp) : Nat := fieldOf x.desc 23 1
def GDisp.fmtC (x : GDisp) : Nat := fieldOf x.desc 24 1
def GDisp.uExp (x : GDisp) : Nat := fieldOf x.desc 26 1
def GDisp.floorExp (x : GDisp) : Nat := fieldOf x.desc 27 1
def GDisp.addrA (x : GDisp) : Nat := fieldOf x.desc 28 6
def GDisp.addrB (x : GDisp) : Nat := fieldOf x.desc 34 6
def GDisp.addrSA (x : GDisp) : Nat := fieldOf x.desc 40 6
def GDisp.addrSB (x : GDisp) : Nat := fieldOf x.desc 46 6
def GDisp.addrRun (x : GDisp) : Nat := fieldOf x.desc 52 6
def GDisp.addrOrig (x : GDisp) : Nat := fieldOf x.desc 58 6

/-- Blocks of 32 along K. -/
def kBlocks (k : Nat) : Nat := (k + 31) / 32

/-- Bytes of n packed elements of a format. -/
def packedBytes (fmt n : Nat) : Nat := (n * fmtWidth fmt + 7) / 8

/-- The parts a dispatch names: address, bytes, and whether it holds scales. -/
def GDisp.parts (x : GDisp) : List (Nat × Nat × Bool) :=
  ([(x.addrA, packedBytes x.fmtA (x.m * x.k), false), (x.addrB, packedBytes x.fmtB (x.k * x.n), false),
    (x.addrSA, x.m * kBlocks x.k, true), (x.addrSB, x.n * kBlocks x.k, true),
    (x.addrRun, packedBytes x.fmtC (x.m * x.n), false), (x.addrOrig, packedBytes x.fmtC (x.m * x.n), false)]).filter
    (fun p => p.1 != 0)

/-- A tile register's descriptor read (R241). -/
structure Tile where
  base : Nat
  rows : Nat
  cols : Nat
  fmt : Nat
  colmajor : Bool
  aux : Nat
  deriving DecidableEq, Repr

/-- The fields of 16 bytes. -/
def tileOf (bs : List (BitVec 8)) : Tile where
  base := fieldOf bs 0 4 % 2 ^ 22
  rows := fieldOf bs 4 2 + 1
  cols := fieldOf bs 6 2 + 1
  fmt := fieldOf bs 8 1
  colmajor := bit (fieldOf bs 9 1) 0
  aux := fieldOf bs 12 4 % 2 ^ 22

/-- Place of element (r, c) among the packed elements. -/
def Tile.index (t : Tile) (r c : Nat) : Nat := if t.colmajor then c * t.rows + r else r * t.cols + c

/-- Bytes of the tile. -/
def Tile.bytes (t : Tile) : Nat := packedBytes t.fmt (t.rows * t.cols)

/-- Place of the scale byte of row r (of A) or column (of B) `line` in block kb, among the scale bytes: blocks run along
K in the order of the operand (R165). `lines` counts the rows of A or the columns of B. -/
def scaleIndex (lines k : Nat) (byLine : Bool) (line kb : Nat) : Nat :=
  if byLine then line * kBlocks k + kb else kb * lines + line

/-- Blocks of A follow its rows where it is row-major, those of B its columns where it is column-major. -/
def Tile.byLine (t : Tile) (isA : Bool) : Bool := t.colmajor != isA

/-- The scale byte's place in the tile store. -/
def Tile.scaleAt (t : Tile) (isA : Bool) (line kk : Nat) : Nat :=
  t.aux + (if isA then scaleIndex t.rows t.cols (t.byLine true) line (kk / 32)
    else scaleIndex t.cols t.rows (t.byLine false) line (kk / 32))

/-- Scale bytes of an MX operand. -/
def Tile.scaleBytes (t : Tile) (isA : Bool) : Nat :=
  if !fmtMx t.fmt then 0 else if isA then t.rows * kBlocks t.cols else t.cols * kBlocks t.rows

/-- The bits of element (r, c). -/
def Tile.bits (t : Tile) (s : Mem) (r c : Nat) : Nat :=
  let w := fmtWidth t.fmt
  let i := t.index r c * w
  memNat s (t.base + i / 8) 5 / 2 ^ (i % 8) % 2 ^ w

/-- The number an operand's element stands for, scaled (R233). -/
def Tile.num (t : Tile) (s : Mem) (isA : Bool) (line kk : Nat) : Num :=
  let x := elemNum t.fmt (if isA then t.bits s line kk else t.bits s kk line)
  if fmtMx t.fmt then x.scale (scaleNum (memByte s (t.scaleAt isA line kk)).toNat) else x

/-! ### Accumulation -/

/-- The product of two numbers: NaN with a NaN or of an infinity and zero (R240). -/
def Num.mul (x y : Num) : Num :=
  match x, y with
  | .nan, _ => .nan
  | _, .nan => .nan
  | .fin a e, .fin b f => .fin (a * b) (e + f)
  | .inf s, .inf t => .inf (s != t)
  | .inf s, .fin b _ => if b = 0 then .nan else .inf (s != decide (b < 0))
  | .fin a _, .inf t => if a = 0 then .nan else .inf (decide (a < 0) != t)

/-- The class of a pairing and the output formats it allows (R234); none where the formats do not combine. -/
def pairing (fa fb : Nat) : Option (AccClass × List Nat) :=
  if fa = 0x02 ∧ fb = 0x02 then some (.half, [0x00, 0x02])
  else if fa = 0x01 ∧ fb = 0x01 then some (.wideFloat, [0x00, 0x01])
  else if fa ≤ 0x01 ∧ fb ≤ 0x01 then some (.wideFloat, [0x00, 0x01, 0x02])
  else if 0x03 ≤ fa ∧ fa ≤ 0x04 ∧ 0x03 ≤ fb ∧ fb ≤ 0x04 then some (.narrow, [0x00, 0x01, 0x02])
  else if 0x05 ≤ fa ∧ fa ≤ 0x09 ∧ 0x05 ≤ fb ∧ fb ≤ 0x09 then some (.narrow, [0x00, 0x01, 0x02])
  else if fa = 0x0A ∧ fb = 0x0A then some (.narrow, [0x00, 0x01])
  else if 0x0B ≤ fa ∧ fa ≤ 0x0C ∧ 0x0B ≤ fb ∧ fb ≤ 0x0C then some (.integer, [0x0D])
  else none

/-- Width and outputs per bank of a class (R235). -/
def accWidth : AccClass → Nat
  | .wideFloat => 576
  | .half => 128
  | .narrow => 64
  | .wide => 1152
  | .integer => 48
def accCapacity : AccClass → Nat
  | .wideFloat => 7168
  | .half => 32768
  | .narrow => 65536
  | .wide => 7168
  | .integer => 65536

/-- The exponent of a class's LSB; that of a narrow window is set per bank. -/
def accLsb (c : AccClass) (narrow : Int) : Int :=
  match c with
  | .wideFloat => -298
  | .half => -48
  | .narrow => narrow
  | .wide => -320
  | .integer => 0

/-- An output at exact zero. -/
def AccOut.zero : AccOut := ⟨0, 0, false, false, false, false⟩

/-- One product added to the sum plane, or its magnitude to the magnitude plane; a narrow window notes RANGE (R237), and
a special product its flag (R240). -/
def AccOut.add (o : AccOut) (c : AccClass) (lsb : Int) (magPlane : Bool) (p : Num) : AccOut :=
  match p with
  | .nan => { o with nan := true }
  | .inf false => { o with posInf := true }
  | .inf true => { o with negInf := true }
  | .fin m e =>
    let cut : Int := if lsb ≤ e then 1 else 2 ^ (lsb - e).toNat
    let units : Int := if lsb ≤ e then m * 2 ^ (e - lsb).toNat else m / cut
    let low := decide (m % cut ≠ 0)
    if magPlane then
      let mag := o.mag + units.natAbs
      { o with
        mag := mag % 2 ^ accWidth c
        range := o.range || (c == .narrow && (low || decide (2 ^ 63 ≤ mag))) }
    else
      { o with
        sum := (o.sum + units).bmod (2 ^ accWidth c)
        range := o.range || (c == .narrow && low) }

/-- The class of an output and its exact sum (R240). -/
def AccOut.ref (o : AccOut) (lsb : Int) : Num :=
  if o.nan || (o.posInf && o.negInf) then .nan
  else if o.posInf then .inf false
  else if o.negInf then .inf true
  else .fin o.sum lsb

/-- Every output of a product of tA and tB added to a bank's outputs. -/
def addProducts (c : AccClass) (lsb : Int) (magPlane : Bool) (s : Mem) (ta tb : Tile) (outs : List AccOut) : List AccOut :=
  outs.zipIdx.map (fun p =>
    let r := p.2 / tb.cols
    let j := p.2 % tb.cols
    (List.range ta.cols).foldl (fun o kk => o.add c lsb magPlane ((ta.num s true r kk).mul (tb.num s false j kk))) p.1)

/-! ### Rounding to a format (R242) -/

/-- The bits of the largest exponent with a zero fraction: infinity. -/
def FloatFmt.infBits (f : FloatFmt) : Nat := (2 ^ f.ebits - 1) * 2 ^ f.fbits

/-- The sign bit's weight. -/
def FloatFmt.signBit (f : FloatFmt) : Nat := 2 ^ (f.ebits + f.fbits)

/-- An exact number rounded to a format with infinities, to nearest with ties to even; a negative number that rounds to
zero keeps its sign (assumption log 49). -/
def FloatFmt.round (f : FloatFmt) (m : Int) (e : Int) : Nat :=
  let emin : Int := 1 - (f.bias : Int) - f.fbits
  let (q, k) := roundNearMag (f.fbits + 1) emin m.natAbs e
  let sign := if m < 0 then f.signBit else 0
  if q = 0 then sign
  else
    let l := q.log2
    let top : Int := k + l
    if top < emin + f.fbits then sign + q * 2 ^ (k - emin).toNat
    else
      let ex := (top + f.bias).toNat
      let frac := if l ≤ f.fbits then q * 2 ^ (f.fbits - l) else q / 2 ^ (l - f.fbits)
      if 2 ^ f.ebits - 1 ≤ ex then sign + f.infBits else sign + ex * 2 ^ f.fbits + (frac - 2 ^ f.fbits)

/-- The reference's bits in an output format (R242): the canonical NaN or the infinity of a special class, e itself in
INT32. -/
def refBits (fmt : Nat) (x : Num) : Nat :=
  match floatFmt fmt with
  | none =>
    match x with
    | .fin m e => ((scaleTo m e (min e 0) / 2 ^ (0 - min e 0).toNat) % 2 ^ 32).toNat
    | _ => 0
  | some f =>
    match x with
    | .nan => f.infBits + 2 ^ (f.fbits - 1)
    | .inf n => f.infBits + (if n then f.signBit else 0)
    | .fin m e => f.round m e

/-! ### The replay bound (R243, R244) -/

/-- The spacing of a format at a finite number: the subnormal spacing below the smallest normal. -/
def FloatFmt.spacing (f : FloatFmt) (m : Nat) (e : Int) : Int :=
  let emin : Int := 1 - (f.bias : Int) - f.fbits
  if m = 0 then emin else max (e + m.log2 - f.fbits) emin

/-- A quotient rounded up to 53 significant bits. -/
def divUp (a : Nat × Int) (b : Nat × Int) : Nat × Int :=
  let s := 120 + b.1.log2
  let num := a.1 * 2 ^ s
  roundUpMag 53 (-1074) ((num + b.1 - 1) / b.1) (a.2 - b.2 - (s : Nat))

/-- Sum and product of magnitudes rounded up to binary64. -/
def addUp (a b : Nat × Int) : Nat × Int :=
  let s := finAdd ((a.1 : Int), a.2) ((b.1 : Int), b.2)
  roundUpMag 53 (-1074) s.1.toNat s.2
def mulUp (a b : Nat × Int) : Nat × Int := roundUpMag 53 (-1074) (a.1 * b.1) (a.2 + b.2)

/-- The settings of a bound: K, U_EXP, FLOOR_EXP. -/
structure BoundCfg where
  k : Nat
  uExp : Nat
  floorExp : Nat
  deriving DecidableEq, Repr

/-- K × u reaches one half: every output of the tile fails. -/
def BoundCfg.hopeless (b : BoundCfg) : Bool := b.uExp != 0 && decide (2 ^ b.uExp ≤ 2 * b.k)

/-- γ_K, rounded up; zero where the accumulation is exact. -/
def BoundCfg.gamma (b : BoundCfg) : Nat × Int :=
  if b.uExp = 0 then (0, 0)
  else
    let ku : Nat × Int := (b.k, -(b.uExp : Int))
    let one := roundDownMag 53 (-1074) (2 ^ b.uExp - b.k) (-(b.uExp : Int))
    divUp ku one

/-- γ_K × S. -/
def BoundCfg.slack (b : BoundCfg) (s : Nat × Int) : Nat × Int := mulUp b.gamma (roundUpMag 53 (-1074) s.1 s.2)

/-- h × U for a spacing 2^u of a format. -/
def BoundCfg.half (b : BoundCfg) (f : FloatFmt) (u : Int) : Nat × Int :=
  (1, if b.uExp = 0 ∨ b.uExp ≤ f.fbits + 1 then u - 1 else u)

/-- |x − y| ≤ bound, exactly. -/
def withinMag (x y : Int × Int) (bound : Nat × Int) : Bool :=
  let df := finAdd x (-y.1, y.2)
  finLe ((df.1.natAbs : Int), df.2) ((bound.1 : Int), bound.2)

/-- The largest finite value of a format, and the magnitude from which rounding gives infinity. -/
def FloatFmt.topExp (f : FloatFmt) : Int := ((2 ^ f.ebits - 2 : Nat) : Int) - f.bias - f.fbits
def FloatFmt.overflow (f : FloatFmt) : Int × Int := ((2 ^ (f.fbits + 2) - 1 : Nat), f.topExp - 1)

/-- A floating-point output c passes against its exact reference e with magnitude S. -/
def boundPass (f : FloatFmt) (b : BoundCfg) (e : Int × Int) (s : Nat × Int) (c : Nat) : Bool :=
  if b.hopeless then false
  else
    let g := b.slack s
    match f.num (f.round e.1 e.2), f.num c with
    | .inf rn, .inf cn => rn == cn
    | .inf _, .fin cm ce => withinMag (cm, ce) e (addUp g (b.half f f.topExp))
    | .fin rm re, .fin cm ce =>
      let big := max (f.spacing rm.natAbs re) (f.spacing cm.natAbs ce)
      let fl : Nat × Int := if b.floorExp = 0 then (0, 0) else (1, -(b.floorExp : Int))
      withinMag (cm, ce) (rm, re) (addUp (addUp g (b.half f big)) fl)
    | .fin _ _, .inf cn =>
      let sum := finAdd ((e.1.natAbs : Int), e.2) ((g.1 : Int), g.2)
      finLe f.overflow sum && (e.1 == 0 || (decide (e.1 < 0) == cn))
    | _, _ => false

/-- An output of any class passes (R240, R243, R244); where K × u reaches one half only the finite class fails
(assumption log 49). -/
def outputPass (fmt : Nat) (b : BoundCfg) (o : AccOut) (lsb : Int) (c : Nat) : Bool :=
  match floatFmt fmt, o.ref lsb with
  | none, .fin m e => decide (m * 2 ^ e.toNat = signed 32 c)
  | none, _ => false
  | some f, .nan => f.num c == .nan
  | some f, .inf n => f.num c == .inf n
  | some f, .fin m e => boundPass f b (m, e) (o.mag, lsb) c

/-! ### What was loaded and judged (R250) -/

/-- The source address of a tile-store byte. -/
def originOf : List (Nat × Nat × Option Nat) → Nat → Option Nat
  | [], _ => none
  | (dst, len, src) :: l, a => if dst ≤ a ∧ a < dst + len then src.map (fun x => x + (a - dst)) else originOf l a

/-- The number, in a part of `count` elements at `part`, of the packed element whose bits begin at bit `i` of the tile
region at `base`; none where its bytes are not those of one element of the part. -/
def partElem (loads : List (Nat × Nat × Option Nat)) (base i w part count : Nat) : Option Nat :=
  let first := base + i / 8
  let last := base + (i + w - 1) / 8
  match originOf loads first, originOf loads last with
  | some x, some y =>
    let at0 := (x - part) * 8 + i % 8
    if part ≤ x ∧ y = x + (last - first) ∧ at0 % w = 0 ∧ at0 / w < count then some (at0 / w) else none
  | _, _ => none

/-- The (row, k) of an element of tA in the dispatch's A, with its scale from the right place of SA; the same for B as
(k, column). -/
def placeA (x : GDisp) (loads : List (Nat × Nat × Option Nat)) (t : Tile) (r kk : Nat) : Option (Nat × Nat) :=
  if t.fmt ≠ x.fmtA then none
  else match partElem loads t.base (t.index r kk * fmtWidth t.fmt) (fmtWidth t.fmt) x.addrA (x.m * x.k) with
    | none => none
    | some e =>
      let p := (e / x.k, e % x.k)
      if !fmtMx t.fmt || originOf loads (t.scaleAt true r kk) == some (x.addrSA + p.1 * kBlocks x.k + p.2 / 32) then some p
      else none
def placeB (x : GDisp) (loads : List (Nat × Nat × Option Nat)) (t : Tile) (j kk : Nat) : Option (Nat × Nat) :=
  if t.fmt ≠ x.fmtB then none
  else match partElem loads t.base (t.index kk j * fmtWidth t.fmt) (fmtWidth t.fmt) x.addrB (x.k * x.n) with
    | none => none
    | some e =>
      let p := (e % x.k, e / x.k)
      if !fmtMx t.fmt || originOf loads (t.scaleAt false j kk) == some (x.addrSB + p.2 * kBlocks x.k + p.1 / 32) then some p
      else none

/-- The record of one product of tiles. -/
def prodRec (x : GDisp) (loads : List (Nat × Nat × Option Nat)) (ta tb : Tile) : ProdRec where
  rows := (List.range ta.rows).map (fun r => (List.range ta.cols).map (placeA x loads ta r))
  cols := (List.range tb.cols).map (fun j => (List.range tb.rows).map (placeB x loads tb j))

/-- The k of each product that went into output (r, c) of a bank when its elements are those of output (i, j). -/
def ProdRec.ks (p : ProdRec) (r c i j : Nat) : Option (List Nat) :=
  match p.rows[r]?, p.cols[c]? with
  | some xs, some ys => (xs.zip ys).mapM (fun q =>
      match q.1, q.2 with
      | some (i', k), some (k', j') => if i' = i ∧ j' = j ∧ k = k' then some k else none
      | _, _ => none)
  | _, _ => none

/-- Every k from 0 to K − 1 occurs once among the products. -/
def fullK (k : Nat) (ps : List ProdRec) (r c i j : Nat) : Bool :=
  match ps.mapM (fun p => p.ks r c i j) with
  | none => false
  | some ls =>
    let l := ls.flatten
    l.length == k && (List.range k).all (fun x => l.contains x)

/-- Output (r, c) of the bank holds all the products of output `place` under both XDOT and XMAG. -/
def Bank.full (b : Bank) (x : GDisp) (r c place : Nat) : Bool :=
  let i := place / x.n
  let j := place % x.n
  fullK x.k b.dots r c i j && fullK x.k b.mags r c i j

/-- The output of the dispatch that output (r, c) of a bank computes, by the products in it. -/
def Bank.placeOf (b : Bank) (x : GDisp) (r c : Nat) : Option Nat :=
  match b.dots with
  | [] => none
  | p :: _ =>
    match p.rows[r]?, p.cols[c]? with
    | some (some (i, _) :: _), some (some (_, j) :: _) => some (i * x.n + j)
    | _, _ => none

/-- PASS, FAIL or not judged (R250). -/
def judgeResult (count : Nat) (l : List Judge) : Nat :=
  let all := l.length == count && (List.range count).all (fun p => l.any (fun q => q.place == p && q.full && !q.unjudged))
  if all && l.all (fun q => !q.fail) then 1 else if l.any (·.fail) then 2 else 0

/-- Outputs that failed. -/
def judgeFails (l : List Judge) : Nat := (l.filter (·.fail)).length

/-- The reference of each output in row-major order, where every output was judged once with all its products. -/
def judgedRefs (count : Nat) (l : List Judge) : Option (List Num) :=
  if l.length ≠ count then none
  else (List.range count).mapM (fun p => (l.find? (fun q => q.place == p && q.full && !q.unjudged)).map (·.ref))

/-- The exact sum of the references rounded once to binary64, or the special value of R249. -/
def refSum (l : List Num) : Nat :=
  let inf (s : Bool) := l.any (fun x => x == .inf s)
  if l.any (fun x => x == .nan) || (inf false && inf true) then 0x7FF8000000000000
  else if inf false then binary64.infBits
  else if inf true then binary64.infBits + binary64.signBit
  else
    let s := l.foldl (fun a x => match x with
      | .fin m e => finAdd a (m, e)
      | _ => a) ((0 : Int), (0 : Int))
    binary64.round s.1 s.2

/-- The references in a format, in row-major order, as bytes. -/
def refBytes (fmt : Nat) (l : List Num) : List (BitVec 8) := l.flatMap (fun x => natBytes (fmtWidth fmt / 8) (refBits fmt x))

end Sys2Proof.Machine
end

