-- ==== Sys2Proof/Machine/Gallery.lean ====
section
/-! DEFINITION. The Gallery (R229–R231, R245–R261): what a cluster's instructions do, its loader, dispatch and hand-over,
completions and the verdicts that follow, the known-answer runs and the health of the clusters. -/

namespace Sys2Proof.Machine

/-- A cluster's state. -/
def Device.gc (d : Device) (g : Fin 12) : GcCtx := d.gcs[g]

/-- A cluster's state replaced. -/
def Device.setGc (d : Device) (g : Fin 12) (c : GcCtx) : Device := { d with gcs := vset d.gcs g c }

/-- The clusters. -/
def clusters : List (Fin 12) := List.finRange 12

/-! ### G instructions on the lanes (R113, R115, R236–R244) -/

/-- Size of the tile store. -/
def tileStoreBytes : Nat := 0x400000

/-- Tile register t read. -/
def GcCtx.tileReg (c : GcCtx) (t : Nat) : Tile := tileOf (c.tiles.toList.getD t [])

/-- Bits set in the STATUS of tile register t (R241). -/
def GcCtx.setStatus (c : GcCtx) (t bits : Nat) : GcCtx :=
  if h : t < 8 then
    let bs := c.tiles.toList.getD t []
    { c with tiles := vset c.tiles ⟨t, h⟩ (bs.take 10 ++ natBytes 2 (fieldOf bs 10 2 ||| bits) ++ bs.drop 12) }
  else c

/-- Bank a. -/
def GcCtx.bank (c : GcCtx) (a : Nat) : Bank := c.banks.toList.getD a Bank.reset

/-- Bank a replaced. -/
def GcCtx.setBank (c : GcCtx) (a : Nat) (b : Bank) : GcCtx := if h : a < 4 then { c with banks := vset c.banks ⟨a, h⟩ b } else c

/-- The pair of bank a is in WIDE mode (R239). -/
def GcCtx.wideMode (c : GcCtx) (a : Nat) : Bool := bit c.accCfg (a / 2 * 2)

/-- A range of the tile store meets a poisoned line. -/
def GcCtx.poisoned (c : GcCtx) (a n : Nat) : Bool := (touchedLines a n).any (fun l => c.tpoison.contains (l.1 / 64))

/-- A tile, with its scales, lies in the tile store. -/
def Tile.inside (t : Tile) (isA : Bool) : Bool :=
  decide (t.base + t.bytes ≤ tileStoreBytes) && decide (t.aux + t.scaleBytes isA ≤ tileStoreBytes)

/-- A tile consumed is poisoned. -/
def GcCtx.tilePoison (c : GcCtx) (t : Tile) (isA : Bool) : Bool :=
  c.poisoned t.base t.bytes || c.poisoned t.aux (t.scaleBytes isA)

/-- Bytes written into the tile store: whole clean lines lose their poison, and what was loaded there is no longer. -/
def GcCtx.write (c : GcCtx) (a : Nat) (bs : List (BitVec 8)) : GcCtx :=
  let clean := ((touchedLines a bs.length).filter (·.2)).map (fun l => l.1 / 64)
  { c with
    store := memPuts c.store a bs
    tpoison := c.tpoison.filter (fun l => !clean.contains l)
    loads := (a, bs.length, none) :: c.loads }

/-- LSB_EXP of bank a (R237). -/
def GcCtx.lsbExp (c : GcCtx) (a : Nat) : Int := (c.lsbs.toList.getD a 0#11).toInt

/-- XCLR. -/
def GcCtx.xclr (c : GcCtx) (a : Nat) : Option Cause × GcCtx :=
  if c.wideMode a && a % 2 == 1 then (some .illegal, c)
  else if c.wideMode a then (none, (c.setBank a Bank.reset).setBank (a + 1) Bank.reset)
  else (none, c.setBank a Bank.reset)

/-- XDOT and XMAG: the class and shape of the bank are taken by the first after XCLR (R236). -/
def GcCtx.xdot (c : GcCtx) (magPlane : Bool) (a ta tb : Nat) : Option Cause × GcCtx :=
  let tA := c.tileReg ta
  let tB := c.tileReg tb
  let wide := c.wideMode a
  match pairing tA.fmt tB.fmt with
  | none => (some .illegal, c)
  | some (cls, outs) =>
    let b := c.bank a
    let cls : AccClass := if wide then .wide else cls
    let narrow := match pairing tA.fmt tB.fmt with
      | some (.narrow, _) => true
      | _ => false
    let bad := (wide && (a % 2 == 1 || !narrow)) || !tA.inside true || !tB.inside false ||
      decide (256 < tA.rows ∨ 256 < tB.cols) || tA.cols != tB.rows || decide (accCapacity cls < tA.rows * tB.cols) ||
      (b.cls.isSome && (b.cls != some cls || b.m != tA.rows || b.n != tB.cols)) ||
      (!magPlane && decide (65536 < b.k + tA.cols))
    if bad then (some .illegal, c)
    else if c.tilePoison tA true || c.tilePoison tB false then
      let c := if c.tilePoison tA true then c.setStatus ta 1 else c
      (some .poison, if c.tilePoison tB false then c.setStatus tb 1 else c)
    else
      let b := if b.cls.isSome then b else
        { b with
          cls := some cls
          lsb := accLsb cls (c.lsbExp a)
          outFmts := outs
          m := tA.rows
          n := tB.cols
          outs := List.replicate (tA.rows * tB.cols) AccOut.zero }
      let rec' : ProdRec := match c.cur with
        | none => ⟨[], []⟩
        | some x => prodRec x c.loads tA tB
      let b := { b with outs := addProducts cls b.lsb magPlane c.store tA tB b.outs }
      let b := if magPlane then { b with mags := b.mags ++ [rec'] } else { b with k := b.k + tA.cols, dots := b.dots ++ [rec'] }
      (none, c.setBank a b)

/-- What XRND and BCMP ask of bank a and tile t: a class, the bank's shape, an output format of the pairing, and room. -/
def GcCtx.outputOk (c : GcCtx) (a : Nat) (t : Tile) : Bool :=
  let b := c.bank a
  !(c.wideMode a && a % 2 == 1) && b.cls.isSome && t.rows == b.m && t.cols == b.n && b.outFmts.contains t.fmt &&
    decide (t.base + t.bytes ≤ tileStoreBytes)

/-- RANGE_SEEN and SPECIAL_SEEN as the bank's outputs give them. -/
def Bank.seen (b : Bank) : Nat :=
  2 * natOf (b.outs.any (·.range)) + 4 * natOf (b.outs.any (fun o => o.posInf || o.negInf || o.nan))

/-- The element values of a tile in the order its elements are packed. -/
def Tile.pack (t : Tile) (f : Nat → Nat → Nat) : List (BitVec 8) :=
  (List.range (t.rows * t.cols)).flatMap (fun i =>
    let r := if t.colmajor then i % t.rows else i / t.cols
    let j := if t.colmajor then i / t.rows else i % t.cols
    natBytes (fmtWidth t.fmt / 8) (f r j))

/-- XRND (R242); an output whose exact sum was lost is written as a free value. -/
def GcCtx.xrnd (c : GcCtx) (t a : Nat) (free : Nat → Nat) : Option Cause × GcCtx :=
  let tl := c.tileReg t
  let b := c.bank a
  if !c.outputOk a tl then (some .illegal, c)
  else
    let value : Nat → Nat → Nat := fun r j =>
      let o := b.outs.getD (r * b.n + j) AccOut.zero
      if o.range then free (r * b.n + j) else refBits tl.fmt (o.ref b.lsb)
    let c := (c.write tl.base (tl.pack value)).setStatus t b.seen
    match c.cur with
    | none => (none, c)
    | some x =>
      if tl.fmt ≠ x.fmtC then (none, c)
      else
        let ps := (List.range (b.m * b.n)).filterMap (fun i => b.placeOf x (i / b.n) (i % b.n))
        (none, { c with rounded := c.rounded ++ ps })

/-- The settings of the bound for the dispatch whose descriptor GP_DESC shows. -/
def GcCtx.bound (c : GcCtx) : BoundCfg := ⟨c.shown.k, c.shown.uExp, c.shown.floorExp⟩

/-- BCMP: the count of failing outputs, the bitmap, and the record of what was judged (R113, R238, R243, R244, R250). -/
def GcCtx.bcmp (c : GcCtx) (t a : Nat) : Option Cause × Nat × GcCtx :=
  let tl := c.tileReg t
  let b := c.bank a
  let mapBytes := (b.m * b.n + 7) / 8
  if !c.outputOk a tl || decide (tileStoreBytes < tl.aux + mapBytes) then (some .illegal, 0, c)
  else if c.poisoned tl.base tl.bytes then (some .poison, 0, c.setStatus t 1)
  else
    let outs := b.outs.zipIdx
    let bits : Nat → Nat := fun i => tl.bits c.store (i / b.n) (i % b.n)
    let fails := outs.map (fun p => !p.1.range && !outputPass tl.fmt c.bound p.1 b.lsb (bits p.2))
    let map := (List.range mapBytes).map (fun i =>
      BitVec.ofNat 8 ((List.range 8).foldl (fun n k => n + natOf (fails.getD (8 * i + k) false) * 2 ^ k) 0))
    let judge : Nat → GDisp → List Judge := fun part x =>
      if part = 0 ∨ tl.fmt ≠ x.fmtC then [] else
      outs.filterMap (fun p =>
        let r := p.2 / b.n
        let j := p.2 % b.n
        match partElem c.loads tl.base (tl.index r j * fmtWidth tl.fmt) (fmtWidth tl.fmt) part (x.m * x.n) with
        | none => none
        | some e => some
          { place := e, full := b.full x r j e, unjudged := p.1.range, fail := fails.getD p.2 false, ref := p.1.ref b.lsb })
    let ranges := (outs.filter (fun p => p.1.range)).length
    let c := match c.cur with
      | none => c
      | some x => { c with
          runJudged := c.runJudged ++ judge x.addrRun x
          origJudged := c.origJudged ++ judge x.addrOrig x }
    let c := ({ c with rangeCnt := ranges }.write tl.aux map).setStatus t b.seen
    (none, (fails.filter id).length, c)

/-- The queued instruction at the front acts on the lanes; an exception and its place, or none, and BCMP's result. -/
def Device.gRun (d : Device) (g : Fin 12) (x : GOp) : Option Cause × Device :=
  let c := d.gc g
  match x.op with
  | 0x32 =>
    let (f, c) := c.xclr x.a
    (f, d.setGc g c)
  | 0x33 =>
    let (f, c) := c.xdot false x.a x.b x.c
    (f, d.setGc g c)
  | 0x34 =>
    let (f, c) := c.xdot true x.a x.b x.c
    (f, d.setGc g c)
  | 0x35 =>
    let start := d.freeCtr
    let (f, c) := c.xrnd x.a x.b (fun i => (Config.freeWord (start + i)).toNat)
    (f, { d.setGc g c with freeCtr := start + 65536 })
  | _ =>
    let (f, n, c) := c.bcmp x.b x.c
    let d := d.setGc g c
    let d := d.count (R.GC_RANGE_CNT g.val) F.GC_RANGE_CNT.COUNT (if f.isSome then 0 else c.rangeCnt)
    let e : Eng := .gc g
    (f, if f.isSome then d else d.setEng e ((d.eng e).setG x.a (BitVec.ofNat 32 n)))

/-! ### Health of a cluster (R254–R257, R259, R260) -/

/-- HEALTH: 0 NORMAL, 1 OBSERVED, 2 FENCED. -/
def Device.gHealth (d : Device) (g : Fin 12) : Nat := d.fld (R.GC_STATUS g.val) F.GC_STATUS.HEALTH

/-- The observed lanes. -/
def Device.gLanes (d : Device) (g : Fin 12) : List Nat :=
  (List.range 512).filter (fun l => bit (d.reg (R.GC_OBS g.val (l / 32))).toNat (l % 32))

/-- A lane marked observed. -/
def Device.observe (d : Device) (g : Fin 12) (l : Nat) : Device := d.setMaskBit (R.GC_OBS g.val (l / 32)) F.GC_OBS.LANES (l % 32) true

/-- HEALTH set, with GAL_FENCED and GAL_CHANGE. -/
def Device.setHealth (d : Device) (g : Fin 12) (h : Nat) : Device :=
  if d.gHealth g = h then d
  else
    let d := d.setFld (R.GC_STATUS g.val) F.GC_STATUS.HEALTH h
    let d := d.setMaskBit R.GAL_CHANGE F.GAL_CHANGE.CHANGED g.val true
    let d := d.setMaskBit R.GAL_FENCED F.GAL_FENCED.FENCED g.val (h == 2)
    if h = 2 ∧ d.fld R.GAL_FENCED F.GAL_FENCED.FENCED = 0xFFF then d.on R.GAL_CHANGE F.GAL_CHANGE.EMPTY else d

/-- BUSY follows the dispatch taken. -/
def Device.showBusy (d : Device) (g : Fin 12) : Device :=
  d.setFld (R.GC_STATUS g.val) F.GC_STATUS.BUSY (natOf (d.gc g).cur.isSome)

/-- A bay's TAG. -/
def WitCtx.tag? (w : WitCtx) (t : Nat) : Option TagCtx := w.tags.find? (fun x => x.tag == t)

/-- A bay's TAG replaced. -/
def WitCtx.setTag (w : WitCtx) (t : TagCtx) : WitCtx :=
  { w with tags := if w.tags.any (fun x => x.tag == t.tag) then w.tags.map (fun x => if x.tag == t.tag then t else x)
      else w.tags ++ [t] }

/-- The slice that produced a tile, as its sample or its CSUM entry names it. -/
def Device.tileSlice (d : Device) (b : Bay) (step tile : Nat) : Nat :=
  match d.stepCtx? b step with
  | none => 0xFF
  | some s =>
    match s.csums.find? (fun c => c.tile == tile), s.sample? tile false with
    | some c, _ => c.slice
    | none, some x => x.slice
    | none, none => 0xFF

/-- The generation of a dispatch's TAG advances: the TAG stays open and awaits its redispatch, and the program receives
CLUSTER_SUSPECT naming the cluster, 0xFF for none (R231, R252). -/
def Device.advanceGen (d : Device) (x : GDisp) (cluster : Nat) : Device :=
  let w := d.wit x.bay
  match w.tag? x.tag with
  | none => d
  | some t =>
    if !t.isOpen || t.gen != x.gen then d
    else
      let d := d.setWit x.bay (w.setTag { t with gen := (t.gen + 1) % 65536, await := true, cluster := none })
      d.pushItem x.bay ⟨5, d.tileSlice x.bay x.step x.tile, cluster, x.tile, x.step, d.epoch x.bay, []⟩

/-- The completion record of a dispatch (R249). -/
def completion (x : GDisp) (g status run orig runFails origFails sum crc : Nat) : List (BitVec 8) :=
  natBytes 2 x.tag ++ natBytes 1 status ++ natBytes 1 g ++ natBytes 1 run ++ natBytes 1 orig ++ natBytes 2 x.gen ++
    natBytes 4 runFails ++ natBytes 4 origFails ++ natBytes 8 sum ++ natBytes 4 crc ++ zeros 4

/-- The current dispatch of a cluster ends with a status (R230, R249, R250). REF_SUM and REF_CRC that nothing formed are
free values. -/
def Device.gEnd (d : Device) (g : Fin 12) (status : Nat) : Device :=
  let c := d.gc g
  match c.cur with
  | none => d
  | some x =>
    let n := x.m * x.n
    let run := judgeResult n c.runJudged
    let orig := if x.addrOrig = 0 then 0 else judgeResult n c.origJudged
    let (fs, d) := d.fresh64
    let (fc, d) := d.fresh
    let refs := judgedRefs n c.runJudged
    let sum := (refs.map refSum).getD fs.toNat
    let crc := match refs with
      | none => fc.toNat
      | some l => if (List.range n).all (fun p => c.rounded.contains p) then (crc32c (refBytes x.fmtC l)).toNat else fc.toNat
    let bytes := completion x g.val status (if status = 0 then run else 0) (if status = 0 then orig else 0)
      (judgeFails c.runJudged) (judgeFails c.origJudged) sum crc
    let d := d.setGc g { c with
      cur := none, ldBusy := false, loads := [], runJudged := [], origJudged := [], rounded := [] }
    let d := { d with gdone := d.gdone ++ [(x.bay, bytes)] }
    let d := if status = 2 then d.count (R.GC_ABORT_CNT g.val) F.GC_ABORT_CNT.COUNT 1
      else d.count (R.GC_DISP_CNT g.val) F.GC_DISP_CNT.COUNT 1
    d.showBusy g

/-- The completions of a cluster since its last passing run are withdrawn: each tile of a step not yet sealed returns to
the state before its dispatch, and those of sealed steps are counted (R257). -/
def Device.withdraw (d : Device) (g : Fin 12) : Device :=
  let ps := (d.gc g).passes
  let d := d.setGc g { d.gc g with passes := [] }
  ps.foldl (fun d p =>
    if d.epoch p.bay ≠ p.epoch then d
    else match d.stepCtx? p.bay p.step with
      | none =>
        if (match d.sealed? p.bay with
          | none => false
          | some s => decide (p.step ≤ s)) then
          d.count R.GAL_EXPOSED_CNT F.GAL_EXPOSED_CNT.COUNT 1
        else d
      | some s =>
        let slice := d.tileSlice p.bay p.step p.tile
        let d := d.count R.GAL_WITHDRAWN_CNT F.GAL_WITHDRAWN_CNT.COUNT 1
        if p.reference then
          let d := d.setStep p.bay { s with
            cleared := s.cleared.filter (· != p.tile)
            suspects := s.suspects.map (fun t => if t.tile == p.tile then { t with done := false } else t) }
          (d.pushItem p.bay ⟨4, slice, 0xFF, p.tile, p.step, p.epoch, []⟩).showWit p.bay
        else
          let d := d.setStep p.bay { s with
            samples := s.samples.map (fun x => if x.tile == p.tile && !x.replay then { x with passed := false } else x) }
          d.pushItem p.bay ⟨1, slice, 0xFF, p.tile, p.step, p.epoch, []⟩) d

/-- The engine-lost action of a cluster (R230): the dispatch in flight ends, the queue is empty, and the hardware issues
START itself once T_off_min has passed. -/
def Device.gcLost (d : Device) (g : Fin 12) (poison : Bool) : Device :=
  let d := d.gEnd g (if poison then 1 else 2)
  d.setGc g { d.gc g with queue := [], ldBusy := false, selfStart := true }

/-- A KILL of the cluster's engine by the arbiter (R252); a dispatch whose engine had already ended is ended too. -/
def Device.gcKill (d : Device) (g : Fin 12) : Device := (d.engKillReq (.gc g) (·.gcLost g false)).gEnd g 2

/-- A dispatch in flight on a cluster loses its TAG's generation, and the cluster's engine is killed (R252). -/
def Device.gcRecall (d : Device) (g : Fin 12) : Device :=
  let c := d.gc g
  match c.cur, c.waiting with
  | none, none => d
  | none, some x => (d.setGc g { c with waiting := none }).advanceGen x g.val
  | some x, none => (d.advanceGen x g.val).gcKill g
  | some x, some w => (((d.setGc g { c with waiting := none }).advanceGen x g.val).advanceGen w g.val).gcKill g

/-- A cluster becomes FENCED (R255). -/
def Device.gcFence (d : Device) (g : Fin 12) : Device :=
  if d.gHealth g = 2 then d else ((d.setHealth g 2).withdraw g).gcRecall g

/-- One blame: the second within 24 h fences the cluster; a known-answer run falls due at once (R254, R255). -/
def Device.gcBlame (d : Device) (g : Fin 12) : Device :=
  let (t, d) := d.now
  let c := d.gc g
  let times := (c.blames ++ [t]).filter (fun x => decide (t ≤ x + 86400000000))
  let d := d.setGc g { c with blames := times, katDue := true }
  let d := d.count (R.GC_BLAME_CNT g.val) F.GC_BLAME_CNT.COUNT 1
  let d := d.setFld (R.GC_STATUS g.val) F.GC_STATUS.BLAMES (min times.length 15)
  if 2 ≤ times.length then d.gcFence g else d

/-- The cluster's exception other than POISON: one blame (R230). -/
def Device.gcFaultBlame (d : Device) (g : Fin 12) (c : Cause) : Device := if c = .poison then d else d.gcBlame g

/-- KAT_RUN: a run starts between two dispatches (R254). -/
def devKatRun (g : Fin 12) (d : Device) : Device :=
  let a := R.GC_STATUS g.val
  if !d.answers (88 + g.val) || (d.gc g).cur.isSome || d.flag a F.GC_STATUS.CHECKING then d
  else (d.setGc g { d.gc g with katDue := false }).on a F.GC_STATUS.CHECKING

def execKatRun (g : Fin 12) (s : State) : Host.Outcome State Fault Refusal := .next (s.onDev (devKatRun g))

/-- A host unfence that waits for its run. -/
def Device.unfenceAsked (d : Device) (g : Fin 12) : Bool := d.maskBit R.GAL_UNFENCE F.GAL_UNFENCE.UNFENCE g.val

/-- The run found no failing lane. -/
def Device.katPass (d : Device) (g : Fin 12) : Device :=
  let a := R.GC_STATUS g.val
  let d := d.setGc g { d.gc g with passes := [] }
  if d.gHealth g = 1 then
    let n := d.fld a F.GC_STATUS.OBS_PASSES + 1
    if d.fld R.GAL_CFG F.GAL_CFG.OBS_CLEAR ≤ n then
      ((List.range 16).foldl (fun d k => d.setReg (R.GC_OBS g.val k) 0#32) (d.setFld a F.GC_STATUS.OBS_PASSES 0)).setHealth g 0
    else d.setFld a F.GC_STATUS.OBS_PASSES n
  else if d.gHealth g = 2 ∧ d.unfenceAsked g then
    let d := (List.range 16).foldl (fun d k => d.setReg (R.GC_OBS g.val k) 0#32) d
    let d := d.setGc g { d.gc g with blames := [] }
    ((d.setFld a F.GC_STATUS.BLAMES 0).setFld a F.GC_STATUS.OBS_PASSES 0).setHealth g 0
  else d

/-- The run found failing lanes. -/
def Device.katFail (d : Device) (g : Fin 12) (lanes : List Nat) : Device :=
  let a := R.GC_STATUS g.val
  match d.gHealth g with
  | 2 => if d.unfenceAsked g then d.on R.GAL_CHANGE F.GAL_CHANGE.UNFENCE_REJ else d
  | h =>
    let old := d.gLanes g
    let d := (lanes.foldl (fun d l => d.observe g l) d).setFld a F.GC_STATUS.OBS_PASSES 0
    if (h = 1 ∧ lanes.any (fun l => old.contains l) = true) ∨ 8 < (d.gLanes g).length then d.gcFence g
    else (d.setHealth g 1).withdraw g

/-- KAT_DONE: a run ends, with the failing lanes and the class in which each failed. -/
def devKatDone (g : Fin 12) (failing : List (Fin 512 × AccClass)) (d : Device) : Device :=
  let a := R.GC_STATUS g.val
  if !d.answers (88 + g.val) || !d.flag a F.GC_STATUS.CHECKING then d
  else
    let d := d.off a F.GC_STATUS.CHECKING
    let d := d.setGc g { d.gc g with katMade := true }
    let d := d.count (R.GC_KAT_CNT g.val) F.GC_KAT_CNT.COUNT 1
    let d := match failing.getLast? with
      | none => d.katPass g
      | some (l, c) =>
        let code : Nat := match c with
          | .wideFloat => 0
          | .half => 1
          | .narrow => 2
          | .wide => 3
          | .integer => 4
        let d := d.count (R.GC_KAT_FAIL g.val) F.GC_KAT_FAIL.COUNT 1
        let d := (d.setFld (R.GC_LANE_LAST g.val) F.GC_LANE_LAST.LANE l.val).setFld (R.GC_LANE_LAST g.val) F.GC_LANE_LAST.CLASS code
        d.katFail g (failing.map (fun p : Fin 512 × AccClass => p.1.val))
    d.setMaskBit R.GAL_UNFENCE F.GAL_UNFENCE.UNFENCE g.val false

def execKatDone (g : Fin 12) (failing : List (Fin 512 × AccClass)) (s : State) : Host.Outcome State Fault Refusal :=
  .next (s.onDev (devKatDone g failing))

/-- GAL_FENCE. -/
def execGalFence (g : Fin 12) (s : State) : Host.Outcome State Fault Refusal := .next (s.onDev (·.gcFence g))

/-- GAL_UNFENCE: a run falls due, and a FENCED cluster waits for it. -/
def devGalUnfence (g : Fin 12) (d : Device) : Device :=
  if d.gHealth g ≠ 2 then d
  else (d.setMaskBit R.GAL_UNFENCE F.GAL_UNFENCE.UNFENCE g.val true).setGc g { d.gc g with katDue := true }

def execGalUnfence (g : Fin 12) (s : State) : Host.Outcome State Fault Refusal := .next (s.onDev (devGalUnfence g))

/-- T_GDISP_EXPIRY: the generation advances, the engine is killed, and the cluster is blamed (R252). -/
def devTGdispExpiry (g : Fin 12) (d : Device) : Device :=
  match (d.gc g).cur with
  | none => d
  | some x => ((d.advanceGen x g.val).gcKill g).gcBlame g

def execTGdispExpiry (g : Fin 12) (s : State) : Host.Outcome State Fault Refusal := .next (s.onDev (devTGdispExpiry g))

/-! ### The ports of the cluster program (R248, R249) -/

/-- The cluster may take a dispatch: its run is not due or going on. -/
def Device.gcReady (d : Device) (g : Fin 12) : Bool :=
  !(d.gc g).katDue && !d.flag (R.GC_STATUS g.val) F.GC_STATUS.CHECKING && (d.gc g).katMade

/-- GP_WAITING. -/
def Device.gpWaiting (d : Device) (g : Fin 12) : Bool := (d.gc g).waiting.isSome && d.gcReady g

/-- GP_TAKE. -/
def Device.gpTake (d : Device) (g : Fin 12) : Device :=
  let c := d.gc g
  match c.waiting with
  | none => d
  | some x =>
    if c.cur.isSome || !d.gcReady g then d
    else
      (d.setGc g { c with
        waiting := none, cur := some x, shown := x, loads := [], runJudged := [], origJudged := [], rounded := [] }).showBusy g

/-- GP_DONE: a dispatch ended in STOPPING is ABORTED (R230). -/
def Device.gpDone (d : Device) (g : Fin 12) : Device := d.gEnd g (if d.engState (.gc g) = 3 then 2 else 0)

/-- GP_LD_GO: a copy starts, or is refused outside the parts that the descriptor names. -/
def Device.gpLdGo (d : Device) (g : Fin 12) : Device :=
  let c := d.gc g
  if c.ldBusy then d
  else
    let inPart : Bool := match c.cur with
      | none => false
      | some x => x.parts.any (fun p => decide (p.1 ≤ c.ldSrc ∧ c.ldSrc + c.ldLen ≤ (p.1 + p.2.1 + 63) / 64 * 64))
    let ok := inPart && decide (0 < c.ldLen) && c.ldLen % 64 == 0 && decide (c.ldDst + c.ldLen ≤ tileStoreBytes)
    d.setGc g (if ok then { c with ldBusy := true, ldPoison := false, ldRefused := false }
      else { c with ldRefused := true })

/-- LOADER_COPY_DONE: the copy ends, with what the path found on it (R248). -/
def devLoaderCopyDone (g : Fin 12) (path : PathErr) (d : Device) : Device :=
  let c := d.gc g
  if !c.ldBusy || !d.answers (88 + g.val) || !d.allReady then d
  else
    let d := d.readPath c.ldSrc path
    let bs := memBytes d.mem c.ldSrc c.ldLen
    let bad := (List.range (c.ldLen / 64)).filter (fun i => d.poisoned (c.ldSrc + 64 * i))
    let c := c.write c.ldDst bs
    let badLines := bad.flatMap (fun i => (touchedLines (c.ldDst + 64 * i) 64).map (fun l => l.1 / 64))
    let scales : Option (Nat × Nat × Bool) := match c.cur with
      | none => none
      | some x => x.parts.find? (fun p => p.2.2 && decide (p.1 ≤ c.ldSrc ∧ c.ldSrc < p.1 + p.2.1))
    let c := match scales with
      | none => c
      | some p =>
        let vs := (bs.take (p.1 + p.2.1 - c.ldSrc)).map (fun x : BitVec 8 => x.toNat)
        { c with sMin := vs.foldl min 255, sMax := vs.foldl max 0 }
    d.setGc g { c with
      ldBusy := false
      ldPoison := !bad.isEmpty
      tpoison := c.tpoison ++ badLines.filter (fun l => !c.tpoison.contains l)
      loads := (c.ldDst, c.ldLen, some c.ldSrc) :: c.loads.drop 1 }

def execLoaderCopyDone (g : Fin 12) (path : PathErr) (s : State) : Host.Outcome State Fault Refusal :=
  .next (s.onDev (devLoaderCopyDone g path))

/-! ### Dispatch (R226, R245–R247) -/

/-- Open dispatches of a bay. -/
def WitCtx.openTags (w : WitCtx) : Nat := (w.tags.filter (·.isOpen)).length

/-- The staged descriptor's fields are in range and match its addresses and formats. -/
def gdescOk (x : GDisp) : Bool :=
  let flags := fieldOf x.desc 25 1
  (x.kind == 1 || x.kind == 2) && decide (1 ≤ x.m ∧ x.m ≤ 256 ∧ 1 ≤ x.n ∧ x.n ≤ 256) && decide (flags < 4) &&
  x.addrA != 0 && x.addrB != 0 && x.addrRun != 0 &&
  (fmtMx x.fmtA == (x.addrSA != 0)) && (fmtMx x.fmtB == (x.addrSB != 0)) &&
  bit flags 0 && (bit flags 1 == (x.addrOrig != 0)) && (x.addrOrig == 0 || x.kind == 2) &&
  (match pairing x.fmtA x.fmtB with
    | none => false
    | some (_, outs) => outs.contains x.fmtC)

/-- WP_GDISP. -/
def Device.wpGdisp (d : Device) (b : Bay) (v : BitVec 32) : Device :=
  let w := d.wit b
  let t := fieldOf w.gdesc 0 2
  let fa := fieldOf w.gdesc 22 1
  let tol := d.tol b (fa % 32)
  let desc := w.gdesc.take 26 ++ natBytes 1 tol.1 ++ natBytes 1 tol.2.2 ++ w.gdesc.drop 28
  let x : GDisp := ⟨b, 0, desc⟩
  let old := w.tag? t
  let again := match old with
    | none => false
    | some o => o.isOpen && o.await
  let tagFree := match old with
    | none => true
    | some o => !o.isOpen || o.await
  let ok := decide (w.pend.length < 16) && (again || decide (w.openTags < 64)) && tagFree && decide (v.toNat < 2 ^ 12) &&
    fieldOf w.gdesc 2 1 == 0 && gdescOk x
  if !ok then d.setWit b { w with gdispOk := false }
  else
    let c : TagCtx :=
      { tag := t, gen := (old.map (·.gen)).getD 0, isOpen := true, await := false, desc := desc, exclude := v.toNat,
        cluster := none, confirm := false }
    d.setWit b { w.setTag c with gdispOk := true, pend := w.pend ++ [t] }

/-- WP_REPLAY_GO for the head item (R215, R218, R226). -/
def Device.wpReplayGo (d : Device) (b : Bay) (v : BitVec 32) : Device :=
  let w := d.wit b
  let run := v.toNat % 64
  let flags := bitsOf v.toNat 8 2
  let no := d.setWit b { w with replayOk := false }
  match w.items.head? with
  | none => no
  | some i =>
    if !(i.kind == 2 || i.kind == 3) || decide (8 ≤ w.replaysOut) || decide ((d.link b).slices.length ≤ run) || !d.leads then no
    else match d.stepCtx? b i.step with
      | none => no
      | some s =>
        if s.massFail || !s.suspects.any (fun t => t.tile == i.tile && !t.done) then no
        else
          let rp : ReplayCtx := { runSlice := run, flags := flags, csum := false, complete := false, reference := none }
          let upd : SuspectCtx → SuspectCtx := fun t => if t.tile == i.tile then { t with replay := some rp } else t
          let d := d.setStep b { s with suspects := s.suspects.map upd }
          let d := d.setWit b { d.wit b with replayOk := true }
          (d.leadRec b (.replay (d.epoch b) i.step i.tile run i.slice flags)).showWit b

/-- The cluster is RUNNING, not FENCED and idle (WP_GFREE). -/
def Device.gFree (d : Device) (g : Fin 12) : Bool :=
  d.answers (88 + g.val) && d.engState (.gc g) == 2 && d.gHealth g != 2 && (d.gc g).cur.isNone && (d.gc g).waiting.isNone

/-- A dispatch may go to a cluster: not excluded, and a confirming run only to one without observed lanes (R256). -/
def Device.mayUse (d : Device) (g : Fin 12) (t : TagCtx) : Bool :=
  !bit t.exclude g.val && (!t.confirm || (d.gLanes g).isEmpty)

/-- The oldest pending dispatch of a bay that a cluster may be given; one with observed lanes only where no idle cluster
without may take it (R247). -/
def Device.pickFor (d : Device) (g : Fin 12) (b : Bay) : Option TagCtx :=
  let w := d.wit b
  (w.pend.filterMap (fun t => w.tag? t)).find? (fun t => d.mayUse g t &&
    ((d.gLanes g).isEmpty || !clusters.any (fun h => h != g && d.gFree h && d.gcReady h && (d.gLanes h).isEmpty && d.mayUse h t)))

/-- ARBITER_HANDOVER: an idle cluster is given the next dispatch in round-robin order of the bays, stamped. -/
def devArbiterHandover (g : Fin 12) (d : Device) : Device :=
  if !d.gFree g || !d.gcReady g then d
  else
    let order := (List.range 8).map (fun i => (⟨(d.arbLast.val + 1 + i) % 8, Nat.mod_lt _ (by decide)⟩ : Bay))
    match order.findSome? (fun b => (d.pickFor g b).map (fun t => (b, t))) with
    | none => d
    | some (b, t) =>
      let w := d.wit b
      let d := d.setWit b { w.setTag { t with cluster := some g.val } with pend := w.pend.erase t.tag }
      let d := d.setGc g { d.gc g with waiting := some ⟨b, t.gen, t.desc⟩ }
      { d with arbLast := b }

def execArbiterHandover (g : Fin 12) (s : State) : Host.Outcome State Fault Refusal :=
  .next (s.onDev (devArbiterHandover g))

/-! ### Completions (R217, R218, R251, R256) -/

/-- A completion record's fields. -/
structure Comp where
  tag : Nat
  status : Nat
  cluster : Nat
  run : Nat
  orig : Nat
  gen : Nat
  sum : Nat
  /-- REF_SUM, REF_CRC, RUN_FAILS and ORIG_FAILS, which two references must share to agree -/
  key : List Nat
  deriving DecidableEq, Repr

/-- The fields read. -/
def compOf (l : List (BitVec 8)) : Comp where
  tag := fieldOf l 0 2
  status := fieldOf l 2 1
  cluster := fieldOf l 3 1
  run := fieldOf l 4 1
  orig := fieldOf l 5 1
  gen := fieldOf l 6 2
  sum := fieldOf l 16 8
  key := [fieldOf l 16 8, fieldOf l 24 4, fieldOf l 8 4, fieldOf l 12 4]

/-- A cluster reported to the Gallery self-check. -/
def Device.blameNo (d : Device) (n : Nat) : Device := if h : n < 12 then d.gcBlame ⟨n, h⟩ else d

/-- A completion that passed a tile, noted with its cluster. -/
def Device.notePass (d : Device) (n : Nat) (p : GPass) : Device :=
  if h : n < 12 then d.setGc ⟨n, h⟩ { d.gc ⟨n, h⟩ with passes := (d.gc ⟨n, h⟩).passes ++ [p] } else d

/-- |S_OUT − R_sum| ≤ τ ÷ 2 (R217). -/
def origBySum (c : CsumEntry) (sum : Nat) : Bool :=
  match binary64.num c.sOut, binary64.num sum with
  | .fin m1 e1, .fin m2 e2 => withinTau (m1, e1) (m2, e2) (c.tau.map (fun t => (t.1, t.2 - 1)))
  | _, _ => false

/-- A SAMPLE dispatch judged. -/
def Device.sampleVerdict (d : Device) (b : Bay) (s : StepCtx) (t : TagCtx) (x : GDisp) (c : Comp) : Device :=
  let d := d.count (R.WIT_SAMPLE_CNT b.val) F.WIT_SAMPLE_CNT.COUNT 1
  if c.run = 1 then
    let d := d.setStep b { s with
      samples := s.samples.map (fun y => if y.tile == x.tile && !y.replay then { y with passed := true } else y) }
    d.notePass c.cluster ⟨b, s.epoch, s.step, x.tile, false⟩
  else
    (d.count (R.WIT_SAMPLE_FAIL b.val) F.WIT_SAMPLE_FAIL.COUNT 1).suspect b s.step x.tile (d.tileSlice b s.step x.tile)
      (some c.cluster)

/-- A REFERENCE dispatch judged by the table of R217. -/
def Device.referenceVerdict (d : Device) (b : Bay) (s : StepCtx) (x : GDisp) (c : Comp) : Device :=
  match s.suspects.find? (fun t => t.tile == x.tile && !t.done) with
  | none => d
  | some t =>
    match t.replay with
    | none => d
    | some rp =>
      let origAgrees :=
        if c.orig = 0 then
          match s.csums.find? (fun e => e.tile == x.tile) with
          | none => false
          | some e => origBySum e c.sum
        else c.orig == 1
      let same := rp.runSlice == t.slice
      let say (d : Device) (code : Nat) : Device := d.verdict b code s.step x.tile t.slice rp.runSlice c.cluster same
      let pass (d : Device) : Device := d.notePass c.cluster ⟨b, s.epoch, s.step, x.tile, true⟩
      let keep (d : Device) (r : Option (Nat × List Nat)) : Device :=
        d.setStep b { s with suspects := s.suspects.map (fun y =>
          if y.tile == x.tile then { y with replay := some { rp with reference := r } } else y) }
      if c.run = 0 then d
      else
        let second := match rp.reference with
          | none => false
          | some f => f.1 != c.cluster
        let differs := match rp.reference with
          | none => false
          | some f => f.1 != c.cluster && f.2 != c.key
        let blame (d : Device) : Device := if differs then d.blameNo ((rp.reference.map (·.1)).getD 12) else d
        match origAgrees, c.run == 1 with
        | false, true => say (blame d) 1
        | true, true =>
          if t.csum then
            let d := pass (say (blame d) 2)
            match t.sample with
            | none => d
            | some n => d.blameNo n
          else
            let d := pass (say (blame d) 3)
            match t.sample with
            | none => d
            | some n => d.blameNo n
        | true, false => pass (say (blame d) 4)
        | false, false =>
          if second && !differs then say d 5
          else keep (blame d) (some (c.cluster, c.key))

/-- COMPLETION_ACCEPT: the oldest completion reaches its seal gate. -/
def devCompletionAccept (d : Device) : Device :=
  match d.gdone with
  | [] => d
  | (b, bytes) :: rest =>
    let d := { d with gdone := rest }
    let c := compOf bytes
    let w := d.wit b
    match w.tag? c.tag with
    | none => d.count R.GAL_LATE_CNT F.GAL_LATE_CNT.COUNT 1
    | some t =>
      if !t.isOpen || t.gen != c.gen then d.count R.GAL_LATE_CNT F.GAL_LATE_CNT.COUNT 1
      else
        let x : GDisp := ⟨b, t.gen, t.desc⟩
        let observed := if h : c.cluster < 12 then !(d.gLanes ⟨c.cluster, h⟩).isEmpty else false
        if c.status = 0 ∧ x.kind = 1 ∧ c.run = 1 ∧ observed = true ∧ t.confirm = false then
          d.setWit b { w.setTag { t with confirm := true, cluster := none } with pend := w.pend ++ [t.tag] }
        else
          let d := d.setWit b (w.setTag { t with isOpen := false, await := false, cluster := none, confirm := false })
          let slice := d.tileSlice b x.step x.tile
          let d := d.pushItem b ⟨if c.status = 2 then 5 else 8, slice, c.cluster, x.tile, x.step, d.epoch b, bytes⟩
          match d.stepCtx? b x.step with
          | none => d
          | some s =>
            if c.status = 2 then d
            else if c.status = 1 then d.verdict b 8 x.step x.tile slice 0xFF c.cluster false
            else if x.kind = 1 then d.sampleVerdict b s t x c
            else d.referenceVerdict b s x c

def execCompletionAccept (s : State) : Host.Outcome State Fault Refusal := .next (s.onDev devCompletionAccept)

/-! ### GALLERY_LAG (R204) -/

/-- GALLERY_LAG: the oldest SAMPLE_READY item, or else the oldest pending dispatch, has waited T_glag. -/
def devGalleryLag (b : Bay) (d : Device) : Device :=
  let w := d.wit b
  let what := match w.items.find? (fun i => i.kind == 1) with
    | some i => some (i.slice, i.tile, i.step)
    | none => match w.pend.head?.bind w.tag? with
      | none => none
      | some t =>
        let x : GDisp := ⟨b, t.gen, t.desc⟩
        some (d.tileSlice b x.step x.tile, x.tile, x.step)
  match what with
  | none => d
  | some (slice, tile, step) =>
    let d := d.count (R.WIT_GLAG_CNT b.val) F.WIT_GLAG_CNT.COUNT 1
    let (t, d) := d.now
    if timeDue (d.wit b).glagTime t 1000000 then
      (d.setWit b { d.wit b with glagTime := some t }).witEvent b 5 0 slice tile step (d.epoch b)
    else d

def execGalleryLag (b : Bay) (s : State) : Host.Outcome State Fault Refusal := .next (s.onDev (devGalleryLag b))

end Sys2Proof.Machine
end

