-- ==== Sys2Proof/Machine/Trust.lean ====
section
/-! DEFINITION. Signed objects: key slots, the signature trailer, the checks of R445 and R446 that every kind of object
shares (R127, R128, R440, R445). -/

namespace Sys2Proof.Machine

/-- A 32-byte digest as a number, byte 0 first. -/
def digestNum (l : List (BitVec 8)) : BitVec 256 := BitVec.ofNat 256 (bytesNatBe (l.take 32))

/-- A key-hash slot whose SET bit is blown. -/
def FuseFields.isSet (f : FuseFields) (k : Fin 8) : Bool := f.keySet.getLsbD k.val

/-- A key-hash slot whose REVOKE bit is blown. -/
def FuseFields.isRevoked (f : FuseFields) (k : Fin 8) : Bool := f.revoke.getLsbD k.val

/-- A usable key-hash slot (R440). -/
def FuseFields.usable (f : FuseFields) (k : Fin 8) : Bool := f.isSet k && !f.isRevoked k

/-- A PARTIAL slot (R440). -/
def FuseFields.isPartial (f : FuseFields) (k : Fin 8) : Bool := f.keyHash[k] != 0 && !f.isSet k

/-- The place of a key slot of a class. -/
def keyPlace (cls slot : Nat) : Option (Fin 8) := if h : cls < 2 ∧ slot < 4 then some ⟨4 * cls + slot, by omega⟩ else none

/-- Bytes of the signature trailer. -/
def trailerLen : Nat := 132

/-- The key check of R445 apart from revocation: the slot is SET, PUBKEY hashes to it, and the class may sign the kind;
the slot where it holds. -/
def keyCheck (f : FuseFields) (ownerMay : Bool) (bs : List (BitVec 8)) (off : Nat) : Option (Fin 8) :=
  match keyPlace (fieldOf bs off 1) (fieldOf bs (off + 1) 1) with
  | none => none
  | some k =>
    if f.isSet k && (ownerMay || decide (k.val < 4)) &&
        f.keyHash[k] == digestNum (sha256 ((bs.drop (off + 4)).take 64)) then some k else none

/-- Big-endian 32 bytes of an object. -/
def be32 (bs : List (BitVec 8)) (off : Nat) : Nat := bytesNatBe ((bs.drop off).take 32)

/-- The signature check of R445: over the SHA-256 digest of the bytes before the trailer. -/
def signatureOk (bs : List (BitVec 8)) (off : Nat) : Bool :=
  ecdsaVerify (bytesNatBe (sha256 (bs.take off))) (be32 bs (off + 4)) (be32 bs (off + 36)) (be32 bs (off + 68))
    (be32 bs (off + 100))

/-- Bytes of an object from an offset are all zero. -/
def zeroField (bs : List (BitVec 8)) (off n : Nat) : Bool := fieldOf bs off n == 0

/-- The key and signature checks together: 0 where they hold, 4 KEY, 5 REVOKED, 8 SIGNATURE (R446). -/
def trustCheck (f : FuseFields) (ownerMay : Bool) (bs : List (BitVec 8)) (off : Nat) : Nat :=
  match keyCheck f ownerMay bs off with
  | none => 4
  | some k => if f.isRevoked k then 5 else if signatureOk bs off then 0 else 8

/-- The object is signed by an owner key. -/
def ownerSigned (bs : List (BitVec 8)) (off : Nat) : Bool := fieldOf bs off 1 == 1

/-- Its signing slot is revoked. -/
def signerRevoked (f : FuseFields) (bs : List (BitVec 8)) (off : Nat) : Bool :=
  match keyPlace (fieldOf bs off 1) (fieldOf bs (off + 1) 1) with
  | none => false
  | some k => f.isRevoked k

end Sys2Proof.Machine
end

