-- ==== Sys2Proof/Machine/Flowstone.lean ====
section
/-! DEFINITION. The Flowstone log: records and their bytes, the log in flash, the memory journal, the override table, the
decisions that act once a record is durable, and the host's commands (R262–R272, R282–R289). -/

namespace Sys2Proof.Machine

/-! ### Records (R283) -/

/-- A record as its 64 bytes. -/
def FsRecord.bytes (r : FsRecord) : List (BitVec 8) :=
  let body := natBytes 8 r.seq ++ natBytes 6 r.ft ++ natBytes 1 r.kind ++
    natBytes 1 (1 + 16 * natOf r.mirrored + 32 * natOf r.journal) ++ natBytes 8 r.unitId ++ natBytes 1 r.bay ++
    natBytes 1 r.slice ++ natBytes 1 r.before ++ natBytes 1 r.after ++ natBytes 1 r.cause ++ natBytes 1 r.flags ++
    natBytes 2 r.epoch ++ natBytes 6 r.step ++ natBytes 2 r.count ++ natBytes 4 r.ref ++ natBytes 8 r.wall ++
    natBytes 8 r.detail
  body ++ natBytes 4 (crc32c body).toNat

/-- A record read from its 64 bytes. -/
def fsRecordOf (bs : List (BitVec 8)) : FsRecord where
  seq := fieldOf bs 0 8
  ft := fieldOf bs 8 6
  kind := fieldOf bs 14 1
  mirrored := bit (fieldOf bs 15 1) 4
  journal := bit (fieldOf bs 15 1) 5
  unitId := fieldOf bs 16 8
  bay := fieldOf bs 24 1
  slice := fieldOf bs 25 1
  before := fieldOf bs 26 1
  after := fieldOf bs 27 1
  cause := fieldOf bs 28 1
  flags := fieldOf bs 29 1
  epoch := fieldOf bs 30 2
  step := fieldOf bs 32 6
  count := fieldOf bs 38 2
  ref := fieldOf bs 40 4
  wall := fieldOf bs 44 8
  detail := fieldOf bs 52 8

/-- A record of a kind at a time, about nothing yet. -/
def FsRecord.blank (ft wall kind : Nat) : FsRecord where
  seq := 0
  ft := ft
  kind := kind
  mirrored := false
  journal := false
  unitId := 0
  bay := 0xFF
  slice := 0xFF
  before := 0xFF
  after := 0xFF
  cause := 0
  flags := 0
  epoch := 0
  step := 0
  count := 0
  ref := 0
  wall := wall
  detail := 0

/-- A record about a unit: the states before and after it. -/
def FsRecord.on (r : FsRecord) (unitId bay slice before after : Nat) : FsRecord :=
  { r with unitId := unitId, bay := bay, slice := slice, before := before, after := after }

/-! ### What an event does to its unit (R264, R266, R268, R270) -/

/-- A unit's last fault lies within T_fault of ft. -/
def Device.faultRecent (d : Device) (u : UnitState) (ft : Nat) : Bool :=
  match u.lastFault with
  | none => false
  | some t => decide (ft ≤ t + d.tFault)

/-- The state after a confirmed fault. -/
def Device.afterFault (d : Device) (u : UnitState) (ft : Nat) : Nat :=
  if 2 ≤ u.state then u.state else if d.faultRecent u ft then 2 else 1

/-- The state after a visit. -/
def Device.afterVisit (d : Device) (u : UnitState) (failure : Bool) (ft : Nat) : Nat :=
  if 2 ≤ u.state ∨ failure = false then u.state else if u.state = 1 ∨ d.faultRecent u ft = true then 2 else 1

/-- Units of a bay that would be ACTIVE after UNRETIRE. -/
def Device.wouldBeActive (d : Device) (b : Bay) : Nat :=
  ((d.link b).slices.filter (fun s => s.state != 2 && (d.unit s.unitId).before != 2)).length

/-- The result of a host operation on a unit or a bay (R268, R291): 0 where it may be done. -/
def Device.hostCheck (d : Device) (op : Nat) (b : Bay) (slice : Nat) : Nat :=
  match op with
  | 1 =>
    match d.unitOf b slice with
    | none => 2
    | some id => if 2 ≤ (d.unit id).state then 4 else if d.activeSlices b (some slice) < (d.link b).slicesMin then 3 else 0
  | 2 =>
    match d.unitOf b slice with
    | none => 2
    | some id => if (d.unit id).state = 2 ∧ d.bayHealth b ≠ 2 then 0 else 4
  | 3 => if d.bayHealth b = 2 ∨ (d.link b).slices.isEmpty = true then 4 else 0
  | 4 => if d.bayHealth b ≠ 2 then 4 else if d.wouldBeActive b < (d.link b).slicesMin then 3 else 0
  | 5 =>
    match d.unitOf b slice with
    | none => 2
    | some id => if (d.unit id).state = 1 then 0 else 4
  | _ => 2

/-- The window of a unit may close: it is OBSERVED, the window has run T_obs_win, and PASSES has reached REQ. -/
def UnitState.windowDone (u : UnitState) (ft : Nat) : Bool :=
  u.state == 1 && decide (u.winStart + u.win ≤ ft) && decide (u.req ≤ u.passes)

/-- The record of an event as it stands now (R269, R284); none where the event no longer changes anything. -/
def Device.fsForm (d : Device) (ft wall : Nat) : FsEvent → Option FsRecord
  | .fault b slice unitId cause flags ep step tile n =>
    let r : FsRecord := { FsRecord.blank ft wall 0x01 with
      bay := b.val, slice := slice.getD 0xFF, cause := cause, flags := flags, epoch := ep, step := step, count := min n 65535,
      ref := tile }
    if slice.isSome ∧ confirmedCode cause = true ∧ unitId ≠ 0 then
      let u := d.unit unitId
      some (r.on unitId b.val (slice.getD 0xFF) u.state (d.afterFault u ft))
    else some r
  | .visit b slice unitId outcome failure runs pack run mism =>
    let u := d.unit unitId
    some ({ FsRecord.blank ft wall 0x03 with
      cause := outcome, flags := natOf failure, count := runs, ref := pack, detail := run + 2 ^ 32 * mism }.on
      unitId b.val slice u.state (d.afterVisit u failure ft))
  | .window unitId =>
    let u := d.unit unitId
    if u.windowDone ft then some ({ FsRecord.blank ft wall 0x02 with cause := 1 }.on unitId u.place.1 u.place.2 1 0) else none
  | .host op b slice unitId =>
    if d.hostCheck op b slice ≠ 0 then none
    else
      let u := d.unit unitId
      some ({ FsRecord.blank ft wall 0x02 with cause := 3, detail := op }.on unitId b.val slice u.state
        (if op = 1 then 2 else if op = 2 then 1 else 0))
  | .retireUnit b slice unitId =>
    let u := d.unit unitId
    if u.state = 3 then none else some ({ FsRecord.blank ft wall 0x02 with cause := 2 }.on unitId b.val slice u.state 3)
  | .unretireUnit b slice unitId =>
    let u := d.unit unitId
    if u.state ≠ 3 then none
    else some ({ FsRecord.blank ft wall 0x02 with cause := 3, detail := 4 }.on unitId b.val slice 3 (if u.before = 2 then 2 else 1))
  | .retireBay _ _ => none
  | .unretireBay _ => none
  | .seen b slice unitId serial fenced =>
    let u := d.unit unitId
    let isNew := u.place == (0xFF, 0xFF)
    let moved := u.place != (b.val, slice)
    if !moved && !(fenced && decide (u.state < 2)) then none
    else some ({ FsRecord.blank ft wall 0x04 with cause := if isNew then 1 else 2, detail := serial }.on unitId b.val slice
      (if (d.unit? unitId).isNone then 0xFF else u.state) (if fenced ∧ u.state < 2 then 2 else u.state))
  | .tick first => some { FsRecord.blank ft wall 0x05 with flags := natOf first }
  | .carry unitId state age =>
    some ({ FsRecord.blank ft wall 0x06 with cause := age }.on unitId 0xFF 0xFF
      (match d.unit? unitId with
        | none => 0xFF
        | some u => u.state) state)
  | .pack cause owner tests packId version =>
    some { FsRecord.blank ft wall 0x07 with
      cause := cause, flags := if owner then 2 else 1, count := tests, ref := packId, detail := version }
  | .guardUnit unitId =>
    let u := d.unit unitId
    if u.state = 0 then some ({ FsRecord.blank ft wall 0x02 with cause := 4 }.on unitId u.place.1 u.place.2 0 1) else none
  | .mirror r => some { r with seq := 0, mirrored := true, journal := false }

/-- The device writes the record of an event: of every event but a visit that R284 only counts. -/
def Device.fsRecorded (d : Device) : FsEvent → Bool
  | .visit _ _ unitId outcome failure _ _ _ _ =>
    let u := d.unit unitId
    failure || u.state == 1 || u.state == 2 || outcome != u.lastVisit
  | .retireBay _ _ => false
  | .unretireBay _ => false
  | _ => true

/-! ### What acts once the record is durable (R264, R266, R267, R268, R285) -/

/-- FS_CMD ends. -/
def Device.fsCmdEnd (d : Device) (result : Nat) : Device :=
  (d.off R.FS_CMD_STAT F.FS_CMD_STAT.BUSY).setFld R.FS_CMD_STAT F.FS_CMD_STAT.RESULT result

/-- Events that go before all that wait. -/
def Device.fsFirst (d : Device) (es : List FsEvent) : Device :=
  { d with fs := { d.fs with queue := es ++ d.fs.queue } }

/-- The events that retire a bay: each unit, then the bay. -/
def Device.retireEvents (d : Device) (b : Bay) (host : Bool) : List FsEvent :=
  ((d.link b).slices.zipIdx).map (fun p => FsEvent.retireUnit b p.2 p.1.unitId) ++ [.retireBay b host]

/-- A unit has become FENCED by a fence decision: FENCE is sent, or the bay is retired (R266). -/
def Device.fenceDecided (d : Device) (b : Bay) (slice reason : Nat) : Device :=
  if d.activeSlices b (some slice) < (d.link b).slicesMin then d.fsFirst (d.retireEvents b false)
  else d.sendFence b slice reason true

/-- A bay is retired, its units being recorded so (R267). -/
def Device.retireActs (d : Device) (b : Bay) (host : Bool) : Device :=
  let d := (d.on (R.WIT_CTL b.val) F.WIT_CTL.HOST_HOLD).hold b 8 true
  let step := d.nextSeal b
  let d := d.showVerdict b 9 0xFF 0xFF 0x7F false 0 step
  let d := (d.jobFault b 9 step 0 0xFF 0 false).voidSteps b
  let d := if d.session b = 4 then d.setSession b 3 else d
  let d := (d.raise 0x0502 b.val []).refreshUnits b
  if host then d.fsCmdEnd 0 else d

/-- A retired bay returns: HOST_HOLD falls, and UNFENCE goes to the slices that are OBSERVED and shown FENCED. -/
def Device.unretireActs (d : Device) (b : Bay) : Device :=
  let d := (d.off (R.WIT_CTL b.val) F.WIT_CTL.HOST_HOLD).hold b 8 false
  let d := ((d.link b).slices.zipIdx).foldl (fun d p =>
    if (d.unit p.1.unitId).state == 1 && p.1.state == 1 then d.sendFence b p.2 3 false else d) d
  (d.refreshUnits b).fsCmdEnd 0

/-- The decision an event's record carries acts. -/
def Device.fsActs (d : Device) (e : FsEvent) (r : FsRecord) : Device :=
  let fenced := r.after == 2 && r.before != 2
  match e with
  | .fault b (some slice) _ _ _ _ _ _ _ => if fenced then d.fenceDecided b slice 1 else d
  | .visit b slice _ _ _ _ _ _ _ => if fenced then d.fenceDecided b slice 2 else d
  | .host op b slice _ =>
    let d := if op = 1 then d.fenceDecided b slice 3 else if op = 2 then d.sendFence b slice 3 false else d
    d.fsCmdEnd 0
  | .carry _ _ _ => d.fsCmdEnd 0
  | _ => d

/-- A unit takes the state its record gives; a change raises UNIT_STATE (R262, R292). -/
def Device.fsTake (d : Device) (r : FsRecord) : Device :=
  if r.unitId = 0 then d
  else
    let was := d.unit r.unitId
    let u := d.replayRecord was r
    let d := (d.setUnit u).refreshAllUnits
    if u.state = was.state then d else d.raise 0x0501 r.bay [u.id, was.state, u.state]

/-- Events at the front of the queue that need no record act at once. -/
def Device.fsDrain : Nat → Device → Device
  | 0, d => d
  | n + 1, d =>
    match d.fs.queue with
    | [] => d
    | e :: rest =>
      if d.fsRecorded e then d
      else
        let d := { d with fs := { d.fs with queue := rest } }
        match e with
        | .retireBay b host => (d.retireActs b host).fsDrain n
        | .unretireBay b => (d.unretireActs b).fsDrain n
        | e =>
          let (ft, d) := d.readFt
          match d.fsForm ft 0 e with
          | some r => (d.fsTake r).fsDrain n
          | none => d.fsDrain n

/-- Every such event. -/
def Device.fsSettle (d : Device) : Device := d.fsDrain (d.fs.queue.length + 1)

/-! ### Places for a record (R282, R287, R288) -/

/-- A slot of the log remains. -/
def FsCtx.room (f : FsCtx) : Bool := decide (f.block < 512 ∧ f.block < 480 + f.abandoned)

/-- Records the journal holds at most. -/
def journalCap : Nat := 4194304

/-- Where a journal slot lies. -/
def journalAddr (slot : Nat) : Nat := 0xFF0000000 + 64 * slot

/-- Journal records not yet acknowledged. -/
def FsCtx.unacked (f : FsCtx) : Nat := (f.journal.filter (fun p => decide (f.journalAck < p.2.seq))).length

/-- A journal slot for a new record, and the journal without what gives way: a free slot, the oldest acknowledged record,
the oldest TICK; none where neither is left. The last part says that a record is lost. -/
def FsCtx.journalPlace (f : FsCtx) : Option (Nat × List (Nat × FsRecord) × Bool) :=
  if f.journal.length < journalCap then
    some ((((List.range (f.journal.length + 1)).find? (fun k => !f.journal.any (fun p => p.1 == k))).getD 0), f.journal, false)
  else match f.journal.find? (fun p => decide (p.2.seq ≤ f.journalAck)) with
    | some p => some (p.1, f.journal.erase p, false)
    | none =>
      match f.journal.find? (fun p => p.2.kind == 0x05) with
      | some p => some (p.1, f.journal.erase p, true)
      | none => none

/-- The override table holds at most this many units. -/
def overrideCap : Nat := 1024

/-- A decision that found no place is held in the override table (R288). -/
def Device.override (d : Device) (r : FsRecord) : Device :=
  if r.unitId = 0 then d
  else
    let l := d.fs.overrides.filter (fun x => x.unitId != r.unitId)
    let named (x : FsRecord) : Bool := bays.any (fun b => (d.link b).slices.any (fun s => s.unitId == x.unitId))
    let l := if l.length < overrideCap then l
      else match l.find? (fun x => !named x) with
        | some x => l.erase x
        | none => l.drop 1
    { d with fs := { d.fs with overrides := l ++ [r] } }

/-- A record that could not be kept (R288). -/
def Device.recordLost (d : Device) : Device :=
  let d := (d.count R.FS_JOURNAL_LOST F.FS_JOURNAL_LOST.COUNT 1).on R.FS_STATUS F.FS_STATUS.JOURNAL_FULL
  if d.fs.journalFull then d else { d with fs := { d.fs with journalFull := true } }.raise 0x0509 0xFF []

/-- What FS_SEQ and FS_JOURNAL_CNT show. -/
def Device.fsShow (d : Device) : Device :=
  let d := (d.setReg R.FS_SEQ_LO (BitVec.ofNat 32 d.fs.nextSeq)).setReg R.FS_SEQ_HI (BitVec.ofNat 32 (d.fs.nextSeq / 2 ^ 32))
  d.setFld R.FS_JOURNAL_CNT F.FS_JOURNAL_CNT.COUNT d.fs.unacked

/-- The flash becomes read only once no slot remains (R287). -/
def Device.ledgerCheck (d : Device) : Device :=
  if d.fs.room || d.flag R.FS_STATUS F.FS_STATUS.LEDGER_FULL then d
  else (d.on R.FS_STATUS F.FS_STATUS.LEDGER_FULL).raise 0x0507 0xFF []

/-- FS_SPARES_LOW is raised once (R282). -/
def Device.sparesCheck (d : Device) : Device :=
  if d.fs.sparesLow || decide (d.fs.abandoned ≤ 24) then d
  else { d with fs := { d.fs with sparesLow := true } }.raise 0x0508 0xFF []

/-- Blocks of the log that hold records. -/
def usedBlocks (l : List FsSlot) : Nat := ((l.filter (fun s => s.record.isSome)).map (fun s => s.place / 2048)).eraseDups.length

/-- FS_BLOCKS formed from the log. -/
def Sys.showBlocks (y : Sys) : Sys :=
  y.onDev (fun d => (d.setFld R.FS_BLOCKS F.FS_BLOCKS.USED (usedBlocks y.nv.fsLog)).setFld R.FS_BLOCKS F.FS_BLOCKS.ABANDONED
    d.fs.abandoned)

/-- A record is programmed into the next slot; ok says that its program-verify passed, and where it did not the rest of the
block is abandoned (R282). -/
def Sys.fsProgram (y : Sys) (r : FsRecord) (ok : Bool) : Sys :=
  let f := y.dev.fs
  let slot : FsSlot := ⟨2048 * f.block + f.slot, if ok then some r else none⟩
  let last := !ok || f.slot == 2047
  let f := { f with
    block := if last then f.block + 1 else f.block
    slot := if last then 0 else f.slot + 1
    abandoned := f.abandoned + natOf (!ok)
    nextSeq := f.nextSeq + natOf ok }
  let y : Sys := { dev := { y.dev with fs := f }, nv := { y.nv with fsLog := y.nv.fsLog ++ [slot] } }
  (y.onDev (fun d => (d.sparesCheck.ledgerCheck).fsShow)).showBlocks

/-- A record goes to the journal; false where it has no place (R287, R288). -/
def Device.fsJournal (d : Device) (r : FsRecord) : Bool × Device :=
  match d.fs.journalPlace with
  | none => (false, d.recordLost)
  | some (slot, rest, lost) =>
    let d := if lost then d.recordLost else d
    let d := { d with fs := { d.fs with journal := rest ++ [(slot, r)], nextSeq := d.fs.nextSeq + 1 } }
    (true, (d.land (journalAddr slot) r.bytes false).fsShow)

/-- A LEAD sends what it appends to its shadow (R563). -/
def Device.fsMirror (d : Device) (r : FsRecord) : Device :=
  if d.role = 1 then d.twinSend (.fsRecord r.bytes) else d

/-- The decision of the event at the front of the queue acts, with its record. -/
def Device.fsDone (d : Device) (e : FsEvent) (r : FsRecord) : Device :=
  let d := { d with fs := { d.fs with queue := d.fs.queue.drop 1 } }
  ((d.fsTake r).fsActs e r).fsSettle

/-- One append for an event whose record is r. -/
def Sys.fsAppend (y : Sys) (e : FsEvent) (r : FsRecord) (ok : Bool) : Sys :=
  if y.dev.fs.room then
    let r := { r with seq := y.dev.fs.nextSeq }
    let y := y.fsProgram r ok
    if ok then y.onDev (fun d => (d.fsMirror r).fsDone e r) else y
  else if !y.dev.allReady then y
  else
    let r := { r with seq := y.dev.fs.nextSeq, journal := true }
    y.onDev (fun d =>
      let (kept, d) := d.fsJournal r
      if kept then (d.fsMirror r).fsDone e r else (d.override { r with seq := 0, journal := false }).fsDone e { r with seq := 0 })

/-- The oldest entry of the override table is recorded once the journal has room (R288). -/
def Device.overrideBack (d : Device) : Device :=
  match d.fs.overrides with
  | [] => d
  | r :: rest =>
    let r := { r with seq := d.fs.nextSeq, journal := true }
    let d := { d with fs := { d.fs with overrides := rest } }
    (d.fsJournal r).2.fsMirror r

/-- The journal can take a record that loses none. -/
def FsCtx.journalRoom (f : FsCtx) : Bool :=
  match f.journalPlace with
  | some (_, _, false) => true
  | _ => false

/-- FS_APPEND_DONE: one record becomes durable; ok says that the program-verify passed (R282, R285, R288). -/
def sysFsAppendDone (ok : Bool) (y : Sys) : Sys :=
  if !y.dev.answers 47 || !y.dev.flag R.FS_STATUS F.FS_STATUS.READY then y
  else if !y.dev.fs.overrides.isEmpty && y.dev.fs.journalRoom && y.dev.allReady then y.onDev Device.overrideBack
  else
    let y := y.onDev Device.fsSettle
    match y.dev.fs.queue with
    | [] => y
    | e :: rest =>
      let (ft, d) := y.dev.readFt
      let (wall, d) := d.fresh64
      let y := { y with dev := d }
      match d.fsForm ft wall.toNat e with
      | some r => y.fsAppend e r ok
      | none =>
        let d := { d with fs := { d.fs with queue := rest } }
        { y with dev := (match e with
          | .host op b slice _ => d.fsCmdEnd (d.hostCheck op b slice)
          | _ => d).fsSettle }

def execFsAppendDone (ok : Bool) (s : State) : Host.Outcome State Fault Refusal := .next (s.onSys (sysFsAppendDone ok))

/-! ### Host commands (R268, R291) -/

/-- A write of FS_CMD: refused while one is in progress, on a shadow, or before the scan has ended. -/
def Device.fsCmd (d : Device) (f : Device → Device) : Device :=
  if !d.answers 47 then d
  else if d.role = 2 then d.configReject R.FS_CMD
  else if d.flag R.FS_CMD_STAT F.FS_CMD_STAT.BUSY then d.setFld R.FS_CMD_STAT F.FS_CMD_STAT.RESULT 1
  else if !d.flag R.FS_STATUS F.FS_STATUS.READY then d.setFld R.FS_CMD_STAT F.FS_CMD_STAT.RESULT 4
  else f d

/-- A command is accepted: BUSY until its record is durable. -/
def Device.fsCmdTaken (d : Device) : Device := d.on R.FS_CMD_STAT F.FS_CMD_STAT.BUSY

/-- A host operation on one unit. -/
def devFsUnit (op : Nat) (b : Bay) (slice : BitVec 6) (d : Device) : Device :=
  d.fsCmd (fun d =>
    match d.hostCheck op b slice.toNat with
    | 0 => d.fsCmdTaken.fsEnqueue (.host op b slice.toNat ((d.unitOf b slice.toNat).getD 0))
    | c => d.setFld R.FS_CMD_STAT F.FS_CMD_STAT.RESULT c)

def execFsFence (b : Bay) (slice : BitVec 6) (s : State) : Host.Outcome State Fault Refusal :=
  .next (s.onDev (devFsUnit 1 b slice))
def execFsUnfence (b : Bay) (slice : BitVec 6) (s : State) : Host.Outcome State Fault Refusal :=
  .next (s.onDev (devFsUnit 2 b slice))
def execFsClear (b : Bay) (slice : BitVec 6) (s : State) : Host.Outcome State Fault Refusal :=
  .next (s.onDev (devFsUnit 5 b slice))

/-- FS_RETIRE. -/
def devFsRetire (b : Bay) (d : Device) : Device :=
  d.fsCmd (fun d =>
    match d.hostCheck 3 b 0 with
    | 0 => (d.retireEvents b true).foldl Device.fsEnqueue d.fsCmdTaken
    | c => d.setFld R.FS_CMD_STAT F.FS_CMD_STAT.RESULT c)

def execFsRetire (b : Bay) (s : State) : Host.Outcome State Fault Refusal := .next (s.onDev (devFsRetire b))

/-- FS_UNRETIRE. -/
def devFsUnretire (b : Bay) (d : Device) : Device :=
  d.fsCmd (fun d =>
    match d.hostCheck 4 b 0 with
    | 0 =>
      let es := ((d.link b).slices.zipIdx).map (fun p => FsEvent.unretireUnit b p.2 p.1.unitId) ++ [.unretireBay b]
      es.foldl Device.fsEnqueue d.fsCmdTaken
    | c => d.setFld R.FS_CMD_STAT F.FS_CMD_STAT.RESULT c)

def execFsUnretire (b : Bay) (s : State) : Host.Outcome State Fault Refusal := .next (s.onDev (devFsUnretire b))

/-- FS_CARRY: the unit that FS_CMD_UNIT names (R270). -/
def devFsCarry (state : BitVec 2) (age : BitVec 8) (d : Device) : Device :=
  d.fsCmd (fun d =>
    let id := (d.reg R.FS_CMD_UNIT_LO).toNat + 2 ^ 32 * (d.reg R.FS_CMD_UNIT_HI).toNat
    if state = 3 ∨ id = 0 then d.setFld R.FS_CMD_STAT F.FS_CMD_STAT.RESULT 2
    else d.fsCmdTaken.fsEnqueue (.carry id state.toNat age.toNat))

def execFsCarry (state : BitVec 2) (age : BitVec 8) (s : State) : Host.Outcome State Fault Refusal :=
  .next (s.onDev (devFsCarry state age))

/-- FS_RESUME (R289). -/
def devFsResume (d : Device) : Device :=
  d.fsCmd (fun d =>
    if d.flag R.FS_STATUS F.FS_STATUS.RESUME_WAIT then
      { (d.off R.FS_STATUS F.FS_STATUS.RESUME_WAIT).fsCmdEnd 0 with fs := { d.fs with journalFull := false } }
    else d.setFld R.FS_CMD_STAT F.FS_CMD_STAT.RESULT 4)

def execFsResume (s : State) : Host.Outcome State Fault Refusal := .next (s.onDev devFsResume)

/-! ### Time and the journal (R264, R272, R288) -/

/-- OBS_WINDOW_CLOSE: the window of a unit has run with enough passes. -/
def devObsWindowClose (unitId : BitVec 64) (d : Device) : Device :=
  let (ft, d) := d.readFt
  if d.leads && (d.unit unitId.toNat).windowDone ft && !d.fs.queue.contains (.window unitId.toNat) then
    d.fsEnqueue (.window unitId.toNat)
  else d

def execObsWindowClose (unitId : BitVec 64) (s : State) : Host.Outcome State Fault Refusal :=
  .next (s.onDev (devObsWindowClose unitId))

/-- FLOWSTONE_TICK: 3,600 s of FT have passed since the last. -/
def devFlowstoneTick (d : Device) : Device :=
  let (ft, d) := d.readFt
  let ft := max ft (d.fs.lastTick + 3600) % 2 ^ 48
  { d with ft := ft, fs := { d.fs with lastTick := ft, firstTick := false } }.fsEnqueue (.tick d.fs.firstTick)

def execFlowstoneTick (s : State) : Host.Outcome State Fault Refusal := .next (s.onDev devFlowstoneTick)

/-- FT_MARK: 3,600 s of FT have passed since the last while LEDGER_FULL holds. -/
def devFtMark (d : Device) : Device :=
  if d.flag R.FS_STATUS F.FS_STATUS.LEDGER_FULL then
    let (ft, d) := d.readFt
    let ft := max ft (d.fs.lastMark + 3600) % 2 ^ 48
    { d with ft := ft, fs := { d.fs with lastMark := ft } }.holdupNow 4
  else d

def execFtMark (s : State) : Host.Outcome State Fault Refusal := .next (s.onDev devFtMark)

/-- FS_JOURNAL_ACK: a write of FS_JOURNAL_ACK_HI applies the whole value. -/
def devFsJournalAck (v : BitVec 32) (d : Device) : Device :=
  if !d.answers 47 then d
  else
    let d := d.setReg R.FS_JOURNAL_ACK_HI v
    let ack := (d.reg R.FS_JOURNAL_ACK_LO).toNat + 2 ^ 32 * v.toNat
    let d := { d with fs := { d.fs with journalAck := max d.fs.journalAck ack } }
    let d := if d.fs.journalRoom then d.off R.FS_STATUS F.FS_STATUS.JOURNAL_FULL else d
    d.fsShow

def execFsJournalAck (v : BitVec 32) (s : State) : Host.Outcome State Fault Refusal := .next (s.onDev (devFsJournalAck v))

/-! ### States rebuilt (R262, R286) -/

/-- Every unit's state follows from its records, then from its override entry. -/
def Device.fsReplay (d : Device) (rs : List FsRecord) : Device :=
  let d := { d with fs := { d.fs with units := [] } }
  (rs ++ d.fs.overrides).foldl (fun d r => if r.unitId = 0 then d else d.setUnit (d.replayRecord (d.unit r.unitId) r)) d

/-- The records of the log whose CRC is right, in order. -/
def logRecords (l : List FsSlot) : List FsRecord := l.filterMap (fun s => s.record)

/-- Blocks before the last in use that were left before their end. -/
def abandonedBlocks (l : List FsSlot) (last : Nat) : Nat :=
  ((List.range last).filter (fun b => (l.filter (fun s => s.place / 2048 == b)).length < 2048)).length

/-- The scan of the log: states, SEQ, the next slot; records whose CRC fails are counted. -/
def Sys.fsScan (y : Sys) (journal : List FsRecord) : Sys :=
  let log := y.nv.fsLog
  let rs := logRecords log ++ journal
  let place := ((log.map (·.place)).max?).elim 0 (· + 1)
  let block := place / 2048
  let seq := ((rs.map (·.seq)).max?).elim 1 (· + 1)
  let d := y.dev
  let d := { d with fs := { d.fs with
    nextSeq := seq
    block := block
    slot := place % 2048
    abandoned := abandonedBlocks log block } }
  let d := d.setFld R.FS_TORN_CNT F.FS_TORN_CNT.COUNT (log.filter (fun s => s.record.isNone)).length
  ({ y with dev := (d.fsReplay rs).fsShow.refreshAllUnits } : Sys).showBlocks

/-- The largest Flowstone time in the log and in the hold-up area (R272). -/
def Nonvolatile.lastFt (nv : Nonvolatile) : Nat :=
  max (((logRecords nv.fsLog).map (·.ft)).foldl max 0) ((nv.holdup.map (fun p => if p.2.torn then 0 else p.2.ft)).foldl max 0)

end Sys2Proof.Machine
end

