-- ==== Sys2Proof/Machine/Stencil.lean ====
section
/-! DEFINITION. Stencil packs, visits and runs (R273–R281), and the scan of the log after a full device reset (R286,
R289). -/

namespace Sys2Proof.Machine

/-! ### Packs (R273–R275) -/

/-- One section entry of a pack. -/
structure PackSec where
  kind : Nat
  test : Nat
  fmt : Nat
  tol : Nat
  off : Nat
  len : Nat
  crc : Nat
  deriving DecidableEq, Repr

/-- Section entry i. -/
def packSec (p : List (BitVec 8)) (i : Nat) : PackSec where
  kind := fieldOf p (64 + 32 * i) 1
  test := fieldOf p (65 + 32 * i) 1
  fmt := fieldOf p (66 + 32 * i) 1
  tol := fieldOf p (67 + 32 * i) 1
  off := fieldOf p (68 + 32 * i) 4
  len := fieldOf p (72 + 32 * i) 4
  crc := fieldOf p (76 + 32 * i) 4

/-- Every section entry. -/
def packSecs (p : List (BitVec 8)) : List PackSec := (List.range (fieldOf p 6 2)).map (packSec p)

/-- Header fields. -/
def packId (p : List (BitVec 8)) : Nat := fieldOf p 8 4
def packVersion (p : List (BitVec 8)) : Nat := fieldOf p 12 4
def packTrailer (p : List (BitVec 8)) : Nat := fieldOf p 20 4
def packModel (p : List (BitVec 8)) : Nat := fieldOf p 24 8

/-- The body of a section. -/
def PackSec.body (s : PackSec) (p : List (BitVec 8)) : List (BitVec 8) := (p.drop s.off).take s.len

/-- The SCHEDULE body. -/
def packSchedule (p : List (BitVec 8)) : List (BitVec 8) :=
  match (packSecs p).find? (fun s => s.kind == 5) with
  | none => []
  | some s => s.body p

/-- TEST_MASK, ORDER, WHEN, DEADLINE_S and RUN_NOW. -/
def packMask (p : List (BitVec 8)) : Nat := fieldOf (packSchedule p) 0 8
def packOrder (p : List (BitVec 8)) : Nat := fieldOf (packSchedule p) 8 1
def packWhen (p : List (BitVec 8)) : Nat := fieldOf (packSchedule p) 9 1
def packDeadline (p : List (BitVec 8)) : Nat := fieldOf (packSchedule p) 10 2
def packRunNow (p : List (BitVec 8)) : Bool := bit (fieldOf (packSchedule p) 12 1) 0

/-- The tests of TEST_MASK, in test order. -/
def packTests (p : List (BitVec 8)) : List Nat := (List.range 64).filter (fun t => bit (packMask p) t)

/-- The section of a kind for a test. -/
def packPart (p : List (BitVec 8)) (kind test : Nat) : Option PackSec :=
  (packSecs p).find? (fun s => s.kind == kind && s.test == test)

/-- RESULT_LEN of a test. -/
def packResultLen (p : List (BitVec 8)) (test : Nat) : Nat :=
  match packPart p 3 test, packPart p 4 test with
  | some s, _ => s.len
  | none, some s => fieldOf (s.body p) 0 4
  | none, none => 0

/-- FORMAT: MAGIC, FORMAT, HEADER_CRC, and every reserved field zero. -/
def packFormatOk (p : List (BitVec 8)) : Bool :=
  let n := fieldOf p 6 2
  fieldOf p 0 4 == 0x4B505453 && fieldOf p 4 1 == 1 && fieldOf p 32 4 == (crc32c (p.take 32)).toNat && zeroField p 36 28 &&
  decide (2 ≤ n ∧ n ≤ 256) && packId p != 0 && packModel p != 0 &&
  (List.range n).all (fun i => zeroField p (80 + 32 * i) 16) &&
  decide (fieldOf (packSchedule p) 12 1 < 2) && zeroField (packSchedule p) 13 3

/-- BOUNDS: TOTAL_LEN, and every body before TRAILER_OFFSET; offsets and lengths are multiples of 4. -/
def packBoundsOk (p : List (BitVec 8)) : Bool :=
  let total := fieldOf p 16 4
  decide (total ≤ 64 * 2 ^ 20 ∧ total = p.length ∧ packTrailer p + trailerLen = total ∧
    64 + 32 * fieldOf p 6 2 ≤ packTrailer p ∧ packTrailer p % 4 = 0) &&
  (packSecs p).all (fun s => decide (64 + 32 * fieldOf p 6 2 ≤ s.off ∧ s.off + s.len ≤ packTrailer p ∧ s.off % 4 = 0 ∧
    s.len % 4 = 0 ∧ 4 ≤ s.len))

/-- SECTION_CRC. -/
def packCrcOk (p : List (BitVec 8)) : Bool := (packSecs p).all (fun s => s.crc == (crc32c (s.body p)).toNat)

/-- INCOMPLETE: what R274 asks of the sections, and the ranges of their fields (R273). -/
def packComplete (p : List (BitVec 8)) : Bool :=
  let ss := packSecs p
  let count (kind t : Nat) : Nat := (ss.filter (fun s => s.kind == kind && s.test == t)).length
  (ss.filter (fun s => s.kind == 5)).length == 1 &&
  ss.all (fun s => decide (1 ≤ s.kind ∧ s.kind ≤ 5) &&
    (if s.kind = 5 then s.test == 0 && s.len == 16 else decide (s.test < 64) && bit (packMask p) s.test) &&
    (if s.kind = 3 then (s.fmt == 0xFF && s.tol == 0) || fmtDefined s.fmt else s.fmt == 0 && s.tol == 0) &&
    (s.kind != 4 || s.len == 8)) &&
  (packTests p).all (fun t => count 1 t == 1 && decide (count 2 t ≤ 1) && count 3 t + count 4 t == 1 &&
    decide (packResultLen p t ≤ 64 * 2 ^ 20)) &&
  packMask p != 0 && decide (packOrder p ≤ 1 ∧ packWhen p ≤ 1 ∧ 1 ≤ packDeadline p ∧ packDeadline p ≤ 3600)

/-- The first failing check of R275 of those that look at the pack alone; 0 where all pass. -/
def packCheck (f : FuseFields) (p : List (BitVec 8)) : Nat :=
  if !packFormatOk p then 1
  else if 1 < fieldOf p 5 1 then 2
  else if !packBoundsOk p then 3
  else if trustCheck f true p (packTrailer p) ≠ 0 then 4
  else if !packCrcOk p then 5
  else if !packComplete p then 6
  else 0

/-! ### Installed packs and their cache (R276, R295) -/

/-- Where slot p of the cache begins, and how many bytes it has. -/
def cacheBase (slot : Nat) : Nat := 0xFB0000000 + slot * 0x4000000
def cacheLen : Nat := 0x4000000

/-- The place of each section's body in the cache slot: each at the next 8 KiB-aligned offset. -/
def cachePlaces (p : List (BitVec 8)) : List (PackSec × Nat) :=
  ((packSecs p).foldl (fun (acc : List (PackSec × Nat) × Nat) s =>
    (acc.1 ++ [(s, acc.2)], acc.2 + (s.len + 8191) / 8192 * 8192)) ([], 8192 * ((64 + 32 * fieldOf p 6 2 + 8191) / 8192))).1

/-- The address of a section's body in the cache. -/
def cacheAddr (slot : Nat) (p : List (BitVec 8)) (s : PackSec) : Nat :=
  cacheBase slot + (((cachePlaces p).find? (fun x => x.1 == s)).elim 0 (·.2))

/-- A pack copied to its cache slot by the FLASH island, its header and section entries first. -/
def Device.cachePack (d : Device) (slot : Nat) (p : List (BitVec 8)) : Device :=
  let d := d.land (cacheBase slot) (p.take (64 + 32 * fieldOf p 6 2)) false
  (cachePlaces p).foldl (fun d x =>
    if x.2 + x.1.len ≤ cacheLen then
      d.land (cacheBase slot + x.2) (x.1.body p ++ zeros ((64 - x.1.len % 64) % 64)) false
    else d) d

/-- STN_SLOT of a slot. -/
def Device.showPack (d : Device) (slot : Nat) (p : List (BitVec 8)) : Device :=
  let d := d.setReg (R.STN_ID slot) (BitVec.ofNat 32 (packId p))
  let d := d.setReg (R.STN_VERSION slot) (BitVec.ofNat 32 (packVersion p))
  let d := d.setReg (R.STN_MODEL_LO slot) (BitVec.ofNat 32 (packModel p))
  let d := d.setReg (R.STN_MODEL_HI slot) (BitVec.ofNat 32 (packModel p / 2 ^ 32))
  let d := d.setFld (R.STN_INFO slot) F.STN_INFO.VALID (natOf (!p.isEmpty))
  let d := d.setFld (R.STN_INFO slot) F.STN_INFO.OWNER (natOf (ownerSigned p (packTrailer p)))
  d.setFld (R.STN_INFO slot) F.STN_INFO.TESTS (packTests p).length

/-- A run of the pack in a slot is in flight. -/
def Device.packBusy (d : Device) (slot : Nat) : Bool :=
  bays.any (fun b => match (d.stn b).visit with
    | none => false
    | some v => match v.run with
      | none => false
      | some r => r.slot == slot)

/-- A pack leaves its slot, with its PACK record: 2 by the host, 3 for revocation (R276, R284). -/
def Sys.removePack (y : Sys) (slot : Fin 16) (cause : Nat) : Sys :=
  let p := y.nv.packs[slot]
  let d := y.dev.showPack slot.val []
  let d := d.fsEnqueue (.pack cause (ownerSigned p (packTrailer p)) (packTests p).length (packId p) (packVersion p))
  let d := if cause = 3 then d.raise 0x0506 0xFF [packId p] else d
  { dev := d, nv := { y.nv with packs := vset y.nv.packs slot [] } }

/-- Every pack whose key is revoked is removed (R276). -/
def Sys.recheckPacks (y : Sys) : Sys :=
  (List.finRange 16).foldl (fun y slot =>
    let p := y.nv.packs[slot]
    if p.isEmpty then y
    else if signerRevoked y.dev.shadow p (packTrailer p) then y.removePack slot 3 else y) y

/-- FS_REMOVE_PACK (R268): SLICE names the slot. -/
def sysFsRemovePack (slot : BitVec 6) (y : Sys) : Sys :=
  let d := y.dev
  if h : slot.toNat < 16 then
    let k : Fin 16 := ⟨slot.toNat, h⟩
    if d.answers 47 ∧ d.role ≠ 2 ∧ d.flag R.FS_CMD_STAT F.FS_CMD_STAT.BUSY = false ∧
        d.flag R.FS_STATUS F.FS_STATUS.READY = true ∧ y.nv.packs[k].isEmpty = false ∧ d.packBusy k.val = false then
      (y.removePack k 2).onDev (fun d => d.setFld R.FS_CMD_STAT F.FS_CMD_STAT.RESULT 0)
    else y.onDev (fun d => d.fsCmd (fun d => d.setFld R.FS_CMD_STAT F.FS_CMD_STAT.RESULT 4))
  else y.onDev (fun d => d.fsCmd (fun d => d.setFld R.FS_CMD_STAT F.FS_CMD_STAT.RESULT 2))

def execFsRemovePack (slot : BitVec 6) (s : State) : Host.Outcome State Fault Refusal :=
  .next (s.onSys (sysFsRemovePack slot))

/-! ### Running a test (R278, R279) -/

/-- The stencil area of a bay: where it begins and its bytes (R290). -/
def Device.stnBase (d : Device) (b : Bay) : Nat := (d.reg (R.WIT_STN_BASE b.val)).toNat * 2 ^ 16
def Device.stnBytes (d : Device) (b : Bay) : Nat := d.fld (R.WIT_STN_SIZE b.val) F.WIT_STN_SIZE.MIB * 2 ^ 20

/-- The sections a run of a test uses. -/
def runSecs (p : List (BitVec 8)) (test : Nat) : List PackSec :=
  (packSecs p).filter (fun s => s.kind == 5 || s.test == test)

/-- A section's body in the cache is sound: no poison, and its CRC holds. -/
def Device.cacheOk (d : Device) (slot : Nat) (p : List (BitVec 8)) (s : PackSec) : Bool :=
  let a := cacheAddr slot p s
  !d.poisonedRange a s.len && s.crc == (crc32c (memBytes d.mem a s.len)).toNat

/-- The cache holds what a run needs, reloaded from flash with the checks of R275 where it did not. -/
def Device.cacheReady (d : Device) (slot : Nat) (p : List (BitVec 8)) (test : Nat) : Bool × Device :=
  if (runSecs p test).all (d.cacheOk slot p) then (true, d)
  else if packCheck d.shadow p ≠ 0 then (false, d)
  else
    let d := d.cachePack slot p
    ((runSecs p test).all (d.cacheOk slot p), d)

/-- The stencil window of a bay set over its stencil area (R279, R312, R319). -/
def Device.armStencil (d : Device) (b : Bay) (op fmt tol resultLen param : Nat) : Device :=
  let w := 8 + b.val
  let j := winJ w
  let i := winI w
  let base := d.stnBase b
  let d := d.setFld (R.TW_CTL j i) F.TW_CTL.OP op
  let d := d.setFld (R.TW_CTL j i) F.TW_CTL.FMT fmt
  let d := d.setFld (R.TW_CTL j i) F.TW_CTL.TOL_ULP tol
  let d := d.setFld (R.TW_CTL j i) F.TW_CTL.IRQ 0
  let d := d.setFld (R.TW_LEN j i) F.TW_LEN.LINES ((resultLen + 63) / 64)
  let d := (d.setReg (R.TW_BASE_LO j i) (BitVec.ofNat 32 base)).setFld (R.TW_BASE_HI j i) F.TW_BASE_HI.ADDR (base / 2 ^ 32)
  let d := (d.setReg (R.TW_PARAM_LO j i) (BitVec.ofNat 32 param)).setFld (R.TW_PARAM_HI j i) F.TW_PARAM_HI.ADDR (param / 2 ^ 32)
  let d := (d.setReg (R.TW_MAP_LO j i) 0).setFld (R.TW_MAP_HI j i) F.TW_MAP_HI.ADDR 0
  d.armWindow w

/-- The STENCIL records of one part: chunks of up to 4,064 bytes, LAST in the final one. -/
def stencilChunks (runId slice part : Nat) (data : List (BitVec 8)) : List TxRec :=
  let n := (data.length + 4063) / 4064
  (List.range n).map (fun i =>
    TxRec.stencil runId slice part (i + 1 == n) (4064 * i) data.length ((data.drop (4064 * i)).take 4064))

/-- The next run of a visit starts, or ends at once where the area is too small or the pack cannot be read. -/
def Sys.startRun (y : Sys) (b : Bay) (v : VisitCtx) : Sys :=
  match v.left with
  | [] => y
  | (slot, test) :: rest =>
    let p := y.nv.packs.toList.getD slot []
    let d := y.dev
    let id := ((d.reg (R.WIT_STN_RUN_ID b.val)) + 1#32).toNat
    let d := d.setReg (R.WIT_STN_RUN_ID b.val) (BitVec.ofNat 32 id)
    let st := R.WIT_STN_STAT b.val
    let d := (d.setFld st F.WIT_STN_STAT.SLOT slot).setFld st F.WIT_STN_STAT.SLICE v.slice
    let len := packResultLen p test
    let r : RunCtx :=
      { runId := id, slot := slot, test := test, resultLen := len, expectCrc := none, expect := (0, 0xFF, 0), byDesc := false,
        chunks := [] }
    let v := { v with left := rest }
    let stop (d : Device) (outcome : Nat) : Device := (d.runRecord b outcome 0).visitEnd b v r outcome 0
    let d :=
      if d.stnBytes b < len then stop (d.raise 0x0504 b.val [slot, test]) 8
      else
        let (ok, d) := d.cacheReady slot p test
        if !ok then stop d 7
        else
          let (r, d) := match packPart p 3 test, packPart p 4 test with
            | some s, _ => ({ r with expect := (cacheAddr slot p s, s.fmt, s.tol) },
                d.armStencil b 3 s.fmt s.tol len (cacheAddr slot p s))
            | none, some s => ({ r with expectCrc := some (fieldOf (s.body p) 4 4) }, d.armStencil b 2 0 0 len 0)
            | none, none => (r, d)
          if !d.armed (8 + b.val) then stop d 7
          else
            let body (kind : Nat) : List (BitVec 8) := match packPart p kind test with
              | none => []
              | some s => memBytes d.mem (cacheAddr slot p s) s.len
            let recs := stencilChunks id v.slice 0 (body 1) ++ stencilChunks id v.slice 1 (body 2) ++
              [TxRec.stencil id v.slice 2 false 0 0 []]
            let d := (d.on st F.WIT_STN_STAT.RUNNING).setStn b { d.stn b with visit := some { v with run := some r } }
            recs.foldl (fun d x => d.sendDev b x) d
    { y with dev := d }

/-- The next test of a ROTATE pack for a unit: the one after its last, in turn. -/
def rotateTest (tests : List Nat) (last : Option Nat) : Option Nat :=
  match last with
  | none => tests.head?
  | some t => (tests.find? (fun x => decide (t < x))).orElse (fun _ => tests.head?)

/-- A visit for the unit of a slice waits in the queue for its record. -/
def Device.visitPending (d : Device) (unitId : Nat) : Bool :=
  d.fs.queue.any (fun e => match e with
    | .visit _ _ u _ _ _ _ _ _ => u == unitId
    | _ => false)

/-- The due unit that goes first: the one due longest, the lowest slice of those equal. -/
def Device.dueSlice (d : Device) (b : Bay) (ft : Nat) : Option (Nat × Nat) :=
  let due := (((d.link b).slices.zipIdx).map (fun p => (p.2, p.1.unitId))).filter (fun p =>
    decide ((d.unit p.2).due ≤ ft) && !d.visitPending p.2)
  due.foldl (fun best p => match best with
    | none => some p
    | some q => if (d.unit p.2).due < (d.unit q.2).due then some p else some q) none

/-- The installed packs for the bay's accelerator, in slot order. -/
def Sys.matching (y : Sys) (b : Bay) : List Nat :=
  (List.range 16).filter (fun k =>
    let p := y.nv.packs.toList.getD k []
    !p.isEmpty && packModel p == y.dev.peerModel b)

/-- VISIT_DUE: the visit of a due unit starts with its first run (R277–R279). -/
def sysVisitDue (b : Bay) (y : Sys) : Sys :=
  let d := y.dev
  if !d.leads || !d.ready b || !d.answers 47 || !d.flag R.FS_STATUS F.FS_STATUS.READY || !d.allReady ||
      (d.stn b).visit.isSome then y
  else
    let (ft, d) := d.readFt
    match d.dueSlice b ft with
    | none => { y with dev := d }
    | some (slice, unitId) =>
      let y := { y with dev := d }
      let all := y.matching b
      if all.isEmpty then
        if (d.stn b).noPack then y
        else { y with dev := (d.setStn b { d.stn b with noPack := true }).raise 0x0505 b.val [slice] }
      else
        let packs := all.filter (fun k =>
          !(d.stn b).refused.contains k && (packWhen (y.nv.packs.toList.getD k []) == 0 || d.session b == 3))
        let pick (k : Nat) : List (Nat × Nat) :=
          let p := y.nv.packs.toList.getD k []
          if packOrder p = 0 then (packTests p).map (fun t => (k, t))
          else ((rotateTest (packTests p) (((d.stn b).rotate.find? (fun x => x.1 == k && x.2.1 == unitId)).map (·.2.2))).toList).map
            (fun t => (k, t))
        let left := packs.flatMap pick
        if left.isEmpty then y
        else
          let turned := left.filter (fun x => packOrder (y.nv.packs.toList.getD x.1 []) == 1)
          let rotate := ((d.stn b).rotate.filter (fun x => !(x.2.1 == unitId && turned.any (fun t => t.1 == x.1)))) ++
            turned.map (fun t => (t.1, unitId, t.2))
          let d := d.setStn b { d.stn b with rotate := rotate }
          ({ y with dev := d } : Sys).startRun b { slice := slice, unitId := unitId, left := left, runs := 0, run := none }

def execVisitDue (b : Bay) (s : State) : Host.Outcome State Fault Refusal := .next (s.onSys (sysVisitDue b))

/-! ### Judging a run (R280, R281) -/

/-- Chunks cover bytes 0 to n − 1 exactly once. -/
def coversOnce (chunks : List (Nat × Nat)) (n : Nat) : Bool :=
  let cs := chunks.filter (fun c => c.2 != 0)
  (cs.map (·.2)).sum == n && cs.all (fun c => decide (c.1 + c.2 ≤ n)) &&
  cs.zipIdx.all (fun p => cs.zipIdx.all (fun q => p.2 == q.2 || decide (p.1.1 + p.1.2 ≤ q.1.1 ∨ q.1.1 + q.1.2 ≤ p.1.1)))

/-- The comparison of an EXPECT_DATA run. -/
def RunCtx.compare (r : RunCtx) (base : Nat) : TrowelOp where
  op := 3
  fmt := r.expect.2.1
  tol := r.expect.2.2
  lines := (r.resultLen + 63) / 64
  src := base
  param := r.expect.1
  map := 0
  rows := 1
  rowBytes := 0

/-- The outcome of a DONE, and its count of mismatches: from the bay's window, or from a descriptor over the whole range
where a restart has taken the window away (R280, R281, R322). -/
def Device.judgeDone (d : Device) (b : Bay) (r : RunCtx) (total : Nat) : Nat × Nat :=
  let w := 8 + b.val
  let t := r.compare (d.stnBase b)
  let log := if r.byDesc then logOf (memBytes d.mem t.src r.resultLen) else d.landed[winIndex w]
  let poison := (if r.byDesc then d.poisonedRange t.src r.resultLen
    else d.flag (R.TW_STATUS (winJ w) (winI w)) F.TW_STATUS.POISON) || (r.expectCrc.isNone && d.poisonedRange t.param r.resultLen)
  let whole := total == r.resultLen && coversOnce r.chunks r.resultLen
  if poison then (7, 0)
  else match r.expectCrc with
    | some c =>
      let bytes := memBytes d.mem (d.stnBase b) r.resultLen
      if whole && (crc32c bytes).toNat == c then (1, 0) else (2, 0)
    | none =>
      let bad := (mismatches t log d.mem).length
      if whole && bad == 0 then (1, 0) else (2, bad)

/-- The run in flight ends with an outcome: the next one of the visit starts after a PASS, and otherwise the visit ends. -/
def Sys.runEnd (y : Sys) (b : Bay) (v : VisitCtx) (r : RunCtx) (outcome mism : Nat) : Sys :=
  let d := y.dev.runRecord b outcome mism
  let d := if outcome = 4 then
      (d.setStn b { d.stn b with refused := (d.stn b).refused ++ [r.slot] }).raise 0x0503 b.val [r.slot, r.test]
    else d
  if outcome = 1 ∧ v.left.isEmpty = false then
    ({ y with dev := d } : Sys).startRun b { v with run := none, runs := v.runs + 1 }
  else { y with dev := d.visitEnd b v r outcome mism }

/-- A RESULT's chunk lands at the stencil area plus OFFSET, without the padding past TOTAL_LEN; bytes that would leave the
area do not land. -/
def Device.landResult (d : Device) (b : Bay) (off : Nat) (data : List (BitVec 8)) (parity : Bool) : Device :=
  let fits := data.take (d.stnBytes b - off)
  if fits.isEmpty then d else d.land (d.stnBase b + off) fits parity

/-- RESULT, with whether its data came with a parity error. -/
def recResult (b : Bay) (parity : Bool) (x : RxRec) (y : Sys) : Sys :=
  let d := y.dev
  match (d.stn b).visit with
  | none => { y with dev := d.refuse b x .unsolicited 0 }
  | some v =>
    match v.run with
    | none => { y with dev := d.refuse b x .unsolicited 0 }
    | some r =>
      let status := x.u 21 1
      if x.u 16 4 ≠ r.runId then { y with dev := d.refuse b x .unsolicited 0 }
      else if 3 < status ∨ (d.link b).slices.length ≤ x.u 20 1 then { y with dev := d.refuse b x .badField 0 }
      else
        let total := x.u 28 4
        let off := x.u 24 4
        let raw := x.bytes.drop 32
        let data := if off + raw.length < total + 4 then raw.take (total - off) else raw
        let d := d.landResult b off data parity
        let k := d.link b
        let d := (d.setLink b { k with owed := (k.owed.1, k.owed.2 + unitsOf x.len) }).grant b
        let r := if data.isEmpty then r else { r with chunks := r.chunks ++ [(off, data.length)] }
        let v := { v with run := some r }
        let y := { y with dev := d.setStn b { d.stn b with visit := some v } }
        match status with
        | 0 => y
        | 1 =>
          let j := y.dev.judgeDone b r total
          y.runEnd b v r j.1 j.2
        | 2 => y.runEnd b v r 4 0
        | _ => y.runEnd b v r 3 0

/-- The command for records of a type that acts on the whole block, as `Device.onRecord` does on the device. -/
def Sys.onRecord (y : Sys) (b : Bay) (ty : Nat) (f : RxRec → Sys → Sys) : Sys :=
  match y.dev.front b with
  | none => y
  | some r =>
    if r.type ≠ ty ∨ r.frame b ≠ .take then y
    else
      let y := y.onDev (fun d => d.pull b r)
      (match y.dev.recFate b r with
        | .take => f r y
        | x => y.onDev (fun d => d.dispose b r x)).onDev (fun d => d.drainAll b)

/-- RESULT (R280, R281). -/
def sysResult (b : Bay) (parity : Bool) (y : Sys) : Sys :=
  (y.onRecord b 0x14 (recResult b parity)).onDev Device.fsSettle

def execResult (b : Bay) (parity : Bool) (s : State) : Host.Outcome State Fault Refusal :=
  .next (s.onSys (sysResult b parity))

/-- STENCIL_DEADLINE: TIMEOUT, and STENCIL with PART ABORT (R281). -/
def sysStencilDeadline (b : Bay) (y : Sys) : Sys :=
  match (y.dev.stn b).visit with
  | none => y
  | some v =>
    match v.run with
    | none => y
    | some r =>
      (y.onDev (fun d => d.sendDev b (.stencil r.runId v.slice 3 false 0 0 []))).runEnd b v r 5 0 |>.onDev Device.fsSettle

def execStencilDeadline (b : Bay) (s : State) : Host.Outcome State Fault Refusal :=
  .next (s.onSys (sysStencilDeadline b))

/-! ### The scan after a full device reset (R272, R276, R286, R289) -/

/-- After a full device reset with the ledger full, every NORMAL unit is to be guarded, and the host is waited for. -/
def Device.guardUnits (d : Device) : Device :=
  let d := (d.fs.units.filter (fun u => u.state == 0)).foldl (fun d u => d.fsEnqueue (.guardUnit u.id)) d
  ((d.on R.FS_STATUS F.FS_STATUS.RESUME_WAIT).raise 0x0507 0xFF []).raise 0x050A 0xFF []

/-- LOG_SCAN. -/
def sysLogScan (y : Sys) : Sys :=
  let d := y.dev
  if !d.answers 47 || d.flag R.FS_STATUS F.FS_STATUS.READY then y
  else
    let y := y.fsScan (d.fs.journal.map (·.2))
    let y := y.onDev (fun d =>
      let ft := max d.ft y.nv.lastFt
      let d := { d with ft := ft, fs := { d.fs with lastTick := ft, lastMark := ft } }
      let again := d.fs.scanned
      let d := { d with fs := { d.fs with scanned := true } }
      if d.fs.room then d
      else
        let d := d.on R.FS_STATUS F.FS_STATUS.LEDGER_FULL
        if again then d else d.guardUnits)
    let y := y.recheckPacks
    y.onDev (fun d =>
      let d := (List.finRange 16).foldl (fun d k =>
        let p := y.nv.packs[k]
        if p.isEmpty then d else d.showPack k.val p) d
      d.on R.FS_STATUS F.FS_STATUS.READY)

def execLogScan (s : State) : Host.Outcome State Fault Refusal := .next (s.onSys sysLogScan)

end Sys2Proof.Machine
end

