-- ==== Sys2Proof/Machine/EngineLife.lean ====
section
/-! DEFINITION. The control of every loadable engine: requests, the start check, halting and faulting with the engine-lost
action of its type, the mailboxes, and installing a program (R131–R140, R190, R230, R337, R377, R431). -/

namespace Sys2Proof.Machine

/-- What follows any change of an engine's STATE: a cooling engine's zones look at it (R376). -/
def Device.engSync (d : Device) (e : Eng) : Device :=
  match e with
  | .cool i => d.coolSync i
  | _ => d

/-- The engine-lost action of an engine's type. -/
def Device.engLost (d : Device) (e : Eng) : Device :=
  match e with
  | .seq i => d.seqLost i
  | .cool i => d.coolLost i
  | .bus m => d.busLost m
  | .wit n => d.witEvent n 6 0 0xFF 0 0 (d.epoch n)
  | .gc g => d.gcLost g false

/-- What holds a START to an engine besides T_off_min and release. -/
def Device.engHeld (d : Device) (e : Eng) : Bool :=
  match e with
  | .seq i => d.seqHeld i
  | _ => false

/-- A held START looked at again. -/
def Device.tryPend (d : Device) (e : Eng) : Device :=
  match e with
  | .seq i => d.seqTryPend i
  | e => (d.engTryPend e false).engSync e

/-- ENG_START. -/
def Device.engStart (d : Device) (e : Eng) : Device :=
  match e with
  | .seq i => d.seqStart i
  | e => (d.engStartReq e false).engSync e

/-- ENG_STOP. -/
def Device.engStop (d : Device) (e : Eng) : Device :=
  match e with
  | .seq i => d.seqStop i
  | e => (d.engStopReq e (fun d => d.engLost e)).engSync e

/-- ENG_KILL. -/
def Device.engKill (d : Device) (e : Eng) : Device :=
  match e with
  | .seq i => d.seqKill i
  | e => (d.engKillReq e (fun d => d.engLost e)).engSync e

/-- The engine is a sequencer of a joined shadow: START and STOP are passed on (R551, R555), and the rest of ENG_CTL is
refused (R560). -/
def Device.ctlRefused (d : Device) (e : Eng) : Bool :=
  match e with
  | .seq _ => d.role == 2
  | _ => false

/-- A request to an engine whose island answers: KILL outranks STOP, and STOP outranks START (R136). -/
def Device.engRequest (d : Device) (e : Eng) (start stop kill : Bool) : Device :=
  if !d.answers e.island then d
  else if kill then (if d.ctlRefused e then d.configReject (R.ENG_CTL e.win) else d.engKill e)
  else if stop then d.engStop e
  else if start then d.engStart e
  else d

def execEngStart (e : Eng) (s : State) : Host.Outcome State Fault Refusal :=
  .next (s.onDev (fun d => d.engRequest e true false false))
def execEngStop (e : Eng) (s : State) : Host.Outcome State Fault Refusal :=
  .next (s.onDev (fun d => d.engRequest e false true false))
def execEngKill (e : Eng) (s : State) : Host.Outcome State Fault Refusal :=
  .next (s.onDev (fun d => d.engRequest e false false true))

/-- An exception in a loadable engine: FAULTED with CAUSE and PC, and the engine-lost action (R90, R134, R254). -/
def Device.engFault (d : Device) (e : Eng) (c : Cause) (pc : Nat) : Device :=
  match e with
  | .seq i => d.seqFault i c pc
  | .gc g => ((d.engFaulted e c pc true).gcLost g (c == .poison)).gcFaultBlame g c
  | e => ((d.engFaulted e c pc true).engLost e).engSync e

/-- HALT in a loadable engine (R85, R134, R337). -/
def Device.engHalt (d : Device) (e : Eng) : Device :=
  match e with
  | .seq i => d.seqHalt i
  | e => ((d.engOff e true).engSync e).tryPend e

/-- START_CHECK_DONE: ok says that the program store still reads as it was installed. -/
def devStartCheckDone (e : Eng) (ok : Bool) (d : Device) : Device :=
  if d.engState e ≠ 1 ∨ d.answers e.island = false then d
  else
    let len := d.fld (R.ENG_PROG_INFO e.win) F.ENG_PROG_INFO.CODE_LEN
    if ok && crc32c (d.programBytes e len) == d.reg (R.ENG_PROG_CRC e.win) then
      match e with
      | .seq i => d.seqRunning i
      | e => (d.engRunning e).engSync e
    else d.engFault e .parity 0

def execStartCheckDone (e : Eng) (ok : Bool) (s : State) : Host.Outcome State Fault Refusal :=
  .next (s.onDev (devStartCheckDone e ok))

/-- T_OFF_MIN_EXPIRY: for a sequencer it counts only while its PWR is OFF (R338); a lost cluster starts itself (R230). -/
def devTOffMinExpiry (e : Eng) (d : Device) : Device :=
  let counts := match e with
    | .seq i => d.pwr i == 0
    | _ => true
  if !(d.eng e).toff || !counts || !d.answers e.island then d
  else
    let d := (d.setEng e { d.eng e with toff := false }).tryPend e
    match e with
    | .gc g =>
      if (d.gc g).selfStart then (d.setGc g { d.gc g with selfStart := false }).engStart e else d
    | _ => d

def execTOffMinExpiry (e : Eng) (s : State) : Host.Outcome State Fault Refusal := .next (s.onDev (devTOffMinExpiry e))

/-! ### Mailboxes (R137) -/

/-- ENG_MBOX_IN_WRITE. -/
def devMboxIn (e : Eng) (v : BitVec 32) (d : Device) : Device :=
  if !d.answers e.island then d
  else if 16 ≤ (d.eng e).mboxIn.length then d.on (R.ENG_MBOX_STATUS e.win) F.ENG_MBOX_STATUS.IN_LOST
  else d.setEng e { d.eng e with mboxIn := (d.eng e).mboxIn ++ [v] }

def execEngMboxInWrite (e : Eng) (v : BitVec 32) (s : State) : Host.Outcome State Fault Refusal :=
  .next (s.onDev (devMboxIn e v))

/-- ENG_MBOX_OUT_READ: the oldest outbound word, 0 when there is none. -/
def Device.mboxOut (d : Device) (e : Eng) : BitVec 32 × Device :=
  match (d.eng e).mboxOut with
  | [] => (0#32, d)
  | (v, tag) :: rest =>
    (v, (d.setEng e { d.eng e with mboxOut := rest }).setFld (R.ENG_MBOX_STATUS e.win) F.ENG_MBOX_STATUS.LAST_TAG (natOf tag))

def devMboxOut (e : Eng) (d : Device) : Device := if d.answers e.island then (d.mboxOut e).2 else d

def execEngMboxOutRead (e : Eng) (s : State) : Host.Outcome State Fault Refusal := .next (s.onDev (devMboxOut e))

/-! ### Pack variables (R133) -/

/-- The register of variable v, and those of its limits. -/
def packVarReg (e : Eng) (v : Nat) : Nat := e.win + 0x100 + 4 * v
def pvarMinReg (e : Eng) (v : Nat) : Nat := e.win + 0x400 + 8 * v
def pvarMaxReg (e : Eng) (v : Nat) : Nat := e.win + 0x404 + 8 * v

/-- Variable v is signed. -/
def Device.pvarSigned (d : Device) (e : Eng) (v : Nat) : Bool := (d.reg (e.win + 0xA00 + 4 * (v / 32))).getLsbD (v % 32)

/-- A value lies between a variable's limits under its signedness. -/
def Device.pvarIn (d : Device) (e : Eng) (v : Nat) (x : BitVec 32) : Bool :=
  let lo := d.reg (pvarMinReg e v)
  let hi := d.reg (pvarMaxReg e v)
  if d.pvarSigned e v then decide (lo.toInt ≤ x.toInt ∧ x.toInt ≤ hi.toInt) else decide (lo.toNat ≤ x.toNat ∧ x.toNat ≤ hi.toNat)

/-- VAR_COUNT. -/
def Device.varCount (d : Device) (e : Eng) : Nat := d.fld (R.ENG_PROG_INFO e.win) F.ENG_PROG_INFO.VAR_COUNT

/-- PACK_VAR_WRITE: a value within the limits takes effect; any other, and a word past VAR_COUNT, is refused under R9. -/
def devPackVarWrite (e : Eng) (v : Fin 192) (x : BitVec 32) (d : Device) : Device :=
  if !d.answers e.island then d
  else if v.val < d.varCount e ∧ d.pvarIn e v.val x = true then d.setReg (packVarReg e v.val) x
  else d.configReject (packVarReg e v.val)

def execPackVarWrite (e : Eng) (v : Fin 192) (x : BitVec 32) (s : State) : Host.Outcome State Fault Refusal :=
  .next (s.onDev (devPackVarWrite e v x))

/-! ### Installing (R131, R132, R140) -/

/-- The reserved word that unused program store holds (R125). -/
def unusedWord : BitVec 32 := 0xFC000000#32

/-- ENG_LOAD_OPEN. -/
def Device.loadBegin (d : Device) (e : Eng) : Device :=
  let a := R.ENG_LOAD_STATUS e.win
  if !d.engIdle e then d.setFld a F.ENG_LOAD_STATUS.REJECT 1
  else
    let d := (d.off (R.ENG_STATUS e.win) F.ENG_STATUS.PROG_VALID).on a F.ENG_LOAD_STATUS.OPEN
    let d := d.setFld a F.ENG_LOAD_STATUS.REJECT 0
    (List.range 4096).foldl (fun d x => d.setReg (e.win + 0x1000 + 4 * x) unusedWord) d

/-- The first failing check of a COMMIT (R132); 0 where all pass. -/
def Device.commitCheck (d : Device) (e : Eng) : Nat :=
  let h := R.ENG_LOAD_HDR e.win
  let info := R.ENG_PROG_INFO e.win
  let len := d.fld info F.ENG_PROG_INFO.CODE_LEN
  let mask := d.fld info F.ENG_PROG_INFO.ENTRY_MASK
  let period := d.fld (R.ENG_WDOG e.win) F.ENG_WDOG.PERIOD
  if !d.loadOpen e then 0xA
  else if d.fld h F.ENG_LOAD_HDR.ENGINE_TYPE ≠ e.typeCode then 2
  else if d.fld h F.ENG_LOAD_HDR.PROFILE ≠ e.profile then 3
  else if !bit (d.fld h F.ENG_LOAD_HDR.INSTANCE_MASK) e.index then 4
  else if len < 1 ∨ 4096 < len then 5
  else if !(bit mask 0 && (List.range 8).all (fun k => !bit mask k || decide (d.fld (R.ENG_ENTRY e.win k) F.ENG_ENTRY.INDEX < len)))
    then 6
  else if crc32c (d.programBytes e len) ≠ d.reg (R.ENG_PROG_CRC e.win) then 7
  else if period < 1 ∨ 10000 < period then 8
  else if !(decide (d.varCount e ≤ 192) &&
      (List.range (d.varCount e)).all (fun v => d.pvarIn e v (d.reg (packVarReg e v)))) then 9
  else 0

/-- ENG_LOAD_COMMIT; a held START acts, or is refused. -/
def Device.loadEnd (d : Device) (e : Eng) : Device :=
  let code := d.commitCheck e
  let a := R.ENG_LOAD_STATUS e.win
  let d := (d.setFld a F.ENG_LOAD_STATUS.REJECT code).off a F.ENG_LOAD_STATUS.OPEN
  (if code = 0 then d.on (R.ENG_STATUS e.win) F.ENG_STATUS.PROG_VALID else d).tryPend e

def execEngLoadOpen (e : Eng) (s : State) : Host.Outcome State Fault Refusal :=
  .next (s.onDev (fun d => if d.answers e.island then d.loadBegin e else d))
def execEngLoadCommit (e : Eng) (s : State) : Host.Outcome State Fault Refusal :=
  .next (s.onDev (fun d => if d.answers e.island then d.loadEnd e else d))

/-! ### A pack's entries (R127) -/

/-- The fields of a pack entry. -/
structure PackEntry where
  type : Nat
  profile : Nat
  instances : Nat
  version : Nat
  codeOff : Nat
  codeLen : Nat
  codeCrc : Nat
  varOff : Nat
  varCount : Nat
  wdog : Nat
  entries : List Nat
  mask : Nat
  deriving DecidableEq, Repr

/-- Entry i of a program pack. -/
def packEntry (p : List (BitVec 8)) (i : Nat) : PackEntry :=
  let o := 64 + 64 * i
  { type := fieldOf p o 1
    profile := fieldOf p (o + 1) 1
    instances := fieldOf p (o + 2) 2
    version := fieldOf p (o + 4) 4
    codeOff := fieldOf p (o + 8) 4
    codeLen := fieldOf p (o + 12) 4
    codeCrc := fieldOf p (o + 16) 4
    varOff := fieldOf p (o + 20) 4
    varCount := fieldOf p (o + 24) 2
    wdog := fieldOf p (o + 26) 2
    entries := (List.range 8).map (fun k => fieldOf p (o + 28 + 2 * k) 2)
    mask := fieldOf p (o + 44) 1 }

/-- The entries of a program pack. -/
def packEntries (p : List (BitVec 8)) : List PackEntry := (List.range (fieldOf p 6 2)).map (packEntry p)

/-- An entry may be taken by an engine. -/
def PackEntry.fits (x : PackEntry) (e : Eng) : Bool :=
  x.type == e.typeCode && x.profile == e.profile && bit x.instances e.index

/-- The security core installs an entry of a pack into an engine (R131); the code it reports. -/
def Device.install (d : Device) (e : Eng) (p : List (BitVec 8)) (x : PackEntry) : Nat × Device :=
  if !d.engIdle e then (1, d.setFld (R.ENG_LOAD_STATUS e.win) F.ENG_LOAD_STATUS.REJECT 1)
  else
    let word (o : Nat) : BitVec 32 := BitVec.ofNat 32 (fieldOf p o 4)
    let d := d.loadBegin e
    let d := (List.range (min x.codeLen 4096)).foldl (fun d k => d.setReg (e.win + 0x1000 + 4 * k) (word (x.codeOff + 4 * k))) d
    let d := d.setReg (R.ENG_PROG_VERSION e.win) (BitVec.ofNat 32 x.version)
    let d := d.setReg (R.ENG_PROG_CRC e.win) (BitVec.ofNat 32 x.codeCrc)
    let info := R.ENG_PROG_INFO e.win
    let d := d.setFld info F.ENG_PROG_INFO.CODE_LEN (min x.codeLen 8191)
    let d := d.setFld info F.ENG_PROG_INFO.VAR_COUNT (min x.varCount 255)
    let d := d.setFld info F.ENG_PROG_INFO.ENTRY_MASK x.mask
    let d := d.setFld (R.ENG_WDOG e.win) F.ENG_WDOG.PERIOD (if x.wdog = 0 then 100 else min x.wdog 16383)
    let d := x.entries.zipIdx.foldl (fun d k => d.setFld (R.ENG_ENTRY e.win k.2) F.ENG_ENTRY.INDEX (min k.1 4095)) d
    let h := R.ENG_LOAD_HDR e.win
    let d := d.setFld h F.ENG_LOAD_HDR.ENGINE_TYPE x.type
    let d := d.setFld h F.ENG_LOAD_HDR.PROFILE x.profile
    let d := d.setFld h F.ENG_LOAD_HDR.INSTANCE_MASK x.instances
    let d := (List.range (min x.varCount 192)).foldl (fun d v =>
      let o := x.varOff + 16 * v
      let d := (d.setReg (pvarMinReg e v) (word (o + 4))).setReg (pvarMaxReg e v) (word (o + 8))
      let s := e.win + 0xA00 + 4 * (v / 32)
      let d := d.setFld s ⟨v % 32, 1⟩ (fieldOf p (o + 12) 1 % 2)
      d.setReg (packVarReg e v) (word o)) d
    let code := d.commitCheck e
    (code, d.loadEnd e)

end Sys2Proof.Machine
end

