-- ==== Sys2Proof/Machine/Images.lean ====
section
/-! DEFINITION. Boot images, program packs and golden images as they are checked (R128, R443, R445, R446, R455, R456, R474,
R492, R493), the boot directory (R444) and the identity key (R465). -/

namespace Sys2Proof.Machine

/-- A component of a boot slot. -/
inductive Component where
  | secfw | pack | mgmt
  deriving DecidableEq, Repr

/-- The code of a component (R473). -/
def Component.code : Component → Nat
  | .secfw => 0
  | .pack => 1
  | .mgmt => 2

/-- The component of a code. -/
def componentOf : Nat → Option Component
  | 0 => some .secfw
  | 1 => some .pack
  | 2 => some .mgmt
  | _ => none

/-- MAGIC and the largest TOTAL_LEN of a component (R127, R442, R443). -/
def Component.magic : Component → Nat
  | .secfw => 0x4345534D
  | .pack => 0x4B505856
  | .mgmt => 0x54474D4D
def Component.maxLen : Component → Nat
  | .secfw => 384 * 1024
  | .pack => 8 * 2 ^ 20
  | .mgmt => 12 * 2 ^ 20

/-- Owner keys may sign the component (R445). -/
def Component.ownerMay (c : Component) : Bool := c != .secfw

/-- The bytes of a component in a slot. -/
def BootSlot.part (s : BootSlot) : Component → List (BitVec 8)
  | .secfw => s.secfw
  | .pack => s.pack
  | .mgmt => s.mgmt

/-- A component of a slot replaced. -/
def BootSlot.putPart (s : BootSlot) (c : Component) (p : List (BitVec 8)) : BootSlot :=
  match c with
  | .secfw => { s with secfw := p }
  | .pack => { s with pack := p }
  | .mgmt => { s with mgmt := p }

/-- The components. -/
def components : List Component := [.secfw, .pack, .mgmt]

/-! ### Header fields (R127, R443) -/

def imgVersion (p : List (BitVec 8)) : Nat := fieldOf p 8 4
def imgSvn (p : List (BitVec 8)) : Nat := fieldOf p 12 4
def imgTotal (p : List (BitVec 8)) : Nat := fieldOf p 16 4
def imgTrailer (p : List (BitVec 8)) : Nat := fieldOf p 20 4
def imgEntry (p : List (BitVec 8)) : Nat := fieldOf p 24 4
def imgLockId (p : List (BitVec 8)) : Nat := fieldOf p 28 4

/-- The digest that the signature covers (R443). -/
def imgDigest (p : List (BitVec 8)) : BitVec 256 := digestNum (sha256 (p.take (imgTrailer p)))

/-- A component region is empty (R442). -/
def regionEmpty (p : List (BitVec 8)) : Bool := p.isEmpty || fieldOf p 0 4 == 0xFFFFFFFF

/-! ### Checks 0x01 to 0x06 on one component (R446) -/

/-- The value of a counter: the number of its blown bits (R455). -/
def counterValue (c : BitVec 64) : Nat := ((List.range 64).filter (fun i => c.getLsbD i)).length

/-- The counter of a component (R473, R474). -/
def FuseFields.counterOf (f : FuseFields) (c : Component) : Nat := counterValue (if c = .secfw then f.arb0 else f.arb1)

/-- FORMAT. -/
def headFormat (c : Component) (p : List (BitVec 8)) : Bool :=
  fieldOf p 0 4 == c.magic && fieldOf p 4 1 == 1 && fieldOf p 32 4 == (crc32c (p.take 32)).toNat &&
  match c with
  | .pack => zeroField p 36 28
  | _ => zeroField p 6 2 && zeroField p 60 4

/-- BOUNDS. -/
def headBounds (c : Component) (p : List (BitVec 8)) : Bool :=
  decide (imgTotal p ≤ c.maxLen ∧ imgTotal p ≤ p.length ∧ 64 ≤ imgTrailer p ∧ imgTrailer p + trailerLen = imgTotal p) &&
  match c with
  | .pack => true
  | _ => decide (imgEntry p % 4 = 0 ∧ imgEntry p < imgTrailer p)

/-- Where a pack's offsets and lengths lie (R127, R128). -/
def packEntriesOk (p : List (BitVec 8)) : Bool :=
  let n := fieldOf p 6 2
  let inside (off len : Nat) : Bool := decide (off % 4 = 0 ∧ len % 4 = 0 ∧ off + len ≤ imgTrailer p)
  decide (1 ≤ n ∧ n ≤ 64 ∧ 64 + 64 * n ≤ imgTrailer p ∧ imgTrailer p % 4 = 0) &&
  (packEntries p).all (fun x => inside x.codeOff (4 * x.codeLen) && inside x.varOff (16 * x.varCount))

/-- The reserved fields of a pack's entries and descriptors. -/
def packReservedOk (p : List (BitVec 8)) : Bool :=
  (packEntries p).zipIdx.all (fun x => zeroField p (64 + 64 * x.2 + 45) 19 &&
    (List.range (min x.1.varCount 192)).all (fun v =>
      decide (fieldOf p (x.1.varOff + 16 * v + 12) 1 < 2) && zeroField p (x.1.varOff + 16 * v + 13) 3))

/-- The first failing check of 0x01 to 0x06; 0 where all pass. -/
def headCheck (f : FuseFields) (c : Component) (p : List (BitVec 8)) : Nat :=
  if !headFormat c p then 1
  else if 1 < fieldOf p 5 1 then 2
  else if !headBounds c p then 3
  else match keyCheck f c.ownerMay p (imgTrailer p) with
    | none => 4
    | some k =>
      if f.isRevoked k then 5
      else if 64 < imgSvn p ∨ imgSvn p < f.counterOf c then 6
      else 0

/-- What R128 asks of a pack beyond its header. -/
def packBodyCheck (p : List (BitVec 8)) : Nat := if !packReservedOk p then 1 else if !packEntriesOk p then 3 else 0

/-! ### COMPAT (R127, R443) -/

/-- A range admits a version. -/
def rangeAdmits (lo hi v : Nat) : Bool := decide ((lo = 0 ∧ hi = 0) ∨ (lo ≤ v ∧ v ≤ hi))

/-- An image's range for a component admits a version; its range for its own kind is zero. -/
def imgAdmits (p : List (BitVec 8)) (off v : Nat) : Bool := rangeAdmits (fieldOf p off 4) (fieldOf p (off + 4) 4) v

/-- The three components lie within one another's ranges. -/
def slotCompat (s : BootSlot) : Bool :=
  zeroField s.secfw 36 8 && zeroField s.mgmt 44 8 &&
  imgAdmits s.secfw 44 (imgVersion s.mgmt) && imgAdmits s.secfw 52 (imgVersion s.pack) &&
  imgAdmits s.mgmt 36 (imgVersion s.secfw) && imgAdmits s.mgmt 52 (imgVersion s.pack) &&
  decide (fieldOf s.pack 24 4 ≤ imgVersion s.mgmt ∧ imgVersion s.mgmt ≤ fieldOf s.pack 28 4)

/-- The lowest nonzero code of a list; 0 where there is none. -/
def firstCode (l : List Nat) : Nat := ((l.filter (· != 0)).min?).getD 0

/-- Checks 0x01 to 0x07 on a slot: the first failing check of the table. -/
def slotHeadCheck (f : FuseFields) (s : BootSlot) : Nat :=
  match firstCode (components.map (fun c => headCheck f c (s.part c))) with
  | 0 => if slotCompat s then 0 else 7
  | c => c

/-- The whole of a slot checked as a boot would (R446, R475); `flash` says which components were read with an error. -/
def slotCheck (f : FuseFields) (s : BootSlot) (flash : Component → Bool) : Nat :=
  let bodies := firstCode [slotHeadCheck f s, packBodyCheck s.pack]
  if slotHeadCheck f s ≠ 0 then slotHeadCheck f s
  else if bodies ≠ 0 then bodies
  else if !components.all (fun c => signatureOk (s.part c) (imgTrailer (s.part c))) then 8
  else if components.any flash then 9
  else 0

/-- What the boot knows of a slot's components. -/
def imageInfo (s : BootSlot) : ImageInfo where
  secDigest := imgDigest s.secfw
  packDigest := imgDigest s.pack
  mgmtDigest := imgDigest s.mgmt
  secSvn := imgSvn s.secfw
  mgmtSvn := imgSvn s.mgmt
  lockId := imgLockId s.mgmt
  entry := imgEntry s.mgmt
  mgmtLen := imgTrailer s.mgmt
  version := imgVersion s.mgmt

/-! ### Golden images (R492, R493) -/

/-- Header fields of a golden image. -/
def goldModel (p : List (BitVec 8)) : Nat := fieldOf p 8 8
def goldLen (p : List (BitVec 8)) : Nat := fieldOf p 20 4
def goldBlocks (p : List (BitVec 8)) : Nat := fieldOf p 24 4
def goldTrailer (p : List (BitVec 8)) : Nat := fieldOf p 28 4
def goldDigest (p : List (BitVec 8)) : BitVec 256 := digestNum ((p.drop 32).take 32)

/-- BODY_OFFSET. -/
def goldBody (p : List (BitVec 8)) : Nat := (goldTrailer p + 132 + 4095) / 4096 * 4096

/-- Block k reads as its table entry says. -/
def goldBlockOk (p : List (BitVec 8)) (k : Nat) : Bool :=
  fieldOf p (96 + 4 * k) 4 == (crc32c ((p.drop (goldBody p + 4096 * k)).take 4096)).toNat

/-- Every block reads as the table says (R461, R493). -/
def goldBlocksOk (p : List (BitVec 8)) : Bool := (List.range (goldBlocks p)).all (goldBlockOk p)

/-- The first failing check of a golden image (R493); 0 where all pass. -/
def goldCheck (f : FuseFields) (p : List (BitVec 8)) (flash : Bool) : Nat :=
  if !(fieldOf p 0 4 == 0x444C474D && fieldOf p 4 1 == 1 && fieldOf p 64 4 == (crc32c (p.take 64)).toNat &&
      zeroField p 6 2 && zeroField p 68 28 && goldModel p != 0) then 1
  else if 1 < fieldOf p 5 1 then 2
  else if !decide (2 ^ 20 ≤ goldLen p ∧ goldLen p ≤ 255 * 2 ^ 20 ∧ goldBlocks p = (goldLen p + 4095) / 4096 ∧
      goldTrailer p = 96 + 4 * goldBlocks p ∧ goldBody p + 4096 * goldBlocks p ≤ p.length) then 3
  else match trustCheck f true p (goldTrailer p) with
    | 0 =>
      if flash || !goldBlocksOk p ||
          digestNum (sha256 ((p.drop (goldBody p)).take (goldLen p))) != goldDigest p then 9 else 0
    | c => c

/-! ### The boot directory (R444) -/

/-- What holds where neither copy is valid. -/
def BootDir.blank : BootDir where
  active := 0
  trial := 0
  trialSlot := 0
  seq := 0
  tTrial := 120
  skip := 0
  arbPending := false
  rejA := 0
  rejB := 0

/-- The index of the copy in force. -/
def Nonvolatile.dirPlace (nv : Nonvolatile) : Option (Fin 2) :=
  match nv.dirs[(0 : Fin 2)], nv.dirs[(1 : Fin 2)] with
  | none, none => none
  | some _, none => some 0
  | none, some _ => some 1
  | some a, some b => if a.seq < b.seq then some 1 else some 0

/-- The directory in force. -/
def Nonvolatile.dir (nv : Nonvolatile) : BootDir :=
  match nv.dirPlace with
  | none => BootDir.blank
  | some k => (nv.dirs[k]).getD BootDir.blank

/-- A write goes to the copy that is not in force, with SEQ + 1. -/
def Nonvolatile.putDir (nv : Nonvolatile) (f : BootDir → BootDir) : Nonvolatile :=
  let place : Fin 2 := match nv.dirPlace with
    | none => 0
    | some k => if k = 0 then 1 else 0
  { nv with dirs := vset nv.dirs place (some { f nv.dir with seq := nv.dir.seq + 1 }) }

/-- REJ of a slot. -/
def BootDir.setRej (b : BootDir) (s : Fin 2) (code : Nat) : BootDir :=
  if s = 0 then { b with rejA := code } else { b with rejB := code }

/-- SKIP with a slot. -/
def BootDir.addSkip (b : BootDir) (s : Fin 2) : BootDir := { b with skip := b.skip ||| 2 ^ s.val }

/-- The other slot. -/
def otherSlot (s : Fin 2) : Fin 2 := if s = 0 then 1 else 0

/-! ### Identity (R465, R466) -/

/-- ASCII bytes. -/
def ascii (s : String) : List (BitVec 8) := s.toList.map (fun c => BitVec.ofNat 8 c.toNat)

/-- The identity private key. -/
def Fuses.idKey (f : Fuses) : Nat :=
  let label := if f.fields.debugClosed then "MIRYS-ID-1" else "MIRYS-DBG-1"
  bytesNatBe (sha256 (ascii label ++ beBytes 32 f.idSeed.toNat)) % (p256n - 1) + 1

/-- The identity public key. -/
def Fuses.idPub (f : Fuses) : Nat × Nat := (p256Mul 256 f.idKey (some (p256gx, p256gy))).getD (0, 0)

/-- A signature of a digest with the identity key, for the nonce k. -/
def Fuses.signWith (f : Fuses) (k digest : Nat) : List (BitVec 8) :=
  let r := ((p256Mul 256 k (some (p256gx, p256gy))).getD (0, 0)).1 % p256n
  let s := invMod p256n k * (digest + r * f.idKey) % p256n
  beBytes 32 r ++ beBytes 32 s

end Sys2Proof.Machine
end

