-- ==== Sys2Proof/Machine/Restart.lean ====
section
/-! DEFINITION. Clocks and restarts (R8, R17–R20, R31–R43, R353, R359, R539, R540, R595–R598): the trims, the three kinds of
restart with what each keeps, READY and T_grace. -/

namespace Sys2Proof.Machine

/-- The hundred islands. -/
def islands : List Nat := List.range 100

/-- The supplies of an island are good (R597). -/
def PinCtx.supplied (p : PinCtx) (i : Nat) : Bool :=
  if i < 39 then p.vstby
  else if (49 ≤ i ∧ i ≤ 60) ∨ i = 69 ∨ i = 70 then p.vcore && p.vsrd085 && p.vsrd12
  else if 72 ≤ i ∧ i ≤ 87 then p.vcore && p.vdd1 && p.vdd2 && p.vddq
  else p.vcore

/-- What a held commons restart waits for (R598, R616). -/
def PinCtx.coreGood (p : PinCtx) : Bool := p.vcore && p.vdd1 && p.vdd2 && p.vddq && p.xtal

/-- STATE of an island set. -/
def Device.setIsland (d : Device) (i v : Nat) : Device := d.setFld (R.ISLE_ENTRY i) F.ISLE_ENTRY.STATE v

/-- The STATE of an island held in reset: ISOLATED while a supply of it is not good. -/
def Device.heldState (d : Device) (i : Nat) : Nat := if d.pins.supplied i then 1 else 0

/-- Islands put into reset, each counted. -/
def Device.holdIslands (d : Device) (p : Nat → Bool) : Device :=
  (islands.filter p).foldl (fun d i => (d.setIsland i (d.heldState i)).count (R.ISLE_ENTRY i) F.ISLE_ENTRY.RESTART_CNT 1) d

/-- Islands in reset whose supplies are good leave it. -/
def Device.runIslands (d : Device) (p : Nat → Bool) : Device :=
  (islands.filter p).foldl (fun d i => if d.islandState i = 1 then d.setIsland i 2 else d) d

/-- The islands of the management cores. -/
def coreIsland (i : Nat) : Bool := decide (42 ≤ i ∧ i ≤ 45)

/-- The islands a commons restart resets (R32). -/
def commonsIsland (i : Nat) : Bool := decide ((39 ≤ i ∧ i ≤ 52) ∨ (69 ≤ i ∧ i ≤ 99))

/-- UCR_RST_CAUSE and READY at the start of a restart (R43). -/
def Device.noteRestart (d : Device) (kind cause : Nat) : Device :=
  let d := d.setFld R.UCR_RST_CAUSE F.UCR_RST_CAUSE.LAST_KIND kind
  let d := d.setFld R.UCR_RST_CAUSE F.UCR_RST_CAUSE.CAUSE cause
  let d := d.count R.UCR_RST_CAUSE F.UCR_RST_CAUSE.PARTIAL_CNT 1
  d.off R.UCR_FW_READY F.UCR_FW_READY.READY

/-! ### Full device reset -/

/-- The role of a device that has not joined (R539, R540). -/
def Device.strapRole (d : Device) : Device :=
  let pair := d.fld R.IO_STRAP F.IO_STRAP.PAIR_MODE
  let d := d.setFld R.TWIN_STATUS F.TWIN_STATUS.PAIR_MODE pair
  let d := d.setFld R.TWIN_STATUS F.TWIN_STATUS.PAIR_ID (d.fld R.IO_STRAP F.IO_STRAP.PAIR_ID)
  d.setFld R.TWIN_STATUS F.TWIN_STATUS.ROLE (if pair = 1 then 2 else 0)

/-- The rate of the ETH_RATE strap, in force after a full device reset and in recovery wait (R503). -/
def Device.strapEth (d : Device) : Device :=
  let strap := d.fld R.IO_STRAP F.IO_STRAP.ETH_RATE
  let rate := if strap = 2 then 1 else if strap = 1 then 2 else 0
  let d := (d.setFld R.ETH_STAT F.ETH_STAT.STRAP strap).setFld R.ETH_STAT F.ETH_STAT.RATE_NOW rate
  d.setFld R.ETH_CFG F.ETH_CFG.RATE rate

/-- The device right after a full device reset with these levels on its pins. -/
def Device.afterReset (pins : PinCtx) (free cause : Nat) : Device :=
  let d := { Device.reset with pins := pins, freeCtr := free }
  let d := islands.foldl (fun d i => if pins.supplied i then d else d.setIsland i 0) d
  let d := d.setFld R.IO_STRAP F.IO_STRAP.PAIR_MODE (natOf pins.pairMode)
  let d := d.setFld R.IO_STRAP F.IO_STRAP.PAIR_ID (natOf pins.pairId)
  let d := d.setFld R.IO_STRAP F.IO_STRAP.BOOT_MODE pins.bootMode
  let d := d.setFld R.IO_STRAP F.IO_STRAP.ETH_RATE pins.ethRate
  d.strapRole.strapEth.setFld R.UCR_RST_CAUSE F.UCR_RST_CAUSE.CAUSE cause

/-- A hold-up record being written is torn (R356, R616). -/
def Sys.tearHoldup (y : Sys) : Sys :=
  match y.dev.tray.holdup with
  | [] => y
  | r :: _ =>
    match holdupSlot y.nv.holdup with
    | none => y
    | some k => { y with nv := { y.nv with holdup := sparseInsert k { r with seq := 0, torn := true } y.nv.holdup } }

/-- A full device reset (R32, R33, R38). -/
def Sys.fullReset (y : Sys) (cause : Nat) : Sys :=
  let y := y.tearHoldup
  { y with dev := Device.afterReset y.dev.pins y.dev.freeCtr cause }

/-! ### Commons restart -/

/-- A dispatch in flight ends without blame (R231, R38). -/
def Device.voidDispatch (d : Device) (x : GDisp) : Device := d.advanceGen x 0xFF

/-- Every dispatch in flight ends; what a cluster keeps in the UCR island stays (R231). -/
def Device.resetClusters (d : Device) : Device :=
  let d := clusters.foldl (fun d g =>
    let c := d.gc g
    let d := match c.cur with
      | none => d
      | some x => d.voidDispatch x
    let d := match c.waiting with
      | none => d
      | some x => d.voidDispatch x
    let d := (d.off (R.GC_STATUS g.val) F.GC_STATUS.BUSY).off (R.GC_STATUS g.val) F.GC_STATUS.CHECKING
    let d := d.setMaskBit R.GAL_UNFENCE F.GAL_UNFENCE.UNFENCE g.val false
    (d.setEng (.gc g) ECtx.reset).setGc g
      { GcCtx.reset with blames := c.blames, passes := c.passes, katDue := c.katDue, katMade := c.katMade }) d
  let d := d.gdone.foldl (fun d p =>
    let c := compOf p.2
    match (d.wit p.1).tag? c.tag with
    | none => d
    | some t => d.voidDispatch ⟨p.1, c.gen, t.desc⟩) d
  { d with gdone := [] }

/-- A stencil window open at the restart does not give the result of its run: a descriptor does (R322). -/
def Device.runsByDesc (d : Device) : Device :=
  bays.foldl (fun d b =>
    let c := d.stn b
    d.setStn b { c with visit := c.visit.map (fun v => { v with run := v.run.map (fun r => { r with byDesc := true }) }) }) d

/-- What a commons restart does to the device (R32, R38, R40–R42, R322, R497, R540). -/
def Device.commonsReset (d : Device) : Device :=
  let d := d.resetClusters.runsByDesc
  let d := d.resetRegs (fun a => commonsIsland (islandOf a) && a != R.SEC_LOCK_ID)
  let d := d.holdIslands commonsIsland
  let d := { d with
    mem := d.mem.filter (fun e => !inSram e.1)
    poison := d.poison.filter (fun l => !inSram (l * 64))
    sec := SecCore.reset
    cores := Vector.replicate 4 MCtx.reset
    mcs := Vector.replicate 16 McCtx.reset
    landed := Vector.replicate 64 []
    hostLanes := Vector.replicate 4 .quiet
    golds := d.golds.map (fun (g : GoldCtx) => ⟨g.slot, false⟩)
    shadow := FuseFields.blank
    twin := TwinCtx.reset
    eth := EthCtx.reset
    boot := { BootCtx.reset with lockSet := d.boot.lockSet, handovers := d.boot.handovers }
    restart := 2 }
  d.strapRole.strapEth

/-- GOLD_SLOT of a slot. -/
def Device.showGold (d : Device) (g : Nat) (p : List (BitVec 8)) : Device :=
  let d := d.setReg (R.GOLD_MODEL_LO g) (BitVec.ofNat 32 (goldModel p))
  let d := d.setReg (R.GOLD_MODEL_HI g) (BitVec.ofNat 32 (goldModel p / 2 ^ 32))
  let d := d.setReg (R.GOLD_VERSION g) (BitVec.ofNat 32 (fieldOf p 16 4))
  let d := d.setFld (R.GOLD_INFO g) F.GOLD_INFO.VALID (natOf (!p.isEmpty))
  let d := d.setFld (R.GOLD_INFO g) F.GOLD_INFO.OWNER (natOf (!p.isEmpty && ownerSigned p (goldTrailer p)))
  d.setFld (R.GOLD_INFO g) F.GOLD_INFO.BLOCKS (goldBlocks p)

/-- A check or re-flash uses a golden slot. -/
def Device.goldBusy (d : Device) (g : Nat) : Bool := bays.any (fun b => d.goldState b != 0 && d.golds[b].slot == g)

/-- Golden images accepted for slots that checks used take their slots (R493). -/
def Sys.settleGold (y : Sys) : Sys :=
  (List.finRange 4).foldl (fun y g =>
    match y.dev.goldNext[g] with
    | none => y
    | some p =>
      if y.dev.goldBusy g.val then y
      else {
        dev := { y.dev with goldNext := vset y.dev.goldNext g none }.showGold g.val p
        nv := { y.nv with golden := vset y.nv.golden g p } }) y

/-- A commons restart; one in progress absorbs it (R33, R34). -/
def Sys.commonsRestart (y : Sys) (cause : Nat) : Sys :=
  if y.dev.restart = 2 then y
  else (y.onDev (fun d => (d.noteRestart 2 cause).commonsReset)).settleGold

/-! ### Firmware restart -/

/-- A firmware restart; the third within 60 s becomes a commons restart, and one in progress absorbs it (R33, R34, R36). -/
def Sys.fwRestart (y : Sys) (cause : Nat) : Sys :=
  if y.dev.restart ≠ 0 then y
  else
    let (now, d) := y.dev.now
    let times := now :: d.fwTimes.filter (fun t => decide (now < t + 60000000))
    if 3 ≤ times.length then ({ y with dev := { d with fwTimes := [] } } : Sys).commonsRestart 5
    else
      let d := ((d.runsEnd 0xFD).noteRestart 1 cause).holdIslands coreIsland
      { y with dev := { d with cores := Vector.replicate 4 MCtx.reset, restart := 1, fwTimes := times } }

/-- The cores leave reset at the image's entry (R448). -/
def Device.releaseCores (d : Device) (entry : Nat) : Device :=
  { d.runIslands coreIsland with
    cores := Vector.replicate 4 { MCtx.reset with pc := BitVec.ofNat 64 (0x10000000 + entry) } }

/-- The copy of the image in system SRAM reads clean and has a digest (R39, R448). -/
def Device.sramAgrees (d : Device) (len : Nat) (digest : BitVec 256) : Bool :=
  !d.poisonedRange 0x10000000 len && digestNum (sha256 (memBytes d.mem 0x10000000 len)) == digest

/-- SRAM_RECHECK_DONE (R39). -/
def sysSramRecheckDone (y : Sys) : Sys :=
  let d := y.dev
  if d.restart ≠ 1 ∨ d.answers 39 = false ∨ d.sec.stopped = true ∨ d.islandState 42 ≠ 1 ∨
      (d.boot.phase ≠ .running ∧ d.boot.phase ≠ .verified) then y
  else if d.sramAgrees d.boot.image.mgmtLen d.boot.image.mgmtDigest then { y with dev := d.releaseCores d.boot.image.entry }
  else y.commonsRestart 8

def execSramRecheckDone (s : State) : Host.Outcome State Fault Refusal := .next (s.onSys sysSramRecheckDone)

/-! ### The security core's exceptions (R436) -/

/-- The output gate is open (R451, R471). -/
def Device.gateOpen (d : Device) : Bool := d.flag R.SEC_BOOT_STATUS F.SEC_BOOT_STATUS.GATE

/-- The security core takes an exception: it stops; before the gate the boot ends with the cores in reset, and after it
requests are refused (R436). -/
def Device.secException (d : Device) : Device :=
  let d := { d with sec := { d.sec with stopped := true } }
  if d.gateOpen then
    (d.on R.SEC_REQ_STAT F.SEC_REQ_STAT.DOWN).on R.SEC_EVENT F.SEC_EVENT.SEC_DOWN
  else
    let d := d.holdIslands (fun i => coreIsland i && d.islandState i == 2)
    { d with cores := Vector.replicate 4 MCtx.reset, boot := { d.boot with phase := .dead } }

/-- SEC_EXCEPTION. -/
def execSecException (s : State) : Host.Outcome State Fault Refusal :=
  .next (s.onDev (fun d => if d.answers 39 && !d.sec.stopped then d.secException else d))

/-! ### Requests (R33, R43) -/

/-- The requests of a write of UCR_RST_CTL: the largest applies, and a wrong key leaves all (R43). -/
def Sys.rstCtl (y : Sys) (host : Bool) (v : BitVec 32) : Sys :=
  let cause := if host then 2 else 3
  if F.UCR_RST_CTL.KEY.get v ≠ 0xC0A7 then y
  else if v.getLsbD 2 then y.fullReset cause
  else if v.getLsbD 1 then y.commonsRestart cause
  else if v.getLsbD 0 then y.fwRestart cause
  else y

/-- A write of UCR_RST_CTL reaches it: a management core's only once the gate is open (R450). -/
def Device.ucrWritable (d : Device) (who : Initiator) : Bool :=
  d.answers 0 && match who with
    | .core _ => d.gateOpen
    | _ => true

/-- A keyed write of UCR_RST_CTL with the request bits given. -/
def sysRstRequest (who : Initiator) (key : BitVec 16) (bits : Nat) (y : Sys) : Sys :=
  if y.dev.ucrWritable who then y.rstCtl (who == .host) (BitVec.ofNat 32 (key.toNat * 65536 + bits)) else y

def execFwRestart (who : Initiator) (key : BitVec 16) (s : State) : Host.Outcome State Fault Refusal :=
  .next (s.onSys (sysRstRequest who key 1))
def execCommonsRestart (who : Initiator) (key : BitVec 16) (s : State) : Host.Outcome State Fault Refusal :=
  .next (s.onSys (sysRstRequest who key 2))
def execFullReset (who : Initiator) (key : BitVec 16) (s : State) : Host.Outcome State Fault Refusal :=
  .next (s.onSys (sysRstRequest who key 4))

/-- HUB_FAULT. -/
def execHubFault (s : State) : Host.Outcome State Fault Refusal :=
  .next (s.onSys (fun y => if y.dev.answers 46 then y.commonsRestart 6 else y))

/-- A channel's contents are lost: every line reads as poisoned until it is written (R40). -/
def Device.loseChannel (d : Device) (c : Fin 32) : Device :=
  { d with
    poison := d.poison.filter (fun l => !(inDram (l * 64) && channelOf (l * 64) == c.val))
    lost := vset d.lost c true
    fs := { d.fs with journal := d.fs.journal.filter (fun e => channelOf (0xFF0000000 + 64 * e.1) != c.val) } }

/-- SELF_REFRESH_TIMEOUT (R40, R326). -/
def devSelfRefreshTimeout (j : Fin 16) (d : Device) : Device :=
  if d.restart ≠ 2 ∨ d.islandState (72 + j.val) = 2 then d
  else
    let d := (d.loseChannel ⟨2 * j.val, by omega⟩).loseChannel ⟨2 * j.val + 1, by omega⟩
    let d := (d.on (R.MC_STATUS j.val) F.MC_STATUS.CH0_LOST).on (R.MC_STATUS j.val) F.MC_STATUS.CH1_LOST
    d.setFld (R.MC_ERR_INFO j.val) F.MC_ERR_INFO.KIND 3

def execSelfRefreshTimeout (j : Fin 16) (s : State) : Host.Outcome State Fault Refusal :=
  .next (s.onDev (devSelfRefreshTimeout j))

/-! ### READY and T_grace (R35, R36, R568) -/

/-- UCR_FW_READY: firmware, on management core c, writes READY. -/
def devUcrFwReady (c : Fin 4) (d : Device) : Device :=
  if d.answers (42 + c.val) && d.ucrWritable (.core c) then { d.on R.UCR_FW_READY F.UCR_FW_READY.READY with restart := 0 } else d

def execUcrFwReady (c : Fin 4) (s : State) : Host.Outcome State Fault Refusal := .next (s.onDev (devUcrFwReady c))

/-- The partner is heard on either path (R548). -/
def Device.heard (d : Device) : Bool := d.flag R.TWIN_STATUS F.TWIN_STATUS.LINK || d.flag R.TWIN_STATUS F.TWIN_STATUS.PIN

/-- T_GRACE_EXPIRY. -/
def sysTGraceExpiry (y : Sys) : Sys :=
  let d := y.dev
  if d.restart = 0 ∨ d.flag R.UCR_FW_READY F.UCR_FW_READY.READY = true then y
  else
    let spared := (d.role == 1 || d.role == 2) && d.heard
    let y : Sys := if spared then y else { y with dev := d.seqStop 8 }
    if d.restart = 1 then y.commonsRestart 5 else y.fullReset 5

def execTGraceExpiry (s : State) : Host.Outcome State Fault Refusal := .next (s.onSys sysTGraceExpiry)

/-! ### Oscillators and REFCLK (R17–R20) -/

/-- OSC_TRIM: every oscillator is trimmed, with the deviation measured on each island. -/
def devOscTrim (dev : List (BitVec 8)) (d : Device) : Device :=
  if !d.refPresent then d
  else islands.foldl (fun d i =>
    (d.on (R.ISLE_ENTRY i) F.ISLE_ENTRY.TRIMMED).setFld (R.ISLE_ENTRY i) F.ISLE_ENTRY.FREQ_DEV (dev.getD i 0#8).toNat) d

def execOscTrim (dev : List (BitVec 8)) (s : State) : Host.Outcome State Fault Refusal := .next (s.onDev (devOscTrim dev))

/-- TRIM_LAPSE: a trim period without REFCLK has passed (R18, R19). -/
def execTrimLapse (i : Fin 100) (s : State) : Host.Outcome State Fault Refusal :=
  .next (s.onDev (fun d => if d.refPresent then d else d.off (R.ISLE_ENTRY i.val) F.ISLE_ENTRY.TRIMMED))

/-- REFCLK_LOST. -/
def devRefclkLost (d : Device) : Device :=
  if !d.refPresent then d
  else
    let d := (d.off R.ISLE_REFCLK F.ISLE_REFCLK.PRESENT).on R.ISLE_REFCLK F.ISLE_REFCLK.LOST
    (d.count R.ISLE_REFCLK F.ISLE_REFCLK.LOSS_CNT 1).raise 0x0103 0xFF []

def execRefclkLost (s : State) : Host.Outcome State Fault Refusal := .next (s.onDev devRefclkLost)

/-- REFCLK_RETURN: REFCLK is detected, and the trims of R20 follow as OSC_TRIM. -/
def execRefclkReturn (s : State) : Host.Outcome State Fault Refusal :=
  .next (s.onDev (·.on R.ISLE_REFCLK F.ISLE_REFCLK.PRESENT))

end Sys2Proof.Machine
end

