-- ==== Sys2Proof/Machine/EngineCtl.lean ====
section
/-! DEFINITION. What an exception does to the E- or G-profile unit that takes it (R90, R134, R436), and the queue that FENCE
waits for (R114). -/

namespace Sys2Proof.Machine

/-- An exception on an E- or G-profile unit. -/
def Device.unitFault (d : Device) (u : EUnit) (c : Cause) (pc : Nat) : Device :=
  match u with
  | .core _ => d
  | .eng e => d.engFault e c pc
  | .sec => d.secException

/-- The queue of G instructions of a unit is empty. -/
def Device.gQueueEmpty (d : Device) (u : EUnit) : Bool :=
  match u with
  | .eng (.gc g) => (d.gc g).queue.isEmpty
  | _ => true

end Sys2Proof.Machine
end

