-- ==== Sys2Proof/Machine/Operands.lean ====
section
/-! DEFINITION. Instruction words and operand forms (R45–R53, R121–R124): how the fields of a command make the
instruction's 32-bit word, and how immediates and offsets extend. -/

namespace Sys2Proof.Machine

/-- Format A (R121). -/
def wordA (op : BitVec 6) (rd rs1 rs2 : BitVec 5) (func : BitVec 11) : BitVec 32 := op ++ rd ++ rs1 ++ rs2 ++ func

/-- Format I; also the stores, whose first field is gs2 (R121, R123). -/
def wordI (op : BitVec 6) (rd rs1 : BitVec 5) (imm : BitVec 16) : BitVec 32 := op ++ rd ++ rs1 ++ imm

/-- Formats U and J (R121). -/
def wordU (op : BitVec 6) (rd : BitVec 5) (imm : BitVec 21) : BitVec 32 := op ++ rd ++ imm

/-- Format B (R121). -/
def wordB (op : BitVec 6) (rs1 rs2 : BitVec 5) (off : BitVec 16) : BitVec 32 := op ++ rs1 ++ rs2 ++ off

/-- Format P (R121). -/
def wordP (op : BitVec 6) (rd rs : BitVec 5) (port : BitVec 12) (sub : BitVec 4) : BitVec 32 :=
  op ++ rd ++ rs ++ port ++ sub

/-- A register number an E or G engine has (R46). -/
def low (r : BitVec 5) : Bool := decide (r.toNat < 16)

/-- The address gs1 plus the sign-extended imm16, as a whole number (R53). -/
def wholeSum (v : BitVec 32) (imm : BitVec 16) : Int := (v.toNat : Int) + imm.toInt

/-- The address gs1 plus the sign-extended imm16 modulo 2^64 (R53). -/
def wrapSum (v : BitVec 64) (imm : BitVec 16) : BitVec 64 := v + imm.signExtend 64

/-- A shift amount: the low 5 bits of y where W is 32, the low 6 where W is 64 (R51). -/
def shiftAmount (w : Nat) (y : BitVec w) : Nat := if w = 64 then y.toNat % 64 else y.toNat % 32

end Sys2Proof.Machine
end

