-- ==== Sys2Proof/Machine/Cpu.lean ====
section
/-! DEFINITION. How a unit executes one instruction (R44–R48, R57, R63, R89–R96, R103–R105): whether it runs, the checks
that come before the instruction's own effect, and what an exception does. -/

namespace Sys2Proof.Machine

/-- What an instruction comes to on an E- or G-profile unit: done, an exception, or, where an access must wait,
nothing yet. -/
inductive EOut where
  | done (y : Sys)
  | fault (c : Cause) (y : Sys)
  | stall
  deriving DecidableEq, Repr

/-- What an instruction comes to on a management core: done, an exception with its TVAL (none where the manual states
no value), or nothing yet. -/
inductive MOut where
  | done (y : Sys)
  | trap (c : Cause) (tval : Option (BitVec 64)) (y : Sys)
  | stall
  deriving DecidableEq, Repr

/-- The unit's island answers. -/
def Device.unitUp (d : Device) : EUnit → Bool
  | .core c => d.answers (42 + c.val)
  | .eng e => d.answers e.island
  | .sec => d.answers 39

/-- The unit executes instructions: an engine RUNNING or STOPPING, the security core or a management core running and
not stopped; and nothing holds it. -/
def Device.unitRuns (d : Device) : EUnit → Bool
  | .core c => d.answers (42 + c.val) && !d.cores[c].stopped && d.cores[c].hold == .none
  | .eng e => d.answers e.island && (d.engState e == 2 || d.engState e == 3) && (d.eng e).hold == .none
  | .sec => d.answers 39 && !d.sec.stopped && d.sec.ctx.hold == .none

/-- The unit may fetch at its program counter: inside the program store (R63), or in the mask ROM or the private SRAM
of the security core (R47). -/
def Device.fetchOk (d : Device) : EUnit → Bool
  | .core _ => false
  | .eng e => decide ((d.eng e).pc < 0x4000)
  | .sec => decide (d.sec.ctx.pc < 0x40000) || decide (0x80000 ≤ d.sec.ctx.pc ∧ d.sec.ctx.pc < 0x100000)

/-- An instruction retires on an E- or G-profile unit, unless its own effect has reset the unit. -/
def Sys.retireE (y : Sys) (u : EUnit) : Sys :=
  y.onDev (fun d => if !d.unitUp u then d else d.setEctx u { d.ectx u with instret := (d.ectx u).instret + 1 })

/-- An E- or G-profile unit issues an instruction: PARITY first, then the fetch, then the checks on the word, then its
effect (R46, R63, R90, R91, R122). -/
def eIssue (x : Issue) (legal : Bool) (body : Sys → EOut) (y : Sys) : Sys :=
  let pc := (y.dev.ectx x.unit).pc
  if !y.dev.unitRuns x.unit then y
  else if x.parity then y.onDev (·.unitFault x.unit .parity pc)
  else if !(y.dev.fetchOk x.unit && legal) then y.onDev (·.unitFault x.unit .illegal pc)
  else match body y with
    | .done y => y.retireE x.unit
    | .fault c y => y.onDev (·.unitFault x.unit c pc)
    | .stall => y

/-! ### Region protection (R103–R105) -/

/-- What an access asks for. -/
inductive Right where
  | read | write | execute
  deriving DecidableEq, Repr

/-- Region i of the protection unit matches an address (R105). -/
def Pru.matches (p : Pru) (i : Fin 16) (a : Nat) : Bool :=
  let base := (p.base[i]).toNat / 4096 % 2 ^ 36
  let limit := (p.limit[i]).toNat / 4096 % 2 ^ 36
  (p.attr[i]).getLsbD 0 && decide (base * 4096 ≤ a ∧ a < (limit + 1) * 4096)

/-- The bit of PRU_ATTR that grants a right in a mode (R104). -/
def rightBit (priv : Bool) (r : Right) : Nat :=
  (if priv then 1 else 4) + match r with
    | .read => 0
    | .write => 1
    | .execute => 2

/-- The protection unit allows an access (R105). -/
def Pru.allows (p : Pru) (priv : Bool) (r : Right) (a : Nat) : Bool :=
  if !p.ctl.getLsbD 0 then priv
  else match (List.finRange 16).find? (fun i => p.matches i a) with
    | some i => (p.attr[i]).getLsbD (rightBit priv r)
    | none => priv

/-! ### Management cores -/

/-- CAUSE of an exception (R97). -/
def causeWord (c : Cause) : BitVec 64 := BitVec.ofNat 64 c.code

/-- An exception on a management core at its program counter (R93, R96); a TVAL the manual states no value for is a
free value. A host program that runs on the core ends (R101, R525). -/
def Sys.mTrap (y : Sys) (c : Fin 4) (cause : Cause) (epc : BitVec 64) (tval : Option (BitVec 64)) : Sys :=
  let (v, d) := match tval with
    | some v => (v, y.dev)
    | none => y.dev.fresh64
  let d := d.runException c (causeWord cause) v
  { y with dev := d.setCore c (d.cores[c].except (causeWord cause) epc v) }

/-- An instruction retires on a management core, unless its own effect has reset the core. -/
def Sys.retireM (y : Sys) (c : Fin 4) : Sys :=
  y.onDev (fun d => if !d.unitUp (.core c) then d else d.setCore c { d.cores[c] with instret := d.cores[c].instret + 1#64 })

/-- A management core may fetch at an address: in system SRAM, word-aligned, and the protection unit grants it
(R57, R105). -/
def Device.mFetchOk (d : Device) (c : Fin 4) (pc : Nat) : Bool :=
  inSram pc && pc % 4 == 0 && d.pru.allows d.cores[c].priv .execute pc

/-- A management core issues an instruction: the causes in the order of R95, then its effect. The effect of an
instruction fetched from a poisoned line is dropped for POISON, the last cause (R91, R92). -/
def mIssue (x : Issue) (c : Fin 4) (word : BitVec 32) (legal : Bool) (body : Sys → MOut) (y : Sys) : Sys :=
  let pc := y.dev.cores[c].pc
  if !y.dev.unitRuns (.core c) then y
  else if x.parity then y.mTrap c .parity pc none
  else if !y.dev.mFetchOk c pc.toNat then y.mTrap c .fetchFault pc (some pc)
  else if !legal then y.mTrap c .illegal pc (some (word.zeroExtend 64))
  else match body y with
    | .done z => if y.dev.poisoned pc.toNat then y.mTrap c .poison pc (some pc) else z.retireM c
    | .trap cause tval z => z.mTrap c cause pc tval
    | .stall => y

/-! ### Registers that a queued BCMP still owes (R114) -/

/-- The general registers an instruction of the E and G profiles reads, from its word (R59–R62, R68, R75, R81, R113, R123). -/
def readsOf (word : BitVec 32) : List Nat :=
  let op := bitsOf word.toNat 26 6
  let f1 := bitsOf word.toNat 21 5
  let f2 := bitsOf word.toNat 16 5
  if op = 0 then [f2, bitsOf word.toNat 11 5]
  else if op ≤ 8 ∨ (0x10 ≤ op ∧ op ≤ 0x13) ∨ op = 0x1F ∨ (0x21 ≤ op ∧ op ≤ 0x23) ∨ op = 0x30 ∨ op = 0x31 then [f2]
  else if 0x14 ≤ op ∧ op ≤ 0x1D then [f1, f2]
  else if op = 0x24 then (if word.toNat % 16 = 0 then [f1, f2, f2 + 1] else [f1, f2])
  else if op = 0x25 then [f1]
  else []

/-- The instruction reads the gd of a BCMP in the cluster's queue. -/
def Device.owesResult (d : Device) (u : EUnit) (word : BitVec 32) : Bool :=
  match u with
  | .eng (.gc g) => d.gcs[g].queue.any (fun x => x.op == 0x36 && x.a != 0 && (readsOf word).contains x.a)
  | _ => false

/-- One instruction with its word, its checks and its effect in each profile. -/
def issue (x : Issue) (word : BitVec 32) (legalE legalM : Bool) (bodyE : EUnit → Sys → EOut)
    (bodyM : Fin 4 → Sys → MOut) (y : Sys) : Sys :=
  match x.unit with
  | .core c => mIssue x c word legalM (bodyM c) y
  | u => eIssue x legalE (fun y => if y.dev.owesResult u word then .stall else bodyE u y) y

/-- The context of an E- or G-profile unit replaced. -/
def Sys.setE (y : Sys) (u : EUnit) (c : ECtx) : Sys := y.onDev (·.setEctx u c)

/-- The context of a management core replaced. -/
def Sys.setM (y : Sys) (c : Fin 4) (m : MCtx) : Sys := y.onDev (·.setCore c m)

/-- The next instruction follows on an E- or G-profile unit. -/
def ECtx.nextPc (c : ECtx) : ECtx := { c with pc := c.pc + 4 }

/-- The next instruction follows on a management core. -/
def MCtx.nextPc (m : MCtx) : MCtx := { m with pc := m.pc + 4#64 }

end Sys2Proof.Machine
end

