-- ==== Sys2Proof/Machine/Alu.lean ====
section
/-! DEFINITION. Integer operations: ADD to LUI (R49–R52). -/

namespace Sys2Proof.Machine

/-- MULH: the high W bits of the signed product (R49). -/
def mulHigh (w : Nat) (x y : BitVec w) : BitVec w := BitVec.ofInt w (x.toInt * y.toInt / 2 ^ w)

/-- DIVU: all ones on division by zero (R49). -/
def divU (w : Nat) (x y : BitVec w) : BitVec w := if y.toNat = 0 then BitVec.allOnes w else BitVec.ofNat w (x.toNat / y.toNat)

/-- REMU: the dividend on division by zero (R49). -/
def remU (w : Nat) (x y : BitVec w) : BitVec w := if y.toNat = 0 then x else BitVec.ofNat w (x.toNat % y.toNat)

/-- 1 or 0 as a W-bit value. -/
def truth (w : Nat) (b : Bool) : BitVec w := BitVec.ofNat w (natOf b)

def aluAdd (w : Nat) (x y : BitVec w) : BitVec w := x + y
def aluSub (w : Nat) (x y : BitVec w) : BitVec w := x - y
def aluAnd (w : Nat) (x y : BitVec w) : BitVec w := x &&& y
def aluOr (w : Nat) (x y : BitVec w) : BitVec w := x ||| y
def aluXor (w : Nat) (x y : BitVec w) : BitVec w := x ^^^ y
def aluShl (w : Nat) (x y : BitVec w) : BitVec w := x <<< shiftAmount w y
def aluShr (w : Nat) (x y : BitVec w) : BitVec w := x >>> shiftAmount w y
def aluSra (w : Nat) (x y : BitVec w) : BitVec w := x.sshiftRight (shiftAmount w y)
def aluMul (w : Nat) (x y : BitVec w) : BitVec w := x * y
def aluSlt (w : Nat) (x y : BitVec w) : BitVec w := truth w (x.slt y)
def aluSltu (w : Nat) (x y : BitVec w) : BitVec w := truth w (x.ult y)
def aluMin (w : Nat) (x y : BitVec w) : BitVec w := if x.slt y then x else y
def aluMax (w : Nat) (x y : BitVec w) : BitVec w := if x.slt y then y else x

/-- An operation of gs1 and a second value into gd on an E- or G-profile unit. -/
def aluE (f : (w : Nat) → BitVec w → BitVec w → BitVec w) (rd rs1 : BitVec 5) (b : ECtx → BitVec 32) (u : EUnit)
    (y : Sys) : EOut :=
  let c := y.dev.ectx u
  .done (y.setE u (c.setG rd.toNat (f 32 (c.g rs1.toNat) (b c))).nextPc)

/-- The same on a management core. -/
def aluM (f : (w : Nat) → BitVec w → BitVec w → BitVec w) (rd rs1 : BitVec 5) (b : MCtx → BitVec 64) (c : Fin 4)
    (y : Sys) : MOut :=
  let m := y.dev.cores[c]
  .done (y.setM c (m.setG rd.toNat (f 64 (m.g rs1.toNat) (b m))).nextPc)

/-- An instruction of the ALU group with function code func (R124). -/
def aluRR (f : (w : Nat) → BitVec w → BitVec w → BitVec w) (func : BitVec 11) (x : Issue) (rd rs1 rs2 : BitVec 5)
    (s : State) : State :=
  s.onSys (issue x (wordA 0x00#6 rd rs1 rs2 func) (low rd && low rs1 && low rs2) true
    (aluE f rd rs1 (fun c => c.g rs2.toNat)) (aluM f rd rs1 (fun m => m.g rs2.toNat)))

/-- An instruction of one register and an immediate, extended to each width. -/
def aluRI (f : (w : Nat) → BitVec w → BitVec w → BitVec w) (op : BitVec 6) (i32 : BitVec 16 → BitVec 32)
    (i64 : BitVec 16 → BitVec 64) (x : Issue) (rd rs1 : BitVec 5) (imm : BitVec 16) (s : State) : State :=
  s.onSys (issue x (wordI op rd rs1 imm) (low rd && low rs1) true
    (aluE f rd rs1 (fun _ => i32 imm)) (aluM f rd rs1 (fun _ => i64 imm)))

/-- Sign-extending and zero-extending immediate forms (R50). -/
def aluRIs (f : (w : Nat) → BitVec w → BitVec w → BitVec w) (op : BitVec 6) :=
  aluRI f op (BitVec.signExtend 32) (BitVec.signExtend 64)
def aluRIz (f : (w : Nat) → BitVec w → BitVec w → BitVec w) (op : BitVec 6) :=
  aluRI f op (BitVec.zeroExtend 32) (BitVec.zeroExtend 64)

/-- ADD (R49). -/
def execAdd (x : Issue) (rd rs1 rs2 : BitVec 5) (s : State) : Host.Outcome State Fault Refusal :=
  .next (aluRR aluAdd 0x000#11 x rd rs1 rs2 s)

/-- SUB (R49). -/
def execSub (x : Issue) (rd rs1 rs2 : BitVec 5) (s : State) : Host.Outcome State Fault Refusal :=
  .next (aluRR aluSub 0x001#11 x rd rs1 rs2 s)

/-- AND (R49). -/
def execAnd (x : Issue) (rd rs1 rs2 : BitVec 5) (s : State) : Host.Outcome State Fault Refusal :=
  .next (aluRR aluAnd 0x002#11 x rd rs1 rs2 s)

/-- OR (R49). -/
def execOr (x : Issue) (rd rs1 rs2 : BitVec 5) (s : State) : Host.Outcome State Fault Refusal :=
  .next (aluRR aluOr 0x003#11 x rd rs1 rs2 s)

/-- XOR (R49). -/
def execXor (x : Issue) (rd rs1 rs2 : BitVec 5) (s : State) : Host.Outcome State Fault Refusal :=
  .next (aluRR aluXor 0x004#11 x rd rs1 rs2 s)

/-- SHL (R49). -/
def execShl (x : Issue) (rd rs1 rs2 : BitVec 5) (s : State) : Host.Outcome State Fault Refusal :=
  .next (aluRR aluShl 0x005#11 x rd rs1 rs2 s)

/-- SHR (R49). -/
def execShr (x : Issue) (rd rs1 rs2 : BitVec 5) (s : State) : Host.Outcome State Fault Refusal :=
  .next (aluRR aluShr 0x006#11 x rd rs1 rs2 s)

/-- SRA (R49). -/
def execSra (x : Issue) (rd rs1 rs2 : BitVec 5) (s : State) : Host.Outcome State Fault Refusal :=
  .next (aluRR aluSra 0x007#11 x rd rs1 rs2 s)

/-- MUL (R49). -/
def execMul (x : Issue) (rd rs1 rs2 : BitVec 5) (s : State) : Host.Outcome State Fault Refusal :=
  .next (aluRR aluMul 0x008#11 x rd rs1 rs2 s)

/-- MULH (R49). -/
def execMulh (x : Issue) (rd rs1 rs2 : BitVec 5) (s : State) : Host.Outcome State Fault Refusal :=
  .next (aluRR mulHigh 0x009#11 x rd rs1 rs2 s)

/-- DIVU (R49). -/
def execDivu (x : Issue) (rd rs1 rs2 : BitVec 5) (s : State) : Host.Outcome State Fault Refusal :=
  .next (aluRR divU 0x00A#11 x rd rs1 rs2 s)

/-- REMU (R49). -/
def execRemu (x : Issue) (rd rs1 rs2 : BitVec 5) (s : State) : Host.Outcome State Fault Refusal :=
  .next (aluRR remU 0x00B#11 x rd rs1 rs2 s)

/-- SLT (R49). -/
def execSlt (x : Issue) (rd rs1 rs2 : BitVec 5) (s : State) : Host.Outcome State Fault Refusal :=
  .next (aluRR aluSlt 0x00C#11 x rd rs1 rs2 s)

/-- SLTU (R49). -/
def execSltu (x : Issue) (rd rs1 rs2 : BitVec 5) (s : State) : Host.Outcome State Fault Refusal :=
  .next (aluRR aluSltu 0x00D#11 x rd rs1 rs2 s)

/-- MIN (R49). -/
def execMin (x : Issue) (rd rs1 rs2 : BitVec 5) (s : State) : Host.Outcome State Fault Refusal :=
  .next (aluRR aluMin 0x00E#11 x rd rs1 rs2 s)

/-- MAX (R49). -/
def execMax (x : Issue) (rd rs1 rs2 : BitVec 5) (s : State) : Host.Outcome State Fault Refusal :=
  .next (aluRR aluMax 0x00F#11 x rd rs1 rs2 s)

/-- ADDI (R49, R50). -/
def execAddi (x : Issue) (rd rs1 : BitVec 5) (imm : BitVec 16) (s : State) : Host.Outcome State Fault Refusal :=
  .next (aluRIs aluAdd 0x01#6 x rd rs1 imm s)

/-- ANDI (R49, R50). -/
def execAndi (x : Issue) (rd rs1 : BitVec 5) (imm : BitVec 16) (s : State) : Host.Outcome State Fault Refusal :=
  .next (aluRIz aluAnd 0x02#6 x rd rs1 imm s)

/-- ORI (R49, R50). -/
def execOri (x : Issue) (rd rs1 : BitVec 5) (imm : BitVec 16) (s : State) : Host.Outcome State Fault Refusal :=
  .next (aluRIz aluOr 0x03#6 x rd rs1 imm s)

/-- XORI (R49, R50). -/
def execXori (x : Issue) (rd rs1 : BitVec 5) (imm : BitVec 16) (s : State) : Host.Outcome State Fault Refusal :=
  .next (aluRIz aluXor 0x04#6 x rd rs1 imm s)

/-- SLTI (R49, R50). -/
def execSlti (x : Issue) (rd rs1 : BitVec 5) (imm : BitVec 16) (s : State) : Host.Outcome State Fault Refusal :=
  .next (aluRIs aluSlt 0x05#6 x rd rs1 imm s)

/-- SHLI (R49, R51). -/
def execShli (x : Issue) (rd rs1 : BitVec 5) (imm : BitVec 16) (s : State) : Host.Outcome State Fault Refusal :=
  .next (aluRIz aluShl 0x06#6 x rd rs1 imm s)

/-- SHRI (R49, R51). -/
def execShri (x : Issue) (rd rs1 : BitVec 5) (imm : BitVec 16) (s : State) : Host.Outcome State Fault Refusal :=
  .next (aluRIz aluShr 0x07#6 x rd rs1 imm s)

/-- SRAI (R49, R51). -/
def execSrai (x : Issue) (rd rs1 : BitVec 5) (imm : BitVec 16) (s : State) : Host.Outcome State Fault Refusal :=
  .next (aluRIz aluSra 0x08#6 x rd rs1 imm s)

/-- LUI (R52): imm21 into bits [31:11]; on a management core bit 31 is copied upward. -/
def execLui (x : Issue) (rd : BitVec 5) (imm : BitVec 21) (s : State) : Host.Outcome State Fault Refusal :=
  let v : BitVec 32 := imm ++ 0#11
  .next (s.onSys (issue x (wordU 0x09#6 rd imm) (low rd) true
    (fun u y => let c := y.dev.ectx u; .done (y.setE u (c.setG rd.toNat v).nextPc))
    (fun c y => let m := y.dev.cores[c]; .done (y.setM c (m.setG rd.toNat (v.signExtend 64)).nextPc))))

end Sys2Proof.Machine
end

