-- ==== Sys2Proof/Machine/Boot.lean ====
section
/-! DEFINITION. The boot flow (R435–R460): the fuse shadow, choosing and loading a slot, running before it is verified, the
output gate, recovery wait, the trial and CONFIRM, and the anti-rollback counters. -/

namespace Sys2Proof.Machine

/-! ### What the SEC registers show (R471) -/

/-- The directory's fields shown. -/
def Device.showDir (d : Device) (b : BootDir) : Device :=
  let a := R.SEC_BOOT_STATUS
  let d := (d.setFld a F.SEC_BOOT_STATUS.REJ_A b.rejA).setFld a F.SEC_BOOT_STATUS.REJ_B b.rejB
  let d := (d.setFld R.SEC_TRIAL F.SEC_TRIAL.T_TRIAL b.tTrial).setFld R.SEC_TRIAL F.SEC_TRIAL.STATE b.trial
  d.setFld R.SEC_ARB F.SEC_ARB.PENDING (natOf b.arbPending)

/-- The fuse shadow's states shown. -/
def Device.showFuses (d : Device) : Device :=
  let f := d.shadow
  let part := ((List.finRange 8).map (fun k => natOf (f.isPartial k) * 2 ^ k.val)).sum
  let d := d.setFld R.SEC_KEYS F.SEC_KEYS.SET f.keySet.toNat
  let d := d.setFld R.SEC_KEYS F.SEC_KEYS.REVOKED f.revoke.toNat
  let d := d.setFld R.SEC_KEYS F.SEC_KEYS.PARTIAL part
  (d.setFld R.SEC_ARB F.SEC_ARB.ARB0 (counterValue f.arb0)).setFld R.SEC_ARB F.SEC_ARB.ARB1 (counterValue f.arb1)

/-- Eight register words that show 32 bytes, byte 4i in bits [7:0] of word i. -/
def Device.showBytes (d : Device) (r : Nat → Nat) (bs : List (BitVec 8)) : Device :=
  (List.range 8).foldl (fun d i => d.setReg (r i) (BitVec.ofNat 32 (fieldOf bs (4 * i) 4))) d

/-- The directory written and shown (R444). -/
def Sys.putDir (y : Sys) (f : BootDir → BootDir) : Sys :=
  let nv := y.nv.putDir f
  { dev := y.dev.showDir nv.dir, nv := nv }

/-- LOCK_ALL of the protection unit is set (R104). -/
def Device.lockAll (d : Device) : Bool := d.pru.ctl.getLsbD 1

/-- HOLD_OK. -/
def Device.holdOk (d : Device) : Bool := d.flag R.TR_STAT F.TR_STAT.HOLD_OK

/-! ### Measurements (R469) -/

/-- The 16 bytes of index 5. -/
def Device.bootState (d : Device) : List (BitVec 8) :=
  let s := R.SEC_BOOT_STATUS
  let g (f : Fld) : Nat := d.fld s f
  [g F.SEC_BOOT_STATUS.MODE, g F.SEC_BOOT_STATUS.SLOT,
    g F.SEC_BOOT_STATUS.FALLBACK + 2 * g F.SEC_BOOT_STATUS.DEBUG_OPEN + 4 * g F.SEC_BOOT_STATUS.PATCH_BAD,
    g F.SEC_BOOT_STATUS.STRAP, counterValue d.shadow.arb0, counterValue d.shadow.arb1, 0, 0].map (BitVec.ofNat 8) ++
  natBytes 4 d.boot.image.lockId ++ [BitVec.ofNat 8 d.boot.image.secSvn, BitVec.ofNat 8 d.boot.image.mgmtSvn, 0#8, 0#8]

/-- The bytes index 6 covers: SET, REVOKE and PARTIAL states, and the hashes of usable slots (assumption log 31). -/
def FuseFields.keyBytes (f : FuseFields) : List (BitVec 8) :=
  let part := ((List.finRange 8).map (fun k => natOf (f.isPartial k) * 2 ^ k.val)).sum
  [f.keySet, f.revoke, BitVec.ofNat 8 part] ++
    (List.finRange 8).flatMap (fun k => if f.usable k then beBytes 32 (f.keyHash[k]).toNat else [])

/-- The measurements taken (R469). -/
def Device.measure (d : Device) (otp : List (BitVec 8)) : Device :=
  let patch := if d.flag R.SEC_BOOT_STATUS F.SEC_BOOT_STATUS.PATCH_BAD then [] else otp
  { d with boot := { d.boot with meas := {
      rom := Config.romDigest patch
      secfw := d.boot.image.secDigest
      mgmt := d.boot.image.mgmtDigest
      pack := d.boot.image.packDigest
      state := d.bootState
      keys := digestNum (sha256 d.shadow.keyBytes) } } }

/-! ### Counters (R457) -/

/-- A counter raised to a security version, lowest bits first; no bit is cleared. -/
def raiseCounter (c : BitVec 64) (svn : Nat) : BitVec 64 :=
  if counterValue c < svn then c ||| BitVec.ofNat 64 (2 ^ min svn 64 - 1) else c

/-- The fuses and their shadow with both counters raised. -/
def FuseFields.raise (f : FuseFields) (i : ImageInfo) : FuseFields :=
  { f with arb0 := raiseCounter f.arb0 i.secSvn, arb1 := raiseCounter f.arb1 i.mgmtSvn }

/-- The advance, where one is pending for the running slot and HOLD_OK lets fuses be blown. -/
def Sys.arbAdvance (y : Sys) : Sys :=
  let d := y.dev
  if y.nv.dir.arbPending && d.boot.phase == .running && y.nv.dir.active == d.boot.slot && d.holdOk then
    let y : Sys := {
      dev := { d with shadow := d.shadow.raise d.boot.image }
      nv := { y.nv with fuses := { y.nv.fuses with fields := y.nv.fuses.fields.raise d.boot.image } } }
    let y := y.putDir (fun b => { b with arbPending := false })
    y.onDev (fun d => d.showFuses.on R.SEC_EVENT F.SEC_EVENT.ARB_ADVANCED)
  else y

/-- ARB_RESUME: HOLD_OK has returned. -/
def execArbResume (s : State) : Host.Outcome State Fault Refusal :=
  .next (s.onSys (fun y => if y.dev.answers 39 && !y.dev.sec.stopped then y.arbAdvance else y))

/-! ### The output gate (R448, R451, R497) -/

/-- The gate opens: the slot's SKIP and REJ are cleared, LOCK_ID is recorded, engines are released, the trial watchdog starts
in TRIAL mode, golden checks start anew, and a pending counter advance runs. -/
def Sys.openGate (y : Sys) : Sys :=
  let b := y.dev.boot
  let dir := y.nv.dir
  let trial := dir.trial == 2 && dir.trialSlot == b.slot
  let fallback := !b.named && b.slot != b.first
  let a := R.SEC_BOOT_STATUS
  let y := y.onDev (fun d =>
    let d := (d.on a F.SEC_BOOT_STATUS.GATE).setFld a F.SEC_BOOT_STATUS.SLOT b.slot.val
    let d := d.setFld a F.SEC_BOOT_STATUS.MODE (natOf trial)
    let d := if fallback then (d.on a F.SEC_BOOT_STATUS.FALLBACK).on R.SEC_EVENT F.SEC_EVENT.FALLBACK else d
    let d := d.setReg R.SEC_LOCK_ID (BitVec.ofNat 32 b.image.lockId)
    { d with
      tray := { d.tray with gate := true }
      boot := { d.boot with phase := .running, lockSet := true, trialOn := trial } })
  let y := y.putDir (fun b' => ({ b' with skip := 0 } : BootDir).setRej b.slot 0)
  let y := y.onDev (fun d =>
    let d := engines.foldl (fun d e => (d.setEng e { d.eng e with released := true }).tryPend e) d
    let d := bays.foldl Device.goldBegin d
    d.refreshCool.measure y.nv.otp)
  y.arbAdvance

/-- The gate opens once the image is verified and LOCK_ALL is set, unless the security core has stopped (R436, R448). -/
def Sys.gateCheck (y : Sys) : Sys :=
  if y.dev.boot.phase = .verified ∧ y.dev.lockAll = true ∧ y.dev.sec.stopped = false then y.openGate else y

/-! ### Choosing and loading a slot (R447, R448, R459) -/

/-- Recovery wait (R459). -/
def Sys.recoveryWait (y : Sys) : Sys :=
  y.onDev (fun d =>
    let d := d.setFld R.SEC_BOOT_STATUS F.SEC_BOOT_STATUS.MODE 2
    let d := { d with boot := { d.boot with phase := .recovery, left := [], image := ImageInfo.none } }
    d.refreshCool.measure y.nv.otp)

/-- A pack's entries installed into every engine without a valid program (R448). -/
def Device.installAll (d : Device) (p : List (BitVec 8)) : Device :=
  engines.foldl (fun d e =>
    if d.progValid e then d
    else match (packEntries p).find? (fun x => x.fits e) with
      | none => d
      | some x => (d.install e p x).2) d

/-- SECFW takes over: its bytes stand in private SRAM, and the security core continues at its entry. -/
def Device.startSecfw (d : Device) (p : List (BitVec 8)) : Device :=
  { d with sec := { SecCore.reset with
      ctx := { ECtx.reset with
        data := memPuts [] 0x80000 (p.take (imgTotal p))
        pc := 0x80000 + imgEntry p } } }

/-- The mask ROM runs on from its first instruction. -/
def Device.startRom (d : Device) : Device := { d with sec := SecCore.reset }

/-- Slot s loaded up to the release of the cores, or the code of the first failing check (R448, R451). `flash` says which
components were read with an error. -/
def Sys.loadSlot (y : Sys) (s : Fin 2) (flash : Component → Bool) : Nat × Sys :=
  let slot := y.nv.slots[s]
  let f := y.dev.shadow
  let head := slotHeadCheck f slot
  let info := imageInfo slot
  if head ≠ 0 then (head, y)
  else if y.dev.boot.lockSet ∧ info.lockId ≠ (y.dev.reg R.SEC_LOCK_ID).toNat then (0x0B, y)
  else if flash .secfw then (9, y)
  else if !signatureOk slot.secfw (imgTrailer slot.secfw) then (8, y)
  else
    let y := y.onDev (fun d => (d.startSecfw slot.secfw).store 0x10000000 (slot.pack.take (imgTotal slot.pack)) false)
    if packBodyCheck slot.pack ≠ 0 then (packBodyCheck slot.pack, y)
    else if !signatureOk slot.pack (imgTrailer slot.pack) then (8, y)
    else if flash .pack then (9, y)
    else
      let y := y.onDev (fun d => d.installAll slot.pack)
      if flash .mgmt then (9, y)
      else
        let y := y.onDev (fun d =>
          let d := d.store 0x10000000 (slot.mgmt.take (imgTotal slot.mgmt)) false
          let d := d.releaseCores info.entry
          { d with boot := { d.boot with phase := .verifying, slot := s, image := { info with mgmtDigest := 0 } } })
        (0, y)

/-- A check code refuses a slot: REJ is written, and where LOCK_ALL is set SKIP too, before a full device reset (R447). A
LOCK_ID that differs resets the device at once, and the slot is not skipped (R451). -/
def Sys.refuseSlot (y : Sys) (s : Fin 2) (code : Nat) : Bool × Sys :=
  let y := y.putDir (·.setRej s code)
  if code = 0x0B then (true, y.fullReset 7)
  else if y.dev.lockAll then
    let failed := y.dev.flag R.SEC_EVENT F.SEC_EVENT.TRIAL_FAILED
    let y := (y.putDir (·.addSkip s)).fullReset 7
    (true, if failed then y.onDev (·.on R.SEC_EVENT F.SEC_EVENT.TRIAL_FAILED) else y)
  else (false, y)

/-- The slots of the list tried in order (R447). -/
def Sys.tryBoot (flash : Fin 2 → Component → Bool) : List (Fin 2) → Sys → Sys
  | [], y => y.recoveryWait
  | s :: rest, y =>
    match y.loadSlot s (flash s) with
    | (0, y) => y.onDev (fun d => { d with boot := { d.boot with left := rest } })
    | (code, y) =>
      match y.refuseSlot s code with
      | (true, y) => y
      | (false, y) => Sys.tryBoot flash rest (y.onDev Device.startRom)

/-- The running load fails after the cores' release: they are held in reset again, and the next slot is tried (R448). -/
def Sys.bootFail (y : Sys) (flash : Fin 2 → Component → Bool) (code : Nat) : Sys :=
  let b := y.dev.boot
  let y := y.onDev (fun d =>
    let d := d.holdIslands coreIsland
    { d with cores := Vector.replicate 4 MCtx.reset, boot := { d.boot with phase := .held } })
  match y.refuseSlot b.slot code with
  | (true, y) => y
  | (false, y) => y.onDev Device.startRom |>.tryBoot flash b.left

/-- The read errors of the boot flash: bit 3 · slot + component. -/
def flashErrors (m : BitVec 6) (s : Fin 2) (c : Component) : Bool := m.getLsbD (3 * s.val + c.code)

/-- The list of R447, the trial noted as failed, and the directory changes of the choice. -/
def Sys.chooseSlots (y : Sys) : List (Fin 2) × Sys :=
  let d := y.nv.dir
  match y.dev.fld R.SEC_BOOT_STATUS F.SEC_BOOT_STATUS.STRAP with
  | 1 => ([0], y)
  | 2 => ([1], y)
  | 3 => ([], y)
  | _ =>
    if d.trial = 1 then ([d.trialSlot, d.active], y.putDir (fun b => { b with trial := 2 }))
    else if d.trial = 2 then
      ([d.active, otherSlot d.active], (y.putDir (fun b => { b with trial := 0 })).onDev
        (·.on R.SEC_EVENT F.SEC_EVENT.TRIAL_FAILED))
    else ([d.active, otherSlot d.active], y)

/-- boot() of R447. -/
def Sys.boot (y : Sys) (flash : Fin 2 → Component → Bool) : Sys :=
  let strap := y.dev.fld R.SEC_BOOT_STATUS F.SEC_BOOT_STATUS.STRAP
  let (list, y) := y.chooseSlots
  let y := y.onDev (fun d => { d with boot := { d.boot with first := list.headD 0, named := strap == 1 || strap == 2 } })
  y.tryBoot flash (list.filter (fun s => !bit y.nv.dir.skip s.val))

/-! ### Golden slots (R493) -/

/-- Every golden slot's signature is checked again: one whose key is revoked is emptied. -/
def Sys.recheckGold (y : Sys) : Sys :=
  (List.finRange 4).foldl (fun y g =>
    let p := y.nv.golden[g]
    if !p.isEmpty && signerRevoked y.dev.shadow p (goldTrailer p) then {
        dev := (y.dev.showGold g.val []).on R.GOLD_EVENT F.GOLD_EVENT.SLOT_REMOVED
        nv := { y.nv with golden := vset y.nv.golden g [] } }
    else y.onDev (·.showGold g.val p)) y

/-! ### Release of the security core (R435, R438, R439, R441, R465, R467) -/

/-- The wrapper of the certificate region (R467). -/
def certWrapperOk (p : List (BitVec 8)) : Bool :=
  let n := fieldOf p 4 4
  fieldOf p 0 4 == 0x5452434D && decide (16 + n ≤ p.length) && fieldOf p 8 4 == (crc32c ((p.drop 16).take n)).toNat &&
    zeroField p 12 4

/-- FUSE_FAULT (R438). -/
def Device.fuseFault (d : Device) : Device :=
  let d := d.setFld R.SEC_BOOT_STATUS F.SEC_BOOT_STATUS.MODE 3
  { d with sec := { d.sec with stopped := true }, boot := { d.boot with phase := if d.gateOpen then .running else .dead } }.refreshCool

/-- The Undercoat leaves reset, and the hold-up scan continues SEQ from the highest valid record (R356, R595). -/
def Sys.undercoatUp (y : Sys) : Sys :=
  if y.dev.islandState 0 ≠ 1 then y
  else
    let seqs := (y.nv.holdup.filter (fun p => !p.2.torn)).map (fun p => p.2.seq)
    y.onDev (fun d => (d.runIslands (fun i => decide (i < 39))).setHuSeq (seqs.max?.elim 0 (· + 1)))

/-- The security core can be released: held in reset, its supplies good, the crystal running, MRST_N released, and in a
commons restart every supply good (R435, R359, R597, R598, R611). -/
def Device.releasable (d : Device) : Bool :=
  d.islandState 39 == 1 && d.boot.phase == .held && d.pins.vstby && !d.pins.mrst && d.pins.xtal &&
    (d.restart != 2 || d.pins.coreGood)

/-- The reset value of ETH_MAC: six bytes of the digest of the identity key, marked as locally administered (R507). -/
def Device.deriveMac (d : Device) (pub : Nat × Nat) : Device :=
  let m := bytesNat ((sha256 (beBytes 32 pub.1 ++ beBytes 32 pub.2)).take 6)
  let m := m / 4 * 4 + 2
  (d.setReg R.ETH_MAC_LO (BitVec.ofNat 32 m)).setFld R.ETH_MAC_HI F.ETH_MAC_HI.MAC (m / 2 ^ 32)

/-- SEC_RELEASE: whether a pair of shadow reads agreed, whether every OTP record passed, whether the leaf carries the
identity key, and the read errors of the boot flash. -/
def sysSecRelease (fuseOk patchOk leafOk : Bool) (flash : BitVec 6) (y : Sys) : Sys :=
  if !y.dev.releasable then y
  else
    let y := y.undercoatUp
    let y := y.onDev (fun d => (d.runIslands (fun i => !coreIsland i)).sendWaitingEpochs)
    let a := R.SEC_BOOT_STATUS
    if !fuseOk then y.onDev Device.fuseFault
    else
      let pub := y.nv.fuses.idPub
      let y := y.onDev (fun d =>
        let d := { d.startRom with shadow := y.nv.fuses.fields }
        let d := d.setFld R.IO_STRAP F.IO_STRAP.BOOT_MODE d.pins.bootMode
        let d := d.setFld a F.SEC_BOOT_STATUS.STRAP d.pins.bootMode
        let d := d.setFld a F.SEC_BOOT_STATUS.PATCH_BAD (natOf (!patchOk))
        let d := d.setFld a F.SEC_BOOT_STATUS.DEBUG_OPEN (natOf (!d.shadow.debugClosed))
        let d := d.setFld a F.SEC_BOOT_STATUS.CERT_MISMATCH (natOf (!(leafOk && certWrapperOk y.nv.cert)))
        let d := (d.showBytes R.SEC_ID_PUB_X (beBytes 32 pub.1)).showBytes R.SEC_ID_PUB_Y (beBytes 32 pub.2)
        let d := d.deriveMac pub
        d.showFuses.showDir y.nv.dir)
      y.recheckGold.boot (flashErrors flash)

def execSecRelease (fuseOk patchOk leafOk : Bool) (flash : BitVec 6) (s : State) : Host.Outcome State Fault Refusal :=
  .next (s.onSys (sysSecRelease fuseOk patchOk leafOk flash))

/-- FUSE_SHADOW_CHECK: whether the shadow still has its CRC and, where not, whether a pair of reads agreed. -/
def sysFuseShadowCheck (same agree : Bool) (y : Sys) : Sys :=
  let d := y.dev
  if !d.answers 41 || same then y
  else
    let d := d.on R.SEC_EVENT F.SEC_EVENT.SHADOW
    if agree then { y with dev := { d with shadow := y.nv.fuses.fields }.showFuses } else { y with dev := d.fuseFault }

def execFuseShadowCheck (same agree : Bool) (s : State) : Host.Outcome State Fault Refusal :=
  .next (s.onSys (sysFuseShadowCheck same agree))

/-! ### Verification of the running copy (R448, R449) -/

/-- MGMT_VERIFY_DONE: the copy in system SRAM, as the security core hashed it; `flash` holds the read errors of a slot tried
after it. -/
def sysMgmtVerifyDone (flash : BitVec 6) (y : Sys) : Sys :=
  let d := y.dev
  if d.boot.phase ≠ .verifying ∨ d.sec.stopped = true ∨ d.answers 39 = false then y
  else
    let n := d.boot.image.mgmtLen
    let copy := memBytes d.mem 0x10000000 (n + trailerLen)
    if d.poisonedRange 0x10000000 (n + trailerLen) then y.bootFail (flashErrors flash) 9
    else if !signatureOk copy n then y.bootFail (flashErrors flash) 8
    else
      let digest := sha256 (copy.take n)
      let d := d.showBytes R.SEC_IMG_DIGEST digest
      ({ y with dev := { d with boot := { d.boot with
          phase := .verified
          image := { d.boot.image with mgmtDigest := digestNum digest } } } } : Sys).gateCheck

def execMgmtVerifyDone (flash : BitVec 6) (s : State) : Host.Outcome State Fault Refusal :=
  .next (s.onSys (sysMgmtVerifyDone flash))

/-- LOCK_ALL_DEADLINE. -/
def sysLockAllDeadline (flash : BitVec 6) (y : Sys) : Sys :=
  let d := y.dev
  if (d.boot.phase = .verifying ∨ d.boot.phase = .verified) ∧ d.lockAll = false then y.bootFail (flashErrors flash) 0x0A else y

def execLockAllDeadline (flash : BitVec 6) (s : State) : Host.Outcome State Fault Refusal :=
  .next (s.onSys (sysLockAllDeadline flash))

/-! ### Trial and CONFIRM (R453, R454) -/

/-- A write of SEC_CONFIRM; a write without the key does nothing. -/
def sysConfirm (v : BitVec 32) (y : Sys) : Sys :=
  if F.SEC_CONFIRM.KEY.get v ≠ 0xC0F1 ∨ v.getLsbD 0 = false then y
  else if y.dev.gateOpen && y.dev.fld R.SEC_BOOT_STATUS F.SEC_BOOT_STATUS.MODE == 1 && !y.dev.sec.stopped then
    let y := y.putDir (fun b => { b with active := b.trialSlot, trial := 0, arbPending := true })
    let y := y.onDev (fun d =>
      let d := (d.on R.SEC_EVENT F.SEC_EVENT.CONFIRMED).setFld R.SEC_BOOT_STATUS F.SEC_BOOT_STATUS.MODE 0
      { d with boot := { d.boot with trialOn := false } })
    y.arbAdvance
  else y.onDev (·.on R.SEC_EVENT F.SEC_EVENT.CONFIRM_REJ)

/-- A write to the SEC block reaches it: a management core's only once the gate is open (R450). -/
def Device.secWritable (d : Device) (who : Initiator) : Bool :=
  d.answers 39 && match who with
    | .core _ => d.gateOpen
    | _ => true

def execSecConfirm (who : Initiator) (key : BitVec 16) (s : State) : Host.Outcome State Fault Refusal :=
  .next (s.onSys (fun y => if y.dev.secWritable who then sysConfirm (BitVec.ofNat 32 (key.toNat * 65536 + 1)) y else y))

/-- TRIAL_EXPIRY: the trial fails, and a commons restart begins (R453). -/
def sysTrialExpiry (y : Sys) : Sys :=
  if !y.dev.boot.trialOn then y
  else ((y.putDir (fun b => { b with trial := 0 })).commonsRestart 3).onDev (·.on R.SEC_EVENT F.SEC_EVENT.TRIAL_FAILED)

def execTrialExpiry (s : State) : Host.Outcome State Fault Refusal := .next (s.onSys sysTrialExpiry)

end Sys2Proof.Machine
end

