-- ==== Sys2Proof/Machine/Branch.lean ====
section
/-! DEFINITION. Branches and jumps (R59–R63). -/

namespace Sys2Proof.Machine

/-- A jump or taken branch of an E- or G-profile unit may go to t: a multiple of 4 (R62) inside the program store
(R63), or, for the security core, inside a range it may execute (R47). -/
def targetOk (u : EUnit) (t : Int) : Bool :=
  decide (t % 4 = 0) && match u with
    | .eng _ => decide (0 ≤ t ∧ t < 0x4000)
    | _ => decide (0 ≤ t ∧ t < 0x40000) || decide (0x80000 ≤ t ∧ t < 0x100000)

/-- An E- or G-profile unit goes to t, its context being c. -/
def gotoE (u : EUnit) (c : ECtx) (t : Int) (y : Sys) : EOut :=
  if targetOk u t then .done (y.setE u { c with pc := t.toNat }) else .fault .illegal y

/-- A management core goes to t, its context being m; a target that is not a multiple of 4 is the jump's own
FETCH_FAULT (R62). -/
def gotoM (c : Fin 4) (m : MCtx) (t : BitVec 64) (y : Sys) : MOut :=
  if t.toNat % 4 = 0 then .done (y.setM c { m with pc := t }) else .trap .fetchFault (some t) y

/-- A conditional branch (R59). -/
def branch (op : BitVec 6) (t32 : BitVec 32 → BitVec 32 → Bool) (t64 : BitVec 64 → BitVec 64 → Bool) (x : Issue)
    (rs1 rs2 : BitVec 5) (off : BitVec 16) (s : State) : State :=
  s.onSys (issue x (wordB op rs1 rs2 off) (low rs1 && low rs2) true
    (fun u y => let c := y.dev.ectx u
      if t32 (c.g rs1.toNat) (c.g rs2.toNat) then gotoE u c ((c.pc : Int) + 4 * off.toInt) y
      else .done (y.setE u c.nextPc))
    (fun c y => let m := y.dev.cores[c]
      if t64 (m.g rs1.toNat) (m.g rs2.toNat) then gotoM c m (m.pc + BitVec.ofInt 64 (4 * off.toInt)) y
      else .done (y.setM c m.nextPc)))

/-- BEQ, BNE, BLT, BGE, BLTU, BGEU (R59). -/
def execBeq (x : Issue) (rs1 rs2 : BitVec 5) (off : BitVec 16) (s : State) : Host.Outcome State Fault Refusal :=
  .next (branch 0x18#6 (· == ·) (· == ·) x rs1 rs2 off s)
def execBne (x : Issue) (rs1 rs2 : BitVec 5) (off : BitVec 16) (s : State) : Host.Outcome State Fault Refusal :=
  .next (branch 0x19#6 (· != ·) (· != ·) x rs1 rs2 off s)
def execBlt (x : Issue) (rs1 rs2 : BitVec 5) (off : BitVec 16) (s : State) : Host.Outcome State Fault Refusal :=
  .next (branch 0x1A#6 BitVec.slt BitVec.slt x rs1 rs2 off s)
def execBge (x : Issue) (rs1 rs2 : BitVec 5) (off : BitVec 16) (s : State) : Host.Outcome State Fault Refusal :=
  .next (branch 0x1B#6 (fun a b => !a.slt b) (fun a b => !a.slt b) x rs1 rs2 off s)
def execBltu (x : Issue) (rs1 rs2 : BitVec 5) (off : BitVec 16) (s : State) : Host.Outcome State Fault Refusal :=
  .next (branch 0x1C#6 BitVec.ult BitVec.ult x rs1 rs2 off s)
def execBgeu (x : Issue) (rs1 rs2 : BitVec 5) (off : BitVec 16) (s : State) : Host.Outcome State Fault Refusal :=
  .next (branch 0x1D#6 (fun a b => !a.ult b) (fun a b => !a.ult b) x rs1 rs2 off s)

/-- JAL (R60). -/
def execJal (x : Issue) (rd : BitVec 5) (off : BitVec 21) (s : State) : Host.Outcome State Fault Refusal :=
  .next (s.onSys (issue x (wordU 0x1E#6 rd off) (low rd) true
    (fun u y => let c := y.dev.ectx u
      gotoE u (c.setG rd.toNat (BitVec.ofNat 32 (c.pc + 4))) ((c.pc : Int) + 4 * off.toInt) y)
    (fun c y => let m := y.dev.cores[c]
      gotoM c (m.setG rd.toNat (m.pc + 4#64)) (m.pc + BitVec.ofInt 64 (4 * off.toInt)) y)))

/-- JALR: the target comes from the old gs1 (R61). -/
def execJalr (x : Issue) (rd rs1 : BitVec 5) (imm : BitVec 16) (s : State) : Host.Outcome State Fault Refusal :=
  .next (s.onSys (issue x (wordI 0x1F#6 rd rs1 imm) (low rd && low rs1) true
    (fun u y => let c := y.dev.ectx u
      gotoE u (c.setG rd.toNat (BitVec.ofNat 32 (c.pc + 4))) (wholeSum (c.g rs1.toNat) imm) y)
    (fun c y => let m := y.dev.cores[c]
      gotoM c (m.setG rd.toNat (m.pc + 4#64)) (wrapSum (m.g rs1.toNat) imm) y)))

end Sys2Proof.Machine
end

