-- ==== Sys2Proof/Machine/Spdm.lean ====
section
/-! DEFINITION. The SPDM 1.2 responder (R466, R468, R469). The layouts of requests and responses are those of SPDM 1.2, which
the manual names (assumption log 32). -/

namespace Sys2Proof.Machine

/-- n free bytes (assumption log 2). -/
def Device.freshBytes (d : Device) : Nat → List (BitVec 8) × Device
  | 0 => ([], d)
  | n + 1 =>
    let (l, d) := d.freshBytes n
    let (w, d) := d.fresh
    (BitVec.ofNat 8 w.toNat :: l, d)

/-- A signature of the SHA-256 of a message with the identity key, with a free nonce. -/
def Sys.sign (y : Sys) (m : List (BitVec 8)) : List (BitVec 8) × Sys :=
  let (k, d) := y.dev.freshBytes 32
  (y.nv.fuses.signWith (bytesNat k % (p256n - 1) + 1) (bytesNatBe (sha256 m)), { y with dev := d })

/-- A signature over a transcript, under the prefix and context of SPDM 1.2. -/
def Sys.signSpdm (y : Sys) (context : String) (transcript : List (BitVec 8)) : List (BitVec 8) × Sys :=
  let p := (List.replicate 4 (ascii "dmtf-spdm-v1.2.*")).flatten
  let c := ascii context
  y.sign (p ++ zeros (36 - c.length) ++ c ++ sha256 transcript)

/-- The certificate chain as it is stored (R467). -/
def Nonvolatile.chain (nv : Nonvolatile) : List (BitVec 8) := (nv.cert.drop 16).take (fieldOf nv.cert 4 4)

/-! ### Measurement blocks -/

/-- One measurement block: a digest or, for index 5, the raw state. -/
def Measures.block (m : Measures) (i : Nat) : List (BitVec 8) :=
  let make (type : Nat) (v : List (BitVec 8)) : List (BitVec 8) :=
    natBytes 1 i ++ natBytes 1 1 ++ natBytes 2 (v.length + 3) ++ natBytes 1 type ++ natBytes 2 v.length ++ v
  let digest (x : BitVec 256) : List (BitVec 8) := beBytes 32 x.toNat
  match i with
  | 1 => make 0x00 (digest m.rom)
  | 2 => make 0x01 (digest m.secfw)
  | 3 => make 0x01 (digest m.mgmt)
  | 4 => make 0x01 (digest m.pack)
  | 5 => make 0x83 m.state
  | 6 => make 0x02 (digest m.keys)
  | _ => []

/-- The measurement summary: none, TCB (the ROM and the firmware), or all. -/
def Measures.summary (m : Measures) (type : Nat) : List (BitVec 8) :=
  match type with
  | 0 => []
  | 1 => sha256 ([1, 2, 3, 4].flatMap m.block)
  | _ => sha256 ([1, 2, 3, 4, 5, 6].flatMap m.block)

/-! ### Answers -/

/-- A message header. -/
def spdmHead (version code p1 p2 : Nat) : List (BitVec 8) := [version, code, p1, p2].map (BitVec.ofNat 8)

/-- An ERROR response. -/
def spdmError (code : Nat) : List (BitVec 8) := spdmHead 0x12 0x7F code 0

/-- The responder's state replaced. -/
def Device.setSpdm (d : Device) (s : SpdmCtx) : Device := { d with boot := { d.boot with spdm := s } }

/-- GET_VERSION: the connection begins anew. -/
def spdmVersion (req : List (BitVec 8)) (y : Sys) : List (BitVec 8) × Sys :=
  let r := spdmHead 0x10 0x04 0 0 ++ [0#8, 1#8, 0x00#8, 0x12#8]
  (r, y.onDev (·.setSpdm { SpdmCtx.reset with stage := 1, vca := req ++ r }))

/-- GET_CAPABILITIES. -/
def spdmCapabilities (req : List (BitVec 8)) (y : Sys) : List (BitVec 8) × Sys :=
  let s := y.dev.boot.spdm
  let r := spdmHead 0x12 0x61 0 0 ++ [0#8, 13#8, 0#8, 0#8] ++ natBytes 4 0x16 ++ natBytes 4 4096 ++ natBytes 4 4096
  (r, y.onDev (·.setSpdm { s with stage := 2, vca := s.vca ++ req ++ r }))

/-- NEGOTIATE_ALGORITHMS. -/
def spdmAlgorithms (req : List (BitVec 8)) (y : Sys) : List (BitVec 8) × Sys :=
  let s := y.dev.boot.spdm
  let r := spdmHead 0x12 0x63 0 0 ++ natBytes 2 36 ++ [1#8, 0#8] ++ natBytes 4 2 ++ natBytes 4 0x10 ++ natBytes 4 1 ++
    zeros 12 ++ zeros 4
  (r, y.onDev (·.setSpdm { s with stage := 3, vca := s.vca ++ req ++ r }))

/-- GET_CERTIFICATE: slot 0, at most 4,000 bytes. -/
def spdmCertificate (req : List (BitVec 8)) (y : Sys) : List (BitVec 8) × Sys :=
  let s := y.dev.boot.spdm
  let chain := y.nv.chain
  let off := fieldOf req 4 2
  if req.length < 8 ∨ fieldOf req 2 1 % 16 ≠ 0 ∨ chain.length ≤ off then (spdmError 1, y)
  else
    let part := (chain.drop off).take (min (fieldOf req 6 2) 4000)
    let r := spdmHead 0x12 0x02 0 0 ++ natBytes 2 part.length ++ natBytes 2 (chain.length - off - part.length) ++ part
    (r, y.onDev (·.setSpdm { s with certs := s.certs ++ req ++ r, meas := [] }))

/-- CHALLENGE: slot 0, answered with a signed CHALLENGE_AUTH. -/
def spdmChallenge (req : List (BitVec 8)) (y : Sys) : List (BitVec 8) × Sys :=
  let s := y.dev.boot.spdm
  let type := fieldOf req 3 1
  if req.length < 36 ∨ fieldOf req 2 1 % 16 ≠ 0 ∨ !(type == 0 || type == 1 || type == 0xFF) then (spdmError 1, y)
  else
    let (nonce, d) := y.dev.freshBytes 32
    let r := spdmHead 0x12 0x03 0 1 ++ sha256 y.nv.chain ++ nonce ++ d.boot.meas.summary type ++ natBytes 2 0
    let (sig, y) := ({ y with dev := d } : Sys).signSpdm "responder-challenge_auth signing" (s.vca ++ s.certs ++ req ++ r)
    (r ++ sig, y.onDev (·.setSpdm { s with certs := [], meas := [] }))

/-- GET_MEASUREMENTS: indices 1 to 6, all, or their number; signed on request. -/
def spdmMeasurements (req : List (BitVec 8)) (y : Sys) : List (BitVec 8) × Sys :=
  let s := y.dev.boot.spdm
  let signed := bit (fieldOf req 2 1) 0
  let i := fieldOf req 3 1
  if (signed = true ∧ (req.length < 37 ∨ fieldOf req 36 1 % 16 ≠ 0)) ∨ (6 < i ∧ i ≠ 0xFF) then (spdmError 1, y)
  else
    let list := if i = 0 then [] else if i = 0xFF then [1, 2, 3, 4, 5, 6] else [i]
    let record := list.flatMap y.dev.boot.meas.block
    let (nonce, d) := y.dev.freshBytes 32
    let y : Sys := { y with dev := d }
    let r := spdmHead 0x12 0x60 (if i = 0 then 6 else 0) 0 ++ natBytes 1 list.length ++ natBytes 3 record.length ++ record ++
      nonce ++ natBytes 2 0
    let covered := s.meas ++ req ++ r
    if signed then
      let (sig, y) := y.signSpdm "responder-measurements signing" (s.vca ++ covered)
      (r ++ sig, y.onDev (·.setSpdm { s with meas := [] }))
    else (r, y.onDev (·.setSpdm { s with meas := covered }))

/-- The answer to a request: unsupported requests and those out of order have the errors of R468. -/
def spdmAnswer (req : List (BitVec 8)) (y : Sys) : List (BitVec 8) × Sys :=
  let stage := y.dev.boot.spdm.stage
  let ordered (need : Bool) (f : List (BitVec 8) → Sys → List (BitVec 8) × Sys) : List (BitVec 8) × Sys :=
    if !need then (spdmError 0x04, y) else if fieldOf req 0 1 ≠ 0x12 then (spdmError 0x41, y) else f req y
  let (r, y) :=
    if req.length < 4 then (spdmError 1, y)
    else match fieldOf req 1 1 with
      | 0x84 => spdmVersion req y
      | 0xE1 => ordered (stage == 1) spdmCapabilities
      | 0xE3 => ordered (stage == 2) spdmAlgorithms
      | 0x82 => ordered (stage == 3) spdmCertificate
      | 0x83 => ordered (stage == 3) spdmChallenge
      | 0xE0 => ordered (stage == 3) spdmMeasurements
      | _ => (spdmError 0x07, y)
  (r, y.onDev (fun d => d.setSpdm { d.boot.spdm with last := r }))

/-- The device answers SPDM: the gate is open, or it waits for recovery (R450, R459). -/
def Device.servesSpdm (d : Device) : Bool :=
  d.answers 39 && !d.sec.stopped && (d.gateOpen || d.boot.phase == .recovery)

/-- One request of the code given, answered; the answer stands in the responder's state. -/
def sysSpdm (code : Nat) (req : List (BitVec 8)) (y : Sys) : Sys :=
  if y.dev.servesSpdm && fieldOf req 1 1 == code then (spdmAnswer req y).2 else y

def execGetVersion (req : List (BitVec 8)) (s : State) : Host.Outcome State Fault Refusal := .next (s.onSys (sysSpdm 0x84 req))
def execGetCapabilities (req : List (BitVec 8)) (s : State) : Host.Outcome State Fault Refusal :=
  .next (s.onSys (sysSpdm 0xE1 req))
def execNegotiateAlgorithms (req : List (BitVec 8)) (s : State) : Host.Outcome State Fault Refusal :=
  .next (s.onSys (sysSpdm 0xE3 req))
def execGetCertificate (req : List (BitVec 8)) (s : State) : Host.Outcome State Fault Refusal :=
  .next (s.onSys (sysSpdm 0x82 req))
def execChallenge (req : List (BitVec 8)) (s : State) : Host.Outcome State Fault Refusal := .next (s.onSys (sysSpdm 0x83 req))
def execGetMeasurements (req : List (BitVec 8)) (s : State) : Host.Outcome State Fault Refusal :=
  .next (s.onSys (sysSpdm 0xE0 req))

end Sys2Proof.Machine
end

