-- ==== Sys2Proof/Machine/Requests.lean ====
section
/-! DEFINITION. Requests to the security core (R440, R458, R462–R464, R466, R475, R477) and the golden slots' checks after a
revocation (R493). -/

namespace Sys2Proof.Machine

/-! ### Refusal states (R477) -/

/-- SEC_UPD_BLOCK. -/
def Sys.updBlock (y : Sys) : Nat :=
  let d := y.dev
  let act := d.twin.partner.2.2.2.1
  natOf (seqIds.any (fun i => d.pwr i == 1 || d.pwr i == 3)) + 2 * natOf (!d.holdOk) +
    4 * natOf (decide (d.fld R.TR_VIN F.TR_VIN.VIN < 4400)) + 8 * d.fld R.SEC_UPD_LOCK F.SEC_UPD_LOCK.LOCK +
    16 * natOf (!d.pins.seatedSeen) + 32 * natOf (d.heard && decide (1 ≤ act ∧ act ≤ 3)) + 64 * natOf (y.nv.dir.trial == 2)

/-- An activation is past IDLE and has not ended. -/
def Device.activating (d : Device) : Bool :=
  let st := d.fld R.SEC_ACT_STAT F.SEC_ACT_STAT.STATE
  decide (1 ≤ st ∧ st ≤ 3)

/-! ### The request block (R462) -/

/-- The address of the request block. -/
def Device.reqAddr (d : Device) : Nat := d.addr48 R.SEC_REQ_ADDR_LO R.SEC_REQ_ADDR_HI

/-- Bytes lie in system SRAM. -/
def sramRange (a n : Nat) : Bool := decide (0x10000000 ≤ a ∧ a + n ≤ 0x11000000)

/-- A request of the operation given is served: its block is read, and the code `serve` answers is written to it, 0 for DONE.
A request of another operation while a chunked one is held, one before the gate, and one during an activation are refused
with 0x20 (R450, R464, R481); after an exception of the security core none is served (R436). -/
def Sys.request (y : Sys) (op : Nat) (serve : List (BitVec 8) → Sys → Nat × Sys) : Sys :=
  let d := y.dev
  let a := d.reqAddr
  let blk := memBytes d.mem a 64
  if !d.answers 39 || d.sec.stopped || !sramRange a 64 || fieldOf blk 0 1 != op then y
  else
    let busy := match d.boot.chunk with
      | none => false
      | some c => op != (if c.stage then 5 else 2)
    let (code, y) :=
      if !d.gateOpen || d.activating || busy then (0x20, y)
      else if d.poisonedRange a 64 then (0x09, y)
      else serve blk y
    y.onDev (fun d =>
      (d.store (a + 1) [if code = 0 then 1#8 else 2#8, BitVec.ofNat 8 code] false).off R.SEC_REQ_STAT F.SEC_REQ_STAT.BUSY)

/-- Bytes of the answer written to the block. -/
def Sys.answerAt (y : Sys) (off : Nat) (bs : List (BitVec 8)) : Sys :=
  y.onDev (fun d => d.store (d.reqAddr + off) bs false)

/-- Fields of the block. -/
def reqArg0 (b : List (BitVec 8)) : Nat := fieldOf b 4 4
def reqAddr0 (b : List (BitVec 8)) : Nat := fieldOf b 8 8
def reqAddr1 (b : List (BitVec 8)) : Nat := fieldOf b 16 8
def reqLen (b : List (BitVec 8)) : Nat := fieldOf b 24 4
def reqArg1 (b : List (BitVec 8)) : Nat := fieldOf b 28 4
def reqData (b : List (BitVec 8)) : List (BitVec 8) := (b.drop 32).take 32

/-! ### INSTALL (R463) -/

/-- The engines of a type whose index is in a mask. -/
def enginesOf (type mask : Nat) : List Eng := engines.filter (fun e => e.typeCode == type && bit mask e.index)

def reqInstall (flash : Bool) (b : List (BitVec 8)) (y : Sys) : Nat × Sys :=
  let p := (y.nv.slots[y.dev.boot.slot]).pack
  let entry := reqArg0 b % 256
  let type := reqArg0 b / 256 % 256
  let mask := reqArg1 b % 4096
  let es := enginesOf type mask
  if fieldOf p 6 2 ≤ entry ∨ mask = 0 ∨ es.length ≠ ((List.range 12).filter (bit mask)).length then (0x21, y)
  else if flash || imgDigest p != y.dev.boot.image.packDigest then (0x09, y)
  else
    let (codes, d) := es.foldl (fun (acc : List (Nat × Nat) × Device) e =>
      let (c, d) := acc.2.install e p (packEntry p entry)
      (acc.1 ++ [(e.index, c)], d)) ([], y.dev)
    let data := (List.range 32).map (fun j => BitVec.ofNat 8 ((codes.find? (fun x => x.1 == j)).elim 0 (·.2)))
    (0, ({ y with dev := d } : Sys).answerAt 32 data)

/-- SEC_INSTALL; `flash` says that the re-read met a flash error. -/
def execSecInstall (flash : Bool) (s : State) : Host.Outcome State Fault Refusal :=
  .next (s.onSys (fun y => y.request 1 (reqInstall flash)))

/-! ### VERIFY (R463) -/

/-- Checks 0x01 to 0x08 on an object of a kind: 1 SECFW, 2 MGMT, 3 PACK, 4 stencil, 5 golden. -/
def verifyCheck (f : FuseFields) (kind : Nat) (p : List (BitVec 8)) : Nat :=
  let comp (c : Component) : Nat :=
    let own := match c with
      | .secfw => zeroField p 36 8
      | .mgmt => zeroField p 44 8
      | .pack => true
    let body := if c = .pack then packBodyCheck p else 0
    if headCheck f c p ≠ 0 then headCheck f c p
    else if body ≠ 0 then body
    else if !own then 7
    else if !signatureOk p (imgTrailer p) then 8
    else 0
  match kind with
  | 1 => comp .secfw
  | 2 => comp .mgmt
  | 3 => comp .pack
  | 4 =>
    if !packFormatOk p then 1
    else if 1 < fieldOf p 5 1 then 2
    else if !packBoundsOk p then 3
    else trustCheck f true p (packTrailer p)
  | _ =>
    if !(fieldOf p 0 4 == 0x444C474D && fieldOf p 4 1 == 1 && fieldOf p 64 4 == (crc32c (p.take 64)).toNat &&
        zeroField p 6 2 && zeroField p 68 28) then 1
    else if 1 < fieldOf p 5 1 then 2
    else if !decide (goldBlocks p = (goldLen p + 4095) / 4096 ∧ goldTrailer p = 96 + 4 * goldBlocks p ∧
        goldTrailer p + trailerLen ≤ p.length) then 3
    else trustCheck f true p (goldTrailer p)

/-- Where the signature of an object of a kind stands. -/
def verifyTrailer (kind : Nat) (p : List (BitVec 8)) : Nat := if kind = 5 then goldTrailer p else fieldOf p 20 4

/-- A chunk of a VERIFY or STAGE joins the bytes before it; none where the chunk does not follow. -/
def chunkNext (stage : Bool) (kind : Nat) (first : Bool) (tTrial : Nat) (old : Option ChunkCtx) (bs : List (BitVec 8)) :
    Option ChunkCtx :=
  if first then some ⟨stage, kind, bs, tTrial⟩
  else match old with
    | none => none
    | some c => if c.stage = stage ∧ c.kind = kind then some { c with bytes := c.bytes ++ bs } else none

/-- The progress of a chunked request replaced. -/
def Device.setChunk (d : Device) (c : Option ChunkCtx) : Device := { d with boot := { d.boot with chunk := c } }

def reqVerify (b : List (BitVec 8)) (y : Sys) : Nat × Sys :=
  let d := y.dev
  let first := bit (reqArg0 b) 0
  let last := bit (reqArg0 b) 1
  let kind := reqArg0 b / 16 % 16
  let n := reqLen b
  if kind = 0 ∨ 5 < kind ∨ !sramRange (reqAddr0 b) n ∨ (first = true ∧ n < (if kind = 5 then 96 else 64)) ∨
      (last = true ∧ n < trailerLen) then (0x21, y)
  else if d.poisonedRange (reqAddr0 b) n then (0x09, y)
  else match chunkNext false kind first 0 d.boot.chunk (memBytes d.mem (reqAddr0 b) n) with
    | none => (0x20, y)
    | some c =>
      if !last then (0, y.onDev (·.setChunk (some c)))
      else
        let y := y.onDev (·.setChunk none)
        let y := y.answerAt 32 (sha256 (c.bytes.take (verifyTrailer kind c.bytes)))
        (verifyCheck d.shadow kind c.bytes, y)

def execSecVerify (s : State) : Host.Outcome State Fault Refusal := .next (s.onSys (fun y => y.request 2 reqVerify))

/-! ### SIGN_MMP and SPDM (R463, R466) -/

def reqSignMmp (b : List (BitVec 8)) (y : Sys) : Nat × Sys :=
  if !sramRange (reqAddr0 b) 64 then (0x21, y)
  else
    let (sig, y) := y.sign (ascii "MIRYS-MMP-HS-1" ++ reqData b)
    (0, y.onDev (fun d => d.store (reqAddr0 b) sig false))

def execSecSignMmp (s : State) : Host.Outcome State Fault Refusal := .next (s.onSys (fun y => y.request 3 reqSignMmp))

def reqSpdm (b : List (BitVec 8)) (y : Sys) : Nat × Sys :=
  let n := reqLen b
  if !sramRange (reqAddr0 b) n || !sramRange (reqAddr1 b) 4096 then (0x21, y)
  else if y.dev.poisonedRange (reqAddr0 b) n then (0x09, y)
  else
    let (r, y) := spdmAnswer (memBytes y.dev.mem (reqAddr0 b) n) y
    let y := y.onDev (fun d => d.store (reqAddr1 b) r false)
    (0, y.answerAt 28 (natBytes 4 r.length))

def execSecSpdm (s : State) : Host.Outcome State Fault Refusal := .next (s.onSys (fun y => y.request 4 reqSpdm))

/-! ### STAGE (R463, R473–R475, R479) -/

/-- A slot whose component c starts empty, with the two others of the running slot. -/
def stageFresh (run : BootSlot) (c : Component) : BootSlot := run.putPart c []

/-- A chunk of a component staged: its code, 0 where it is taken (R473–R475, R477). `flash` says which components were read
back with an error. -/
def Sys.stageChunk (y : Sys) (comp : Component) (first last : Bool) (tTrial : Nat) (flash : BitVec 3) (bs : List (BitVec 8)) :
    Nat × Sys :=
  let d := y.dev
  let target := otherSlot d.boot.slot
  if y.updBlock ≠ 0 then (0x20, y)
  else if first = true ∧ (tTrial < 30 ∨ 900 < tTrial) then (0x21, y)
  else match chunkNext true comp.code first tTrial d.boot.chunk bs with
    | none => (0x20, y)
    | some c =>
      if comp.maxLen < c.bytes.length then (0x03, y.onDev (·.setChunk none))
      else
        let base := if first then stageFresh y.nv.slots[d.boot.slot] comp else y.nv.slots[target]
        let slot := base.putPart comp c.bytes
        let y : Sys := { y with nv := { y.nv with slots := vset y.nv.slots target slot } }
        if !last then (0, y.onDev (·.setChunk (some c)))
        else
          let y := y.onDev (·.setChunk none)
          let code := slotCheck d.shadow slot (fun c => flash.getLsbD c.code)
          if code ≠ 0 then (code, y)
          else (0, y.putDir (fun x => { x with trial := 1, trialSlot := target, tTrial := c.tTrial }))

def reqStage (flash : BitVec 3) (b : List (BitVec 8)) (y : Sys) : Nat × Sys :=
  let first := bit (reqArg0 b) 0
  let t := reqArg0 b / 65536
  let tTrial := if t = 0 then 120 else t
  if y.updBlock ≠ 0 then (0x20, y)
  else match componentOf (reqArg0 b / 4 % 4) with
    | none => (0x21, y)
    | some comp =>
      if !sramRange (reqAddr0 b) (reqLen b) ∨ (first = true ∧ (tTrial < 30 ∨ 900 < tTrial)) then (0x21, y)
      else if y.dev.poisonedRange (reqAddr0 b) (reqLen b) then (0x09, y)
      else y.stageChunk comp first (bit (reqArg0 b) 1) tTrial flash (memBytes y.dev.mem (reqAddr0 b) (reqLen b))

/-- SEC_STAGE; `flash` says which components were read back with an error. -/
def execSecStage (flash : BitVec 3) (s : State) : Host.Outcome State Fault Refusal :=
  .next (s.onSys (fun y => y.request 5 (reqStage flash)))

/-! ### REVOKE, OWNER_KEY, CERT_WRITE (R440, R458, R463, R467) -/

/-- A key slot revoked. -/
def FuseFields.revoked (f : FuseFields) (k : Fin 8) : FuseFields := { f with revoke := f.revoke ||| BitVec.ofNat 8 (2 ^ k.val) }

/-- Every component that a slot holds passes its checks. -/
def slotSurvives (f : FuseFields) (s : BootSlot) : Bool :=
  components.all (fun c => let p := s.part c
    regionEmpty p || (headCheck f c p == 0 && (c != .pack || packBodyCheck p == 0) && signatureOk p (imgTrailer p))) &&
  (components.any (fun c => regionEmpty (s.part c)) || slotCompat s)

/-- The fuses, and their shadow, changed. -/
def Sys.blow (y : Sys) (f : FuseFields → FuseFields) : Sys where
  dev := { y.dev with shadow := f y.dev.shadow }.showFuses
  nv := { y.nv with fuses := { y.nv.fuses with fields := f y.nv.fuses.fields } }

def reqRevoke (b : List (BitVec 8)) (y : Sys) : Nat × Sys :=
  match keyPlace (reqArg0 b % 2) (reqArg0 b / 2 % 4) with
  | none => (0x21, y)
  | some k =>
    let f := y.dev.shadow
    if !f.usable k then (0x21, y)
    else if !((List.finRange 2).all (fun s => slotSurvives (f.revoked k) y.nv.slots[s])) then (0x23, y)
    else if !((List.finRange 8).any (fun j => decide (j.val < 4) && j != k && f.usable j)) then (0x23, y)
    else if !y.dev.holdOk then (0x22, y)
    else
      let y := (y.blow (·.revoked k)).recheckPacks.recheckGold
      (0, y.onDev (·.on R.SEC_EVENT F.SEC_EVENT.REVOKED))

def execSecRevoke (s : State) : Host.Outcome State Fault Refusal := .next (s.onSys (fun y => y.request 6 reqRevoke))

/-- An owner slot programmed: the hash bits first, SET last. -/
def FuseFields.program (f : FuseFields) (k : Fin 8) (h : BitVec 256) : FuseFields :=
  { f with keyHash := vset f.keyHash k (f.keyHash[k] ||| h), keySet := f.keySet ||| BitVec.ofNat 8 (2 ^ k.val) }

def reqOwnerKey (b : List (BitVec 8)) (y : Sys) : Nat × Sys :=
  let k : Fin 8 := ⟨4 + reqArg0 b % 4, by omega⟩
  let f := y.dev.shadow
  if f.isSet k || f.keyHash[k] != 0 then (0x24, y)
  else if !y.dev.holdOk then (0x22, y)
  else (0, y.blow (fun f => f.program k (digestNum (reqData b))))

def execSecOwnerKey (s : State) : Host.Outcome State Fault Refusal := .next (s.onSys (fun y => y.request 7 reqOwnerKey))

def reqCertWrite (leafOk : Bool) (b : List (BitVec 8)) (y : Sys) : Nat × Sys :=
  let n := reqLen b
  if !sramRange (reqAddr0 b) n || decide (65536 < n) then (0x21, y)
  else if y.dev.poisonedRange (reqAddr0 b) n then (0x09, y)
  else
    let p := memBytes y.dev.mem (reqAddr0 b) n
    if leafOk && certWrapperOk p then (0, { y with nv := { y.nv with cert := p } }) else (0x21, y)

/-- SEC_CERT_WRITE; `leafOk` says that the new leaf carries the identity public key. -/
def execSecCertWrite (leafOk : Bool) (s : State) : Host.Outcome State Fault Refusal :=
  .next (s.onSys (fun y => y.request 8 (reqCertWrite leafOk)))

/-- A write of SEC_REQ_GO: one while a request is in progress is lost (R464). -/
def Device.reqGo (d : Device) : Device :=
  if d.flag R.SEC_REQ_STAT F.SEC_REQ_STAT.BUSY then d.on R.SEC_REQ_STAT F.SEC_REQ_STAT.GO_LOST
  else if d.sec.stopped then d
  else d.on R.SEC_REQ_STAT F.SEC_REQ_STAT.BUSY

end Sys2Proof.Machine
end

