-- ==== Sys2Proof/Machine/Update.lean ====
section
/-! DEFINITION. Activation (R480–R488) and the golden checks (R493–R499). -/

namespace Sys2Proof.Machine

/-! ### SEC_ACT_STAT -/

/-- STATE of an activation (R500). -/
def Device.actState (d : Device) : Nat := d.fld R.SEC_ACT_STAT F.SEC_ACT_STAT.STATE

/-- STATE set. -/
def Device.setAct (d : Device) (st : Nat) : Device := d.setFld R.SEC_ACT_STAT F.SEC_ACT_STAT.STATE st

/-- The activation's own state changed. -/
def Device.onAct (d : Device) (f : ActCtx → ActCtx) : Device := { d with boot := { d.boot with act := f d.boot.act } }

/-- The steps of a pair's activation as ACT records carry them (R488, R546). -/
def actOrder : Nat := 0
def actRefused : Nat := 1
def actQuiesced : Nat := 2
def actSuspend : Nat := 3
def actDone : Nat := 4
def actFailed : Nat := 5
def actResume : Nat := 6

/-- An ACT record, where the activation is a pair's. -/
def Device.actTell (d : Device) (what : Nat) : Device := if d.boot.act.pair then d.twinSend (.act what) else d

/-- The activation ends REFUSED with a code; the partner is told. -/
def Device.actEnd (d : Device) (code : Nat) : Device :=
  let d := (d.setAct 5).setFld R.SEC_ACT_STAT F.SEC_ACT_STAT.REJECT code
  (d.off R.SEC_ACT_STAT F.SEC_ACT_STAT.QUIESCE_REQ).actTell actRefused

/-! ### GO (R480, R481, R488) -/

/-- The lightest method the staged slot needs. -/
def Sys.lightest (y : Sys) : Nat :=
  let i := imageInfo y.nv.slots[y.nv.dir.trialSlot]
  if i.lockId ≠ y.dev.boot.image.lockId then 2 else if i.secDigest ≠ y.dev.boot.image.secDigest then 1 else 0

/-- The pair rules of R488 hold. -/
def Device.pairRulesOk (d : Device) (method : Nat) (pair : Bool) : Bool :=
  if method = 0 then (if pair then d.role == 1 else d.role == 0 || d.role == 3) else !pair

/-- The code GO is refused with, or 0. `mask` picks the refusal states that count: on a shadow that takes the lead's order,
all but PARTNER. -/
def Sys.goCode (y : Sys) (method : Nat) (pair : Bool) (mask : Nat) : Nat :=
  let d := y.dev
  if y.nv.dir.trial ≠ 1 ∨ d.flag R.SEC_REQ_STAT F.SEC_REQ_STAT.BUSY = true ∨ y.updBlock % 64 &&& mask ≠ 0 then 0x20
  else if !d.pairRulesOk method pair then 0x21
  else if method < y.lightest then 0x30
  else if method = 2 ∧ d.trayPwr ≠ 0 then 0x20
  else 0

/-- An accepted GO begins PREVERIFY. -/
def Sys.actBegin (y : Sys) (method : Nat) (pair : Bool) : Sys :=
  y.onDev (fun d =>
    let d := (d.setAct 1).setFld R.SEC_ACT_STAT F.SEC_ACT_STAT.REJECT 0
    d.onAct (fun _ => { ActCtx.reset with
      method := method, pair := pair, staged := imageInfo y.nv.slots[y.nv.dir.trialSlot] }))

/-- A refused GO. -/
def Device.goRefused (d : Device) (code : Nat) : Device :=
  (d.setAct 5).setFld R.SEC_ACT_STAT F.SEC_ACT_STAT.REJECT code

/-- A write of GO with its key: refused while an activation runs, else under R480, R481 and R488 (R446 gives the codes). -/
def Sys.actGo (y : Sys) (method : Nat) (pair : Bool) : Sys :=
  if !y.dev.gateOpen || y.dev.sec.stopped || y.dev.activating then y
  else match y.goCode method pair 0x3F with
    | 0 =>
      let y := y.actBegin method pair
      y.onDev (·.actTell actOrder)
    | code => y.onDev (·.goRefused code)

/-- GO as a command: METHOD and PAIR are written with it, and a write with another key is ignored. -/
def sysActGo (method : Nat) (who : Initiator) (key : BitVec 16) (pair : Bool) (y : Sys) : Sys :=
  if !y.dev.secWritable who || key != 0xAC71#16 then y
  else
    let a := R.SEC_ACT_CTL
    let y := y.onDev (fun d => (d.setFld a F.SEC_ACT_CTL.METHOD method).setFld a F.SEC_ACT_CTL.PAIR (natOf pair))
    y.actGo method pair

def execActHandover (who : Initiator) (key : BitVec 16) (pair : Bool) (s : State) : Host.Outcome State Fault Refusal :=
  .next (s.onSys (sysActGo 0 who key pair))
def execActCommons (who : Initiator) (key : BitVec 16) (pair : Bool) (s : State) : Host.Outcome State Fault Refusal :=
  .next (s.onSys (sysActGo 1 who key pair))
def execActFull (who : Initiator) (key : BitVec 16) (pair : Bool) (s : State) : Host.Outcome State Fault Refusal :=
  .next (s.onSys (sysActGo 2 who key pair))

/-! ### PREVERIFY (step 1 of R482) -/

/-- The first failing check of the staged MGMT, or 0. -/
def Sys.preverify (y : Sys) (flash : Bool) : Nat :=
  let slot := y.nv.slots[y.nv.dir.trialSlot]
  let head := headCheck y.dev.shadow .mgmt slot.mgmt
  if head ≠ 0 then head
  else if !slotCompat slot then 7
  else if !signatureOk slot.mgmt (imgTrailer slot.mgmt) then 8
  else if flash then 9
  else 0

/-- PREVERIFY_DONE; `flash` says that the staged MGMT was read with an error. -/
def sysPreverifyDone (flash : Bool) (y : Sys) : Sys :=
  let d := y.dev
  if d.actState ≠ 1 ∨ d.answers 39 = false ∨ d.sec.stopped = true then y
  else match y.preverify flash with
    | 0 => { y with dev := (d.setAct 2).on R.SEC_ACT_STAT F.SEC_ACT_STAT.QUIESCE_REQ }
    | code => { y with dev := d.actEnd code }

def execPreverifyDone (flash : Bool) (s : State) : Host.Outcome State Fault Refusal :=
  .next (s.onSys (sysPreverifyDone flash))

/-! ### QUIESCE (steps 2 and 3 of R482, R484) -/

/-- SEC_ACT_HOB. -/
def Device.hob (d : Device) : Nat := d.addr48 R.SEC_ACT_HOB_LO R.SEC_ACT_HOB_HI

/-- The handover block lies where R484 puts it: in system SRAM or LPDDR4X, and outside the bytes of the staged MGMT. -/
def Device.hobOk (d : Device) : Bool :=
  let a := d.hob
  let n := 64 + memNat d.mem (a + 16) 4
  let last := a + n - 1
  a % 64 == 0 && ((inSram a && inSram last) || (inDram a && inDram last)) &&
    (decide (0x10000000 + d.boot.act.staged.mgmtLen + trailerLen ≤ a) || inDram a)

/-- A handover's restart of the cores begins: TRIAL_STATE is RUNNING, the cores are held in reset (steps 3 and 4). -/
def Sys.actPause (y : Sys) : Sys :=
  let y := y.putDir (fun b => { b with trial := 2 })
  y.onDev (fun d =>
    let d := ((d.runsEnd 0xFD).setAct 3).off R.SEC_ACT_STAT F.SEC_ACT_STAT.QUIESCE_REQ
    let d := d.holdIslands coreIsland
    { d with cores := Vector.replicate 4 MCtx.reset, boot := { d.boot with handovers := d.boot.handovers + 1 } })

/-- The suspension begins on this device (step 2 of R488). -/
def Device.suspend (d : Device) : Device := d.on R.TWIN_STATUS F.TWIN_STATUS.SUSPENDED

/-- The suspension ends, and held on requests act. -/
def Device.unsuspend (d : Device) : Device :=
  let d := d.off R.TWIN_STATUS F.TWIN_STATUS.SUSPENDED
  seqIds.foldl Device.seqTryPend d

/-- Both devices of a pair have reached QUIESCED: the lead suspends and says so. -/
def Sys.pairQuiesced (y : Sys) : Sys :=
  let a := y.dev.boot.act
  if y.dev.actState = 2 ∧ y.dev.role = 1 ∧ a.pair = true ∧ a.mine = true ∧ a.partner = true then
    (y.onDev (fun d => d.suspend.actTell actSuspend)).actPause
  else y

/-- QUIESCED: what step 3 of R482 does for each method, once the handover block stands where it may. -/
def Sys.quiesced (y : Sys) : Sys :=
  let d := y.dev
  if d.actState ≠ 2 ∨ d.boot.act.mine = true ∨ d.sec.stopped = true then y
  else if !d.hobOk then { y with dev := d.actEnd 0x21 }
  else
    let y : Sys := { y with dev := d.onAct (fun a => { a with mine := true }) }
    if d.boot.act.pair then (y.onDev (·.actTell actQuiesced)).pairQuiesced
    else match d.boot.act.method with
      | 0 => y.actPause
      | 1 => y.commonsRestart 3
      | _ => y.fullReset 3

/-- QUIESCED: firmware on management core c writes it. -/
def sysQuiesced (c : Fin 4) (y : Sys) : Sys :=
  if y.dev.answers (42 + c.val) && y.dev.secWritable (.core c) then y.quiesced else y

def execQuiesced (c : Fin 4) (s : State) : Host.Outcome State Fault Refusal := .next (s.onSys (sysQuiesced c))

/-- QUIESCE_TIMEOUT. -/
def devQuiesceTimeout (d : Device) : Device :=
  if d.actState = 2 ∧ d.boot.act.mine = false then d.actEnd 0x31 else d

def execQuiesceTimeout (s : State) : Host.Outcome State Fault Refusal := .next (s.onDev devQuiesceTimeout)

/-! ### PAUSE and DONE (steps 4 and 5 of R482) -/

/-- The lead ends the suspension once both devices report DONE (step 4 of R488). -/
def Device.pairDone (d : Device) : Device :=
  let a := d.boot.act
  if d.role == 1 && d.flag R.TWIN_STATUS F.TWIN_STATUS.SUSPENDED && a.mineDone && a.partnerDone then
    (d.actTell actResume).unsuspend
  else d

/-- The copy's digest equals D: the cores run the new image, on trial. -/
def Sys.actFinish (y : Sys) : Sys :=
  let slot := y.nv.slots[y.nv.dir.trialSlot]
  let i := y.dev.boot.act.staged
  y.onDev (fun d =>
    let (t, d) := d.fresh
    let d := d.store 0x10000000 (slot.mgmt.take (i.mgmtLen + trailerLen)) false
    let d := d.releaseCores i.entry
    let d := { d with boot := { d.boot with slot := y.nv.dir.trialSlot, image := i, trialOn := true } }
    let d := (d.setFld R.SEC_BOOT_STATUS F.SEC_BOOT_STATUS.MODE 1).setFld R.SEC_BOOT_STATUS F.SEC_BOOT_STATUS.SLOT
      y.nv.dir.trialSlot.val
    let d := d.showBytes R.SEC_IMG_DIGEST (beBytes 32 i.mgmtDigest.toNat)
    let d := (d.setAct 4).setFld R.SEC_ACT_STAT F.SEC_ACT_STAT.PAUSE t.toNat
    let d := d.measure y.nv.otp
    ((d.onAct (fun a => { a with mineDone := true })).actTell actDone).pairDone)

/-- The copy's digest differs: STATE is FAILED with 0x33 and a commons restart begins with cause 0x8; a lead ends the
suspension. -/
def Sys.actFail (y : Sys) : Sys :=
  let lead := y.dev.role == 1
  let y := y.onDev (fun d =>
    let d := d.actTell actFailed
    if lead then (d.actTell actResume).unsuspend else d)
  (y.commonsRestart 8).onDev (fun d => (d.setAct 6).setFld R.SEC_ACT_STAT F.SEC_ACT_STAT.REJECT 0x33)

/-- PAUSE_COPY_DONE; `flash` says that what was copied differs from what was verified. -/
def sysPauseCopyDone (flash : Bool) (y : Sys) : Sys :=
  if y.dev.actState ≠ 3 ∨ y.dev.answers 39 = false ∨ y.dev.sec.stopped = true then y
  else if flash then y.actFail else y.actFinish

def execPauseCopyDone (flash : Bool) (s : State) : Host.Outcome State Fault Refusal :=
  .next (s.onSys (sysPauseCopyDone flash))

/-! ### The partner's steps (R488) -/

/-- The lead's order reaches a shadow: it applies R481 and begins, or refuses. -/
def Sys.actOrdered (y : Sys) : Sys :=
  if y.dev.role ≠ 2 ∨ y.dev.activating = true then y
  else
    let busy := y.nv.dir.trial ≠ 1 ∨ y.dev.flag R.SEC_REQ_STAT F.SEC_REQ_STAT.BUSY = true ∨ y.updBlock % 64 &&& 0x1F ≠ 0
    if y.dev.gateOpen = false ∨ y.dev.sec.stopped = true ∨ busy then
      y.onDev (fun d => (d.goRefused 0x20).twinSend (.act actRefused))
    else if 0 < y.lightest then y.onDev (fun d => (d.goRefused 0x30).twinSend (.act actRefused))
    else y.actBegin 0 true

/-- ACT_RECORD: a step of the partner's activation. -/
def sysActRecord (what : Fin 7) (y : Sys) : Sys :=
  let d := y.dev
  let a := d.boot.act
  let st := d.actState
  if what.val = actOrder then y.actOrdered
  else if !a.pair then y
  else if what.val = actRefused then
    if st = 1 ∨ st = 2 then
      { y with dev := (d.goRefused 0x32).off R.SEC_ACT_STAT F.SEC_ACT_STAT.QUIESCE_REQ } else y
  else if what.val = actQuiesced then
    (y.onDev (·.onAct (fun a => { a with partner := true }))).pairQuiesced
  else if what.val = actSuspend then
    if st = 2 ∧ d.role = 2 ∧ a.mine = true then (y.onDev Device.suspend).actPause else y
  else if what.val = actDone then
    y.onDev (fun d => (d.onAct (fun a => { a with partnerDone := true })).pairDone)
  else if what.val = actFailed then
    if d.role = 1 ∧ d.flag R.TWIN_STATUS F.TWIN_STATUS.SUSPENDED = true then
      { y with dev := (d.actTell actResume).unsuspend } else y
  else if d.role = 2 then { y with dev := d.unsuspend } else y

def execActRecord (what : Fin 7) (s : State) : Host.Outcome State Fault Refusal := .next (s.onSys (sysActRecord what))

/-- PAIR_PAUSE_TIMEOUT: the lead ends the suspension. -/
def devPairPauseTimeout (d : Device) : Device :=
  if d.role = 1 ∧ d.flag R.TWIN_STATUS F.TWIN_STATUS.SUSPENDED = true then
    (d.twinSend (.act actResume)).unsuspend else d

def execPairPauseTimeout (s : State) : Host.Outcome State Fault Refusal := .next (s.onDev devPairPauseTimeout)

/-! ### Golden checks (R494–R497) -/

/-- STATE of a check set. -/
def Device.setGold (d : Device) (b : Bay) (st : Nat) : Device :=
  d.setFld (R.GOLD_BAY_STAT b.val) F.GOLD_BAY_STAT.STATE st

/-- The golden image a check of bay b uses. -/
def Sys.goldImage (y : Sys) (b : Bay) : List (BitVec 8) := y.nv.golden.toList.getD y.dev.golds[b].slot []

/-- A check ends with an outcome of R495; the held START acts or is discarded, and a waiting image takes its slot. -/
def Sys.goldEnd (y : Sys) (b : Bay) (outcome : Nat) : Sys :=
  (y.onDev (fun d =>
    let d := (d.setGold b 0).setFld (R.GOLD_BAY_STAT b.val) F.GOLD_BAY_STAT.OUTCOME outcome
    let d := if outcome = 1 then d else d.setMaskBit R.GOLD_EVENT F.GOLD_EVENT.DONE b.val true
    let d := if outcome = 2 then d.count (R.GOLD_BAY_CNT b.val) F.GOLD_BAY_CNT.REFLASH 1 else d
    if 3 ≤ outcome then
      (d.count (R.GOLD_BAY_CNT b.val) F.GOLD_BAY_CNT.FAIL 1).setPend (.seq (seqOf b)) false
    else
      let d := { d with golds := vset d.golds b { d.golds[b] with pass := d.pend (.seq (seqOf b)) } }
      d.seqTryPend (seqOf b))).settleGold

/-- A re-flash begins. -/
def Device.goldReflash (d : Device) (b : Bay) (attempt : Nat) : Device :=
  (d.setGold b 2).setFld (R.GOLD_BAY_STAT b.val) F.GOLD_BAY_STAT.ATTEMPTS attempt

/-- The golden area answers and bay b's check is in STATE st. -/
def Device.goldAt (d : Device) (b : Bay) (st : Nat) : Bool := d.answers 47 && d.goldState b == st

/-- GOLD_READ_DONE: the digest of the bay flash's first IMAGE_LEN bytes; `flash` says that a golden block failed R461. -/
def sysGoldReadDone (b : Bay) (digest : BitVec 256) (flash : Bool) (y : Sys) : Sys :=
  if !y.dev.goldAt b 1 then y
  else
    let p := y.goldImage b
    if p.isEmpty then y.goldEnd b 4
    else if digest = goldDigest p then y.goldEnd b 1
    else if flash || !goldBlocksOk p then y.goldEnd b 4
    else y.onDev (·.goldReflash b 1)

def execGoldReadDone (b : Bay) (digest : BitVec 256) (flash : Bool) (s : State) : Host.Outcome State Fault Refusal :=
  .next (s.onSys (sysGoldReadDone b digest flash))

/-- GOLD_READBACK_DONE: the digest read back, the sectors written, whether every flash command ended in time, and whether a
golden block failed R461. -/
def sysGoldReadbackDone (b : Bay) (digest : BitVec 256) (sectors : Nat) (cmdOk flash : Bool) (y : Sys) : Sys :=
  if !y.dev.goldAt b 2 then y
  else
    let p := y.goldImage b
    let y := y.onDev (·.setFld (R.GOLD_BAY_STAT b.val) F.GOLD_BAY_STAT.SECTORS (min sectors 0xFFFF))
    let n := y.dev.fld (R.GOLD_BAY_STAT b.val) F.GOLD_BAY_STAT.ATTEMPTS
    if flash then y.goldEnd b 4
    else if !cmdOk then y.goldEnd b 3
    else if digest = goldDigest p then y.goldEnd b 2
    else if n < 2 then y.onDev (·.goldReflash b (n + 1))
    else y.goldEnd b 3

def execGoldReadbackDone (b : Bay) (digest : BitVec 256) (sectors : Nat) (cmdOk flash : Bool) (s : State) :
    Host.Outcome State Fault Refusal :=
  .next (s.onSys (sysGoldReadbackDone b digest sectors cmdOk flash))

/-- T_GOLD_MAX_EXPIRY. -/
def execTGoldMaxExpiry (b : Bay) (s : State) : Host.Outcome State Fault Refusal :=
  .next (s.onSys (fun y => if y.dev.goldState b ≠ 0 then y.goldEnd b 3 else y))

/-- An accepted golden image takes its slot, once no check uses it (R493). -/
def Sys.goldAccept (y : Sys) (g : Fin 4) (p : List (BitVec 8)) : Sys :=
  (y.onDev (fun d => { d with goldNext := vset d.goldNext g (some p) })).settleGold

/-- A golden LOAD: the code of the first failing check, or 0 and the image accepted (R477, R493). -/
def Sys.goldLoad (y : Sys) (g : Fin 4) (p : List (BitVec 8)) (flash : Bool) : Nat × Sys :=
  if y.updBlock % 64 ≠ 0 then (0x20, y)
  else match goldCheck y.dev.shadow p flash with
    | 0 => (0, y.goldAccept g p)
    | code => (code, y)

end Sys2Proof.Machine
end

