-- ==== Sys2Proof/Machine/Eth.lean ====
section
/-! DEFINITION. The host port below the messages: frames and the upper layers, handshakes, packets and sessions, the rings,
events and relay (R502–R521, R530–R533, R536, R537). -/

namespace Sys2Proof.Machine

/-! ### The port's addresses (R507–R509) -/

/-- The ETH island answers and packets of the host reach it: its port is up, or the partner relays. -/
def Device.hostReach (d : Device) : Bool :=
  d.answers 48 && (d.ethLink || (d.flag R.ETH_STAT F.ETH_STAT.RELAY_OUT && d.twinUp))

/-- ETH_MAC, byte 0 in the low bits. -/
def Device.ethMac (d : Device) : BitVec 48 :=
  BitVec.ofNat 48 ((d.reg R.ETH_MAC_LO).toNat + 2 ^ 32 * d.fld R.ETH_MAC_HI F.ETH_MAC_HI.MAC)

/-- The link-local address, a modified EUI-64 of ETH_MAC. -/
def Device.linkLocal (d : Device) : BitVec 128 :=
  let m := natBytes 6 d.ethMac.toNat
  let b (i : Nat) : BitVec 8 := m.getD i 0#8
  BitVec.ofNat 128 (bytesNatBe ([0xFE#8, 0x80#8] ++ zeros 6 ++
    [b 0 ^^^ 2#8, b 1, b 2, 0xFF#8, 0xFE#8, b 3, b 4, b 5]))

/-- The IPv4 address held. -/
def Device.ip4 (d : Device) : Option (BitVec 32) :=
  if d.flag R.ETH_IP4_CFG F.ETH_IP4_CFG.BOUND then some (d.reg R.ETH_IP4_ADDR) else none

/-- The further IPv6 address held; word i holds octets 4i to 4i + 3. -/
def Device.ip6 (d : Device) : Option (BitVec 128) :=
  if d.flag R.ETH_IP6_CFG F.ETH_IP6_CFG.BOUND then
    some (BitVec.ofNat 128 ((List.range 4).foldl (fun n i => n * 2 ^ 32 + (d.reg (R.ETH_IP6_ADDR i)).toNat) 0))
  else none

/-- A static address is held while it is not zero; one from DHCP while the client has it. -/
def Device.refreshIp (d : Device) : Device :=
  let d := if d.flag R.ETH_IP4_CFG F.ETH_IP4_CFG.DHCP then d
    else d.setFld R.ETH_IP4_CFG F.ETH_IP4_CFG.BOUND (natOf (d.reg R.ETH_IP4_ADDR != 0#32))
  if d.flag R.ETH_IP6_CFG F.ETH_IP6_CFG.DHCP then d
  else d.setFld R.ETH_IP6_CFG F.ETH_IP6_CFG.BOUND (natOf ((List.range 4).any (fun i => d.reg (R.ETH_IP6_ADDR i) != 0#32)))

/-- An IPv6 address is the device's own. -/
def Device.own6 (d : Device) (ip : BitVec 128) : Bool := ip == d.linkLocal || d.ip6 == some ip

/-- This device relays for the partner (R536). -/
def Device.relaysIn (d : Device) : Bool := d.flag R.ETH_STAT F.ETH_STAT.RELAY_IN

/-! ### Frames (R506, R508) -/

/-- A frame of a length and tags the port takes. -/
def Device.takesFrame (d : Device) (f : EthFrame) : Bool :=
  decide (f.len ≤ 9216) &&
    (if d.flag R.ETH_CFG F.ETH_CFG.VLAN_EN then f.tags == [BitVec.ofNat 12 (d.fld R.ETH_VLAN F.ETH_VLAN.VID)]
     else f.tags.isEmpty) &&
    !f.fragment && f.proto != .other && f.proto != .lldp

/-- ETH_FRAME_RECEIVE: a frame is accepted, or dropped and counted; UDP for the partner goes over the twin link unopened. -/
def devEthFrameReceive (f : EthFrame) (d : Device) : Device :=
  if !(d.answers 48 && d.ethLink) then d
  else
    let d := d.count R.ETH_RX_FRAMES F.ETH_RX_FRAMES.COUNT 1
    if !d.takesFrame f then d.count R.ETH_RX_DROP F.ETH_RX_DROP.COUNT 1
    else if f.forPartner && d.relaysIn && (f.proto == .mmp || f.proto == .dhcp) then d.twinSend (.relay (.relayed f.packet))
    else d

def execEthFrameReceive (f : EthFrame) (s : State) : Host.Outcome State Fault Refusal := .next (s.onDev (devEthFrameReceive f))

/-- ARP_REQUEST: an own address, or while this device relays one of the partner's, is answered with this device's MAC. -/
def devArpRequest (ip : BitVec 32) (partner : Bool) (src : BitVec 48) (d : Device) : Device :=
  if d.answers 48 && d.ethLink && ((partner && d.relaysIn) || d.ip4 == some ip) then d.ethSend (.arp ip src) else d

def execArpRequest (ip : BitVec 32) (partner : Bool) (src : BitVec 48) (s : State) : Host.Outcome State Fault Refusal :=
  .next (s.onDev (devArpRequest ip partner src))

/-- ND_SOLICIT. -/
def devNdSolicit (ip : BitVec 128) (partner : Bool) (src : BitVec 48) (d : Device) : Device :=
  if d.answers 48 && d.ethLink && ((partner && d.relaysIn) || d.own6 ip) then d.ethSend (.neighbour ip src) else d

def execNdSolicit (ip : BitVec 128) (partner : Bool) (src : BitVec 48) (s : State) : Host.Outcome State Fault Refusal :=
  .next (s.onDev (devNdSolicit ip partner src))

/-- The times of the last second with a new one, unless a hundred are among them (R508, R515). -/
def withinRate (times : List Nat) (now : Nat) : Option (List Nat) :=
  let recent := times.filter (fun t => decide (now < t + 1000000))
  if 100 ≤ recent.length then none else some (now :: recent)

/-- ICMP_ECHO: an echo request to an own address is answered, at most 100 in a second. -/
def devIcmpEcho (v6 : Bool) (dst : BitVec 128) (data : List (BitVec 8)) (src : BitVec 48) (d : Device) : Device :=
  let own := if v6 then d.own6 dst else d.ip4 == some (dst.truncate 32)
  if !(d.answers 48 && d.ethLink && own) then d
  else
    let (now, d) := d.now
    match withinRate d.eth.echoTimes now with
    | none => d
    | some ts => (d.onEth (fun e => { e with echoTimes := ts })).ethSend (.echo v6 data src)

def execIcmpEcho (v6 : Bool) (dst : BitVec 128) (data : List (BitVec 8)) (src : BitVec 48) (s : State) :
    Host.Outcome State Fault Refusal :=
  .next (s.onDev (devIcmpEcho v6 dst data src))

/-- An address from DHCP, or none. -/
def Device.bind (d : Device) (v6 : Bool) (addr : Option (BitVec 128)) : Device :=
  let a := addr.getD 0#128
  if v6 then
    ((List.range 4).foldl (fun d i => d.setReg (R.ETH_IP6_ADDR i) (BitVec.ofNat 32 (a.toNat / 2 ^ (96 - 32 * i)))) d).setFld
      R.ETH_IP6_CFG F.ETH_IP6_CFG.BOUND (natOf addr.isSome)
  else (d.setReg R.ETH_IP4_ADDR (a.truncate 32)).setFld R.ETH_IP4_CFG F.ETH_IP4_CFG.BOUND (natOf addr.isSome)

/-- DHCP_RECEIVE: the client asks for an address offered, takes one acknowledged, and starts again when it is refused. -/
def devDhcpReceive (v6 : Bool) (m : DhcpMsg) (d : Device) : Device :=
  let on := if v6 then d.flag R.ETH_IP6_CFG F.ETH_IP6_CFG.DHCP else d.flag R.ETH_IP4_CFG F.ETH_IP4_CFG.DHCP
  if !(d.hostReach && on) then d
  else match m with
    | .offer a => d.ethSend (.dhcp v6 a)
    | .ack a => d.bind v6 (some a)
    | .nak => (d.bind v6 none).ethSend (.dhcp v6 0#128)

def execDhcpReceive (v6 : Bool) (m : DhcpMsg) (s : State) : Host.Outcome State Fault Refusal :=
  .next (s.onDev (devDhcpReceive v6 m))

/-- LLDP_TRANSMIT: TTL is four times LLDP_INT, and each address held is named. -/
def devLldpTransmit (d : Device) : Device :=
  if !(d.answers 48 && d.ethLink) then d
  else
    let addrs := (d.ip4.map (fun a => a.zeroExtend 128)).toList ++ [d.linkLocal] ++ d.ip6.toList
    d.ethSend (.lldp d.ethMac (4 * d.fld R.ETH_CFG F.ETH_CFG.LLDP_INT) addrs)

def execLldpTransmit (s : State) : Host.Outcome State Fault Refusal := .next (s.onDev devLldpTransmit)

/-! ### The rate (R503, R505) -/

/-- The four host lanes train again. -/
def Device.retrainHost (d : Device) : Device :=
  (List.finRange 4).foldl (fun d l =>
    if d.hostLanes[l] = .quiet then d else d.setPhase (.host l) .detect) d

/-- RATE written: 0x3 is refused, and a change retrains all four lanes. -/
def Device.setRate (d : Device) (rate : Nat) : Device :=
  if rate = 3 then d.configReject R.ETH_CFG
  else if rate = d.fld R.ETH_CFG F.ETH_CFG.RATE then d
  else
    let d := d.setFld R.ETH_CFG F.ETH_CFG.RATE rate
    (d.setFld R.ETH_STAT F.ETH_STAT.RATE_NOW rate).retrainHost

/-- ETH_RATE_WRITE. -/
def execEthRateWrite (rate : BitVec 2) (s : State) : Host.Outcome State Fault Refusal :=
  .next (s.onDev (fun d => if d.answers 48 then d.setRate rate.toNat else d))

/-! ### Handshakes (R514, R515) -/

/-- The WINDOW the device offers: 0 while messages wait for room in the inbound ring (R513). -/
def Device.mmpWindow (d : Device) : Nat := if d.eth.fwWait.isEmpty then 64 else 0

/-- A SESSION_ID, never 0, that no session or handshake has. -/
def newSession (w : Nat) (used : List Nat) : Nat :=
  (((List.range 8).map (fun k => (w + k) % 2 ^ 32)).find? (fun i => i != 0 && !used.contains i)).getD 1

/-- An HS_INIT payload the device answers: its version, MAXP and reserved bytes, and a host point on the curve. -/
def hsInitOk (p : List (BitVec 8)) : Bool :=
  decide (p.length = 164 ∧ fieldOf p 0 1 = 1 ∧ 1 ≤ fieldOf p 1 1 ∧ fieldOf p 1 1 ≤ 8) && zeroField p 2 2 &&
    p256On (be32 p 36) (be32 p 68)

/-- HS_INIT: the device answers with HS_RESP, at most a hundred times in a second. -/
def sysHsInit (p : List (BitVec 8)) (src : BitVec 48) (y : Sys) : Sys :=
  let d := y.dev
  if !(d.hostReach && d.answers 39 && !d.sec.stopped) then y
  else if !hsInitOk p then { y with dev := d.count R.MMP_AUTH_FAIL F.MMP_AUTH_FAIL.COUNT 1 }
  else
    let (now, d) := d.now
    match withinRate d.eth.hsTimes now with
    | none => { y with dev := d }
    | some ts =>
      let (w, d) := d.fresh
      let (nonce, d) := d.freshBytes 32
      let (k, d) := d.freshBytes 32
      let priv' := bytesNat k % (p256n - 1) + 1
      let eph := (p256Mul 256 priv' (some (p256gx, p256gy))).getD (0, 0)
      let pub := y.nv.fuses.idPub
      let maxp := min (fieldOf p 1 1) (d.fld R.MMP_CFG F.MMP_CFG.MAXP)
      let id := newSession w.toNat (d.eth.hs.map (·.id) ++ (d.eth.sess.map (·.id)).toList)
      let r := natBytes 1 1 ++ natBytes 1 maxp ++ zeros 2 ++ natBytes 4 id ++ nonce ++ beBytes 32 eph.1 ++ beBytes 32 eph.2 ++
        beBytes 32 pub.1 ++ beBytes 32 pub.2
      let th1 := sha256 (p ++ r)
      let (sig, y) := ({ y with dev := d } : Sys).sign (ascii "MIRYS-MMP-HS-1" ++ th1)
      let h : Handshake := {
        id := id
        maxp := maxp
        th1 := th1
        nonces := (p.drop 4).take 32 ++ nonce
        ephPriv := priv'
        ephHost := (p.drop 36).take 64
        hostKey := (p.drop 100).take 64
        window := d.mmpWindow }
      y.onDev (fun d =>
        (d.onEth (fun e => { e with hs := (e.hs.drop (e.hs.length - 3)) ++ [h], hsTimes := ts })).ethSend (.hello 2 id (r ++ sig) src))

def execHsInit (p : List (BitVec 8)) (src : BitVec 48) (s : State) : Host.Outcome State Fault Refusal :=
  .next (s.onSys (sysHsInit p src))

/-- The host's static key hashes to a usable owner slot, or to a usable vendor slot while no owner slot is usable. -/
def FuseFields.hostKeyOk (f : FuseFields) (key : List (BitVec 8)) : Bool :=
  let owners := (List.finRange 8).filter (fun k => decide (4 ≤ k.val) && f.usable k)
  let slots := if owners.isEmpty then (List.finRange 8).filter (fun k => decide (k.val < 4) && f.usable k) else owners
  slots.any (fun k => f.keyHash[k] == digestNum (sha256 key))

/-- TH2 of a handshake. -/
def Handshake.th2 (h : Handshake) : List (BitVec 8) := sha256 (h.th1 ++ natBytes 4 h.id)

/-- SIG_H verifies. -/
def Handshake.sigOk (h : Handshake) (sig : List (BitVec 8)) : Bool :=
  ecdsaVerify (bytesNatBe (sha256 (ascii "MIRYS-MMP-HF-1" ++ h.th2))) (be32 h.hostKey 0) (be32 h.hostKey 32) (be32 sig 0)
    (be32 sig 32)

/-- The 72 bytes of keys and salts. -/
def Handshake.keys (h : Handshake) : List (BitVec 8) :=
  let z := ((p256Mul 256 h.ephPriv (some (be32 h.ephHost 0, be32 h.ephHost 32))).getD (0, 0)).1
  (hkdf h.nonces (beBytes 32 z) (ascii "MIRYS-MMP-K-1" ++ h.th2)).take 72

/-- The session a handshake forms. -/
def Handshake.session (h : Handshake) (window : Nat) (src : BitVec 48) : MmpSession where
  id := h.id
  maxp := h.maxp
  keys := h.keys
  peer := src
  rxAck := 0
  rxWindow := h.window
  rxHeld := []
  txNext := 1
  txTop := window
  unacked := []
  txWait := []
  asnTx := 0
  asnRx := 0
  expiries := 0

/-- HS_FIN: its SESSION_ID, SIG_H and WINDOW, and whether it came later than 1 s after HS_RESP. -/
def devHsFin (id : BitVec 32) (sig : List (BitVec 8)) (window : BitVec 16) (late : Bool) (src : BitVec 48) (d : Device) :
    Device :=
  if !d.hostReach then d
  else match d.eth.hs.find? (fun h => h.id == id.toNat) with
    | none => d.count R.MMP_AUTH_FAIL F.MMP_AUTH_FAIL.COUNT 1
    | some h =>
      if late then
        (d.onEth (fun e => { e with hs := e.hs.filter (fun x => x.id != h.id) })).count
          R.MMP_AUTH_FAIL F.MMP_AUTH_FAIL.COUNT 1
      else if !(d.shadow.hostKeyOk h.hostKey && h.sigOk sig) then d.count R.MMP_AUTH_FAIL F.MMP_AUTH_FAIL.COUNT 1
      else
        let d := d.endSession.onEth (fun e => { e with
          hs := e.hs.filter (fun x => x.id != h.id)
          sess := some (h.session window.toNat src) })
        let d := d.on R.ETH_STAT F.ETH_STAT.HOST
        (d.count R.MMP_SESSIONS F.MMP_SESSIONS.COUNT 1).sendEvents

def execHsFin (id : BitVec 32) (sig : List (BitVec 8)) (window : BitVec 16) (late : Bool) (src : BitVec 48) (s : State) :
    Host.Outcome State Fault Refusal :=
  .next (s.onDev (devHsFin id sig window late src))

/-! ### Acknowledgement (R511–R513) -/

/-- An ACK packet leaves: it offers the WINDOW of the moment. -/
def Device.ackNow (d : Device) : Device :=
  match d.eth.sess with
  | none => d
  | some s =>
    let s := { s with asnTx := s.asnTx + 1, rxWindow := d.mmpWindow }
    (d.setSess (some s)).ethSend (.ack s.id s.asnTx s.rxAck s.rxWindow s.peer)

/-- The host's ACK and WINDOW taken; older ones change nothing. -/
def MmpSession.acked (s : MmpSession) (ack window : Nat) : MmpSession :=
  let old := match s.unacked with
    | [] => s.txNext - 1
    | (psn, _) :: _ => psn - 1
  if ack < old ∨ s.txNext ≤ ack then s
  else { s with
    unacked := s.unacked.filter (fun p => decide (ack < p.1))
    txTop := ack + window
    expiries := if old < ack then 0 else s.expiries }

/-! ### The inbound ring (R521) -/

/-- Bytes of a ring, and of an entry that holds n bytes of message. -/
def ringLen : Nat := 262144
def entryLen (n : Nat) : Nat := (8 + n + 63) / 64 * 64

/-- Where the next entry of n bytes goes, and whether the writer wraps; none where the ring lacks room. -/
def ringPlace (head tail n : Nat) : Option (Nat × Bool) :=
  if head < tail then (if head + n < tail then some (head, false) else none)
  else if head + n < ringLen ∨ (head + n = ringLen ∧ 0 < tail) then some (head, false)
  else if n < tail then some (0, true)
  else none

/-- The address of a ring with this base register; none while its base is 0 or it does not lie in system SRAM. -/
def Device.ringBase (d : Device) (r : Nat) : Option Nat :=
  let b := (d.reg r).toNat * 65536
  if b ≠ 0 ∧ sramRange b ringLen = true then some b else none

/-- A message put into the inbound ring for firmware; none where it must wait. -/
def Device.ringPut (d : Device) (id : Nat) (m : List (BitVec 8)) : Option Device :=
  let head := d.fld R.ETH_RX_HEAD F.ETH_RX_HEAD.OFFSET
  let n := entryLen m.length
  match d.ringBase R.ETH_RX_BASE, ringPlace head (d.fld R.ETH_RX_TAIL F.ETH_RX_TAIL.OFFSET) n with
  | some base, some (at', wraps) =>
    let d := if wraps then d.store (base + head) (natBytes 4 0xFFFFFFFF ++ zeros 4) false else d
    let entry := natBytes 4 m.length ++ natBytes 4 id ++ m
    let d := d.store (base + at') (entry ++ zeros (n - entry.length)) false
    some ((d.setFld R.ETH_RX_HEAD F.ETH_RX_HEAD.OFFSET ((at' + n) % ringLen)).onEth
      (fun e => { e with fwReqs := e.fwReqs ++ [(id, m)] }))
  | _, _ => none

/-- Waiting messages enter the ring while they fit. -/
def Device.ringDrain : Nat → Device → Device
  | 0, d => d
  | n + 1, d =>
    match d.eth.fwWait with
    | [] => d
    | (id, m) :: rest =>
      match d.ringPut id m with
      | none => d
      | some d => Device.ringDrain n (d.onEth (fun e => { e with fwWait := rest }))

/-- The ring has new room: messages that waited enter it, and the window opens again. -/
def Device.ringRoom (d : Device) : Device :=
  let waited := !d.eth.fwWait.isEmpty
  let d := Device.ringDrain d.eth.fwWait.length d
  if waited && d.eth.fwWait.isEmpty then d.ackNow else d

/-- A message for firmware: into the ring, or behind those that wait. In recovery wait the mask ROM takes it at once. -/
def Device.toFirmware (d : Device) (id : Nat) (m : List (BitVec 8)) : Device :=
  if d.boot.phase = .recovery then d.onEth (fun e => { e with fwReqs := e.fwReqs ++ [(id, m)] })
  else
    let d := d.onEth (fun e => { e with fwWait := e.fwWait ++ [(id, m)] })
    Device.ringDrain d.eth.fwWait.length d

/-- ETH_RX_TAIL_WRITE. -/
def devEthRxTailWrite (v : BitVec 18) (d : Device) : Device :=
  if d.answers 48 then (d.setFld R.ETH_RX_TAIL F.ETH_RX_TAIL.OFFSET v.toNat).ringRoom else d

def execEthRxTailWrite (v : BitVec 18) (s : State) : Host.Outcome State Fault Refusal := .next (s.onDev (devEthRxTailWrite v))

/-! ### Messages arriving (R518–R520, R530) -/

def msgKind (m : List (BitVec 8)) : Nat := fieldOf m 0 1
def msgReply (m : List (BitVec 8)) : Bool := bit (fieldOf m 1 1) 0
def msgTag (m : List (BitVec 8)) : Nat := fieldOf m 2 2
def msgBody (m : List (BitVec 8)) : List (BitVec 8) := m.drop 16

/-- The words a READ or WRITE body names. -/
def msgAddrs (b : List (BitVec 8)) : List Nat :=
  (List.range (fieldOf b 4 2)).map (fun i => fieldOf b 0 4 + (if bit (fieldOf b 6 1) 0 then 4 * i else 0))

/-- What is served in recovery wait (R459). -/
def recoveryServes (m : List (BitVec 8)) : Bool :=
  let b := msgBody m
  match msgKind m with
  | 2 => true
  | 3 => decide (1 ≤ fieldOf b 0 1 ∧ fieldOf b 0 1 ≤ 3)
  | 5 => (msgAddrs b).all (fun a => islandOf a == 39)
  | 6 => (msgAddrs b).all (fun a => a == R.UCR_RST_CTL)
  | _ => false

/-- The header, and what of the body tells one request of firmware from another, are as they must be. -/
def msgOk (m : List (BitVec 8)) (maxp : Nat) : Bool :=
  let b := msgBody m
  decide (16 ≤ m.length ∧ m.length ≤ maxp * 1024 ∧ fieldOf m 4 4 + 16 = m.length ∧ fieldOf m 1 1 < 2) && zeroField m 12 4 &&
  match msgKind m with
  | 2 | 4 | 5 | 6 => true
  | 3 => decide (16 ≤ b.length ∧ 1 ≤ fieldOf b 0 1 ∧ fieldOf b 0 1 ≤ 6 ∧ fieldOf b 1 1 < 4) && zeroField b 3 1 && zeroField b 14 2
  | 7 => msgReply m
  | 8 => decide (b.length = 16 ∧ 1 ≤ fieldOf b 0 1 ∧ fieldOf b 0 1 ≤ 5) && zeroField b 1 3
  | _ => false

/-- A message passed on: to the ETH island itself or to firmware, or answered at once. -/
def Device.takeMsg (d : Device) (id maxp : Nat) (m : List (BitVec 8)) : Device :=
  if msgReply m && msgKind m != 7 then d
  else if !msgOk m maxp then d.mmpSend id (replyOf (msgKind m) (msgTag m) mmpBadMsg 0 0 [])
  else if d.boot.phase = .recovery ∧ msgKind m ≠ 7 ∧ recoveryServes m = false then
    d.mmpSend id (replyOf (msgKind m) (msgTag m) mmpUnsupported 0 0 [])
  else match msgKind m with
    | 5 | 6 | 7 => d.onEth (fun e => { e with inbox := e.inbox ++ [(id, m)] })
    | _ => d.toFirmware id m

/-! ### Packets (R509, R511–R513, R516) -/

/-- Packets held that are next in order become messages, in PSN order. -/
def Device.takeHeld : Nat → Device → Device
  | 0, d => d
  | n + 1, d =>
    match d.eth.sess with
    | none => d
    | some s =>
      match s.rxHeld.find? (fun p => p.1 == s.rxAck + 1) with
      | none => d
      | some (psn, m) =>
        if 2 ^ 40 ≤ psn + 1 then d.endSession
        else
          let s := { s with rxAck := psn, rxHeld := s.rxHeld.filter (fun p => p.1 != psn) }
          Device.takeHeld n ((d.setSess (some s)).takeMsg s.id s.maxp m)

/-- A packet of the session in force whose tag verifies: what it acknowledges, and where it came from. -/
def Device.authentic (d : Device) (s : MmpSession) (p : MmpPacket) : Device :=
  d.setSess (some ({ s with peer := p.src }.acked p.ack.toNat p.window.toNat))

/-- What `f` does with an authenticated packet of the session in force; one whose tag fails is counted (R512). -/
def Device.onPacket (d : Device) (p : MmpPacket) (f : MmpSession → Device) : Device :=
  if !d.hostReach then d
  else match d.eth.sess with
    | none => d
    | some s =>
      if s.id ≠ p.session.toNat then d
      else if !p.tagOk then d.count R.MMP_AUTH_FAIL F.MMP_AUTH_FAIL.COUNT 1
      else f s

/-- DATA_PACKET: taken in the window, acknowledged again and dropped as a duplicate, or dropped outside it. -/
def devDataPacket (p : MmpPacket) (d : Device) : Device :=
  d.onPacket p (fun s =>
    let psn := p.psn.toNat
    if s.rxAck + s.rxWindow < psn then d
    else
      let d := d.authentic s p
      if psn ≤ s.rxAck ∨ s.rxHeld.any (fun h => h.1 == psn) = true then d.ackNow.mmpFlow
      else
        let d := d.onEth (fun e => { e with sess := e.sess.map (fun s => { s with rxHeld := s.rxHeld ++ [(psn, p.payload)] }) })
        (Device.takeHeld (s.rxHeld.length + 1) d).ackNow.mmpFlow.sendEvents)

def execDataPacket (p : MmpPacket) (s : State) : Host.Outcome State Fault Refusal := .next (s.onDev (devDataPacket p))

/-- ACK_PACKET: dropped unless its ASN is above the last one accepted. -/
def devAckPacket (p : MmpPacket) (d : Device) : Device :=
  d.onPacket p (fun s =>
    if p.psn.toNat ≤ s.asnRx then d
    else (d.authentic { s with asnRx := p.psn.toNat } p).mmpFlow.sendEvents)

def execAckPacket (p : MmpPacket) (s : State) : Host.Outcome State Fault Refusal := .next (s.onDev (devAckPacket p))

/-- CLOSE_PACKET. -/
def devClosePacket (p : MmpPacket) (d : Device) : Device := d.onPacket p (fun _ => d.endSession)

def execClosePacket (p : MmpPacket) (s : State) : Host.Outcome State Fault Refusal := .next (s.onDev (devClosePacket p))

/-- RTO_EXPIRY: the oldest packet not acknowledged is sent again; the tenth in a row ends the session. -/
def devRtoExpiry (d : Device) : Device :=
  match d.eth.sess with
  | none => d
  | some s =>
    match s.unacked with
    | [] => d
    | (psn, m) :: _ =>
      if 10 ≤ s.expiries + 1 then d.endSession
      else
        let d := d.setSess (some { s with expiries := s.expiries + 1 })
        (d.ethSend (.data s.id psn s.rxAck s.rxWindow m s.peer)).count R.MMP_RETX F.MMP_RETX.COUNT 1

def execRtoExpiry (s : State) : Host.Outcome State Fault Refusal := .next (s.onDev devRtoExpiry)

/-- ACK_KEEPALIVE. -/
def execAckKeepalive (s : State) : Host.Outcome State Fault Refusal := .next (s.onDev Device.ackNow)

/-- T_SESSION_EXPIRY. -/
def execTSessionExpiry (s : State) : Host.Outcome State Fault Refusal :=
  .next (s.onDev (fun d => if d.eth.sess.isSome then d.endSession else d))

/-! ### The outbound ring (R521, R535) -/

/-- A message in memory at a, as it may leave: BULK data with its poisoned lines as zeros, and a POISONED reply in place of
any other message that holds poison. -/
def Device.outMsg (d : Device) (a n : Nat) : MmpOut :=
  let m := memBytes d.mem a n
  let out := { replyOf (msgKind m) (msgTag m) (fieldOf m 8 1) (fieldOf m 9 1) (fieldOf m 10 2) (msgBody m) with
    reply := msgReply m }
  if !d.poisonedRange a n then out
  else if msgKind m = 8 ∧ msgReply m = false then
    let bad (i : Nat) : Bool := d.poisonedRange (a + 48 + 64 * i) (min 64 (n - 48 - 64 * i))
    let lines := (List.range ((n - 48 + 63) / 64)).filter bad
    let mask := natBytes 16 (lines.map (fun i => 2 ^ i)).sum
    let data := ((m.drop 48).zipIdx).map (fun x => if bad (x.2 / 64) then 0#8 else x.1)
    { out with body := (m.drop 16).take 16 ++ mask ++ data }
  else replyOf (msgKind m) (msgTag m) mmpPoisoned 0 0 []

/-- The entries up to HEAD leave the ring. -/
def Device.txDrain (base : Nat) : Nat → Device → Device
  | 0, d => d
  | n + 1, d =>
    let tail := d.fld R.ETH_TX_TAIL F.ETH_TX_TAIL.OFFSET
    let head := d.fld R.ETH_TX_HEAD F.ETH_TX_HEAD.OFFSET
    if tail = head then d
    else
      let len := memNat d.mem (base + tail) 4
      if len = 0xFFFFFFFF then Device.txDrain base n (d.setFld R.ETH_TX_TAIL F.ETH_TX_TAIL.OFFSET 0)
      else if ringLen < tail + entryLen len ∨ d.poisonedRange (base + tail) 8 = true then
        d.setFld R.ETH_TX_TAIL F.ETH_TX_TAIL.OFFSET head
      else
        let out := d.outMsg (base + tail + 8) len
        let id := memNat d.mem (base + tail + 4) 4
        let d := d.setFld R.ETH_TX_TAIL F.ETH_TX_TAIL.OFFSET ((tail + entryLen len) % ringLen)
        Device.txDrain base n (d.mmpSend id out)

/-- HEAD written: the ETH island sends the entries before it. -/
def Device.txHead (d : Device) (v : Nat) : Device :=
  let d := d.setFld R.ETH_TX_HEAD F.ETH_TX_HEAD.OFFSET v
  match d.ringBase R.ETH_TX_BASE with
  | none => d
  | some base => Device.txDrain base (ringLen / 64 + 1) d

/-- ETH_TX_HEAD_WRITE. -/
def execEthTxHeadWrite (v : BitVec 18) (s : State) : Host.Outcome State Fault Refusal :=
  .next (s.onDev (fun d => if d.answers 48 then d.txHead v.toNat else d))

/-! ### Events (R531, R532, R537) -/

/-- ETH_EVT_GO written: the record in ETH_EVT0–11 is queued; DETAIL is its last four words. -/
def Device.evtGo (d : Device) : Device :=
  let w (i : Nat) : Nat := (d.reg (R.ETH_EVT i)).toNat
  (d.raise (w 0 % 65536) (w 0 / 65536 % 256) [w 8, w 9, w 10, w 11]).sendEvents

/-- ETH_EVT_GO. -/
def execEthEvtGo (s : State) : Host.Outcome State Fault Refusal :=
  .next (s.onDev (fun d => if d.answers 48 then d.evtGo else d))

/-- Room has returned to the queue: one EVENTS_LOST record carries the count of those lost. -/
def Device.eventsLost (d : Device) : Device :=
  if d.eth.lostDue = 0 ∨ 4096 ≤ d.eth.events.length then d
  else
    let n := d.eth.lostDue
    (d.onEth (fun e => { e with lostDue := 0 })).raise 0x0104 0xFF [n]

/-- EVENT_ACK: the host's oldest EVENT reply acknowledges every record up to the last of its message. -/
def devEventAck (d : Device) : Device :=
  match d.eth.inbox.find? (fun m => msgKind m.2 == 7) with
  | none => d
  | some (id, m) =>
    let d := d.onEth (fun e => { e with inbox := e.inbox.eraseP (fun m => msgKind m.2 == 7) })
    if !d.sessIs id then d
    else match d.eth.evMsgs.find? (fun x => x.1 == msgTag m) with
      | none => d
      | some (tag, last) =>
        let d := d.onEth (fun e => { e with
          evMsgs := e.evMsgs.filter (fun x => x.1 != tag)
          events := e.events.filter (fun r => decide (last < r.seq)) })
        d.showEvents.eventsLost.sendEvents

def execEventAck (s : State) : Host.Outcome State Fault Refusal := .next (s.onDev devEventAck)

/-- EVENT_RESEND: records sent and not acknowledged are sent again, with RESENT. -/
def execEventResend (s : State) : Host.Outcome State Fault Refusal :=
  .next (s.onDev (fun d => (d.onEth (fun e => { e with events := e.events.map EvRec.unsend })).sendEvents))

/-! ### Relay (R536) -/

/-- RELAY_START: this device's port is down, or the partner's is and this device relays for it. -/
def devRelayStart (mine : Bool) (d : Device) : Device :=
  if !(d.answers 48 && d.twinUp) then d
  else if mine then
    if d.ethLink || d.flag R.ETH_STAT F.ETH_STAT.RELAY_OUT then d
    else (d.on R.ETH_STAT F.ETH_STAT.RELAY_OUT).raise 0x0C02 0xFF []
  else if d.relaysIn then d
  else (d.on R.ETH_STAT F.ETH_STAT.RELAY_IN).raise 0x0C02 0xFF []

def execRelayStart (mine : Bool) (s : State) : Host.Outcome State Fault Refusal := .next (s.onDev (devRelayStart mine))

/-- RELAY_END: the port is back. Its owner announces its addresses. -/
def devRelayEnd (mine : Bool) (d : Device) : Device :=
  if mine then
    if d.ethLink && d.flag R.ETH_STAT F.ETH_STAT.RELAY_OUT then
      ((d.off R.ETH_STAT F.ETH_STAT.RELAY_OUT).ethSend .announce).relayEnded
    else d
  else if d.relaysIn then (d.off R.ETH_STAT F.ETH_STAT.RELAY_IN).relayEnded
  else d

def execRelayEnd (mine : Bool) (s : State) : Host.Outcome State Fault Refusal := .next (s.onDev (devRelayEnd mine))

/-- RELAY_RECORD: a packet of the partner's leaves on this device's port. What the partner relays to this device arrives as
the packets themselves. -/
def devRelayRecord (packet : List (BitVec 8)) (d : Device) : Device :=
  if d.relaysIn && d.ethLink && d.answers 48 then d.ethSend (.relayed packet) else d

def execRelayRecord (packet : List (BitVec 8)) (s : State) : Host.Outcome State Fault Refusal :=
  .next (s.onDev (devRelayRecord packet))

end Sys2Proof.Machine
end

