-- ==== Sys2Proof/Machine/RegRead.lean ====
section
/-! DEFINITION. Reads of the control window (R25, R578–R583): which island holds an address, what each register shows as it is
read, and the capture of a _HI half. -/

namespace Sys2Proof.Machine

/-! ### Places in the window (R578) -/

/-- The 64 KiB window of an address in its block, and the offset in that window. -/
def winOf (a : Nat) : Nat := (a - 0x20000000) % 0x100000 / 0x10000
def offOf (a : Nat) : Nat := a % 0x10000

/-- The windows block b has: those of its engines or channels, and a further one for what they have in common. A block with a
single set is held whole in its island. -/
def windowExists (b w : Nat) : Bool :=
  match b with
  | 1 => decide (w < 9)
  | 2 => decide (w < 2) || w == 8
  | 3 => decide (w < 13)
  | 4 => decide (w < 12)
  | 9 => decide (w < 8)
  | 11 => true
  | 12 => decide (w < 13)
  | _ => true

/-- The block has one window only. -/
def singleSet (b : Nat) : Bool := [0, 5, 6, 7, 8, 10, 13].contains b

/-- The island that answers an access to an address of a defined block; none between the windows of a block. -/
def islandAt (a : Nat) : Option Nat :=
  let b := blockOf a
  if !windowExists b (winOf a) then none
  else if singleSet b && winOf a != 0 then some (islandOf (0x20000000 + 0x100000 * b))
  else some (islandOf a)

/-- The engine whose register set an address lies in. -/
def engAt (a : Nat) : Option Eng :=
  let w := winOf a
  if 0x5000 ≤ offOf a then none
  else match blockOf a with
    | 1 => if h : w < 9 then some (.seq ⟨w, h⟩) else none
    | 2 => if h : w < 2 then some (.cool ⟨w, h⟩) else none
    | 4 => if h : w < 12 then some (.bus ⟨w, h⟩) else none
    | 9 => if h : w < 8 then some (.wit ⟨w, h⟩) else none
    | 12 => if h : w < 12 then some (.gc ⟨w, h⟩) else none
    | _ => none

/-! ### Split values (R583) -/

/-- The bases of the registers named _LO; the matching _HI register is the next word. -/
def loBases : List Nat :=
  [0x2090800C, 0x20908044, 0x2090804C, 0x20908A00, 0x20708004, 0x2070800C, 0x20708020, 0x20708044, 0x20708108, 0x20B00024,
   0x20B00040, 0x20B01004, 0x20B01010, 0x20B01018, 0x20B0102C, 0x20185414, 0x20600080, 0x20600108, 0x2070A000, 0x20800008,
   0x20800048]

/-- A register is a _LO half. -/
def isLo (a : Nat) : Bool :=
  match regRowAt a with
  | none => false
  | some r => loBases.contains r.base

/-- A register is the _LO half of a value that software writes. -/
def isLoRw (a : Nat) : Bool := isLo a && (fieldsAt a).any (fun f => f.access.settable)

/-- An access by an initiator to an island discards what it had captured there. -/
def Device.dropCaptured (d : Device) (i : Initiator) (isl : Nat) : Device :=
  { d with hiCaptured := d.hiCaptured.filter (fun e => !(e.1 == i && islandOf e.2.1 == isl)) }

/-- The _HI half captured for an initiator's next read of the register at a. -/
def Device.captured (d : Device) (i : Initiator) (a : Nat) : Option (BitVec 32) :=
  (d.hiCaptured.find? (fun e => e.1 == i && e.2.1 + 4 == a)).map (·.2.2)

/-! ### What a register shows -/

/-- A field shown as a free value: a line or a measurement that no command gives (assumption log 2). -/
def withFree (f : Fld) (r : BitVec 32 × Device) : BitVec 32 × Device :=
  let (x, d) := r.2.fresh
  (f.put r.1 x.toNat, d)

/-- A field shown as a value formed on the read. -/
def withFld (f : Fld) (x : Nat) (r : BitVec 32 × Device) : BitVec 32 × Device := (f.put r.1 x, r.2)

/-- A register of an engine's set (R129, R133, R137). -/
def Device.readEng (d : Device) (e : Eng) (a : Nat) : BitVec 32 × Device :=
  let q := offOf a
  let c := d.eng e
  if q = 0x04 then withFld F.ENG_STATUS.TOFF_RUNNING (natOf c.toff) (d.reg a, d)
  else if q = 0x14 then d.mboxOut e
  else if q = 0x18 then
    withFld F.ENG_MBOX_STATUS.IN_SPACE (16 - c.mboxIn.length) (withFld F.ENG_MBOX_STATUS.OUT_CNT c.mboxOut.length (d.reg a, d))
  else if 0x100 ≤ q ∧ q < 0x400 ∧ d.varCount e ≤ (q - 0x100) / 4 then (0#32, d)
  else (d.reg a, d)

/-- A register of a sequencer window past the engine set, or a tray register (R365–R367). -/
def Device.readSeq (d : Device) (a : Nat) : BitVec 32 × Device :=
  if a = R.TR_STAT then
    let r := withFree F.TR_STAT.KILL_LINE (withFree F.TR_STAT.BTN (d.reg a, d))
    let r := if d.tray.killOut then withFld F.TR_STAT.KILL_LINE 1 r else r
    withFld F.TR_STAT.SEATED (natOf d.pins.seatedSeen) r
  else if a = R.SQ_BAYSIG (winOf a) ∧ winOf a < 8 then withFree F.SQ_BAYSIG.LINES (d.reg a, d)
  else (d.reg a, d)

/-- A register of a direct-drive or auxiliary channel (R404). -/
def Device.readMot (d : Device) (a : Nat) : BitVec 32 × Device :=
  let c := winOf a
  if c = 12 then
    if (List.range 8).any (fun n => a == R.AX_STAT n) then withFree F.AX_STAT.RPM (d.reg a, d) else (d.reg a, d)
  else if a = R.MOT_STAT c then withFree F.MOT_STAT.RPM (withFree F.MOT_STAT.LIMITED (d.reg a, d))
  else if a = R.MOT_PWR c then withFree F.MOT_PWR.P_OUT (withFree F.MOT_PWR.I_PEAK (d.reg a, d))
  else (d.reg a, d)

/-- A register of a bus (R433). -/
def Device.readBus (d : Device) (a : Nat) : BitVec 32 × Device :=
  if h : winOf a < 12 then
    let m : Fin 12 := ⟨winOf a, h⟩
    if a = R.BUS_STAT m.val then
      let r := withFree F.BUS_STAT.ALERT (withFree F.BUS_STAT.SDA (withFree F.BUS_STAT.SCL (d.reg a, d)))
      let r := if (d.bus m).alert then withFld F.BUS_STAT.ALERT 1 r else r
      withFld F.BUS_STAT.UNPOWERED (natOf (d.unpowered m)) r
    else (d.reg a, d)
  else (d.reg a, d)

/-- A register of the witness block past the engine set (R185, R227). -/
def Device.readWit (d : Device) (a : Nat) : BitVec 32 × Device :=
  if h : winOf a < 8 then
    let b : Bay := ⟨winOf a, h⟩
    let w := d.wit b
    let q := offOf a
    let word (l : List (List (BitVec 8))) (k : Nat) : BitVec 32 := BitVec.ofNat 32 (fieldOf (l.headD []) (4 * k) 4)
    if a = R.WITL_CREDIT b.val then
      let k := d.link b
      withFld F.WITL_CREDIT.DATA_OUT (k.used.2.1 - k.returned.2.1) (withFld F.WITL_CREDIT.DEV_HELD k.devHeld (d.reg a, d))
    else if 0x8200 ≤ q ∧ q < 0x8220 then (word w.ledger ((q - 0x8200) / 4), d)
    else if a = R.WIT_LEDGER_CNT b.val then (BitVec.ofNat 32 w.ledger.length, d)
    else if 0x8240 ≤ q ∧ q < 0x8250 then (word w.events ((q - 0x8240) / 4), d)
    else if a = R.WIT_EVENT_CNT b.val then (BitVec.ofNat 32 w.events.length, d)
    else (d.reg a, d)
  else (d.reg a, d)

/-- A register of a memory controller (R324). -/
def Device.readMc (d : Device) (a : Nat) : BitVec 32 × Device :=
  if h : winOf a < 16 then
    let c := d.mcs[winOf a]
    if a = R.TRW_DQ_STAT (winOf a) then
      withFld F.TRW_DQ_STAT.BUSY (natOf c.running.isSome) (withFld F.TRW_DQ_STAT.PENDING c.queue.length (d.reg a, d))
    else (d.reg a, d)
  else (d.reg a, d)

/-- A 64-bit time read from its _LO register (R272, R531). -/
def Device.readWide (d : Device) (a : Nat) : Option (Nat × Device) :=
  if a = R.FS_FT_LO ∨ a = R.FS_FT_HI then some d.readFt
  else if a = R.MMP_WALL_LO ∨ a = R.MMP_WALL_HI then some d.wallTime
  else none

/-- Software reads a WO field as zero (R6). -/
def hideWo (a : Nat) (v : BitVec 32) : BitVec 32 :=
  (fieldsAt a).foldl (fun w f => if f.access = .wo then f.fld.put w 0 else w) v

/-- The word a read of a register returns, but for the two times. -/
def Sys.show (y : Sys) (a : Nat) : BitVec 32 × Sys :=
  let d := y.dev
  let put (r : BitVec 32 × Device) : BitVec 32 × Sys := (hideWo a r.1, { y with dev := r.2 })
  match engAt a with
  | some e => put (d.readEng e a)
  | none => match blockOf a with
    | 1 => put (d.readSeq a)
    | 3 => put (d.readMot a)
    | 4 => put (d.readBus a)
    | 5 => put (if a = R.IO_GPIO_IN then withFree F.IO_GPIO_IN.LEVEL (d.reg a, d) else (d.reg a, d))
    | 6 =>
      if a = R.SEC_UPD_BLOCK then put (F.SEC_UPD_BLOCK.BLOCK.put 0#32 y.updBlock, d)
      else if a = R.SEC_TRIAL then
        let (x, d1) := d.fresh
        let t := d.fld a F.SEC_TRIAL.T_TRIAL
        put (withFld F.SEC_TRIAL.LEFT (if d.boot.trialOn then x.toNat % (t + 1) else 0) (d.reg a, d1))
      else put (d.reg a, d)
    | 9 => put (d.readWit a)
    | 11 => put (d.readMc a)
    | _ => put (d.reg a, d)

/-- A read by an initiator of a register its island answers for: the captured half, or the register's word with its _HI half
captured (R583). -/
def Sys.readReg (i : Initiator) (a isl : Nat) (y : Sys) : BitVec 32 × Sys :=
  let hit := y.dev.captured i a
  let y := y.onDev (·.dropCaptured i isl)
  match hit with
  | some v => (v, y)
  | none =>
    let keep (h : BitVec 32) (y : Sys) : Sys :=
      y.onDev (fun d => { d with hiCaptured := d.hiCaptured ++ [(i, a, h)] })
    match y.dev.readWide a with
    | some (t, d) =>
      let y : Sys := { y with dev := d }
      let h := BitVec.ofNat 32 (t / 2 ^ 32)
      if isLo a then (BitVec.ofNat 32 t, keep h y) else (h, y)
    | none =>
      let (v, y) := y.show a
      if isLo a then (v, keep (y.dev.reg (a + 4)) y) else (v, y)

/-- A read of a control-window register; none where it ends with an error response (R25, R578, R580). -/
def Sys.regRead (i : Initiator) (a : Nat) (y : Sys) : Option (BitVec 32) × Sys :=
  if 14 ≤ blockOf a then (none, y)
  else match islandAt a with
    | none => (some 0#32, y)
    | some isl =>
      if !y.dev.answers isl then (none, y)
      else
        let (v, y) := y.readReg i a isl
        (some v, y)

end Sys2Proof.Machine
end

