-- ==== Sys2Proof/Machine/Twin.lean ====
section
/-! DEFINITION. The pair (R184, R539–R575): heartbeats, joining, the lead's STEPs on the shadow, the mirror, verdicts, seal
notes, requests, takeover, SWAP and STAND_ASIDE. -/

namespace Sys2Proof.Machine

/-! ### TWIN_STATUS -/

/-- A flag of TWIN_STATUS. -/
def Device.twinFlag (d : Device) (f : Fld) : Bool := d.flag R.TWIN_STATUS f

/-- The device is one of a pair. -/
def Device.inPair (d : Device) : Bool := d.twinFlag F.TWIN_STATUS.PAIR_MODE

/-- JOINED. -/
def Device.joined (d : Device) : Bool := d.twinFlag F.TWIN_STATUS.JOINED

/-- STAND_ASIDE. -/
def Device.aside (d : Device) : Bool := d.flag R.TWIN_CTL F.TWIN_CTL.STAND_ASIDE

/-- ROLE set; a change is an event, and the cap and the overrides follow it (R540, R557, R564). -/
def Device.setRole (d : Device) (r : Nat) : Device :=
  if d.role = r then d
  else
    let d := (d.setFld R.TWIN_STATUS F.TWIN_STATUS.ROLE r).on R.TWIN_EVENT F.TWIN_EVENT.ROLE_CHANGE
    let d := if r = 3 then d.count R.TWIN_TAKEOVER_CNT F.TWIN_TAKEOVER_CNT.COUNT 1 else d
    let d := if r = 1 then d else d.off R.TWIN_STATUS F.TWIN_STATUS.SOLO
    d.refreshCool

/-- The device is healthy: gate open, MODE NORMAL or TRIAL, READY set (R541). -/
def Device.healthy (d : Device) : Bool :=
  d.gateOpen && decide (d.fld R.SEC_BOOT_STATUS F.SEC_BOOT_STATUS.MODE ≤ 1) && d.flag R.UCR_FW_READY F.UCR_FW_READY.READY

/-- The TWIN island runs. -/
def Device.twinRuns (d : Device) : Bool := d.answers 71 && d.inPair

/-! ### Heartbeats (R547, R548) -/

/-- Bits as a number, bit 0 first. -/
def bitsNat (l : List Bool) : Nat := l.foldr (fun b n => natOf b + 2 * n) 0

/-- Direct-drive channels stopped by a WET response of this device (R397). -/
def Device.pumpStops (d : Device) : Nat :=
  ((List.range 12).filter (fun c => (List.range 8).any (fun l =>
    d.flag (R.CL_LK_STAT l) F.CL_LK_STAT.LATCHED && d.maskBit (R.CL_LK_A l) F.CL_LK_A.PUMPS c))).map (2 ^ ·) |>.sum

/-- The heartbeat this device sends. -/
def Device.heartbeat (d : Device) : TwinTx :=
  let state := d.role + 4 * natOf d.joined + 8 * natOf d.healthy + 16 * natOf (d.twinFlag F.TWIN_STATUS.SOLO) +
    32 * natOf d.aside
  let m (f : Fld) : Bool := d.flag R.CL_MODE f
  let cool := bitsNat [m F.CL_MODE.FANS_PROVEN, m F.CL_MODE.FAIL_OVR, m F.CL_MODE.LEAK_OVR, m F.CL_MODE.FAULT_OVR,
    m F.CL_MODE.SAFE_HOT]
  let t (f : Fld) : Bool := d.flag R.TR_STAT f
  let power := bitsNat [t F.TR_STAT.VIN_LOW, t F.TR_STAT.FORCING, t F.TR_STAT.HOLD_OK]
  .hb state cool power d.actState d.pumpStops (if d.role = 2 then d.twin.leadFs else d.fs.nextSeq - 1)

/-- HB_SEND: in a pair, with the gate open and STAND_ASIDE 0, a heartbeat goes out and TWIN_HB_OUT toggles. -/
def devHbSend (d : Device) : Device :=
  if d.twinRuns && d.gateOpen && !d.aside then
    let d := d.twinSend d.heartbeat
    { d with twin := { d.twin with hbOut := !d.twin.hbOut } }
  else d

def execHbSend (s : State) : Host.Outcome State Fault Refusal := .next (s.onDev devHbSend)

/-! ### Joining (R541) -/

/-- The sequencers of a device that becomes SHADOW are in FOLLOW: their programs do not run, and nothing is lost (R551). -/
def Device.followAll (d : Device) : Device :=
  seqIds.foldl (fun d i =>
    let e : Eng := .seq i
    if d.engIdle e then d.setPend e false else (d.engOff e false).setPend e false) d

/-- The device joins in a role. -/
def Device.join (d : Device) (r : Nat) : Device :=
  let d := (d.setRole r).on R.TWIN_STATUS F.TWIN_STATUS.JOINED
  if r = 2 then d.followAll else seqIds.foldl Device.seqTryPend d

/-- This device takes the place of the lower PAIR_ID. -/
def Device.isLower (d : Device) (h : Heartbeat) : Bool :=
  let mine := d.twinFlag F.TWIN_STATUS.PAIR_ID
  if mine = h.pairId then
    let x := bytesNatBe ((List.range 8).flatMap (fun i => natBytes 4 (d.reg (R.SEC_ID_PUB_X i)).toNat))
    decide (x < h.pubX.toNat)
  else !mine

/-- An unjoined device hears an unjoined partner: the healthy one of lower PAIR_ID leads. -/
def Device.joinBoth (d : Device) (h : Heartbeat) : Device :=
  let d := if d.twinFlag F.TWIN_STATUS.PAIR_ID = h.pairId then d.on R.TWIN_EVENT F.TWIN_EVENT.ID_CLASH else d
  let lower := d.isLower h
  if (lower && d.healthy) || (!lower && d.healthy && !h.healthy) then d.join 1
  else if h.healthy then d.join 2
  else d

/-- Every sequencer stands where a join may begin (R574). -/
def Device.joinReady (d : Device) : Bool :=
  seqIds.all (fun i => (d.pwr i == 0 || d.pwr i == 2 || d.pwr i == 4) && !d.twin.takeover[i])

/-! ### Takeover (R565) -/

/-- A sequencer of a shadow that becomes ORPHAN starts from its mirrored PWR. -/
def Device.takeOver (d : Device) (i : Fin 9) : Device :=
  let p := d.pwr i
  if p = 0 ∨ p = 4 then d
  else
    let d := d.setFld (R.ENG_CTL (Eng.seq i).win) F.ENG_CTL.ENTRY (natOf (p == 3))
    let d := if i = 8 ∧ p = 2 then d.setPwr 8 1 else d
    let d := match bayOf i with
      | none => d
      | some b => { d with golds := vset d.golds b { d.golds[b] with pass := true } }
    ((d.setTakeover i true).setPend (.seq i) true).seqTryPend i

/-- The off lines a shadow asserted alone are released as it becomes ORPHAN (R555). -/
def Device.dropLines (d : Device) : Device :=
  if d.tray.forced then d
  else
    let d := seqIds.foldl (fun d i => if i = 8 then d else d.setSeq i { d.seqs[i] with hwOff := false }) d
    { d with tray := { d.tray with killOut := false }, twin := { d.twin with offReqs := [] } }

/-- A shadow becomes ORPHAN. -/
def Device.survive (d : Device) : Device :=
  let d := d.dropLines.setRole 3
  bays.foldl (fun d b => d.takeOver (seqOf b)) (d.takeOver 8)

/-! ### STEPs (R552, R553) -/

/-- The sequencer's program waits for an ACK. -/
def Device.stepHeld (d : Device) (i : Fin 9) : Bool := (d.eng (.seq i)).hold == .step

/-- Its port write completes. -/
def Device.stepFree (d : Device) (i : Fin 9) : Device :=
  if d.stepHeld i then d.setEng (.seq i) { d.eng (.seq i) with hold := .none } else d

/-- A change of enables or outputs made on this device. -/
def Device.applyChange (d : Device) (i : Fin 9) : SeqChange → Device
  | .en v => d.setEnables i v
  | .out v => d.setBayOut i (v % 16)
  | .pwr v => d.setPwr i (v % 8)

/-- A held write takes effect, unless its program has ended, and its instruction completes. -/
def Device.stepDone (d : Device) (p : StepPend) : Device :=
  if p.held && d.stepHeld p.seq then (d.applyChange p.seq p.change).stepFree p.seq else d

/-- The STEP with an identifier, and the rest. -/
def TwinCtx.takeStep (t : TwinCtx) (id : Nat) : Option StepPend × TwinCtx :=
  (t.steps.find? (fun p => p.id == id), { t with steps := t.steps.filter (fun p => p.id != id) })

/-- STEP_ACK. -/
def devStepAck (id : Nat) (d : Device) : Device :=
  match d.twin.takeStep id with
  | (none, _) => d
  | (some p, t) => ({ d with twin := t } : Device).stepDone p

def execStepAck (id : Nat) (s : State) : Host.Outcome State Fault Refusal := .next (s.onDev (devStepAck id))

/-- A change goes toward the reset state: every bit it changes ends at its reset value. -/
def Device.towardReset (d : Device) (i : Fin 9) : SeqChange → Bool
  | .en v => (v &&& chanMask i) &&& (v ^^^ d.railEn i) == 0
  | .out v => (v ^^^ d.bayOut i) &&& ((v % 16) ^^^ 0x0B) == 0
  | .pwr _ => true

/-- The off line of a sequencer whose STEP the shadow has not acknowledged. -/
def Device.assertOff (d : Device) (i : Fin 9) : Device :=
  if i = 8 then { d with tray := { d.tray with killOut := true } }
  else if d.seqs[i].hwOff then d
  else d.setLines i { d.seqs[i] with hwOff := true }

/-- What an unacknowledged STEP does (R553). -/
def Device.stepLost (d : Device) (p : StepPend) : Device :=
  let d := (d.on R.TWIN_EVENT F.TWIN_EVENT.ACK_LOST).count R.TWIN_ACK_LOST_CNT F.TWIN_ACK_LOST_CNT.COUNT 1
  if !p.held then d.assertOff p.seq
  else if d.towardReset p.seq p.change then (d.stepDone p).assertOff p.seq
  else (d.stepFree p.seq).seqDown p.seq 9

/-- STEP_ACK_TIMEOUT. -/
def devStepAckTimeout (id : Nat) (d : Device) : Device :=
  match d.twin.takeStep id with
  | (none, _) => d
  | (some p, t) => ({ d with twin := t } : Device).stepLost p

def execStepAckTimeout (id : Nat) (s : State) : Host.Outcome State Fault Refusal :=
  .next (s.onDev (devStepAckTimeout id))

/-- A shadow takes a sequencer's PWR from the lead: OFF starts T_off_min and releases the lines it held (R555, R565). -/
def Device.mirrorPwr (d : Device) (i : Fin 9) (v : Nat) : Device :=
  let was := d.pwr i
  let d := d.setPwr i v
  let d := if v = 3 ∨ v = 0 then { d with twin := { d.twin with offReqs := d.twin.offReqs.filter (· != i) } } else d
  if v = 0 then
    let d := d.setSeq i SeqCtx.reset
    let d := if i = 8 then { d with tray := { d.tray with killOut := false } } else d
    if was = 0 then d else d.toffStart (.seq i)
  else d

/-- STEP_RECORD: a joined shadow applies the STEP and returns ACK; a PWR change needs none (R551, R552). -/
def devStepRecord (id : Nat) (i : Fin 9) (c : SeqChange) (d : Device) : Device :=
  if !d.twinRuns || d.role != 2 || !d.joined then d
  else match c with
    | .pwr v => d.mirrorPwr i (v % 8)
    | c => (d.applyChange i c).twinSend (.ack id)

def execStepRecord (id : Nat) (i : Fin 9) (c : SeqChange) (s : State) : Host.Outcome State Fault Refusal :=
  .next (s.onDev (devStepRecord id i c))

/-! ### Losing the partner (R548, R549, R574) -/

/-- A suspension ends with the partner. -/
def Device.endSuspension (d : Device) : Device := if d.twinFlag F.TWIN_STATUS.SUSPENDED then d.unsuspend else d

/-- A pair's activation that still waits for its partner ends as refused by it. -/
def Device.actPartnerGone (d : Device) : Device :=
  let st := d.actState
  if d.boot.act.pair ∧ (st = 1 ∨ st = 2) then (d.goRefused 0x32).off R.SEC_ACT_STAT F.SEC_ACT_STAT.QUIESCE_REQ else d

/-- Roles after the partner is lost: a LEAD goes on alone and its held writes take effect; a joined SHADOW takes over. -/
def Device.partnerLost (d : Device) : Device :=
  let d := (d.on R.TWIN_EVENT F.TWIN_EVENT.PARTNER_LOST).off R.TWIN_STATUS F.TWIN_STATUS.PARTNER_JOINED
  let d := d.endSuspension.actPartnerGone
  if d.role = 1 then
    let steps := d.twin.steps
    let d := ({ d with twin := { d.twin with steps := [] } } : Device).setRole 3
    seqIds.foldl Device.seqTryPend (steps.foldl Device.stepDone d)
  else if d.role = 2 ∧ d.joined = true then d.survive
  else d

/-- PARTNER_LOST: both paths have been down for 2 ms. -/
def devPartnerLost (d : Device) : Device := if d.twinRuns && !d.heard then d.partnerLost else d

def execPartnerLost (s : State) : Host.Outcome State Fault Refusal := .next (s.onDev devPartnerLost)

/-- JOIN_TIMEOUT: an unjoined device that has heard nothing becomes ORPHAN (R541). -/
def devJoinTimeout (d : Device) : Device :=
  if d.twinRuns && d.gateOpen && !d.joined && !d.aside && !d.heard then d.join 3 else d

def execJoinTimeout (s : State) : Host.Outcome State Fault Refusal := .next (s.onDev devJoinTimeout)

/-- The shadow acts alone on an off request the lead has not taken (R555). -/
def Device.actAlone (d : Device) (i : Fin 9) : Device :=
  let d := { d with twin := { d.twin with offReqs := d.twin.offReqs.filter (· != i) } }
  if i = 8 then { d with tray := { d.tray with killOut := true } } else d.setSeq i { d.seqs[i] with hwOff := true }

/-- TWIN_LINK_DOWN: the link path goes down. A shadow's requests act alone, and a VIN_LOW that waited acts at once (R555,
R556). -/
def devTwinLinkDown (d : Device) : Device :=
  if !d.twinRuns || !d.twinUp then d
  else
    let d := (d.off R.TWIN_STATUS F.TWIN_STATUS.LINK).relayLost
    let d := if d.twinFlag F.TWIN_STATUS.PIN then d.on R.TWIN_EVENT F.TWIN_EVENT.TWIN_DOWN else d
    let d := if d.role = 2 then d.twin.offReqs.foldl Device.actAlone d else d
    let d := if d.tray.vinWait then ({ d with tray := { d.tray with vinWait := false } } : Device).forceOff .vinLow else d
    d.refreshCool

def execTwinLinkDown (s : State) : Host.Outcome State Fault Refusal := .next (s.onDev devTwinLinkDown)

/-- HB_PIN_EDGE: TWIN_HB_IN has changed; a line whose bank is not good is not seen (R599). -/
def devHbPinEdge (d : Device) : Device :=
  if d.twinRuns && d.pins.vio[(4 : Fin 8)] then d.on R.TWIN_STATUS F.TWIN_STATUS.PIN else d

def execHbPinEdge (s : State) : Host.Outcome State Fault Refusal := .next (s.onDev devHbPinEdge)

/-- PIN_PATH_LOSS: SOLO needs the pin path. -/
def devPinPathLoss (d : Device) : Device := (d.off R.TWIN_STATUS F.TWIN_STATUS.PIN).off R.TWIN_STATUS F.TWIN_STATUS.SOLO

def execPinPathLoss (s : State) : Host.Outcome State Fault Refusal := .next (s.onDev devPinPathLoss)

/-- SOLO_START: a lead whose link has been down for T_solo while the pin path is up (R561). -/
def devSoloStart (d : Device) : Device :=
  if d.twinRuns && d.role == 1 && !d.twinUp && d.twinFlag F.TWIN_STATUS.PIN && !d.twinFlag F.TWIN_STATUS.SOLO then
    (d.on R.TWIN_STATUS F.TWIN_STATUS.SOLO).on R.TWIN_EVENT F.TWIN_EVENT.SOLO_SEAL
  else d

def execSoloStart (s : State) : Host.Outcome State Fault Refusal := .next (s.onDev devSoloStart)

/-! ### The partner's heartbeat (R541, R542, R556, R559, R563) -/

/-- What a heartbeat shows, kept, and the link path up. -/
def Device.showPartner (d : Device) (h : Heartbeat) : Device :=
  let up := d.twinUp
  let was := d.twinFlag F.TWIN_STATUS.PARTNER_JOINED
  let d := (d.on R.TWIN_STATUS F.TWIN_STATUS.LINK).off R.TWIN_STATUS F.TWIN_STATUS.SOLO
  let d := if up then d else d.on R.TWIN_EVENT F.TWIN_EVENT.TWIN_UP
  let d := d.setFld R.TWIN_STATUS F.TWIN_STATUS.PARTNER_ROLE h.role.toNat
  let d := d.setFld R.TWIN_STATUS F.TWIN_STATUS.PARTNER_JOINED (natOf h.joined)
  let d := if h.joined && !was then d.on R.TWIN_EVENT F.TWIN_EVENT.PARTNER_JOINED else d
  let st := h.role.toNat + 4 * natOf h.joined + 8 * natOf h.healthy + 16 * natOf h.solo + 32 * natOf h.aside
  let d := { d with twin := { d.twin with
      partner := (st, h.cool.toNat, h.power.toNat, h.act.toNat, h.pumpStop.toNat, h.lastFs.toNat) } }
  d.refreshCool

/-- Roles and joining as a heartbeat comes (R541, R542). -/
def Device.rolesOnHb (d : Device) (h : Heartbeat) : Device :=
  if d.aside || h.aside then d
  else if !d.joined then
    if !d.gateOpen || h.joined then d else d.joinBoth h
  else if !h.joined then
    if (d.role == 1 || d.role == 3) && d.joinReady then d.twinSend (.mirror false) else d
  else if d.role = 3 ∧ h.role = 2#2 then seqIds.foldl Device.seqTryPend (d.setRole 1)
  else if d.role = 2 ∧ h.role = 1#2 ∧ d.twinFlag F.TWIN_STATUS.SUSPENDED = true ∧ d.activating = false then
    d.off R.TWIN_STATUS F.TWIN_STATUS.SUSPENDED
  else d

/-- The lead sends the Flowstone records its shadow lacks (R563). -/
def Sys.sendMissing (y : Sys) (lastFs : Nat) : Sys :=
  if y.dev.role ≠ 1 then y
  else y.onDev (fun d =>
    let recs := y.nv.fsLog.filterMap (·.record) ++ d.fs.journal.map (·.2)
    (recs.filter (fun r => decide (lastFs < r.seq))).foldl (fun d r => d.twinSend (.fsRecord r.bytes)) d)

/-- HB_RECEIVE. -/
def sysHbReceive (h : Heartbeat) (y : Sys) : Sys :=
  if !y.dev.twinRuns then y
  else
    let y := y.onDev (fun d =>
      let d := d.showPartner h
      let d := if d.tray.vinWait && h.power.getLsbD 0 then
          ({ d with tray := { d.tray with vinWait := false } } : Device).forceOff .vinLow else d
      let d := d.rolesOnHb h
      if d.role = 1 then seqIds.foldl Device.seqTryPend d else d)
    if h.joined && decide (h.lastFs.toNat + 1 < y.dev.fs.nextSeq) then y.sendMissing h.lastFs.toNat else y

def execHbReceive (h : Heartbeat) (s : State) : Host.Outcome State Fault Refusal := .next (s.onSys (sysHbReceive h))

/-- VIN_CONFIRM_TIMEOUT: the partner does not show VIN_LOW; the record is written and no output changes (R556). -/
def devVinConfirmTimeout (d : Device) : Device :=
  if !d.tray.vinWait then d
  else
    let d := ({ d with tray := { d.tray with vinWait := false } } : Device).holdupNow 1
    d.on R.TWIN_EVENT F.TWIN_EVENT.VIN_DISAGREE

def execVinConfirmTimeout (s : State) : Host.Outcome State Fault Refusal := .next (s.onDev devVinConfirmTimeout)

/-! ### The mirror (R551, R560, R567) -/

/-- A sequencer set to its mirrored values. -/
def Device.takeSeq (d : Device) (m : MirrorSeq) : Device :=
  ((d.setEnables m.seq m.en.toNat).setBayOut m.seq m.out.toNat).mirrorPwr m.seq m.pwr.toNat

/-- Steps from one to another, at most eight. -/
def stepsFrom (a b : Nat) : List Nat := (List.range (min 8 ((b + 2 ^ 48 + 1 - a) % 2 ^ 48))).map (fun i => (a + i) % 2 ^ 48)

/-- A bay's epoch, sealed steps and values replaced by the mirrored ones; the steps opened before this device joined are
UNSEEN (R561, R567). -/
def Device.takeWit (d : Device) (m : MirrorWit) : Device :=
  let b := m.bay
  let same := d.epoch b == m.epoch.toNat
  let d := d.setFld (R.WITL_STATUS b.val) F.WITL_STATUS.EPOCH m.epoch.toNat
  let d := if d.session b = 3 ∧ m.epoch ≠ 0 then d.setSession b 4 else d
  let d := d.setFld (R.WIT_SEALED_HI b.val) F.WIT_SEALED_HI.VALID (natOf m.sealedTo.isSome)
  let d := match m.sealedTo with
    | none => d
    | some s => d.setStep48 (R.WIT_SEALED_LO b.val) (R.WIT_SEALED_HI b.val) F.WIT_SEALED_HI.STEP s.toNat
  let d := match m.openedTo with
    | none => d
    | some s => d.setStep48 (R.WIT_OPENED_LO b.val) (R.WIT_OPENED_HI b.val) F.WIT_OPENED_HI.STEP s.toNat
  let w := d.wit b
  let above (s : Nat) : Bool := match m.sealedTo with
    | none => true
    | some x => decide (x.toNat < s)
  let steps := if same then w.steps.filter (fun s => above s.step) else []
  let d := d.setWit b { w with
    firstStep := m.first.toNat
    epochSeed := m.seed
    seals := m.seeds.map (fun p => (p.1.toNat, p.2))
    opened := m.openedTo.isSome
    job := m.job.toNat
    sent := (m.mode.toNat, m.lag.toNat, m.shift.toNat)
    steps := steps }
  match m.openedTo with
  | none => d
  | some o =>
    let missing := (stepsFrom (d.nextSeal b) o.toNat).filter (fun s => !steps.any (fun x => x.step == s))
    missing.foldl (fun d s => d.twinSend (.verdict b.val 2 0 0xFF m.epoch.toNat s 0)) d

/-- A register a MIRROR's settings may set: one of the Undercoat or of a witness engine. -/
def mirrorable (a : Nat) : Bool := (regRowAt a).isSome && (decide (islandOf a ≤ 38) || decide (61 ≤ islandOf a ∧ islandOf a ≤ 68))

/-- The mirrored state taken. -/
def Device.takeMirror (d : Device) (m : Mirror) : Device :=
  let d := m.settings.foldl (fun d p => if mirrorable p.1.toNat then d.setReg p.1.toNat p.2 else d) d
  let d := m.seqs.foldl Device.takeSeq d
  (m.wits.foldl Device.takeWit d).refreshCool

/-- MIRROR_RECORD: an unjoined device that hears a joined partner takes the snapshot and joins as SHADOW; a SHADOW takes what
has changed, and in a SWAP the lead (R541, R542). -/
def devMirrorRecord (m : Mirror) (d : Device) : Device :=
  if !d.twinRuns || d.role != 2 then d
  else if d.joined then
    let d := d.takeMirror m
    if m.swap then
      let d := d.dropLines.setRole 1
      bays.foldl (fun d b => d.takeOver (seqOf b)) (d.takeOver 8)
    else d
  else if m.whole && d.gateOpen && !d.aside && d.heard then (d.takeMirror m).join 2
  else d

def execMirrorRecord (m : Mirror) (s : State) : Host.Outcome State Fault Refusal := .next (s.onDev (devMirrorRecord m))

/-! ### Verdicts and seal notes (R560–R562) -/

/-- VERDICT_RECORD: 1 CLEAR, 2 UNSEEN, 3 FAULT. A FAULT on a step this lead has found at fault too changes nothing more; on
one it has found clear it is a disagreement, and until it has found either the step cannot be sealed. A verdict on a step not
yet opened here is kept until it is. -/
def devVerdictRecord (b : Bay) (result : Fin 4) (step : BitVec 48) (tile : BitVec 32) (epoch : BitVec 16) (d : Device) :
    Device :=
  if !d.twinRuns || d.role != 1 || result = 0 || epoch.toNat != d.epoch b then d
  else match d.stepCtx? b step.toNat with
    | none =>
      let w := d.wit b
      if d.hasSealed b step.toNat then d
      else d.setWit b { w with
        pairEarly := w.pairEarly.filter (fun p => p.1 != step.toNat) ++ [(step.toNat, result.val, tile.toNat)] }
    | some s =>
      let d := d.setStep b { s with pair := some result.val, pairTile := tile.toNat }
      if result = 3 ∧ s.faulted = false ∧ s.clear b = true then d.pairDisagree b s.step tile.toNat else d

def execVerdictRecord (b : Bay) (result : Fin 4) (step : BitVec 48) (tile : BitVec 32) (epoch : BitVec 16) (s : State) :
    Host.Outcome State Fault Refusal :=
  .next (s.onDev (devVerdictRecord b result step tile epoch))

/-- A SEAL the lead sent: the step is sealed here too, with a ledger entry of this device's own (R560, R563). -/
def Device.noteSeal (d : Device) (b : Bay) (step : Nat) (seed : BitVec 64) : Device :=
  let w := d.wit b
  let s := d.stepCtx? b step
  let d := d.setStep48 (R.WIT_SEALED_LO b.val) (R.WIT_SEALED_HI b.val) F.WIT_SEALED_HI.STEP step
  let d := d.on (R.WIT_SEALED_HI b.val) F.WIT_SEALED_HI.VALID
  let flags := match s with
    | none => natOf (w.sent.1 == 1)
    | some s => natOf (s.mode == 1) + 2 * natOf (!s.cleared.isEmpty) + 4 * natOf (s.pair == some 1)
  let d := d.ledgerAppend b .sealed (d.epoch b) step 0 flags ((s.map (fun s => s.csums.length)).getD 0)
  let w := d.wit b
  let d := d.setWit b { w with
    seals := ((step, seed) :: w.seals).take 8
    steps := w.steps.filter (fun x => x.step != step) }
  ((d.unhold b 1).showWit b).grant b

/-- A REPLAY the lead sent: its answer is expected here too (R560). -/
def Device.noteReplay (d : Device) (b : Bay) (step tile run orig flags : Nat) : Device :=
  let rp : ReplayCtx := { runSlice := run, flags := flags, csum := false, complete := false, reference := none }
  match d.stepCtx? b step with
  | none => d
  | some s =>
    if s.suspects.any (fun t => t.tile == tile) then
      let upd : SuspectCtx → SuspectCtx := fun t => if t.tile == tile then { t with replay := some rp } else t
      (d.setStep b { s with suspects := s.suspects.map upd }).showWit b
    else
      let t : SuspectCtx :=
        { tile := tile, slice := orig, kind := 2, csum := false, sample := none, replay := some rp, done := false }
      (d.setStep b { s with suspects := s.suspects ++ [t] }).showWit b

/-- SEAL_NOTE_RECORD: a joined shadow takes the epochs, seeds, lags, modes, JOB_IDs, seals, REPLAYs and fences. -/
def devSealNoteRecord (b : Bay) (n : SealNote) (d : Device) : Device :=
  if !d.twinRuns || d.role != 2 || !d.joined then d
  else match n with
    | .sealed e step seed => if e.toNat = d.epoch b then d.noteSeal b step.toNat seed else d
    | .hold _ _ _ => d
    | .epoch e first lag shift seed job mode =>
      if e.toNat = d.epoch b then
        let w := d.wit b
        (d.setWit b { w with sent := (w.sent.1, lag.toNat, shift.toNat) }).unhold b 4
      else d.epochStart b e.toNat first.toNat job.toNat (mode.toNat, lag.toNat, shift.toNat) seed
    | .observe e _ mode =>
      if e.toNat = d.epoch b then
        let w := d.wit b
        d.setWit b { w with sent := (mode.toNat, w.sent.2) }
      else d
    | .replay e step tile run orig flags =>
      if e.toNat = d.epoch b then d.noteReplay b step.toNat tile.toNat run.toNat orig.toNat flags.toNat else d
    | .fence slice _ =>
      let k := d.link b
      d.setLink b { k with fenceWait := k.fenceWait.filter (fun p => p.1 != slice.toNat) ++ [(slice.toNat, true)] }
    | .unfence slice _ =>
      let k := d.link b
      d.setLink b { k with fenceWait := k.fenceWait.filter (fun p => p.1 != slice.toNat) ++ [(slice.toNat, false)] }

def execSealNoteRecord (b : Bay) (n : SealNote) (s : State) : Host.Outcome State Fault Refusal :=
  .next (s.onDev (devSealNoteRecord b n))

/-! ### Flowstone records (R563) -/

/-- FS_RECORD_RECEIVE: the shadow appends the record under its own SEQ with MIRRORED set; one it holds already changes
nothing, and one its log cannot take yet is sent again. -/
def sysFsRecordReceive (bs : List (BitVec 8)) (y : Sys) : Sys :=
  let d := y.dev
  let r := fsRecordOf bs
  if !d.twinRuns || d.role != 2 || !d.joined || decide (r.seq ≤ d.twin.leadFs) || !d.answers 47 ||
      !d.flag R.FS_STATUS F.FS_STATUS.READY || !d.fs.room then y
  else
    let own := { r with seq := d.fs.nextSeq, mirrored := true, journal := false }
    let y := y.fsProgram own true
    y.onDev (fun d => ({ d with twin := { d.twin with leadFs := r.seq } } : Device).fsTake own)

def execFsRecordReceive (bs : List (BitVec 8)) (s : State) : Host.Outcome State Fault Refusal :=
  .next (s.onSys (sysFsRecordReceive bs))

/-! ### Requests (R555) -/

/-- REQUEST_RECORD: the lead applies it to its own sequencer. -/
def devRequestRecord (i : Fin 9) (q : SeqRequest) (d : Device) : Device :=
  if !d.twinRuns || d.role != 1 then d
  else match q with
    | .start => d.seqStart i
    | .stop => d.seqStop i
    | .on => d.seqCmd i 1
    | .down => d.seqCmd i 2

def execRequestRecord (i : Fin 9) (q : SeqRequest) (s : State) : Host.Outcome State Fault Refusal :=
  .next (s.onDev (devRequestRecord i q))

/-- REQUEST_OFF_TIMEOUT: the lead has not begun the going-down; the shadow asserts the off line. -/
def devRequestOffTimeout (i : Fin 9) (d : Device) : Device :=
  if d.role = 2 ∧ d.joined = true ∧ d.twin.offReqs.contains i = true then d.actAlone i else d

def execRequestOffTimeout (i : Fin 9) (s : State) : Host.Outcome State Fault Refusal :=
  .next (s.onDev (devRequestOffTimeout i))

/-! ### SWAP and STAND_ASIDE (R542, R543, R574) -/

/-- SWAP is refused: not the lead, not both joined, no link, an activation of either device, or a job fault in force. -/
def Device.swapRefused (d : Device) : Bool :=
  let act := d.twin.partner.2.2.2.1
  d.role != 1 || !d.joined || !d.twinFlag F.TWIN_STATUS.PARTNER_JOINED || !d.twinUp || d.activating ||
    decide (1 ≤ act ∧ act ≤ 3) || bays.any d.jobFaulted

/-- The lead suspends, hands its sealing state over in a MIRROR record and becomes SHADOW. -/
def Device.swap (d : Device) : Device :=
  let d := d.suspend.twinSend (.mirror true)
  let d := ({ d with twin := { d.twin with steps := [] } } : Device).setRole 2
  d.followAll

/-- STAND_ASIDE set: the device steps out of its role. -/
def Device.stepAside (d : Device) : Device :=
  let d := (d.on R.TWIN_CTL F.TWIN_CTL.STAND_ASIDE).off R.TWIN_STATUS F.TWIN_STATUS.JOINED
  let d := ({ d with twin := { d.twin with steps := [], offReqs := [] } } : Device).setRole 2
  d.followAll

/-- A write of TWIN_CTL: SWAP and a STAND_ASIDE of 1 act only with their key (R542, R543, R585). -/
def Device.twinCtl (d : Device) (v : BitVec 32) : Device :=
  let a := R.TWIN_CTL
  let keyed := F.TWIN_CTL.KEY.get v == 0x7A1E
  let swap := v.getLsbD 0
  let aside := v.getLsbD 1
  let d :=
    if aside then
      if !keyed || d.aside then d else if !d.heard then d.configReject a else d.stepAside
    else if d.aside then d.off a F.TWIN_CTL.STAND_ASIDE
    else d
  if swap && keyed then if d.swapRefused then d.configReject a else d.swap else d

/-- A write to TWIN reaches it (R25). -/
def Device.twinWritable (d : Device) (who : Initiator) : Bool :=
  d.answers 71 && match who with
    | .core c => d.answers (42 + c.val)
    | .sec => d.answers 39
    | .host => true
    | .eng e => d.answers e.island

/-- TWIN_SWAP. -/
def devTwinSwap (who : Initiator) (key : BitVec 16) (d : Device) : Device :=
  if d.twinWritable who then d.twinCtl (BitVec.ofNat 32 (key.toNat * 65536 + 1 + 2 * natOf d.aside)) else d

def execTwinSwap (who : Initiator) (key : BitVec 16) (s : State) : Host.Outcome State Fault Refusal :=
  .next (s.onDev (devTwinSwap who key))

/-- STAND_ASIDE. -/
def devStandAside (who : Initiator) (key : BitVec 16) (v : Bool) (d : Device) : Device :=
  if d.twinWritable who then d.twinCtl (BitVec.ofNat 32 (key.toNat * 65536 + 2 * natOf v)) else d

def execStandAside (who : Initiator) (key : BitVec 16) (v : Bool) (s : State) : Host.Outcome State Fault Refusal :=
  .next (s.onDev (devStandAside who key v))

end Sys2Proof.Machine
end

