-- ==== Sys2Proof/Machine/RegBus.lean ====
section
/-! DEFINITION. Writes of the control window (R9, R25, R130, R312, R450, R560, R578–R587): who may write, what each register
does with the word, and split values. -/

namespace Sys2Proof.Machine

/-- A field is denied for no more than its range. -/
def noDeny (_ : BitVec 32) (_ : Fld) : Bool := false

/-! ### Engine registers (R129–R138) -/

/-- A register that only the security core writes (R130, R587). -/
def secOnly (q : Nat) : Bool :=
  q == 0x30 || (0x20 ≤ q && q < 0x30) || q == 0x38 || (0x40 ≤ q && q < 0x60) || (0x400 ≤ q && q < 0xA18) ||
    (0x1000 ≤ q && q < 0x5000)

/-- A write of ENG_CTL: ENTRY, then the requests, KILL before STOP before START (R136). On a joined shadow KILL and a change of
ENTRY of a sequencer are refused, and STOP and START are passed on (R551, R555, R560). -/
def Device.writeEngCtl (d : Device) (e : Eng) (v : BitVec 32) : Device :=
  let a := R.ENG_CTL e.win
  let kill := v.getLsbD 2
  if d.ctlRefused e then
    let d := if kill || F.ENG_CTL.ENTRY.get v != d.fld a F.ENG_CTL.ENTRY then d.configReject a else d
    d.engRequest e (v.getLsbD 0) (v.getLsbD 1) false
  else (d.writeReg a v noDeny).engRequest e (v.getLsbD 0) (v.getLsbD 1) kill

/-- A write to an engine's register set. -/
def Device.writeEng (d : Device) (e : Eng) (a : Nat) (v : BitVec 32) : Device :=
  let q := offOf a
  if q = 0 then d.writeEngCtl e v
  else if q = 0x10 then devMboxIn e v d
  else if q = 0x30 then
    let d := if v.getLsbD 0 then d.loadBegin e else d
    if v.getLsbD 1 then d.loadEnd e else d
  else if secOnly q then
    if !d.loadOpen e then d
    else if 0x400 ≤ q then d.setReg a v
    else d.writeReg a v noDeny
  else if 0x100 ≤ q ∧ q < 0x400 then devPackVarWrite e (Fin.ofNat 192 ((q - 0x100) / 4)) v d
  else d.writeReg a v noDeny

/-! ### The blocks -/

/-- UCR (R43). -/
def Sys.writeUcr (y : Sys) (host : Bool) (a : Nat) (v : BitVec 32) : Sys :=
  if a = R.UCR_RST_CTL then y.rstCtl host v
  else if a = R.UCR_FW_READY then
    if v.getLsbD 0 then y.onDev (fun d => { d.on R.UCR_FW_READY F.UCR_FW_READY.READY with restart := 0 }) else y
  else y.onDev (·.writeReg a v noDeny)

/-- SEQ past the engine set: the sequencers' own registers, the tray's and the cap's (R365–R367, R589). -/
def Device.writeSeq (d : Device) (a : Nat) (v : BitVec 32) : Device :=
  let w := winOf a
  if a = R.SQ_CNT_CLR w then d.clearCounters (Fin.ofNat 9 w) (v.toNat % 2 ^ 16)
  else if w = 8 ∧ offOf a = 0x501C then d
  else
    let d := d.writeReg a v noDeny
    if w = 8 ∧ 0x5440 ≤ offOf a ∧ offOf a < 0x5480 then d.refreshCap.refreshThrs else d

/-- The range of P1, P2 and P3 for a kind of analog input (R372). -/
def ainOk (kind p1 p2 p3 : Nat) : Bool × Bool × Bool :=
  match kind with
  | 1 => (decide (100 ≤ p1 ∧ p1 ≤ 10000), decide (2000 ≤ p2 ∧ p2 ≤ 5000), p3 == 0)
  | 2 => (decide (p1 ≤ 2400), decide (1 ≤ p2), decide (p1 + 100 ≤ p3 ∧ p3 ≤ 2500))
  | _ => (true, true, true)

/-- What the fields of CL_AINi_A are denied for (R403): KIND where P1 to P3 lie outside the new kind's ranges, and P1 by the kind
in force after the write. -/
def Device.denyAinA (d : Device) (i : Nat) (w : BitVec 32) (f : Fld) : Bool :=
  let b := d.reg (R.CL_AIN_B i)
  let ok (kind : Nat) : Bool × Bool × Bool :=
    ainOk kind (F.CL_AIN_A.P1.get w) (F.CL_AIN_B.P2.get b) (F.CL_AIN_B.P3.get b)
  let kind := F.CL_AIN_A.KIND.get w
  let bad := let r := ok kind; !(r.1 && r.2.1 && r.2.2)
  let old := d.fld (R.CL_AIN_A i) F.CL_AIN_A.KIND
  if f == F.CL_AIN_A.KIND then bad
  else !(ok (if kind ≠ old ∧ bad = true then old else kind)).1

/-- What the fields of CL_AINi_B are denied for. -/
def Device.denyAinB (d : Device) (i : Nat) (w : BitVec 32) (f : Fld) : Bool :=
  let a := d.reg (R.CL_AIN_A i)
  let r := ainOk (F.CL_AIN_A.KIND.get a) (F.CL_AIN_A.P1.get a) (F.CL_AIN_B.P2.get w) (F.CL_AIN_B.P3.get w)
  if f == F.CL_AIN_B.P2 then !r.2.1 else !r.2.2

/-- COOL past the engine sets (R402, R403). -/
def Device.writeCool (d : Device) (a : Nat) (v : BitVec 32) : Device :=
  let q := offOf a
  if a = R.CL_FAIL_ACK then d.failAck v
  else if a = R.CL_LK_ACK then d.leakAck v
  else if a = R.CL_PROVE then (d.writeReg a v noDeny).refreshProven
  else if 0x600 ≤ q ∧ q < 0x780 then
    let i := (q - 0x600) / 8
    (d.writeReg a v (if q % 8 = 0 then d.denyAinA i else d.denyAinB i)).refreshBad.refreshCool
  else if 0x800 ≤ q ∧ q < 0x880 ∧ q % 16 = 0 then
    (d.writeReg a v noDeny).loopEnable (Fin.ofNat 8 ((q - 0x800) / 16))
  else (d.writeReg a v noDeny).refreshBad.refreshCool.refreshThrs

/-- MOT and AUXF (R385, R386, R391, R404). -/
def Device.writeMot (d : Device) (a : Nat) (v : BitVec 32) : Device :=
  let w := winOf a
  if w = 12 then
    let d := d.writeReg a v noDeny
    (List.range 8).foldl (fun d n => if a = R.AX_CFG n then d.auxEnable n else d) d
  else if a = R.MOT_CFG w then d.writeMotCfg (Fin.ofNat 12 w) v
  else if a = R.MOT_SPEED w then d.writeReg a v (d.denySpeed w)
  else d.writeReg a v noDeny

/-- An address the target may hold (R416). -/
def tgtAddrOk (n : Nat) : Bool := decide (0x10 ≤ n ∧ n ≤ 0x77) && n != 0x28 && n != 0x37 && n != 0x61

/-- BUS past the engine sets (R412, R416, R432, R433). -/
def Device.writeBus (d : Device) (a : Nat) (v : BitVec 32) : Device :=
  let m := Fin.ofNat 12 (winOf a)
  if a = R.BUS_CFG m.val then
    let d := d.writeReg a v (fun w f => (f == F.BUS_CFG.TGT_EN || f == F.BUS_CFG.TGT_ADDR) &&
      F.BUS_CFG.TGT_EN.get w == 1 && !tgtAddrOk (F.BUS_CFG.TGT_ADDR.get w))
    if (d.bus m).phase = .running then d else d.setBus m { d.bus m with cfgNow := d.reg a }
  else if a = R.BUS_TIME m.val then
    d.writeReg a v (fun w _ => decide (F.BUS_TIME.T_STUCK.get w ≤ F.BUS_TIME.T_LOW_MAX.get w))
  else if a = R.BUS_CMD m.val then (if v.getLsbD 0 then devSegRetry m d else d)
  else d.writeReg a v noDeny

/-- SEC (R454, R464, R471, R481, R482, R500, R585). -/
def Sys.writeSec (y : Sys) (a : Nat) (v : BitVec 32) : Sys :=
  if a = R.SEC_CONFIRM then sysConfirm v y
  else if a = R.SEC_REQ_GO then (if v.getLsbD 0 then y.onDev (·.reqGo) else y)
  else if a = R.SEC_ACT_CTL then
    if F.SEC_ACT_CTL.GO.get v = 1 ∧ F.SEC_ACT_CTL.KEY.get v ≠ 0xAC71 then y else
    let y := y.onDev (·.writeReg a v noDeny)
    let y := if F.SEC_ACT_CTL.GO.get v = 1 then
        y.actGo (y.dev.fld a F.SEC_ACT_CTL.METHOD) (y.dev.flag a F.SEC_ACT_CTL.PAIR)
      else y
    if F.SEC_ACT_CTL.QUIESCED.get v = 1 then y.quiesced else y
  else y.onDev (·.writeReg a v noDeny)

/-- A write of FS_CMD (R268); an operation that the table does not name is a bad argument. -/
def Sys.writeFsCmd (y : Sys) (v : BitVec 32) : Sys :=
  let b : Bay := Fin.ofNat 8 (F.FS_CMD.BAY.get v)
  let slice : BitVec 6 := BitVec.ofNat 6 (F.FS_CMD.SLICE.get v)
  match F.FS_CMD.OP.get v with
  | 1 => y.onDev (devFsUnit 1 b slice)
  | 2 => y.onDev (devFsUnit 2 b slice)
  | 3 => y.onDev (devFsRetire b)
  | 4 => y.onDev (devFsUnretire b)
  | 5 => y.onDev (devFsUnit 5 b slice)
  | 6 => y.onDev (devFsCarry (BitVec.ofNat 2 (F.FS_CMD.STATE.get v)) (BitVec.ofNat 8 (F.FS_CMD.AGE_DAYS.get v)))
  | 7 => y.onDev devFsResume
  | 8 => sysFsRemovePack slice y
  | _ => y.onDev (fun d => d.fsCmd (fun d => d.setFld R.FS_CMD_STAT F.FS_CMD_STAT.RESULT 2))

/-- FLASH (R291, R497, R500). -/
def Sys.writeFlash (y : Sys) (a : Nat) (v : BitVec 32) : Sys :=
  if a = R.FS_CMD then y.writeFsCmd v
  else y.onDev (fun d =>
    let d := d.writeReg a v noDeny
    bays.foldl (fun d b =>
      if a = R.GOLD_BAY_CFG b.val then (d.seqTryPend (seqOf b)).goldBegin b else d) d)

/-- The address of the host port is RO while DHCP is 1 (R538). -/
def Device.ipFixed (d : Device) (a : Nat) : Bool :=
  if a = R.ETH_IP4_ADDR then d.flag R.ETH_IP4_CFG F.ETH_IP4_CFG.DHCP
  else 0x20800020 ≤ a && a < 0x20800030 && d.flag R.ETH_IP6_CFG F.ETH_IP6_CFG.DHCP

/-- ETH (R503, R521, R531, R538). -/
def Device.writeEth (d : Device) (a : Nat) (v : BitVec 32) : Device :=
  if 0x20800100 ≤ a ∧ a < 0x20800130 then d.setReg a v
  else if a = R.ETH_EVT_GO then (if v.getLsbD 0 then d.evtGo else d)
  else if a = R.ETH_TX_HEAD then d.txHead (F.ETH_TX_HEAD.OFFSET.get v)
  else if d.ipFixed a then d
  else
    let was := d.fld R.ETH_CFG F.ETH_CFG.RATE
    let d := d.writeReg a v noDeny
    let d := if d.fld R.ETH_CFG F.ETH_CFG.RATE = was then d
      else (d.setFld R.ETH_STAT F.ETH_STAT.RATE_NOW (d.fld R.ETH_CFG F.ETH_CFG.RATE)).retrainHost
    let d := if 0x20800014 ≤ a ∧ a < 0x20800034 then d.refreshIp else d
    if a = R.ETH_RX_TAIL ∨ a = R.ETH_RX_BASE then d.ringRoom else d

/-- WIT past the engine set (R185, R186, R227, R560). -/
def Device.writeWit (d : Device) (a : Nat) (v : BitVec 32) : Device :=
  let b : Bay := Fin.ofNat 8 (winOf a)
  if a = R.WIT_CTL b.val then devWitCtlWrite b v d
  else if a = R.WIT_EPOCH_GO b.val then
    let d := if v.getLsbD 0 then devWitEpochNew b d else d
    if v.getLsbD 1 then devWitEpochResend b d else d
  else if a = R.WIT_JOB b.val ∧ d.shadowRefuses = true then
    if F.WIT_JOB.JOB_ID.get v = d.fld a F.WIT_JOB.JOB_ID then d else d.configReject a
  else if a = R.WIT_LEDGER_POP b.val then (if v.getLsbD 0 then devWitLedgerPop b d else d)
  else if a = R.WIT_EVENT_POP b.val then (if v.getLsbD 0 then devWitEventPop b d else d)
  else if a = R.WITL_MAINT_TXCTL b.val then devMaintGo b v d
  else if a = R.WITL_MAINT_RXDONE b.val then (if v.getLsbD 0 then devMaintRxdone b d else d)
  else
    let d := d.writeReg a v noDeny
    if a = R.WIT_SAMPLE_BASE b.val ∨ a = R.WIT_SAMPLE_SIZE b.val then d.armSample b else d

/-- The trowel window whose registers an address lies in (R312, R325). -/
def twWindow (a : Nat) : Option (Fin 64) :=
  if blockOf a = 11 ∧ 0x1000 ≤ offOf a ∧ offOf a < 0x1100 then
    some (Fin.ofNat 64 (4 * winOf a + (offOf a - 0x1000) / 0x40))
  else none

/-- MEM (R321, R324, R325): while a window is ARMED a write that would change its registers is refused. -/
def Device.writeMem (d : Device) (i : Initiator) (a : Nat) (v : BitVec 32) : Device :=
  match twWindow a with
  | some w =>
    if offOf a % 0x40 = 0 then devTwCtlWrite i w v d
    else if d.armed w then d.writeReg a v (fun _ _ => true)
    else d.writeReg a v noDeny
  | none =>
    if a = R.TRW_DQ_GO (winOf a) then (if v.getLsbD 0 then devTrwDqGo (Fin.ofNat 16 (winOf a)) d else d)
    else d.writeReg a v noDeny

/-- GAL past the engine sets (R259, R260). -/
def Device.writeGal (d : Device) (a : Nat) (v : BitVec 32) : Device :=
  if a = R.GAL_FENCE then (List.finRange 12).foldl (fun d g => if v.getLsbD g.val then d.gcFence g else d) d
  else if a = R.GAL_UNFENCE then (List.finRange 12).foldl (fun d g => if v.getLsbD g.val then devGalUnfence g d else d) d
  else d.writeReg a v noDeny

/-- A write to a register that is not half of a split value. -/
def Sys.writeBlock (i : Initiator) (a : Nat) (v : BitVec 32) (y : Sys) : Sys :=
  match engAt a with
  | some e => y.onDev (·.writeEng e a v)
  | none => match blockOf a with
    | 0 => y.writeUcr (i == .host) a v
    | 1 => y.onDev (·.writeSeq a v)
    | 2 => y.onDev (·.writeCool a v)
    | 3 => y.onDev (·.writeMot a v)
    | 4 => y.onDev (·.writeBus a v)
    | 6 => y.writeSec a v
    | 7 => y.writeFlash a v
    | 8 => y.onDev (·.writeEth a v)
    | 9 => y.onDev (·.writeWit a v)
    | 10 => if a = R.TWIN_CTL then y.onDev (·.twinCtl v) else y.onDev (·.writeReg a v noDeny)
    | 11 => y.onDev (·.writeMem i a v)
    | 12 => y.onDev (·.writeGal a v)
    | _ => y.onDev (·.writeReg a v noDeny)

/-! ### Split values (R583) -/

/-- A _LO word is held for its initiator. -/
def Device.holdLo (d : Device) (i : Initiator) (a : Nat) (v : BitVec 32) : Device :=
  { d with loHeld := d.loHeld.filter (fun e => !(e.1 == i && e.2.1 == a)) ++ [(i, a, v)] }

/-- Both halves judged as one value, and taken or refused together. -/
def Device.writePair (d : Device) (lo : Nat) (l h : BitVec 32) : Device :=
  let fixed : Bool := match twWindow lo with
    | some w => d.armed w
    | none => false
  let deny (_ : Fld) : Bool := fixed
  if writeRefused (fieldsAt lo) deny (d.reg lo) l || writeRefused (fieldsAt (lo + 4)) deny (d.reg (lo + 4)) h then d.configReject lo
  else (d.writeReg lo l noDeny).writeReg (lo + 4) h noDeny

/-- A write of a _HI register: it takes the _LO word its initiator wrote before it, or the one that stands. -/
def Device.writeHi (d : Device) (i : Initiator) (a : Nat) (v : BitVec 32) : Device :=
  let lo := a - 4
  let l := ((d.loHeld.find? (fun e => e.1 == i && e.2.1 == lo)).map (·.2.2)).getD (d.reg lo)
  let d := { d with loHeld := d.loHeld.filter (fun e => !(e.1 == i && e.2.1 == lo)) }
  if a = R.FS_JOURNAL_ACK_HI then devFsJournalAck v (d.setReg lo l) else d.writePair lo l v

/-! ### Who may write -/

/-- A management core's write is held back until the output gate opens (R450). -/
def gatedIsland (isl : Nat) : Bool := isl ≤ 38 || isl == 39 || isl == 41

/-- A write draws an error response though its island answers (R130, R312, R450, R587). -/
def Device.writerRefused (d : Device) (i : Initiator) (a isl : Nat) : Bool :=
  (match i with
    | .core _ => gatedIsland isl && !d.gateOpen
    | _ => false) ||
  ((engAt a).isSome && secOnly (offOf a) && i != .sec) ||
  (match twWindow a with
    | some w => !windowOwner i w.val
    | none => false)

/-- A write of a control-window register; false where it ends with an error response. -/
def Sys.regWrite (i : Initiator) (a : Nat) (v : BitVec 32) (y : Sys) : Bool × Sys :=
  if 14 ≤ blockOf a then (false, y)
  else match islandAt a with
    | none => (true, y)
    | some isl =>
      if !y.dev.answers isl || y.dev.writerRefused i a isl then (false, y)
      else
        let y := y.onDev (·.dropCaptured i isl)
        if isLoRw a then (true, y.onDev (·.holdLo i a v))
        else if isLoRw (a - 4) then (true, y.onDev (·.writeHi i a v))
        else (true, y.writeBlock i a v)

end Sys2Proof.Machine
end

