-- ==== Sys2Proof/Machine/LoadStore.lean ====
section
/-! DEFINITION. Loads, stores and atomics (R47, R53–R58, R92, R95, R103, R107, R295, R296, R299). -/

namespace Sys2Proof.Machine

/-! ### E- and G-profile units -/

/-- An error response received by an E- or G-profile unit: XDOWN, and its count (R27, R65). -/
def ECtx.down (c : ECtx) : ECtx := { c with xdown := true, xdownCnt := min (c.xdownCnt + 1) 0xFFFFFFFF }

/-- A load of n bytes by an engine from its local data (R54). -/
def loadLocal (n : Nat) (rd : BitVec 5) (a : Int) (e : Eng) (y : Sys) : EOut :=
  let c := y.dev.eng e
  if 0 ≤ a ∧ a + n ≤ 0x1000 ∧ a % n = 0 then
    .done (y.setE (.eng e) (c.setG rd.toNat (BitVec.ofNat 32 (memNat c.data a.toNat n))).nextPc)
  else .fault .illegal y

/-- A store of the n low bytes of a register by an engine into its local data (R54). -/
def storeLocal (n : Nat) (rs2 : BitVec 5) (a : Int) (e : Eng) (y : Sys) : EOut :=
  let c := y.dev.eng e
  if 0 ≤ a ∧ a + n ≤ 0x1000 ∧ a % n = 0 then
    .done (y.setE (.eng e) { c with data := memPuts c.data a.toNat (natBytes n (c.g rs2.toNat).toNat) }.nextPc)
  else .fault .illegal y

/-- A range of n bytes from a lies between lo and hi. -/
def within (a : Int) (n lo hi : Nat) : Bool := decide ((lo : Int) ≤ a ∧ a + n ≤ hi)

/-- The byte of the mask ROM at an address: the manual does not print the ROM (assumption log 7). -/
def romNat (a n : Nat) : Nat := bytesNat ((List.range n).map (fun i => (Config.freeWord (2 ^ 64 + a + i)).truncate 8))

/-- A load of n bytes by the security core (R47). -/
def loadSec (n : Nat) (rd : BitVec 5) (path : PathErr) (a : Int) (y : Sys) : EOut :=
  let c := y.dev.sec.ctx
  let put (v : Nat) (y : Sys) : EOut := .done (y.setE .sec (c.setG rd.toNat (BitVec.ofNat 32 v)).nextPc)
  if within a n 0 0x40000 then put (romNat a.toNat n) y
  else if within a n 0x80000 0x100000 then put (memNat c.data a.toNat n) y
  else if within a n 0x10000000 0x11000000 then
    let y := y.onDev (·.readPath a.toNat path)
    if y.dev.poisonedRange a.toNat n then .fault .poison y else put (memNat y.dev.mem a.toNat n) y
  else if within a n 0x20000000 0x30000000 ∧ n = 4 ∧ a % 4 = 0 then
    match y.regRead .sec a.toNat with
    | (some v, y) => .done (y.setE .sec (y.dev.sec.ctx.setG rd.toNat v).nextPc)
    | (none, y) => .done (y.setE .sec (y.dev.sec.ctx.down.setG rd.toNat 0xFFFFFFFF#32).nextPc)
  else .fault .illegal y

/-- A store of the n low bytes of a register by the security core (R47). -/
def storeSec (n : Nat) (rs2 : BitVec 5) (path : PathErr) (a : Int) (y : Sys) : EOut :=
  let c := y.dev.sec.ctx
  let bs := natBytes n (c.g rs2.toNat).toNat
  if within a n 0x80000 0x100000 then .done (y.setE .sec { c with data := memPuts c.data a.toNat bs }.nextPc)
  else if within a n 0x10000000 0x11000000 then
    .done ((y.onDev (·.land a.toNat bs (path == .transit))).setE .sec c.nextPc)
  else if within a n 0x20000000 0x30000000 ∧ n = 4 ∧ a % 4 = 0 then
    match (y.setE .sec c.nextPc).regWrite .sec a.toNat (c.g rs2.toNat) with
    | (true, y) => .done y
    | (false, y) => .done (y.setE .sec y.dev.sec.ctx.down)
  else .fault .illegal y

/-- A load of n bytes on an E- or G-profile unit (R53). -/
def loadE (n : Nat) (path : PathErr) (rd rs1 : BitVec 5) (imm : BitVec 16) (u : EUnit) (y : Sys) : EOut :=
  let a := wholeSum ((y.dev.ectx u).g rs1.toNat) imm
  match u with
  | .eng e => loadLocal n rd a e y
  | _ => loadSec n rd path a y

/-- A store of n bytes on an E- or G-profile unit (R53). -/
def storeE (n : Nat) (path : PathErr) (rs2 rs1 : BitVec 5) (imm : BitVec 16) (u : EUnit) (y : Sys) : EOut :=
  let a := wholeSum ((y.dev.ectx u).g rs1.toNat) imm
  match u with
  | .eng e => storeLocal n rs2 a e y
  | _ => storeSec n rs2 path a y

/-! ### Management cores -/

/-- A block of the control window is reserved (R55, R578). -/
def reservedBlock (a : Nat) : Bool := inWindow a && decide (0x20E00000 ≤ a)

/-- The fault of a data access by the direction it has. -/
def rightFault : Right → Cause
  | .write => .storeFault
  | _ => .loadFault

/-- The first cause that an access of n bytes at a meets before it leaves the core: MISALIGNED, then the address map,
the access size and the protection unit (R55, R56, R95, R105). -/
def mCheck (d : Device) (c : Fin 4) (r : Right) (a n : Nat) : Option Cause :=
  if a % n ≠ 0 then some .misaligned
  else if !(inSram a || inWindow a || inDram a) then some (rightFault r)
  else if inWindow a ∧ (n ≠ 4 ∨ reservedBlock a = true) then some (rightFault r)
  else if !d.pru.allows d.cores[c].priv r a then some (rightFault r)
  else none

/-- An access to LPDDR4X waits until its controller is READY (R296). -/
def mustWait (d : Device) (a : Nat) : Bool :=
  inDram a && d.answers (72 + controllerOf a) && !d.mcReady (controllerOf a)

/-- An access to LPDDR4X whose controller's island is not running ends with an error response (R25). -/
def memDown (d : Device) (a : Nat) : Bool := inDram a && !d.answers (72 + controllerOf a)

/-- An address as TVAL. -/
def tvalOf (a : Nat) : Option (BitVec 64) := some (BitVec.ofNat 64 a)

/-- A read of n bytes of memory or the control window by a management core: the value, or the exception it raises
(R55, R56, R58, R92). -/
def mRead (c : Fin 4) (path : PathErr) (a n : Nat) (k : Nat → Sys → MOut) (y : Sys) : MOut :=
  match mCheck y.dev c .read a n with
  | some cause => .trap cause (tvalOf a) y
  | none =>
    if inWindow a then
      match y.regRead (.core c) a with
      | (some v, z) => k v.toNat z
      | (none, z) => .trap .busError (tvalOf a) z
    else if memDown y.dev a then .trap .busError (tvalOf a) y
    else if mustWait y.dev a then .stall
    else
      let y := y.onDev (·.readPath a path)
      if y.dev.poisonedRange a n then .trap .poison (tvalOf a) y else k (memNat y.dev.mem a n) y

/-- Bytes written to memory by a management core; a parity error on the way poisons the line (R306). -/
def Sys.mStore (y : Sys) (path : PathErr) (a : Nat) (bs : List (BitVec 8)) : Sys :=
  let y := y.onDev (·.land a bs (path == .transit))
  if path = .transit ∧ inDram a = true then y.onDev (·.parityWrite a) else y

/-- A load of n bytes on a management core (R53, R55). -/
def loadM (n : Nat) (path : PathErr) (rd rs1 : BitVec 5) (imm : BitVec 16) (c : Fin 4) (y : Sys) : MOut :=
  let a := (wrapSum (y.dev.cores[c].g rs1.toNat) imm).toNat
  mRead c path a n (fun v y => .done (y.setM c (y.dev.cores[c].setG rd.toNat (BitVec.ofNat 64 v)).nextPc)) y

/-- A store of n bytes on a management core (R53, R55, R58, R295). -/
def storeM (n : Nat) (path : PathErr) (rs2 rs1 : BitVec 5) (imm : BitVec 16) (c : Fin 4) (y : Sys) : MOut :=
  let m := y.dev.cores[c]
  let a := (wrapSum (m.g rs1.toNat) imm).toNat
  let v := (m.g rs2.toNat).toNat
  match mCheck y.dev c .write a n with
  | some cause => .trap cause (tvalOf a) y
  | none =>
    if inWindow a then
      match (y.setM c m.nextPc).regWrite (.core c) a (BitVec.ofNat 32 v) with
      | (true, z) => .done z
      | (false, z) => .trap .busError (tvalOf a) z
    else if memDown y.dev a || inReserved a then .trap .busError (tvalOf a) y
    else if mustWait y.dev a then .stall
    else .done ((y.mStore path a (natBytes n v)).setM c m.nextPc)

/-- An instruction that does not exist in the E and G profiles. -/
def noE (_ : EUnit) (y : Sys) : EOut := .fault .illegal y

/-- An instruction that does not exist in the M profile: refused before its effect. -/
def noM (_ : Fin 4) (y : Sys) : MOut := .done y

/-- A load with opcode op, in both profiles or the M profile only. -/
def loadInstr (op : BitVec 6) (n : Nat) (x : Issue) (rd rs1 : BitVec 5) (imm : BitVec 16) (s : State) : State :=
  s.onSys (issue x (wordI op rd rs1 imm) (low rd && low rs1 && decide (n < 8)) true
    (loadE n x.path rd rs1 imm) (loadM n x.path rd rs1 imm))

/-- A store with opcode op, in both profiles or the M profile only. -/
def storeInstr (op : BitVec 6) (n : Nat) (x : Issue) (rs2 rs1 : BitVec 5) (imm : BitVec 16) (s : State) : State :=
  s.onSys (issue x (wordI op rs2 rs1 imm) (low rs2 && low rs1 && decide (n < 8)) true
    (storeE n x.path rs2 rs1 imm) (storeM n x.path rs2 rs1 imm))

/-- LDB, LDH, LDW, LDD (R53). -/
def execLdb (x : Issue) (rd rs1 : BitVec 5) (imm : BitVec 16) (s : State) : Host.Outcome State Fault Refusal :=
  .next (loadInstr 0x10#6 1 x rd rs1 imm s)
def execLdh (x : Issue) (rd rs1 : BitVec 5) (imm : BitVec 16) (s : State) : Host.Outcome State Fault Refusal :=
  .next (loadInstr 0x11#6 2 x rd rs1 imm s)
def execLdw (x : Issue) (rd rs1 : BitVec 5) (imm : BitVec 16) (s : State) : Host.Outcome State Fault Refusal :=
  .next (loadInstr 0x12#6 4 x rd rs1 imm s)
def execLdd (x : Issue) (rd rs1 : BitVec 5) (imm : BitVec 16) (s : State) : Host.Outcome State Fault Refusal :=
  .next (loadInstr 0x13#6 8 x rd rs1 imm s)

/-- STB, STH, STW, STD (R53, R58). -/
def execStb (x : Issue) (rs2 rs1 : BitVec 5) (imm : BitVec 16) (s : State) : Host.Outcome State Fault Refusal :=
  .next (storeInstr 0x14#6 1 x rs2 rs1 imm s)
def execSth (x : Issue) (rs2 rs1 : BitVec 5) (imm : BitVec 16) (s : State) : Host.Outcome State Fault Refusal :=
  .next (storeInstr 0x15#6 2 x rs2 rs1 imm s)
def execStw (x : Issue) (rs2 rs1 : BitVec 5) (imm : BitVec 16) (s : State) : Host.Outcome State Fault Refusal :=
  .next (storeInstr 0x16#6 4 x rs2 rs1 imm s)
def execStd (x : Issue) (rs2 rs1 : BitVec 5) (imm : BitVec 16) (s : State) : Host.Outcome State Fault Refusal :=
  .next (storeInstr 0x17#6 8 x rs2 rs1 imm s)

/-! ### Atomics (R107) -/

/-- An atomic on the 8 bytes at gs1: the new value, where there is one, from the old value. Write rights are required;
anything but system SRAM or LPDDR4X raises STORE_FAULT; a poisoned line raises POISON. -/
def atomicM (path : PathErr) (rd rs1 : BitVec 5) (new : MCtx → BitVec 64 → Option (BitVec 64)) (c : Fin 4) (y : Sys) :
    MOut :=
  let m := y.dev.cores[c]
  let a := (m.g rs1.toNat).toNat
  if a % 8 ≠ 0 then .trap .misaligned (tvalOf a) y
  else if !(inSram a || inDram a) || !y.dev.pru.allows m.priv .write a then .trap .storeFault (tvalOf a) y
  else if memDown y.dev a || inReserved a then .trap .busError (tvalOf a) y
  else if mustWait y.dev a then .stall
  else
    let y := y.onDev (·.readPath a path)
    if y.dev.poisoned a then .trap .poison (tvalOf a) y
    else
      let old := BitVec.ofNat 64 (memNat y.dev.mem a 8)
      let y := match new m old with
        | some v => y.onDev (·.land a (natBytes 8 v.toNat) false)
        | none => y
      .done (y.setM c (m.setG rd.toNat old).nextPc)

/-- SWAP (R107). -/
def execSwap (x : Issue) (rd rs1 rs2 : BitVec 5) (func : BitVec 11) (s : State) : Host.Outcome State Fault Refusal :=
  .next (s.onSys (issue x (wordA 0x2A#6 rd rs1 rs2 func) false (func == 0#11) noE
    (atomicM x.path rd rs1 (fun m _ => some (m.g rs2.toNat)))))

/-- CAS (R107). -/
def execCas (x : Issue) (rd rs1 rs2 : BitVec 5) (func : BitVec 11) (s : State) : Host.Outcome State Fault Refusal :=
  .next (s.onSys (issue x (wordA 0x2B#6 rd rs1 rs2 func) false (func == 0#11) noE
    (atomicM x.path rd rs1 (fun m old => if old = m.g rd.toNat then some (m.g rs2.toNat) else none))))

end Sys2Proof.Machine
end

