-- ==== Sys2Proof/Machine/Crypto.lean ====
section
/-! DEFINITION. The crypto instructions of the security core (R116, R117). -/

namespace Sys2Proof.Machine

/-- n bytes from an address lie in the private SRAM (R47). -/
def inPrivate (a n : Nat) : Bool := decide (0x80000 ≤ a ∧ a + n ≤ 0x100000)

/-- An instruction of the security core alone. -/
def issueSec (x : Issue) (word : BitVec 32) (legal : Bool) (body : Sys → EOut) (s : State) : State :=
  s.onSys (issue x word (x.unit == .sec && legal) false (fun _ => body) noM)

/-! ### SHA (R116) -/

/-- The words of a control-window range read one by one (R47). -/
def Sys.secWords : Nat → Nat → Sys → List (BitVec 8) × Sys
  | 0, _, y => ([], y)
  | n + 1, a, y =>
    let (v, y) := y.regRead .sec a
    let y := if v.isNone then y.setE .sec y.dev.sec.ctx.down else y
    let (l, y) := Sys.secWords n (a + 4) y
    (natBytes 4 (v.getD 0xFFFFFFFF#32).toNat ++ l, y)

/-- The bytes a job absorbs, where its range is one the security core may read. -/
def Sys.shaSource (a n : Nat) (y : Sys) : Option (List (BitVec 8) × Sys) :=
  if a + n ≤ 0x40000 then some ((List.range n).map (fun i => BitVec.ofNat 8 (romNat (a + i) 1)), y)
  else if inPrivate a n then some (memBytes y.dev.sec.ctx.data a n, y)
  else if 0x10000000 ≤ a ∧ a + n ≤ 0x11000000 then some (memBytes y.dev.mem a n, y)
  else if 0x20000000 ≤ a ∧ a + n ≤ 0x30000000 ∧ a % 4 = 0 ∧ n % 4 = 0 then some (y.secWords (n / 4) a)
  else none

/-- Eight free words: the value of a hash the manual does not give (assumption log 48). -/
def Device.freeHash : Nat → Device → List (BitVec 32) × Device
  | 0, d => ([], d)
  | n + 1, d =>
    let (v, d) := d.fresh
    let (l, d) := Device.freeHash n d
    (v :: l, d)

/-- A hash context replaced. -/
def Device.setHash (d : Device) (k : Fin 4) (h : List (BitVec 32) × Nat) : Device :=
  { d with sec := { d.sec with hash := vset d.sec.hash k h } }

/-- The result word of SHA or ECV, and the next instruction. -/
def Sys.secResult (y : Sys) (rd : BitVec 5) (v : BitVec 32) : EOut :=
  .done (y.setE .sec (y.dev.sec.ctx.setG rd.toNat v).nextPc)

/-- The bytes of a job absorbed into its context, and the digest written where FINAL is set. A context that no INIT has begun,
and a job of a length it may not have, give a free hash. -/
def Device.shaJob (d : Device) (k : Fin 4) (init final : Bool) (dst : Nat) (bs : List (BitVec 8)) : Device :=
  let old := d.sec.hash[k]
  let begun := init || old.1.length == 8
  let lenOk := final || bs.length % 64 == 0
  let n := (if init then 0 else old.2) + bs.length
  let start := if init then shaInit else old.1
  let whole := if final then bs ++ shaPad n else bs
  let (h, d) := if begun && lenOk then (shaBlocks (whole.length / 64) start whole, d) else d.freeHash 8
  if final then
    let d := d.setHash k ([], 0)
    { d with sec := { d.sec with ctx := { d.sec.ctx with data := memPuts d.sec.ctx.data dst (shaDigest h) } } }
  else d.setHash k (h, n)

/-- SHA. -/
def secSha (rd rs1 rs2 : BitVec 5) (y : Sys) : EOut :=
  let c := y.dev.sec.ctx
  let job := (c.g rs1.toNat).toNat
  let dst := (c.g rs2.toNat).toNat
  let src := memNat c.data job 4
  let len := memNat c.data (job + 4) 4
  let k := memNat c.data (job + 8) 1
  let flags := memNat c.data (job + 9) 1
  if !inPrivate job 16 || (bit flags 1 && !inPrivate dst 32) then .fault .illegal y
  else match y.shaSource src len with
    | none => y.secResult rd 1#32
    | some (bs, z) =>
      if inSram src && y.dev.poisonedRange src len then .fault .poison y
      else if h : k < 4 then (z.onDev (·.shaJob ⟨k, h⟩ (bit flags 0) (bit flags 1) dst bs)).secResult rd 0#32
      else
        let (v, d) := y.dev.fresh
        ({ y with dev := d } : Sys).secResult rd v

def execSha (x : Issue) (rd rs1 rs2 : BitVec 5) (func : BitVec 11) (s : State) : Host.Outcome State Fault Refusal :=
  .next (issueSec x (wordA 0x2C#6 rd rs1 rs2 func) (low rd && low rs1 && low rs2 && func == 0#11) (secSha rd rs1 rs2) s)

/-! ### ECV (R117) -/

/-- The result of ECV on the five numbers of its block. -/
def ecvResult (digest x y r s : Nat) : BitVec 32 :=
  if !(p256On x y && decide (1 ≤ r ∧ r < p256n ∧ 1 ≤ s ∧ s < p256n)) then 2#32
  else if ecdsaVerify digest x y r s then 0#32 else 1#32

/-- ECV. -/
def secEcv (rd rs1 : BitVec 5) (y : Sys) : EOut :=
  let c := y.dev.sec.ctx
  let a := (c.g rs1.toNat).toNat
  let num (i : Nat) : Nat := bytesNatBe (memBytes c.data (a + 32 * i) 32)
  if !inPrivate a 160 then .fault .illegal y
  else y.secResult rd (ecvResult (num 0) (num 1) (num 2) (num 3) (num 4))

def execEcv (x : Issue) (rd rs1 rs2 : BitVec 5) (func : BitVec 11) (s : State) : Host.Outcome State Fault Refusal :=
  .next (issueSec x (wordA 0x2D#6 rd rs1 rs2 func) (low rd && low rs1 && rs2 == 0#5 && func == 0#11) (secEcv rd rs1) s)

end Sys2Proof.Machine
end

