-- ==== Sys2Proof/Machine/GIns.lean ====
section
/-! DEFINITION. The G extension (R112–R115, R123, R241): tile registers, and the queue of the exact-MAC lanes. -/

namespace Sys2Proof.Machine

/-- A unit of the G profile. -/
def isG : EUnit → Bool
  | .eng (.gc _) => true
  | _ => false

/-- A field of a G instruction that names a tile, or a bank (R123). -/
def tileField (r : BitVec 5) : Bool := decide (r.toNat < 8)
def bankField (r : BitVec 5) : Bool := decide (r.toNat < 4)

/-- A queued instruction uses tile register t. -/
def GOp.usesTile (x : GOp) (t : Nat) : Bool :=
  match x.op with
  | 0x33 | 0x34 => x.b == t || x.c == t
  | 0x35 => x.a == t
  | 0x36 => x.b == t
  | _ => false

/-- An instruction with its word, on a cluster only. -/
def issueG (x : Issue) (word : BitVec 32) (legal : Bool) (body : Fin 12 → Sys → EOut) (s : State) : State :=
  s.onSys (issue x word (isG x.unit && legal) false
    (fun u y => match u with
      | .eng (.gc g) => body g y
      | _ => noE u y) noM)

/-! ### TLD and TST -/

/-- The local address of a descriptor, where its 16 bytes lie in local data (R54). -/
def descAddr (c : ECtx) (rs1 : BitVec 5) (imm : BitVec 16) : Option Nat :=
  let a := wholeSum (c.g rs1.toNat) imm
  if within a 16 0 0x1000 && a.toNat % 16 == 0 then some a.toNat else none

/-- TLD: STATUS is cleared. -/
def gTld (t rs1 : BitVec 5) (imm : BitVec 16) (g : Fin 12) (y : Sys) : EOut :=
  let c := y.dev.eng (.gc g)
  let k := y.dev.gc g
  if k.queue.any (fun x => x.usesTile t.toNat) then .stall
  else match descAddr c rs1 imm with
    | none => .fault .illegal y
    | some a =>
      let bs := memBytes c.data a 10 ++ [0#8, 0#8] ++ memBytes c.data (a + 12) 4
      let y := y.onDev (·.setGc g { k with tiles := vset k.tiles (Fin.ofNat 8 t.toNat) bs })
      .done (y.setE (.eng (.gc g)) c.nextPc)

def execTld (x : Issue) (t rs1 : BitVec 5) (imm : BitVec 16) (s : State) : Host.Outcome State Fault Refusal :=
  .next (issueG x (wordI 0x30#6 t rs1 imm) (tileField t && low rs1) (gTld t rs1 imm) s)

/-- TST. -/
def gTst (t rs1 : BitVec 5) (imm : BitVec 16) (g : Fin 12) (y : Sys) : EOut :=
  let c := y.dev.eng (.gc g)
  let k := y.dev.gc g
  if k.queue.any (fun x => x.usesTile t.toNat) then .stall
  else match descAddr c rs1 imm with
    | none => .fault .illegal y
    | some a => .done (y.setE (.eng (.gc g)) { c with data := memPuts c.data a (k.tiles.toList.getD t.toNat []) }.nextPc)

def execTst (x : Issue) (t rs1 : BitVec 5) (imm : BitVec 16) (s : State) : Host.Outcome State Fault Refusal :=
  .next (issueG x (wordI 0x31#6 t rs1 imm) (tileField t && low rs1) (gTst t rs1 imm) s)

/-! ### The queue (R114) -/

/-- A G instruction joins the queue, and the scalar part goes on; a full queue stalls it. -/
def gQueue (op : Nat) (a b c : BitVec 5) (g : Fin 12) (y : Sys) : EOut :=
  let e := y.dev.eng (.gc g)
  let k := y.dev.gc g
  if 4 ≤ k.queue.length then .stall
  else
    let x : GOp := { op := op, a := a.toNat, b := b.toNat, c := c.toNat, pc := e.pc }
    .done ((y.onDev (·.setGc g { k with queue := k.queue ++ [x] })).setE (.eng (.gc g)) e.nextPc)

/-- XCLR, XDOT, XMAG, XRND and BCMP as they are issued. -/
def execXclr (x : Issue) (rd rs1 rs2 : BitVec 5) (func : BitVec 11) (s : State) : Host.Outcome State Fault Refusal :=
  .next (issueG x (wordA 0x32#6 rd rs1 rs2 func) (bankField rd && rs1 == 0#5 && rs2 == 0#5 && func == 0#11)
    (gQueue 0x32 rd rs1 rs2) s)
def execXdot (x : Issue) (rd rs1 rs2 : BitVec 5) (func : BitVec 11) (s : State) : Host.Outcome State Fault Refusal :=
  .next (issueG x (wordA 0x33#6 rd rs1 rs2 func) (bankField rd && tileField rs1 && tileField rs2 && func == 0#11)
    (gQueue 0x33 rd rs1 rs2) s)
def execXmag (x : Issue) (rd rs1 rs2 : BitVec 5) (func : BitVec 11) (s : State) : Host.Outcome State Fault Refusal :=
  .next (issueG x (wordA 0x34#6 rd rs1 rs2 func) (bankField rd && tileField rs1 && tileField rs2 && func == 0#11)
    (gQueue 0x34 rd rs1 rs2) s)
def execXrnd (x : Issue) (rd rs1 rs2 : BitVec 5) (func : BitVec 11) (s : State) : Host.Outcome State Fault Refusal :=
  .next (issueG x (wordA 0x35#6 rd rs1 rs2 func) (tileField rd && bankField rs1 && rs2 == 0#5 && func == 0#11)
    (gQueue 0x35 rd rs1 rs2) s)
def execBcmp (x : Issue) (rd rs1 rs2 : BitVec 5) (func : BitVec 11) (s : State) : Host.Outcome State Fault Refusal :=
  .next (issueG x (wordA 0x36#6 rd rs1 rs2 func) (low rd && tileField rs1 && bankField rs2 && func == 0#11)
    (gQueue 0x36 rd rs1 rs2) s)

/-- G_QUEUE_COMPLETE: the instruction at the front acts on the lanes; `parity` says that the tile store's own parity failed
(R115). An exception of it is the program's, at the instruction's place. -/
def devGQueueComplete (g : Fin 12) (parity : Bool) (d : Device) : Device :=
  if !d.answers (88 + g.val) then d
  else match (d.gc g).queue with
    | [] => d
    | x :: rest =>
      let d := d.setGc g { d.gc g with queue := rest }
      let (f, d) := if parity then (some .parity, d) else d.gRun g x
      match f with
      | some c => if d.engRuns (.gc g) then d.unitFault (.eng (.gc g)) c x.pc else d
      | none => d

def execGQueueComplete (g : Fin 12) (parity : Bool) (s : State) : Host.Outcome State Fault Refusal :=
  .next (s.onDev (devGQueueComplete g parity))

end Sys2Proof.Machine
end

