-- ==== Sys2Proof/Machine/Host.lean ====
section
/-! DEFINITION. READ and WRITE of control-window words by the host (R459, R527–R530), and a register write by any initiator
(R9). -/

namespace Sys2Proof.Machine

/-! ### Permission (R529) -/

/-- A register that is read-only to the host whatever MMP_PERM holds. -/
def hostFixed (a : Nat) : Bool :=
  [R.MMP_PERM, R.MMP_CFG, R.ETH_RX_BASE, R.ETH_RX_HEAD, R.ETH_RX_TAIL, R.ETH_TX_BASE, R.ETH_TX_HEAD, R.ETH_TX_TAIL].contains a

/-- The host may read, or write, the word at an address. -/
def Device.hostMay (d : Device) (write : Bool) (a : Nat) : Bool :=
  if a < 0x20000000 ∨ 14 ≤ blockOf a then false
  else
    let code := bitsOf (d.reg R.MMP_PERM).toNat (2 * blockOf a) 2
    if write then code == 2 && !hostFixed a else code == 1 || code == 2

/-! ### Serving (R527, R528) -/

/-- A READ or WRITE body is as it must be. -/
def wordsOk (write : Bool) (b : List (BitVec 8)) : Bool :=
  let n := fieldOf b 4 2
  decide (8 ≤ b.length ∧ 1 ≤ n ∧ n ≤ 256) && fieldOf b 0 4 % 4 == 0 && decide (fieldOf b 6 1 < 2) && zeroField b 7 1 &&
    b.length == (if write then 8 + 4 * n else 8)

/-- Words read in order: those read, and the index of the first error response. -/
def Sys.hostReads : List Nat → List (BitVec 8) → Nat → Sys → List (BitVec 8) × Option Nat × Sys
  | [], out, _, y => (out, none, y)
  | a :: rest, out, i, y =>
    match y.regRead .host a with
    | (none, y) => (out, some i, y)
    | (some v, y) => Sys.hostReads rest (out ++ natBytes 4 v.toNat) (i + 1) y

/-- Words written in order up to the first error response; a restart that one of them asks for ends the rest. -/
def Sys.hostWrites (id : Nat) : List (Nat × BitVec 32) → Nat → Sys → Option Nat × Sys
  | [], _, y => (none, y)
  | (a, v) :: rest, i, y =>
    if !y.dev.sessIs id then (none, y)
    else match y.regWrite .host a v with
      | (false, y) => (some i, y)
      | (true, y) => Sys.hostWrites id rest (i + 1) y

/-- The ETH island serves one READ or WRITE message of a session. -/
def Sys.serveWords (y : Sys) (write : Bool) (id : Nat) (m : List (BitVec 8)) : Sys :=
  let b := msgBody m
  let kind := msgKind m
  let reply (result index : Nat) (body : List (BitVec 8)) (y : Sys) : Sys :=
    y.onDev (·.mmpSend id (replyOf kind (msgTag m) result 0 index body))
  let addrs := msgAddrs b
  if !wordsOk write b then reply mmpBadMsg 0 [] y
  else if y.dev.boot.phase ≠ .recovery ∧ addrs.all (y.dev.hostMay write) = false then reply mmpDenied 0 [] y
  else if !y.dev.answers 46 then reply mmpXdown 0 [] y
  else if write then
    let vs := addrs.zipIdx.map (fun p => (p.1, BitVec.ofNat 32 (fieldOf b (8 + 4 * p.2) 4)))
    match y.hostWrites id vs 0 with
    | (some i, y) => reply mmpXdown i [] y
    | (none, y) => reply mmpOk 0 [] y
  else match y.hostReads addrs [] 0 with
    | (_, some i, y) => reply mmpXdown i [] y
    | (out, none, y) => reply mmpOk 0 out y

/-- The oldest READ or WRITE that waits in the ETH island is served, where it is of the command's kind. -/
def sysMmpWords (write : Bool) (y : Sys) : Sys :=
  let isWords (m : Nat × List (BitVec 8)) : Bool := msgKind m.2 == 5 || msgKind m.2 == 6
  if !y.dev.answers 48 then y
  else match y.dev.eth.inbox.find? isWords with
    | none => y
    | some (id, m) =>
      if msgKind m ≠ (if write then 6 else 5) then y
      else (y.onDev (·.onEth (fun e => { e with inbox := e.inbox.eraseP isWords }))).serveWords write id m

def execMmpRead (s : State) : Host.Outcome State Fault Refusal := .next (s.onSys (sysMmpWords false))
def execMmpWrite (s : State) : Host.Outcome State Fault Refusal := .next (s.onSys (sysMmpWords true))

/-- REGISTER_WRITE: an initiator writes a control-window register; a write that draws an error response is discarded. -/
def sysRegisterWrite (who : Initiator) (a : Nat) (v : BitVec 32) (y : Sys) : Sys :=
  if inWindow a && a % 4 == 0 then (y.regWrite who a v).2 else y

def execRegisterWrite (who : Initiator) (a : Nat) (v : BitVec 32) (s : State) : Host.Outcome State Fault Refusal :=
  .next (s.onSys (sysRegisterWrite who a v))

end Sys2Proof.Machine
end

