-- ==== Sys2Proof/Machine/Messages.lean ====
section
/-! DEFINITION. The messages firmware serves, and the mask ROM in recovery wait: SPDM, LOAD, RUN and BULK (R275, R459, R493,
R519–R526, R534, R535). -/

namespace Sys2Proof.Machine

/-! ### Serving a request -/

/-- A request taken from those handed over: its SESSION_ID and TAG, TYPE and body. -/
structure MmpReq where
  session : Nat
  tag : Nat
  kind : Nat
  body : List (BitVec 8)
  deriving DecidableEq, Repr

/-- A reply to a request. -/
def MmpReq.answer (r : MmpReq) (result code : Nat) (body : List (BitVec 8)) : MmpOut :=
  replyOf r.kind r.tag result code 0 body

/-- OK for code 0, and REFUSED with the code otherwise. -/
def MmpReq.coded (r : MmpReq) (code : Nat) : MmpOut := r.answer (if code = 0 then mmpOk else mmpRefused) code []

/-- Firmware runs, or the mask ROM serves in recovery wait. -/
def Device.fwServes (d : Device) : Bool :=
  d.answers 48 && ((d.gateOpen && (List.finRange 4).any (fun c => d.answers (42 + c.val))) || d.boot.phase == .recovery)

/-- The oldest request that `p` picks is taken and served; the reply, where one is due now, goes to its session. -/
def Sys.mmpServe (y : Sys) (p : List (BitVec 8) → Bool) (f : MmpReq → Sys → Option MmpOut × Sys) : Sys :=
  if !y.dev.fwServes then y
  else match y.dev.eth.fwReqs.find? (fun m => p m.2) with
    | none => y
    | some (id, m) =>
      let y := y.onDev (·.onEth (fun e => { e with fwReqs := e.fwReqs.eraseP (fun m => p m.2) }))
      match f ⟨id, msgTag m, msgKind m, msgBody m⟩ y with
      | (none, y) => y
      | (some out, y) => y.onDev (·.mmpSend id out)

/-- A request of a TYPE whose body begins with a byte: OBJECT of a LOAD, STREAM of a BULK. -/
def isReq (kind first : Nat) (m : List (BitVec 8)) : Bool := msgKind m == kind && fieldOf (msgBody m) 0 1 == first

/-! ### SPDM (R463, R468) -/

/-- A request of the security core is refused: before the gate, during an activation, while a chunked request is held, or once
it has stopped (R436, R450, R464, R481). -/
def Device.secRefuses (d : Device) (stage : Bool) : Bool :=
  d.sec.stopped || !d.answers 39 || !d.gateOpen || d.activating ||
    (match d.boot.chunk with
      | none => false
      | some c => !(stage && c.stage))

/-- MMP_SPDM. -/
def serveSpdm (r : MmpReq) (y : Sys) : Option MmpOut × Sys :=
  let d := y.dev
  if d.boot.phase ≠ .recovery ∧ d.flag R.SEC_REQ_STAT F.SEC_REQ_STAT.BUSY = true then (some (r.answer mmpBusy 0 []), y)
  else if (d.boot.phase ≠ .recovery ∧ d.secRefuses false = true) ∨ d.sec.stopped = true then (some (r.coded 0x20), y)
  else
    let (a, y) := spdmAnswer r.body y
    (some (r.answer mmpOk 0 a), y)

def execMmpSpdm (s : State) : Host.Outcome State Fault Refusal :=
  .next (s.onSys (fun y => y.mmpServe (fun m => msgKind m == 2) serveSpdm))

/-! ### LOAD (R522, R523) -/

/-- Fields of a LOAD body. -/
def loadFirst (b : List (BitVec 8)) : Bool := bit (fieldOf b 1 1) 0
def loadLast (b : List (BitVec 8)) : Bool := bit (fieldOf b 1 1) 1
def loadSlot (b : List (BitVec 8)) : Nat := fieldOf b 2 1
def loadOffset (b : List (BitVec 8)) : Nat := fieldOf b 4 4
def loadTotal (b : List (BitVec 8)) : Nat := fieldOf b 8 4
def loadTrial (b : List (BitVec 8)) : Nat := if fieldOf b 12 2 = 0 then 120 else fieldOf b 12 2
def loadData (b : List (BitVec 8)) : List (BitVec 8) := b.drop 16

/-- The load of an OBJECT in progress; a FIRST abandons it. -/
def EthCtx.load (e : EthCtx) (b : List (BitVec 8)) : LoadCtx :=
  let object := fieldOf b 0 1
  let new : LoadCtx := ⟨object, loadSlot b, [], loadTrial b⟩
  if loadFirst b then new else (e.loads.find? (fun l => l.object == object)).getD new

/-- The load of its OBJECT replaced, or at its end dropped. -/
def Device.setLoad (d : Device) (l : LoadCtx) (ended : Bool) : Device :=
  d.onEth (fun e => { e with
    loads := e.loads.filter (fun x => x.object != l.object) ++ (if ended then [] else [l]) })

/-- The bytes so far with those of the chunk; none where OFFSET is not the number of bytes taken so far, or where the LAST
chunk does not end at TOTAL_LEN. -/
def LoadCtx.take (l : LoadCtx) (b : List (BitVec 8)) : Option LoadCtx :=
  let n := loadOffset b + (loadData b).length
  if loadOffset b ≠ l.bytes.length ∨ (if loadLast b then n ≠ loadTotal b else loadTotal b < n) then none
  else some { l with bytes := l.bytes ++ loadData b }

/-- Bytes written so far of a component of the named slot in recovery wait, and at LAST the check of the whole slot (R459). -/
def Sys.recoveryChunk (y : Sys) (comp : Component) (l : LoadCtx) (last : Bool) (flash : BitVec 3) : Nat × Sys :=
  if 1 < l.slot ∨ l.tTrial < 30 ∨ 900 < l.tTrial then (0x21, y)
  else if comp.maxLen < l.bytes.length then (0x03, y)
  else
    let s : Fin 2 := if l.slot = 0 then 0 else 1
    let slot := (y.nv.slots[s]).putPart comp l.bytes
    let y : Sys := { y with nv := { y.nv with slots := vset y.nv.slots s slot } }
    if !last then (0, y)
    else
      let code := slotCheck y.dev.shadow slot (fun c => flash.getLsbD c.code)
      if code ≠ 0 then (code, y)
      else (0, y.putDir (fun x => { x with
        skip := if bit x.skip s.val then x.skip - 2 ^ s.val else x.skip, trial := 1, trialSlot := s, tTrial := l.tTrial }))

/-- A chunk of SECFW, PACK or MGMT. A chunk refused with 0x20 leaves the progress held (R479). -/
def serveImage (comp : Component) (flash : BitVec 3) (r : MmpReq) (y : Sys) : Option MmpOut × Sys :=
  let b := r.body
  let recovery := y.dev.boot.phase == .recovery
  match (y.dev.eth.load b).take b with
  | none => (some (r.coded 0x21), y)
  | some l =>
    if !recovery && y.dev.flag R.SEC_REQ_STAT F.SEC_REQ_STAT.BUSY then (some (r.answer mmpBusy 0 []), y)
    else
      let (code, y) :=
        if recovery then y.recoveryChunk comp l (loadLast b) flash
        else if y.dev.secRefuses true then (0x20, y)
        else y.stageChunk comp (loadFirst b) (loadLast b) l.tTrial flash (loadData b)
      let y := if code = 0x20 ∨ code = 0x21 then y else y.onDev (·.setLoad l (loadLast b || code != 0))
      (some (r.coded code), y)

/-- LOAD_SECFW, LOAD_PACK and LOAD_MGMT; `flash` says which components were read back with an error. -/
def sysLoadImage (comp : Component) (object : Nat) (flash : BitVec 3) (y : Sys) : Sys :=
  y.mmpServe (isReq 3 object) (serveImage comp flash)

def execLoadSecfw (flash : BitVec 3) (s : State) : Host.Outcome State Fault Refusal :=
  .next (s.onSys (sysLoadImage .secfw 1 flash))
def execLoadPack (flash : BitVec 3) (s : State) : Host.Outcome State Fault Refusal := .next (s.onSys (sysLoadImage .pack 2 flash))
def execLoadMgmt (flash : BitVec 3) (s : State) : Host.Outcome State Fault Refusal := .next (s.onSys (sysLoadImage .mgmt 3 flash))

/-- The slot a pack that passes R275 takes: that of its PACK_ID, or a free one. -/
def packSlot (packs : Vector (List (BitVec 8)) 16) (p : List (BitVec 8)) : Option (Fin 16) :=
  match (List.finRange 16).find? (fun k => !(packs[k]).isEmpty && packId packs[k] == packId p) with
  | some k => some k
  | none => (List.finRange 16).find? (fun k => (packs[k]).isEmpty)

/-- The first failing check of R275, or 0. -/
def Sys.packLoadCheck (y : Sys) (p : List (BitVec 8)) : Nat :=
  if packCheck y.dev.shadow p ≠ 0 then packCheck y.dev.shadow p
  else if (List.finRange 16).any (fun k =>
      let q := y.nv.packs[k]
      !q.isEmpty && packId q == packId p && decide (packVersion p ≤ packVersion q)) then 7
  else if (packSlot y.nv.packs p).isNone then 8
  else 0

/-- RUN_NOW: each unit of an accelerator of the pack's MODEL falls due. -/
def Device.runNow (d : Device) (model : Nat) : Device :=
  let ids := (List.finRange 8).flatMap (fun b => if d.peerModel b = model then (d.link b).slices.map (·.unitId) else [])
  { d with fs := { d.fs with units := d.fs.units.map (fun u => if ids.contains u.id then { u with due := d.ft } else u) } }

/-- A pack installed in a slot, with its PACK record (R276, R284). -/
def Sys.installPack (y : Sys) (k : Fin 16) (p : List (BitVec 8)) : Sys where
  nv := { y.nv with packs := vset y.nv.packs k p }
  dev :=
    let d := (y.dev.cachePack k.val p).showPack k.val p
    let d := d.fsEnqueue (.pack 1 (ownerSigned p (packTrailer p)) (packTests p).length (packId p) (packVersion p))
    let d := if packRunNow p then d.runNow (packModel p) else d
    d.fsSettle

/-- LOAD_STENCIL_PACK: gathered, and checked at LAST; while a run of the pack it replaces is in flight the host is to send
LAST again. -/
def serveStencil (r : MmpReq) (y : Sys) : Option MmpOut × Sys :=
  let b := r.body
  match (y.dev.eth.load b).take b with
  | none => (some (r.coded 0x21), y)
  | some l =>
    if !loadLast b then (some (r.coded 0), y.onDev (·.setLoad l false))
    else if !y.dev.answers 47 || !y.dev.flag R.FS_STATUS F.FS_STATUS.READY then (some (r.answer mmpBusy 0 []), y)
    else match y.packLoadCheck l.bytes, packSlot y.nv.packs l.bytes with
      | 0, some k =>
        if y.dev.packBusy k.val then (some (r.answer mmpBusy 0 []), y)
        else (some (r.coded 0), (y.onDev (·.setLoad l true)).installPack k l.bytes)
      | code, _ => (some (r.coded code), y.onDev (·.setLoad l true))

def execLoadStencilPack (s : State) : Host.Outcome State Fault Refusal :=
  .next (s.onSys (fun y => y.mmpServe (isReq 3 4) serveStencil))

/-- LOAD_GOLDEN: gathered, and checked at LAST; refused on the grounds of R477. `flash` says that the image was read back with
an error. -/
def serveGolden (flash : Bool) (r : MmpReq) (y : Sys) : Option MmpOut × Sys :=
  let b := r.body
  if y.updBlock % 64 ≠ 0 then (some (r.coded 0x20), y)
  else match (y.dev.eth.load b).take b with
    | none => (some (r.coded 0x21), y)
    | some l =>
      if h : l.slot < 4 then
        if !loadLast b then (some (r.coded 0), y.onDev (·.setLoad l false))
        else if !y.dev.answers 47 then (some (r.answer mmpBusy 0 []), y)
        else
          let (code, y) := (y.onDev (·.setLoad l true)).goldLoad ⟨l.slot, h⟩ l.bytes flash
          (some (r.coded code), y)
      else (some (r.coded 0x21), y)

def execLoadGolden (flash : Bool) (s : State) : Host.Outcome State Fault Refusal :=
  .next (s.onSys (fun y => y.mmpServe (isReq 3 5) (serveGolden flash)))

/-- LOAD_HOST_CODE. -/
def serveCode (r : MmpReq) (y : Sys) : Option MmpOut × Sys :=
  let b := r.body
  if 65536 < loadTotal b ∨ loadTotal b % 4 ≠ 0 then (some (r.coded 0x21), y)
  else match (y.dev.eth.load b).take b with
    | none => (some (r.coded 0x21), y)
    | some l =>
      if h : l.slot < 8 then
        let y := y.onDev (·.setLoad l (loadLast b))
        let y := if loadLast b then y.onDev (·.onEth (fun e => { e with code := vset e.code ⟨l.slot, h⟩ l.bytes })) else y
        (some (r.coded 0), y)
      else (some (r.coded 0x21), y)

def execLoadHostCode (s : State) : Host.Outcome State Fault Refusal :=
  .next (s.onSys (fun y => y.mmpServe (isReq 3 6) serveCode))

/-! ### RUN (R524–R526) -/

/-- The sandbox: the first region of the protection unit that lets user code execute; its first and last byte. -/
def Pru.sandbox (p : Pru) : Option (Nat × Nat) :=
  ((List.finRange 16).find? (fun i => (p.attr[i]).getLsbD 0 && (p.attr[i]).getLsbD 6)).map (fun i =>
    ((p.base[i]).toNat / 4096 % 2 ^ 36 * 4096, (p.limit[i]).toNat / 4096 % 2 ^ 36 * 4096 + 4095))

/-- Where firmware keeps CAPS and ARGS of the program on core c (assumption log 60). -/
def runCaps (c : Fin 4) : Nat := 0x10FF0000 + 0x1000 * c.val
def runArgs (c : Fin 4) : Nat := runCaps c + 512

/-- A RUN body is as R524 lays it out. -/
def runOk (b : List (BitVec 8)) : Bool :=
  let args := fieldOf b 8 2
  decide (args ≤ 768 ∧ b.length = 528 + args ∧ fieldOf b 0 1 < 8 ∧ (fieldOf b 1 1 < 4 ∨ fieldOf b 1 1 = 0xFF) ∧
    fieldOf b 2 2 ≤ 60000 ∧ fieldOf b 4 4 % 4 = 0) && zeroField b 10 6

/-- The code, its arguments and its mask stand in memory, and core c enters it in user mode. -/
def Device.startRun (d : Device) (r : MmpReq) (c : Fin 4) (base : Nat) (code ceiling : List (BitVec 8)) : Device :=
  let b := r.body
  let args := (b.drop 528)
  let caps := ((b.drop 16).take 512).zipIdx.map (fun x => x.1 &&& ceiling.getD x.2 0#8)
  let d := d.store base code false
  let d := d.store (runCaps c) (caps ++ args ++ zeros (768 - args.length)) false
  let m := d.cores[c]
  let d := d.setCore c { m with
    pc := BitVec.ofNat 64 (base + fieldOf b 4 4)
    status := statusOf false true m.pie m.ppriv false
    pcapm := BitVec.ofNat 64 (runCaps c)
    pvbase := BitVec.ofNat 64 (runArgs c) }
  d.onEth (fun e => { e with runs := e.runs ++ [⟨c, r.session, r.tag, [], m.instret⟩] })

/-- RUN: on the core it names, or on one that firmware chooses where it names none; at most two programs run at once. -/
def serveRun (c : Fin 4) (ceiling : List (BitVec 8)) (r : MmpReq) (y : Sys) : Option MmpOut × Sys :=
  let d := y.dev
  let b := r.body
  let c := if h : fieldOf b 1 1 < 4 then ⟨fieldOf b 1 1, h⟩ else c
  let code := d.eth.code.toList.getD (fieldOf b 0 1) []
  if !runOk b then (some (r.answer mmpBadMsg 0 []), y)
  else if code.length ≤ fieldOf b 4 4 then (some (r.coded 0x21), y)
  else if 2 ≤ d.eth.runs.length ∨ d.eth.runs.any (fun x => x.core == c) = true ∨ d.unitRuns (.core c) = false then
    (some (r.answer mmpBusy 0 []), y)
  else match d.pru.sandbox with
    | none => (some (r.answer mmpDenied 0 []), y)
    | some (base, last) =>
      if last + 1 < base + code.length then (some (r.answer mmpDenied 0 []), y)
      else (none, { y with dev := d.startRun r c base code ceiling })

def execRunProgram (c : Fin 4) (ceiling : List (BitVec 8)) (s : State) : Host.Outcome State Fault Refusal :=
  .next (s.onSys (fun y => y.mmpServe (fun m => msgKind m == 4) (serveRun c ceiling)))

/-- RUN_LIMIT_EXPIRY: firmware ends the program on core c, from its timer interrupt. -/
def devRunLimitExpiry (c : Fin 4) (d : Device) : Device :=
  match d.eth.runs.find? (fun r => r.core == c) with
  | none => d
  | some r =>
    let d := d.runReply r 0xFE 0#64
    if !d.answers (42 + c.val) || d.cores[c].stopped || d.cores[c].priv then d
    else
      let (tval, d) := d.fresh64
      d.setCore c (d.cores[c].enter (BitVec.ofNat 64 (2 ^ 63)) d.cores[c].pc tval)

def execRunLimitExpiry (c : Fin 4) (s : State) : Host.Outcome State Fault Refusal := .next (s.onDev (devRunLimitExpiry c))

/-! ### BULK (R534, R535) -/

/-- Content of a stream: bytes, each with whether it is poisoned. -/
abbrev Content := List (BitVec 8 × Bool)

/-- Content without poison. -/
def cleanBytes (bs : List (BitVec 8)) : Content := bs.map (fun b => (b, false))

/-- Content read from memory. -/
def Device.readContent (d : Device) (a n : Nat) : Content :=
  (List.range n).map (fun i => (memByte d.mem (a + i), d.poisoned (a + i)))

/-- A BULK message: OFFSET, LAST, LINE_POISON and the data, a poisoned line as zeros. -/
def bulkMsg (id offset : Nat) (last : Bool) (c : Content) : MmpOut :=
  let lines := (List.range ((c.length + 63) / 64)).filter (fun i => ((c.drop (64 * i)).take 64).any (·.2))
  let data := c.zipIdx.map (fun x => if lines.contains (x.2 / 64) then 0#8 else x.1.1)
  { replyOf 8 id 0 0 0 (natBytes 8 offset ++ natBytes 1 (natOf last) ++ zeros 7 ++
      natBytes 16 (lines.map (fun i => 2 ^ i)).sum ++ data) with reply := false }

/-- The messages of a stream from an offset, with `size` bytes of data in each. -/
def bulkMsgs (id size : Nat) : Nat → Nat → Content → List MmpOut
  | 0, _, _ => []
  | n + 1, offset, c =>
    if c.length ≤ size then [bulkMsg id offset true c]
    else bulkMsg id offset false (c.take size) :: bulkMsgs id size n (offset + size) (c.drop size)

/-- A stream opened with the content given, for the session that asked; a fifth is BUSY. -/
def openBulk (content : Option Content) (r : MmpReq) (y : Sys) : Option MmpOut × Sys :=
  match content, y.dev.eth.sess with
  | none, _ => (some (r.answer mmpBadMsg 0 []), y)
  | some _, none => (none, y)
  | some c, some s =>
    if s.id ≠ r.session then (none, y)
    else if 4 ≤ y.dev.eth.streams.length then (some (r.answer mmpBusy 0 []), y)
    else
      let id := y.dev.eth.nextStream
      let size := (s.maxp * 1024 - 48) / 64 * 64
      let msgs := bulkMsgs id size (c.length / size + 1) 0 c
      let y := y.onDev (·.onEth (fun e => { e with
        streams := e.streams ++ [(id, msgs)], nextStream := if id = 65535 then 1 else id + 1 }))
      (some (r.answer mmpOk 0 (natBytes 4 id)), y)

/-- FROM and ARG. -/
def bulkFrom (b : List (BitVec 8)) : Nat := fieldOf b 4 8
def bulkArg (b : List (BitVec 8)) : Nat := fieldOf b 12 4

/-- A BULK command: the oldest request for its STREAM, with the content `f` gives; none for an ARG or FROM that is not as R534
has it. -/
def sysBulk (stream : Nat) (f : List (BitVec 8) → Sys → Option Content) (y : Sys) : Sys :=
  y.mmpServe (isReq 8 stream) (fun r y => openBulk (f r.body y) r y)

/-- Flowstone records from flash, then the journal. -/
def flowstoneContent (b : List (BitVec 8)) (y : Sys) : Option Content :=
  if bulkArg b ≠ 0 then none
  else
    let rs := logRecords y.nv.fsLog ++ y.dev.fs.journal.map (·.2)
    some (cleanBytes ((rs.filter (fun r => decide (bulkFrom b ≤ r.seq))).flatMap FsRecord.bytes))

def execBulkFlowstone (s : State) : Host.Outcome State Fault Refusal := .next (s.onSys (sysBulk 1 flowstoneContent))

/-- The seal ledger of a bay as firmware keeps it. -/
def ledgerContent (b : List (BitVec 8)) (y : Sys) : Option Content :=
  if h : bulkArg b < 8 then
    some (cleanBytes ((y.dev.ledgers[(⟨bulkArg b, h⟩ : Fin 8)].filter (fun e => decide (bulkFrom b ≤ fieldOf e 0 8))).flatten))
  else none

def execBulkLedger (s : State) : Host.Outcome State Fault Refusal := .next (s.onSys (sysBulk 2 ledgerContent))

/-- The 32-byte item header and the bytes of a part held in the sample area. -/
def Device.partContent (d : Device) (st : StepCtx) (x : SampleCtx) (p : PartCtx) : Content :=
  let data := d.readContent p.addr p.len
  cleanBytes (natBytes 4 x.tile ++ natBytes 6 st.step ++ natBytes 2 st.epoch ++ natBytes 1 p.slice ++ natBytes 1 p.part ++
    natBytes 2 p.fmt ++ natBytes 2 p.m ++ natBytes 2 p.n ++ natBytes 4 p.kM1 ++ natBytes 4 p.len ++
    natBytes 4 (crc32c (memBytes d.mem p.addr p.padded)).toNat) ++ data

/-- The parts held for a bay, or for one step of it. -/
def sampleContent (b : List (BitVec 8)) (y : Sys) : Option Content :=
  if h : bulkArg b < 8 then
    let d := y.dev
    let steps := (d.wit ⟨bulkArg b, h⟩).steps.filter (fun s => bulkFrom b == 0 || s.step == bulkFrom b)
    some (steps.flatMap (fun s => s.samples.flatMap (fun x =>
      (x.parts.filter (fun p => p.addr != 0)).flatMap (d.partContent s x))))
  else none

def execBulkSample (s : State) : Host.Outcome State Fault Refusal := .next (s.onSys (sysBulk 3 sampleContent))

/-- The image in a golden slot, re-checked as it is read; one that fails, or whose read fails, counts as absent (R461). -/
def goldenContent (flash : Bool) (b : List (BitVec 8)) (y : Sys) : Option Content :=
  if h : bulkArg b < 4 then
    if bulkFrom b ≠ 0 then none
    else
      let p := y.nv.golden[(⟨bulkArg b, h⟩ : Fin 4)]
      let ok := !p.isEmpty && !flash && trustCheck y.dev.shadow true p (goldTrailer p) == 0 && goldBlocksOk p
      some (cleanBytes (if ok then p else []))
  else none

def execBulkGolden (flash : Bool) (s : State) : Host.Outcome State Fault Refusal :=
  .next (s.onSys (sysBulk 4 (goldenContent flash)))

/-- A hold-up record as its 1,024 bytes (R355). -/
def HoldupRec.bytes (r : HoldupRec) : List (BitVec 8) :=
  let body := natBytes 4 0x52444C48 ++ natBytes 1 1 ++ natBytes 1 r.cause ++ natBytes 2 r.vin ++ natBytes 8 r.seq ++
    natBytes 6 r.ft ++ natBytes 1 r.trayPwr ++ natBytes 1 r.baysLast ++ r.railEn.flatMap (natBytes 1) ++
    r.railPg.flatMap (natBytes 1) ++ natBytes 2 r.vhold ++ zeros 18 ++ r.counters.flatMap (natBytes 2) ++ zeros 316
  body ++ natBytes 4 (crc32c body).toNat

/-- Hold-up records in SEQ order. -/
def holdupContent (b : List (BitVec 8)) (y : Sys) : Option Content :=
  if bulkArg b ≠ 0 then none
  else
    let rs := ((y.nv.holdup.map (·.2)).filter (fun r => !r.torn && decide (bulkFrom b ≤ r.seq))).mergeSort
      (fun a c => decide (a.seq ≤ c.seq))
    some (cleanBytes (rs.flatMap HoldupRec.bytes))

def execBulkHoldup (s : State) : Host.Outcome State Fault Refusal := .next (s.onSys (sysBulk 5 holdupContent))

end Sys2Proof.Machine
end

