-- ==== Sys2Proof/Machine/Ports.lean ====
section
/-! DEFINITION. The ports of the E- and G-profile units (R65–R71): the common ones, and those of the sequencers (R349), the
cooling engines (R384), the bus engines (R414), the witness engines (R226, R246) and the Gallery clusters (R248). -/

namespace Sys2Proof.Machine

/-! ### What each port allows -/

/-- What a port of an E- or G-profile unit allows: reading, writing, and which bits BSET and BCLR change, as RW bits and
as W1C or W1S bits (R65–R68). -/
structure PortInfo where
  rd : Bool
  wr : Bool
  rw : BitVec 32
  w1 : BitVec 32
  deriving DecidableEq, Repr

/-- A read of a port: its value, or an error response (R70). -/
inductive PortVal where
  | ok (v : BitVec 32)
  | down
  deriving DecidableEq, Repr

def portRo : Option PortInfo := some ⟨true, false, 0#32, 0#32⟩
def portWo : Option PortInfo := some ⟨false, true, 0#32, 0#32⟩
def portRw (mask : BitVec 32) : Option PortInfo := some ⟨true, true, mask, 0#32⟩
def portW1c (mask : BitVec 32) : Option PortInfo := some ⟨true, true, 0#32, mask⟩

/-- The common ports (R65, R66). -/
def commonPort (p : Nat) : Option PortInfo :=
  if p = 1 then portW1c 3#32
  else if p = 2 ∨ p = 6 then portWo
  else if p < 10 ∨ (0x40 ≤ p ∧ p < 0x100) then portRo
  else none

/-- The ports of a sequencer; some are a bay's only, and some SEQ8's (R349). -/
def seqPort (i : Fin 9) (p : Nat) : Option PortInfo :=
  let tray : Bool := i == 8
  if p = 0x100 then portRw (BitVec.ofNat 32 (chanMask i))
  else if p = 0x103 ∨ p = 0x108 then portW1c (BitVec.ofNat 32 (chanMask i))
  else if p = 0x104 then (if tray then none else portRw 0xF#32)
  else if p = 0x105 then (if tray then none else portRo)
  else if p = 0x107 then portWo
  else if p < 0x10C then portRo
  else if p = 0x110 ∨ p = 0x113 then (if tray then portWo else none)
  else if p = 0x111 ∨ p = 0x112 then (if tray then portRo else none)
  else if 0x140 ≤ p ∧ p < 0x160 then portRo
  else none

/-- The ports of a cooling engine (R384). -/
def coolPort (p : Nat) : Option PortInfo :=
  if p = 0x100 then portRw 0xF#32
  else if p = 0x102 ∨ p = 0x103 then portRw 0x7F#32
  else if p = 0x105 then portRw 0x1F#32
  else if p = 0x10C then portW1c 0x80#32
  else if p < 0x10C then portRo
  else none

/-- The ports of a bus engine (R414). -/
def busPort (p : Nat) : Option PortInfo :=
  if p = 0x100 then portRw 0x00FF1F7F#32
  else if p = 0x101 then portRw 0x01FF01FF#32
  else if p = 0x102 ∨ p = 0x108 ∨ p = 0x109 ∨ p = 0x10A then portWo
  else if p = 0x103 then portW1c 2#32
  else if p < 0x107 ∨ p = 0x10B then portRo
  else if 0x140 ≤ p ∧ p < 0x180 then portRw 0xFFFFFFFF#32
  else none

/-- The ports of a witness engine (R226, R246). -/
def witPort (p : Nat) : Option PortInfo :=
  if p = 0x104 ∨ p = 0x108 ∨ p = 0x120 ∨ (0x110 ≤ p ∧ p < 0x120) then portWo
  else if p < 0x106 ∨ (0x109 ≤ p ∧ p < 0x10C) ∨ p = 0x121 ∨ p = 0x122 ∨ (0x124 ≤ p ∧ p < 0x12C) then portRo
  else none

/-- The ports of a Gallery cluster (R248). -/
def gcPort (p : Nat) : Option PortInfo :=
  if p < 0x111 ∨ p = 0x112 ∨ p = 0x119 ∨ p = 0x120 ∨ p = 0x121 then portRo
  else if p = 0x111 ∨ p = 0x113 ∨ p = 0x118 then portWo
  else if p = 0x114 then portRw 0xFFFFFFFF#32
  else if p = 0x115 then portRw 0xFFFF#32
  else if p = 0x116 then portRw 0x3FFFFF#32
  else if p = 0x117 then portRw 0x7FFFFF#32
  else if p = 0x11A then portRw 5#32
  else if 0x11C ≤ p ∧ p < 0x120 then portRw 0x7FF#32
  else none

/-- What port p of a unit allows; none where it is reserved or not defined for the unit (R67). -/
def portInfo (u : EUnit) (p : Nat) : Option PortInfo :=
  if p < 0x100 then commonPort p
  else match u with
    | .eng (.seq i) => seqPort i p
    | .eng (.cool _) => coolPort p
    | .eng (.bus _) => busPort p
    | .eng (.wit _) => witPort p
    | .eng (.gc _) => gcPort p
    | _ => none

/-! ### Islands that ports reach (R70) -/

/-- The islands, beside the unit's own, that answer an access to a port. -/
def portIslands (u : EUnit) (p : Nat) (v : BitVec 32) (d : Device) : List Nat :=
  match u with
  | .eng (.seq _) =>
    if p = 0x109 then [10]
    else if p = 0x10A then [9]
    else if p = 0x110 then ((List.range 8).filter (fun n => v.getLsbD n || v.getLsbD (8 + n))).map (1 + ·)
    else if p = 0x111 then (List.range 8).map (1 + ·)
    else []
  | .eng (.cool i) =>
    if p = 0x101 ∨ p = 0x102 then [10]
    else if p = 0x104 ∨ p = 0x107 ∨ (0x108 ≤ p ∧ p < 0x10C) then [25]
    else if p = 0x106 then
      let c := d.cool.ports[i].csel
      if c < 12 then [12 + c] else if 16 ≤ c ∧ c < 24 then [24] else []
    else []
  | .eng (.bus _) => if p = 0x108 then [25] else if p = 0x109 then [9] else []
  | _ => []

/-- Every island a port's access needs answers. -/
def portAnswers (u : EUnit) (p : Nat) (v : BitVec 32) (d : Device) : Bool := (portIslands u p v d).all d.answers

/-! ### Reads -/

/-- A word, with nothing else changed. -/
def here (n : Nat) (d : Device) : BitVec 32 × Device := (BitVec.ofNat 32 n, d)

/-- The type, index and generation of a unit (R65, R126). -/
def engineId : EUnit → Nat
  | .core c => 0x10008 + 256 * c.val
  | .eng e => 0x10000 + 256 * e.index + e.typeCode
  | .sec => 0x10007

/-- A common port read (R65, R66); the security core takes no pack entry, and has its default period. -/
def commonRead (u : EUnit) (p : Nat) (d : Device) : BitVec 32 × Device :=
  let c := d.ectx u
  if p = 0 then
    let (t, d) := d.lapse
    let now := (c.timer + t) % 2 ^ 32
    (BitVec.ofNat 32 now, d.setEctx u { c with timer := now })
  else if p = 1 then
    here (natOf c.xdown + 2 * natOf c.mboxLost + 4 * natOf (!c.mboxIn.isEmpty) + 8 * natOf (decide (16 ≤ c.mboxOut.length))) d
  else if p = 3 then
    match u with
    | .eng e => here (d.fld (R.ENG_WDOG e.win) F.ENG_WDOG.PERIOD) d
    | _ => here 100 d
  else if p = 4 then
    match c.mboxIn with
    | [] => here 0 d
    | v :: rest => (v, d.setEctx u { c with mboxIn := rest })
  else if p = 5 then here c.mboxIn.length d
  else if p = 7 then here (16 - c.mboxOut.length) d
  else if p = 8 then here (engineId u) d
  else if p = 9 then here c.xdownCnt d
  else
    match u with
    | .eng e => if p - 0x40 < d.varCount e then (d.reg (packVarReg e (p - 0x40)), d) else here 0 d
    | _ => here 0 d

/-- A sequencer port read (R349). -/
def seqRead (i : Fin 9) (p : Nat) (d : Device) : BitVec 32 × Device :=
  if p = 0x100 then here (d.railEn i) d
  else if p = 0x101 then here (d.railPg i) d
  else if p = 0x102 then here (d.railSeen i) d
  else if p = 0x103 then here (d.fld (R.SQ_RAIL_ST2 i.val) F.SQ_RAIL_ST2.LATE) d
  else if p = 0x104 then here (d.bayOut i) d
  else if p = 0x105 then
    let (x, d) := d.fresh
    here (x.toNat % 32) d
  else if p = 0x106 then here (d.pwr i + 256 * d.fld (R.SQ_STATUS i.val) F.SQ_STATUS.LAST_DOWN) d
  else if p = 0x108 then here (d.fld (R.SQ_FAULTED i.val) F.SQ_FAULTED.FAULTED) d
  else if p = 0x109 then here (natOf d.fansProven) d
  else if p = 0x10A then
    here (d.trayPwr + 8 * d.fld R.TR_STAT F.TR_STAT.VIN_OK + 16 * d.fld R.TR_STAT F.TR_STAT.HOLD_OK + 32 * natOf d.pins.seatedSeen) d
  else if p = 0x10B then
    if d.flag (R.SQ_STATUS i.val) F.SQ_STATUS.WARN then
      let (x, d) := d.fresh
      here (x.toNat % (10 * d.fld (R.SQ_CFG i.val) F.SQ_CFG.T_WARN + 1)) d
    else here 0 d
  else if p = 0x111 then here ((List.finRange 8).foldl (fun n b => n + d.pwr (seqOf b) * 8 ^ b.val) 0) d
  else if p = 0x112 then here d.tray.segReq d
  else
    let c := (p - 0x140) / 2
    (d.reg (if p % 2 = 0 then R.SQ_CNT_A i.val c else R.SQ_CNT_B i.val c), d)

/-- What CP_CHAN shows of a channel; a channel that does not exist shows a free value (assumption log 2). -/
def chanRead (c : Nat) (d : Device) : BitVec 32 × Device :=
  let (x, d) := d.fresh
  let rpm := x.toNat / 2 ^ 16 * 2 ^ 16
  if c < 12 then here (d.fld (R.MOT_STAT c) F.MOT_STAT.STATE + 16 * d.fld (R.MOT_CMD c) F.MOT_CMD.PCT + rpm) d
  else if 16 ≤ c ∧ c < 24 then
    here (d.fld (R.AX_STAT (c - 16)) F.AX_STAT.STATE + 16 * d.fld (R.AX_STAT (c - 16)) F.AX_STAT.DUTY + rpm) d
  else (x, d)

/-- A cooling port read (R384). -/
def coolRead (i : Fin 2) (p : Nat) (d : Device) : BitVec 32 × Device :=
  let c := d.cool.ports[i]
  let m (f : Fld) : Nat := d.fld R.CL_MODE f
  if p = 0x100 then here c.zsel d
  else if p = 0x101 then here ((d.reg (R.CL_ZSTAT c.zsel)).toNat % 2 ^ 19) d
  else if p = 0x102 then here (d.fld (R.CL_ZSTAT c.zsel) F.CL_ZSTAT.DEMAND) d
  else if p = 0x103 then here c.ssel d
  else if p = 0x104 then (d.reg (R.CL_SENS c.ssel), d)
  else if p = 0x105 then here c.csel d
  else if p = 0x106 then chanRead c.csel d
  else if p = 0x107 then
    here ((List.range 8).foldl (fun n l =>
      n + (d.fld (R.CL_LK_STAT l) F.CL_LK_STAT.STATE + 8 * d.fld (R.CL_LK_STAT l) F.CL_LK_STAT.LATCHED) * 16 ^ l) 0) d
  else if p < 0x10C then (d.reg (R.CL_FLOW (p - 0x108)), d)
  else
    here (m F.CL_MODE.MODE_NOW + 4 * m F.CL_MODE.FANS_PROVEN + 8 * m F.CL_MODE.BLIND + 16 * m F.CL_MODE.FAIL_OVR +
      32 * m F.CL_MODE.LEAK_OVR + 64 * m F.CL_MODE.FAULT_OVR + 128 * natOf c.notOwn) d

/-- A bus port read (R414); the levels of the lines are free values. -/
def busRead (m : Fin 12) (p : Nat) (d : Device) : BitVec 32 × Device :=
  let c := d.bus m
  if p = 0x100 then (c.xferA, d)
  else if p = 0x101 then (c.xferB, d)
  else if p = 0x103 then
    here (natOf c.busy + 2 * natOf c.goLost + 16 * c.result + 256 * c.rcount + 2 ^ 17 * c.arbLosses + 2 ^ 21 * c.addrRetries) d
  else if p = 0x104 then
    let (x, d) := d.fresh
    here (x.toNat % 8 + 8 * natOf (d.busStuck m) + 16 * natOf (d.unpowered m)) d
  else if p = 0x105 then
    match c.hn with
    | [] => here 0 d
    | (a, w) :: rest => here (1 + 2 * a + 2 ^ 16 * w) (d.setBus m { c with hn := rest })
  else if p = 0x106 then here c.hn.length d
  else if p = 0x10B then (c.convOut, d)
  else here (memNat c.buf (4 * (p - 0x140)) 4) d

/-- Word k of a work item (R226). -/
def WorkItem.word (i : WorkItem) (k : Nat) : Nat :=
  match k with
  | 0 => i.kind + 256 * i.slice + 2 ^ 16 * i.cluster
  | 1 => i.tile
  | 2 => i.step
  | _ => i.step / 2 ^ 32 + 2 ^ 16 * i.epoch

/-- The ACTIVE slices of the latest UNIT_MAP, as bits. -/
def Device.activeMask (d : Device) (b : Bay) : Nat :=
  ((d.link b).slices.zipIdx).foldl (fun n p => if p.1.state = 0 then n + 2 ^ p.2 else n) 0

/-- A witness port read (R226, R246). -/
def witRead (b : Bay) (p : Nat) (d : Device) : BitVec 32 × Device :=
  let w := d.wit b
  if p < 0x104 then here ((w.items.head?).elim 0 (fun i => i.word (p - 0x100))) d
  else if p = 0x105 then here w.items.length d
  else if p = 0x109 then here (natOf w.replayOk + 2 * w.replaysOut) d
  else if p = 0x10A then here (d.activeMask b) d
  else if p = 0x10B then here (d.activeMask b / 2 ^ 32) d
  else if p = 0x121 then here (natOf w.gdispOk + 256 * w.pend.length) d
  else if p = 0x122 then here (clusters.foldl (fun n g => if d.gFree g then n + 2 ^ g.val else n) 0) d
  else here ((w.items.head?).elim 0 (fun i => if i.kind = 8 ∨ i.kind = 5 then fieldOf i.res (4 * (p - 0x124)) 4 else 0)) d

/-- A cluster port read (R248). -/
def gcRead (g : Fin 12) (p : Nat) (d : Device) : BitVec 32 × Device :=
  let c := d.gc g
  if p < 0x110 then here (fieldOf c.shown.desc (4 * (p - 0x100)) 4) d
  else if p = 0x110 then here (c.shown.gen % 2 ^ 16 + 2 ^ 16 * c.shown.bay.val) d
  else if p = 0x112 then here (natOf (d.gpWaiting g)) d
  else if p = 0x114 then here c.ldSrc d
  else if p = 0x115 then here (c.ldSrc / 2 ^ 32) d
  else if p = 0x116 then here c.ldDst d
  else if p = 0x117 then here c.ldLen d
  else if p = 0x119 then
    here (natOf c.ldBusy + 2 * natOf c.ldPoison + 4 * natOf c.ldRefused + 256 * c.sMin + 2 ^ 16 * c.sMax) d
  else if p = 0x11A then here c.accCfg d
  else if 0x11C ≤ p ∧ p < 0x120 then here (c.lsbs.toList.getD (p - 0x11C) 0#11).toNat d
  else if p = 0x120 then here (c.shown.uExp + 256 * c.shown.floorExp) d
  else here c.rangeCnt d

/-- A read of a port that `portInfo` lets a unit read. -/
def Sys.portRead (u : EUnit) (p : Nat) (y : Sys) : PortVal × Sys :=
  if !portAnswers u p 0#32 y.dev then (.down, y)
  else
    let put (r : BitVec 32 × Device) : PortVal × Sys := (.ok r.1, { y with dev := r.2 })
    if p < 0x100 then put (commonRead u p y.dev)
    else match u with
      | .eng (.seq i) => put (seqRead i p y.dev)
      | .eng (.cool i) => put (coolRead i p y.dev)
      | .eng (.bus m) => put (busRead m p y.dev)
      | .eng (.wit b) => put (witRead b p y.dev)
      | .eng (.gc g) => put (gcRead g p y.dev)
      | _ => (.ok 0#32, y)

/-! ### Writes -/

/-- A word appended to the outbound mailbox with its tag; when it is full the word is lost (R71, R84, R137). -/
def ECtx.post (c : ECtx) (v : BitVec 32) (tag : Bool) : ECtx :=
  if c.mboxOut.length < 16 then { c with mboxOut := c.mboxOut ++ [(v, tag)] } else { c with mboxLost := true }

/-- A common port written: SELF_STATUS, WDOG_KICK, which restarts a watchdog the model does not count, or MBOX_OUT. -/
def commonWrite (u : EUnit) (p : Nat) (v : BitVec 32) (d : Device) : Device :=
  let c := d.ectx u
  if p = 1 then d.setEctx u { c with xdown := c.xdown && !v.getLsbD 0, mboxLost := c.mboxLost && !v.getLsbD 1 }
  else if p = 6 then d.setEctx u (c.post v false)
  else d

/-- A change of enables or of SQ_BAY_OUT that the program writes: at once, or on the ACK of its STEP as LEAD (R552). -/
def Device.progChange (d : Device) (i : Fin 9) (same : Bool) (c : SeqChange) : Device :=
  if d.role = 1 ∧ same = false then
    let d := d.sendStep i c true
    d.setEng (.seq i) { d.eng (.seq i) with hold := .step }
  else d.applyChange i c

/-- SQ_BAYS_REQ: START and STOP to bays; STOP wins. -/
def Device.baysReq (d : Device) (v : BitVec 32) : Device :=
  bays.foldl (fun d b =>
    d.engRequest (.seq (seqOf b)) (v.getLsbD b.val) (v.getLsbD (8 + b.val)) false) d

/-- A sequencer port written (R349). -/
def seqWrite (i : Fin 9) (p : Nat) (v : BitVec 32) (d : Device) : Device :=
  let n := v.toNat &&& chanMask i
  if p = 0x100 then d.progChange i (n == d.railEn i) (.en n)
  else if p = 0x103 then
    let a := R.SQ_RAIL_ST2 i.val
    let late := d.fld a F.SQ_RAIL_ST2.LATE
    d.setFld a F.SQ_RAIL_ST2.LATE (late - (late &&& n))
  else if p = 0x104 then d.progChange i (v.toNat % 16 == d.bayOut i) (.out (v.toNat % 16))
  else if p = 0x107 then d.seqCmd i v.toNat
  else if p = 0x108 then
    let a := R.SQ_FAULTED i.val
    let now := d.fld a F.SQ_FAULTED.FAULTED
    d.setFld a F.SQ_FAULTED.FAULTED (now - (now &&& n))
  else if p = 0x110 then d.baysReq v
  else d.segDone (v.toNat % 2 ^ 16)

/-- A cooling port written (R376, R384). -/
def coolWrite (i : Fin 2) (p : Nat) (v : BitVec 32) (d : Device) : Device :=
  let c := d.cool.ports[i]
  let put (c : CoolPorts) : Device := { d with cool := { d.cool with ports := vset d.cool.ports i c } }
  if p = 0x100 then put { c with zsel := v.toNat % 16 }
  else if p = 0x102 then
    if c.zsel / 8 ≠ i.val then put { c with notOwn := true }
    else if d.engState (.cool i) = 2 then d.setFld (R.CL_ZSTAT c.zsel) F.CL_ZSTAT.DEMAND (min (v.toNat % 128) 100)
    else d
  else if p = 0x103 then put { c with ssel := v.toNat % 128 }
  else if p = 0x105 then put { c with csel := v.toNat % 32 }
  else put { c with notOwn := c.notOwn && !v.getLsbD 7 }

/-- A bus port written (R414). -/
def busWrite (m : Fin 12) (p : Nat) (v : BitVec 32) (d : Device) : Device :=
  let c := d.bus m
  if p = 0x100 then d.setBus m { c with xferA := v &&& 0x00FF1F7F#32 }
  else if p = 0x101 then d.setBus m { c with xferB := v &&& 0x01FF01FF#32 }
  else if p = 0x102 then d.busGo m
  else if p = 0x103 then d.setBus m { c with goLost := c.goLost && !v.getLsbD 1 }
  else if p = 0x108 then
    d.busPost (64 + 4 * m.val + v.toNat % 4) (bitsOf v.toNat 16 16) (v.getLsbD 2) (v.getLsbD 3)
  else if p = 0x109 then d.progSegReq m v
  else if p = 0x10A then d.setBus m { c with convOut := busConv v }
  else d.setBus m { c with buf := memPuts c.buf (4 * (p - 0x140)) (natBytes 4 v.toNat) }

/-- A witness port written (R226, R246). -/
def witWrite (b : Bay) (p : Nat) (v : BitVec 32) (d : Device) : Device :=
  let w := d.wit b
  if p = 0x104 then (d.setWit b { w with items := w.items.drop 1 }).grant b
  else if p = 0x108 then d.wpReplayGo b v
  else if p = 0x120 then d.wpGdisp b v
  else
    let k := 4 * (p - 0x110)
    d.setWit b { w with gdesc := w.gdesc.take k ++ natBytes 4 v.toNat ++ w.gdesc.drop (k + 4) }

/-- A cluster port written (R248). -/
def gcWrite (g : Fin 12) (p : Nat) (v : BitVec 32) (d : Device) : Device :=
  let c := d.gc g
  if p = 0x111 then d.gpTake g
  else if p = 0x113 then d.gpDone g
  else if p = 0x114 then d.setGc g { c with ldSrc := c.ldSrc / 2 ^ 32 * 2 ^ 32 + v.toNat }
  else if p = 0x115 then d.setGc g { c with ldSrc := v.toNat % 2 ^ 16 * 2 ^ 32 + c.ldSrc % 2 ^ 32 }
  else if p = 0x116 then d.setGc g { c with ldDst := v.toNat % 2 ^ 22 }
  else if p = 0x117 then d.setGc g { c with ldLen := v.toNat % 2 ^ 23 }
  else if p = 0x118 then d.gpLdGo g
  else if p = 0x11A then d.setGc g { c with accCfg := v.toNat &&& 5 }
  else d.setGc g { c with lsbs := vset c.lsbs (Fin.ofNat 4 (p - 0x11C)) (v.truncate 11) }

/-- A write of a port that `portInfo` lets a unit write; false where it ends with an error response (R70). -/
def Sys.portWrite (u : EUnit) (p : Nat) (v : BitVec 32) (y : Sys) : Bool × Sys :=
  if !portAnswers u p v y.dev then (false, y)
  else
    (true, y.onDev (fun d =>
      if p < 0x100 then commonWrite u p v d
      else match u with
        | .eng (.seq i) => seqWrite i p v d
        | .eng (.cool i) => coolWrite i p v d
        | .eng (.bus m) => busWrite m p v d
        | .eng (.wit b) => witWrite b p v d
        | .eng (.gc g) => gcWrite g p v d
        | _ => d))

end Sys2Proof.Machine
end

