-- ==== Sys2Proof/Machine/PortIns.lean ====
section
/-! DEFINITION. Port instructions, WAIT, SLEEP and YIELD (R64–R83). -/

namespace Sys2Proof.Machine

/-! ### IN, OUT, BSET, BCLR on E- and G-profile units -/

/-- IN (R67, R70): an error response reads as all ones and sets XDOWN. -/
def inE (rd : BitVec 5) (p : Nat) (u : EUnit) (y : Sys) : EOut :=
  match portInfo u p with
  | none => .fault .portDenied y
  | some i =>
    if !i.rd then .fault .portDenied y
    else match y.portRead u p with
      | (.ok v, y) => .done (y.setE u ((y.dev.ectx u).setG rd.toNat v).nextPc)
      | (.down, y) => .done (y.setE u ((y.dev.ectx u).down.setG rd.toNat 0xFFFFFFFF#32).nextPc)

/-- The write of a value to a port, with the instruction's own step made first; an error response sets XDOWN (R70). -/
def putE (u : EUnit) (p : Nat) (v : BitVec 32) (y : Sys) : EOut :=
  match (y.setE u (y.dev.ectx u).nextPc).portWrite u p v with
  | (true, y) => .done y
  | (false, y) => .done (y.setE u (y.dev.ectx u).down)

/-- OUT (R67, R70). -/
def outE (rs : BitVec 5) (p : Nat) (u : EUnit) (y : Sys) : EOut :=
  match portInfo u p with
  | none => .fault .portDenied y
  | some i => if !i.wr then .fault .portDenied y else putE u p ((y.dev.ectx u).g rs.toNat) y

/-- The value BSET or BCLR writes, from the value read, the bits in gs and the access code of each bit (R68). -/
def bitsValue (set : Bool) (i : PortInfo) (old g : BitVec 32) : BitVec 32 :=
  let rwPart := if set then (old ||| g) &&& i.rw else (old &&& ~~~g) &&& i.rw
  let w1Part := if set then g &&& i.w1 else 0#32
  rwPart ||| w1Part

/-- BSET and BCLR: one read-modify-write (R68). -/
def bitsE (set : Bool) (rs : BitVec 5) (p : Nat) (u : EUnit) (y : Sys) : EOut :=
  match portInfo u p with
  | none => .fault .portDenied y
  | some i =>
    if !(i.rd && i.wr) then .fault .portDenied y
    else match y.portRead u p with
      | (.ok v, y) => putE u p (bitsValue set i v ((y.dev.ectx u).g rs.toNat)) y
      | (.down, y) => .done (y.setE u (y.dev.ectx u).down.nextPc)

/-! ### The port alias table of the management cores (R72–R74) -/

/-- What a port of a management core reaches. -/
inductive MPort where
  | timer
  | engineId
  | packVar (v : Nat)
  | viaTable (p : Nat)
  | denied
  deriving DecidableEq, Repr

/-- The port space of a management core (R64, R74). -/
def mPort (p : Nat) : MPort :=
  if p = 0x000 then .timer
  else if p = 0x008 then .engineId
  else if 0x040 ≤ p ∧ p < 0x100 then .packVar (p - 0x040)
  else if 0x100 ≤ p ∧ p < 0xF00 then .viaTable p
  else .denied

/-- The capability mask lets user mode use port p; supervisor mode ignores it (R73). -/
def capable (c : Fin 4) (p : Nat) (k : Bool → Sys → MOut) (y : Sys) : MOut :=
  let m := y.dev.cores[c]
  if m.priv then k true y
  else if m.pcapm = 0#64 then k false y
  else mRead c .clean (m.pcapm.toNat + p / 8) 1 (fun v y => k (bit v (p % 8)) y) y

/-- The register a port of the alias table reaches, where the entry and the mask allow the access (R72, R73). -/
def aliasOf (c : Fin 4) (p : Nat) (rd wr : Bool) (k : Nat → Sys → MOut) (y : Sys) : MOut :=
  let m := y.dev.cores[c]
  mRead c .clean (m.patbase.toNat + 8 * (p - 0x100)) 8 (fun e y =>
    capable c p (fun may y =>
      let a := e % 2 ^ 48 / 4 * 4
      if !bit e 48 || (rd && !bit e 49) || (wr && !bit e 50) || !inWindow a || !may then .trap .portDenied none y
      else k a y) y) y

/-- A word write to a control-window register through the alias table. -/
def aliasWrite (c : Fin 4) (a : Nat) (v : BitVec 32) (y : Sys) : MOut :=
  let m := y.dev.cores[c]
  match mCheck y.dev c .write a 4 with
  | some cause => .trap cause (tvalOf a) y
  | none => match (y.setM c m.nextPc).regWrite (.core c) a v with
    | (true, z) => .done z
    | (false, z) => .trap .busError (tvalOf a) z

/-- A port write of a management core: no common port it has is writable (R67, R73, R74). -/
def outM (rs : BitVec 5) (p : Nat) (c : Fin 4) (y : Sys) : MOut :=
  match mPort p with
  | .viaTable p => aliasOf c p false true (fun a y =>
      aliasWrite c a ((y.dev.cores[c].g rs.toNat).truncate 32) y) y
  | _ => .trap .portDenied none y

/-- The microsecond timer of a core read: time has passed since it was last read (assumption log 4). -/
def Device.readTime (d : Device) (c : Fin 4) : BitVec 64 × Device :=
  let (t, d) := d.lapse
  let v := d.cores[c].timeUs + BitVec.ofNat 64 t
  (v, d.setCore c { d.cores[c] with timeUs := v })

/-- Time passes on a core. -/
def Device.passCore (d : Device) (c : Fin 4) : Device := (d.readTime c).2

/-- The value of a port of a management core handed on (R72–R74). -/
def readM (p : Nat) (c : Fin 4) (k : BitVec 32 → Sys → MOut) (y : Sys) : MOut :=
  match mPort p with
  | .timer =>
    let (v, d) := y.dev.readTime c
    k (v.truncate 32) { y with dev := d }
  | .engineId => k (BitVec.ofNat 32 (0x08 + 256 * c.val + 0x10000)) y
  | .packVar v => mRead c .clean (y.dev.cores[c].pvbase.toNat + 4 * v) 4 (fun v y => k (BitVec.ofNat 32 v) y) y
  | .viaTable p => aliasOf c p true false (fun a y => mRead c .clean a 4 (fun v y => k (BitVec.ofNat 32 v) y) y) y
  | .denied => .trap .portDenied none y

/-- IN on a management core (R67). -/
def inM (rd : BitVec 5) (p : Nat) (c : Fin 4) (y : Sys) : MOut :=
  readM p c (fun v y => .done (y.setM c (y.dev.cores[c].setG rd.toNat (v.zeroExtend 64)).nextPc)) y

/-- The bits of a register that BSET and BCLR change: RW and RWL bits, and W1C and W1S bits (R68). -/
def regInfo (a : Nat) : PortInfo :=
  let mask (p : Access → Bool) : Nat := match regRowAt a with
    | none => 0
    | some r => (r.fields.filter (fun f => p f.access)).foldl (fun n f => n + (2 ^ f.fld.width - 1) * 2 ^ f.fld.lo) 0
  { rd := true, wr := true
    rw := BitVec.ofNat 32 (mask (fun x => x == .rw || x == .rwl))
    w1 := BitVec.ofNat 32 (mask (fun x => x == .w1c || x == .w1s)) }

/-- BSET and BCLR on a management core: the island performs them as one action on the aliased register (R68). -/
def bitsM (set : Bool) (rs : BitVec 5) (p : Nat) (c : Fin 4) (y : Sys) : MOut :=
  match mPort p with
  | .viaTable p => aliasOf c p true true (fun a y => mRead c .clean a 4 (fun old y =>
      aliasWrite c a (bitsValue set (regInfo a) (BitVec.ofNat 32 old)
        ((y.dev.cores[c].g rs.toNat).truncate 32)) y) y) y
  | _ => .trap .portDenied none y

/-- A port instruction whose unused fields must be zero (R122). -/
def portInstr (used unused : BitVec 5) (x : Issue) (word : BitVec 32) (sub : BitVec 4)
    (bodyE : EUnit → Sys → EOut) (bodyM : Fin 4 → Sys → MOut) (s : State) : State :=
  s.onSys (issue x word (low used && unused == 0#5 && sub == 0#4) (unused == 0#5 && sub == 0#4) bodyE bodyM)

/-- IN (R67). -/
def execInPort (x : Issue) (rd rs : BitVec 5) (port : BitVec 12) (sub : BitVec 4) (s : State) :
    Host.Outcome State Fault Refusal :=
  .next (portInstr rd rs x (wordP 0x20#6 rd rs port sub) sub (inE rd port.toNat) (inM rd port.toNat) s)

/-- OUT (R67). -/
def execOutPort (x : Issue) (rd rs : BitVec 5) (port : BitVec 12) (sub : BitVec 4) (s : State) :
    Host.Outcome State Fault Refusal :=
  .next (portInstr rs rd x (wordP 0x21#6 rd rs port sub) sub (outE rs port.toNat) (outM rs port.toNat) s)

/-- BSET (R68). -/
def execBset (x : Issue) (rd rs : BitVec 5) (port : BitVec 12) (sub : BitVec 4) (s : State) :
    Host.Outcome State Fault Refusal :=
  .next (portInstr rs rd x (wordP 0x22#6 rd rs port sub) sub (bitsE true rs port.toNat)
    (bitsM true rs port.toNat) s)

/-- BCLR (R68). -/
def execBclr (x : Issue) (rd rs : BitVec 5) (port : BitVec 12) (sub : BitVec 4) (s : State) :
    Host.Outcome State Fault Refusal :=
  .next (portInstr rs rd x (wordP 0x23#6 rd rs port sub) sub (bitsE false rs port.toNat)
    (bitsM false rs port.toNat) s)

/-! ### WAIT (R75–R80) -/

/-- A WAIT's condition is met on the masked value v, the first masked value being first (R75). -/
def waitMet (w : WaitCtx) (v : BitVec 32) : Bool :=
  let p := v &&& w.mask
  match w.cond with
  | 0 => p == (w.value &&& w.mask)
  | 1 => p != 0#32
  | 2 => p == w.mask
  | 3 => p == 0#32
  | _ => p != w.first

/-- A timer reading on an E- or G-profile unit: time has passed since the last one (assumption log 4). -/
def Device.readTimerE (d : Device) (u : EUnit) : Nat × Device :=
  let (t, d) := d.lapse
  let c := d.ectx u
  let v := (c.timer + t) % 2 ^ 32
  (v, d.setEctx u { c with timer := v })

/-- The end of a WAIT on an E- or G-profile unit with its result. -/
def ECtx.waitEnd (c : ECtx) (rd : Nat) (v : BitVec 32) : ECtx := { (c.setG rd v).nextPc with hold := .none }

/-- WAIT begins on an E- or G-profile unit: the first value and the first test, each a read of the port, then either the
result or the hold (R75, R76, R79). -/
def waitE (rd rs : BitVec 5) (p : Nat) (cond : Nat) (u : EUnit) (y : Sys) : EOut :=
  match portInfo u p with
  | none => .fault .portDenied y
  | some i =>
    if !i.rd then .fault .portDenied y
    else
      let c := y.dev.ectx u
      let (now, d) := y.dev.readTimerE u
      match ({ y with dev := d } : Sys).portRead u p with
      | (.down, y) => .done (y.setE u ((y.dev.ectx u).down.waitEnd rd.toNat 0xFFFFFFFF#32))
      | (.ok first, y) => match y.portRead u p with
       | (.down, y) => .done (y.setE u ((y.dev.ectx u).down.waitEnd rd.toNat 0xFFFFFFFF#32))
       | (.ok v, y) =>
        let w : WaitCtx := {
          rd := rd.toNat, port := p, cond := cond, mask := c.g rs.toNat,
          value := c.g (rs.toNat + 1),
          first := first &&& c.g rs.toNat, start := now, timeout := c.g rd.toNat }
        if waitMet w v then .done (y.setE u ((y.dev.ectx u).waitEnd rd.toNat 0#32))
        else if w.timeout = 0#32 then .done (y.setE u ((y.dev.ectx u).waitEnd rd.toNat 0xFFFFFFFF#32))
        else .done (y.setE u { y.dev.ectx u with hold := .wait w })

/-- WAIT begins on a management core (R75, R76). -/
def waitM (rd rs : BitVec 5) (p : Nat) (cond : Nat) (c : Fin 4) (y : Sys) : MOut :=
  let m := y.dev.cores[c]
  let (now, d) := y.dev.readTime c
  readM p c (fun first y => readM p c (fun v y =>
    let mask := (m.g rs.toNat).truncate 32
    let w : WaitCtx := {
      rd := rd.toNat, port := p, cond := cond, mask := mask,
      value := (m.g (rs.toNat + 1)).truncate 32,
      first := first &&& mask, start := now.toNat,
      timeout := (m.g rd.toNat).truncate 32 }
    let m := y.dev.cores[c]
    if waitMet w v then .done (y.setM c (m.setG rd.toNat 0#64).nextPc)
    else if w.timeout = 0#32 then .done (y.setM c (m.setG rd.toNat 0xFFFFFFFF#64).nextPc)
    else .done (y.setM c { m with hold := .wait w })) y) { y with dev := d }

/-- WAIT (R75): reserved conditions, and an EQ whose gs has no register above it, are ILLEGAL. -/
def execWait (x : Issue) (rd rs : BitVec 5) (port : BitVec 12) (sub : BitVec 4) (s : State) :
    Host.Outcome State Fault Refusal :=
  let condOk := decide (sub.toNat ≤ 4)
  let eq (top : Nat) : Bool := sub.toNat == 0 && rs.toNat == top
  .next (s.onSys (issue x (wordP 0x24#6 rd rs port sub) (low rd && low rs && condOk && !eq 15) (condOk && !eq 31)
    (waitE rd rs port.toNat sub.toNat) (waitM rd rs port.toNat sub.toNat)))

/-- The hold of a unit. -/
def Device.holdOf (d : Device) : EUnit → Hold
  | .core c => d.cores[c].hold
  | u => (d.ectx u).hold

/-- A WAIT's result written and the unit going on; a management core writes it zero-extended (R76). -/
def Sys.waitDone (u : EUnit) (w : WaitCtx) (v : BitVec 32) (y : Sys) : Sys :=
  match u with
  | .core c => y.setM c { (y.dev.cores[c].setG w.rd (v.zeroExtend 64)).nextPc with hold := .none }
  | u => y.setE u ((y.dev.ectx u).waitEnd w.rd v)

/-- WAIT_CONDITION_MET: a waiting unit tests its port again, and the condition holds (R76, R77); a port whose island
gives an error response ends an engine's WAIT as a timeout and sets XDOWN (R79); on a management core it is the
BUS_ERROR of R70 at the WAIT. -/
def sysWaitTest (u : EUnit) (y : Sys) : Sys :=
  match y.dev.holdOf u with
  | .wait w =>
    match u with
    | .core c => match readM w.port c (fun v y => if waitMet w v then .done (y.waitDone u w 0#32) else .done y) y with
      | .done z => z
      | .trap cause tval z => z.mTrap c cause y.dev.cores[c].pc tval
      | .stall => y
    | u => match y.portRead u w.port with
      | (.ok v, z) => if waitMet w v then z.waitDone u w 0#32 else z
      | (.down, z) => (z.setE u (z.dev.ectx u).down).waitDone u w 0xFFFFFFFF#32
  | _ => y

def execWaitConditionMet (u : EUnit) (s : State) : Host.Outcome State Fault Refusal := .next (s.onSys (sysWaitTest u))

/-- The unit's timer moved on by a lapse. -/
def Sys.passTime (u : EUnit) (us : Nat) (y : Sys) : Sys :=
  match u with
  | .core c => y.setM c { y.dev.cores[c] with timeUs := y.dev.cores[c].timeUs + BitVec.ofNat 64 us }
  | u => y.setE u { y.dev.ectx u with timer := ((y.dev.ectx u).timer + us) % 2 ^ 32 }

/-- WAIT_TIMEOUT: the timeout passes and the WAIT returns all ones; the condition is tested first (R77), and a timeout
of all ones never passes (R76). What a sequencer's late power-good draws (R332) is given by late. -/
def sysWaitTimeout (late : EUnit → WaitCtx → Sys → Sys) (u : EUnit) (y : Sys) : Sys :=
  match y.dev.holdOf u with
  | .wait w =>
    if w.timeout = 0xFFFFFFFF#32 then y
    else
      let y := y.passTime u w.timeout.toNat
      match u with
      | .core c =>
        match readM w.port c (fun v y =>
            .done (y.waitDone u w (if waitMet w v then 0#32 else 0xFFFFFFFF#32))) y with
        | .done z => z
        | .trap cause tval z => z.mTrap c cause y.dev.cores[c].pc tval
        | .stall => y
      | u => match y.portRead u w.port with
        | (.ok v, z) => if waitMet w v then z.waitDone u w 0#32 else late u w (z.waitDone u w 0xFFFFFFFF#32)
        | (.down, z) => (z.setE u (z.dev.ectx u).down).waitDone u w 0xFFFFFFFF#32
  | _ => y

/-- What a timed-out WAIT on SQ_RAIL_PG with ALL draws on a sequencer (R332). -/
def lateRails (u : EUnit) (w : WaitCtx) (y : Sys) : Sys :=
  match u with
  | .eng (.seq i) => if w.port = 0x101 ∧ w.cond = 2 then y.onDev (·.railLate i w.mask.toNat) else y
  | _ => y

def execWaitTimeout (u : EUnit) (s : State) : Host.Outcome State Fault Refusal :=
  .next (s.onSys (sysWaitTimeout lateRails u))

/-! ### SLEEP and YIELD (R81, R82) -/

/-- SLEEP begins on an E- or G-profile unit: a word already waiting ends it at once, with gd as given (R81). -/
def sleepE (rd : BitVec 5) (u : EUnit) (y : Sys) : EOut :=
  let c := y.dev.ectx u
  let us := c.g rd.toNat
  if !c.mboxIn.isEmpty || us == 0#32 then .done (y.setE u c.nextPc)
  else .done (y.setE u { c with hold := .sleep rd.toNat us })

/-- The end of a SLEEP on an E- or G-profile unit. -/
def ECtx.sleepEnd (c : ECtx) (rd : Nat) (left : BitVec 32) : ECtx := { (c.setG rd left).nextPc with hold := .none }

/-- YIELD pauses an engine until its timer ticks; on a management core it has no effect (R82). -/
def yieldE (u : EUnit) (y : Sys) : EOut := .done (y.setE u { y.dev.ectx u with hold := .yield })
def yieldM (c : Fin 4) (y : Sys) : MOut := .done (y.setM c y.dev.cores[c].nextPc)

/-- YIELD (R82, R122). -/
def execYield (x : Issue) (rd rs1 rs2 : BitVec 5) (s : State) : Host.Outcome State Fault Refusal :=
  let plain := rd == 0#5 && rs1 == 0#5 && rs2 == 0#5
  .next (s.onSys (issue x (wordA 0x27#6 rd rs1 rs2 3#11) plain plain yieldE yieldM))

/-- YIELD_RESUME: the timer ticks and a yielded engine goes on (R82). -/
def sysYieldResume (u : EUnit) (y : Sys) : Sys :=
  match u with
  | .core _ => y
  | u => match (y.dev.ectx u).hold with
    | .yield => (y.passTime u 1).setE u { ((y.passTime u 1).dev.ectx u).nextPc with hold := .none }
    | _ => y

def execYieldResume (u : EUnit) (s : State) : Host.Outcome State Fault Refusal := .next (s.onSys (sysYieldResume u))

end Sys2Proof.Machine
end

