-- ==== Sys2Proof/Machine/Supply.lean ====
section
/-! DEFINITION. Supplies, the crystal, the input die's bridge switch and MRST_N (R359, R594–R599, R611, R616). -/

namespace Sys2Proof.Machine

/-- The levels on the pins changed. -/
def Device.onPins (d : Device) (f : PinCtx → PinCtx) : Device := { d with pins := f d.pins }

/-- A supply good or not. -/
def PinCtx.setSupply (p : PinCtx) (x : Supply) (good : Bool) : PinCtx :=
  match x with
  | .vcore => { p with vcore := good }
  | .vsrd085 => { p with vsrd085 := good }
  | .vsrd12 => { p with vsrd12 := good }
  | .vdd1 => { p with vdd1 := good }
  | .vdd2 => { p with vdd2 := good }
  | .vddq => { p with vddq := good }

/-- Islands whose supplies are not all good are ISOLATED (R597). -/
def Device.isolate (d : Device) : Device :=
  islands.foldl (fun d i => if d.pins.supplied i then d else d.setIsland i 0) d

/-- The lanes. -/
def lanes : List Lane := bays.map .wit ++ [.twin 0, .twin 1] ++ (List.finRange 4).map .host

/-- The lanes whose islands do not run go quiet; their retry state stays (R152, R616). -/
def Device.quietLanes (d : Device) : Device :=
  lanes.foldl (fun d x => if d.answers (laneIsland x) then d else d.setPhase x .quiet) d

/-- Islands 53 to 68: the witness lanes and engines. -/
def witIsland (i : Nat) : Bool := decide (53 ≤ i ∧ i ≤ 68)

/-- Without VCORE, the witness lanes and engines lose their state, and their sessions end as for a lane lost beyond T_link
(R598). -/
def Device.loseWitness (d : Device) : Device :=
  let d := bays.foldl (fun d b => devTLinkExpiry (.wit b) (d.setPhase (.wit b) .quiet)) d
  let d := (d.resetRegs (fun a => witIsland (islandOf a))).holdIslands witIsland
  let d := (List.finRange 8).foldl (fun d n => d.setEng (.wit n) ECtx.reset) d
  { d with links := Vector.replicate 8 LinkCtx.reset, wits := Vector.replicate 8 WitCtx.reset }

/-- A commons restart with cause 0x9. One in progress loses what has come up in it again; before the security core was first
released there is nothing to restart (R598). -/
def Sys.supplyRestart (y : Sys) : Sys :=
  if y.dev.restart = 2 then y.onDev Device.commonsReset
  else if y.dev.boot.phase = .held then y
  else y.commonsRestart 9

/-- SUPPLY_OUT_OF_RANGE. -/
def sysSupplyOutOfRange (x : Supply) (y : Sys) : Sys :=
  let y := y.onDev (·.onPins (·.setSupply x false))
  match x with
  | .vsrd085 => y.onDev (·.isolate.quietLanes)
  | .vsrd12 => y.onDev (·.isolate.quietLanes)
  | .vcore => y.supplyRestart.onDev (·.loseWitness.isolate.quietLanes)
  | _ => y.supplyRestart.onDev (·.isolate)

def execSupplyOutOfRange (x : Supply) (s : State) : Host.Outcome State Fault Refusal :=
  .next (s.onSys (sysSupplyOutOfRange x))

/-- An island of the lanes. -/
def isLaneIsland (i : Nat) : Bool := decide ((49 ≤ i ∧ i ≤ 60) ∨ i = 69 ∨ i = 70)

/-- SUPPLY_RETURN: isolated islands whose supplies are all good again are held in reset until the security core is released;
a lane island beside a running security core runs again (R597, R598). -/
def devSupplyReturn (x : Supply) (d : Device) : Device :=
  let d := d.onPins (·.setSupply x true)
  islands.foldl (fun d i =>
    if d.islandState i = 0 ∧ d.pins.supplied i = true then
      d.setIsland i (if isLaneIsland i && d.answers 39 then 2 else 1)
    else d) d

def execSupplyReturn (x : Supply) (s : State) : Host.Outcome State Fault Refusal := .next (s.onDev (devSupplyReturn x))

/-- VIO_BANK_LOSS and VIO_BANK_RETURN of RAIL, BAY, BFL, BUS, TRAY, MOT, XSPI0 or XSPI1 (R599). -/
def devVio (k : Fin 8) (good : Bool) (d : Device) : Device := d.onPins (fun p => { p with vio := vset p.vio k good })

def execVioBankLoss (k : Fin 8) (s : State) : Host.Outcome State Fault Refusal := .next (s.onDev (devVio k false))
def execVioBankReturn (k : Fin 8) (s : State) : Host.Outcome State Fault Refusal := .next (s.onDev (devVio k true))

/-- VSTBY_GOOD: a full device reset with cause 0x0 (R33, R595). -/
def execVstbyGood (s : State) : Host.Outcome State Fault Refusal :=
  .next (s.onSys (fun y => (y.onDev (·.onPins (fun p => { p with vstby := true }))).fullReset 0))

/-- VSTBY_LOSS: the device is unpowered, and a record being written is torn (R595, R616). -/
def execVstbyLoss (s : State) : Host.Outcome State Fault Refusal :=
  .next (s.onSys (fun y => (y.onDev (·.onPins (fun p => { p with vstby := false }))).fullReset 0))

/-- MRST_N_ASSERT: a full device reset with cause 0x1, held while the line is asserted; a line whose bank is not good is not
seen (R33, R359, R599). -/
def sysMrstNAssert (y : Sys) : Sys :=
  if !y.dev.pins.vio[(4 : Fin 8)] then y
  else (y.onDev (·.onPins (fun p => { p with mrst := true }))).fullReset 1

def execMrstNAssert (s : State) : Host.Outcome State Fault Refusal := .next (s.onSys sysMrstNAssert)

/-- MRST_N_RELEASE. -/
def execMrstNRelease (s : State) : Host.Outcome State Fault Refusal :=
  .next (s.onDev (·.onPins (fun p => { p with mrst := false })))

/-- XTAL_START_FAIL: the Undercoat is up, and the security core stays in reset while the crystal does not run (R611). -/
def sysXtalStartFail (y : Sys) : Sys :=
  if y.dev.boot.phase ≠ .held ∨ y.dev.restart ≠ 0 then y
  else (y.onDev (·.onPins (fun p => { p with xtal := false }))).undercoatUp.onDev Device.refreshCool

def execXtalStartFail (s : State) : Host.Outcome State Fault Refusal := .next (s.onSys sysXtalStartFail)

/-- XTAL_STOP: a commons restart with cause 0x9, held until the crystal runs (R616). -/
def execXtalStop (s : State) : Host.Outcome State Fault Refusal :=
  .next (s.onSys (fun y => (y.onDev (·.onPins (fun p => { p with xtal := false }))).supplyRestart))

/-- XTAL_RETURN. -/
def execXtalReturn (s : State) : Host.Outcome State Fault Refusal :=
  .next (s.onDev (·.onPins (fun p => { p with xtal := true })))

/-- BRIDGE_SWITCH_OPEN: VIN, in 10 mV, has been above 62 V (R594). -/
def devBridgeSwitchOpen (vin : Nat) (d : Device) : Device :=
  let d := d.setFld R.TR_VIN F.TR_VIN.VIN (min vin 0xFFFF)
  if 6200 < vin then d.onPins (fun p => { p with bridgeOpen := true }) else d

def execBridgeSwitchOpen (vin : Nat) (s : State) : Host.Outcome State Fault Refusal :=
  .next (s.onDev (devBridgeSwitchOpen vin))

/-- BRIDGE_SWITCH_CLOSE: VIN is below 61 V (R594). -/
def devBridgeSwitchClose (vin : Nat) (d : Device) : Device :=
  let d := d.setFld R.TR_VIN F.TR_VIN.VIN (min vin 0xFFFF)
  if vin < 6100 then d.onPins (fun p => { p with bridgeOpen := false }) else d

def execBridgeSwitchClose (vin : Nat) (s : State) : Host.Outcome State Fault Refusal :=
  .next (s.onDev (devBridgeSwitchClose vin))

/-- FAULT_LED is lit whatever IO_LED holds: in FUSE_FAULT, and where the crystal did not start (R588, R611). -/
def Device.faultLed (d : Device) : Bool :=
  d.fld R.SEC_BOOT_STATUS F.SEC_BOOT_STATUS.MODE == 3 || (!d.pins.xtal && d.restart == 0 && d.boot.phase == .held)

end Sys2Proof.Machine
end

