-- ==== Sys2Proof/Machine/System.lean ====
section
/-! DEFINITION. System instructions, system registers, interrupts and the engine watchdog (R81, R84–R100, R104, R106). -/

namespace Sys2Proof.Machine

/-! ### Interrupts pending on a management core (R100, R586) -/

/-- An event register of an engine's block has a bit set: SQ_STATUS's event bits, CL_EVENT, BUS_EVENT, or the events and
ledger appends a witness engine buffers; a Gallery cluster has none (R586). -/
def Device.engEvents (d : Device) : Eng → Bool
  | .seq i => d.flag (R.SQ_STATUS i) F.SQ_STATUS.ON_REFUSED || d.flag (R.SQ_STATUS i) F.SQ_STATUS.EXT_OFF ||
      d.flag (R.SQ_STATUS i) F.SQ_STATUS.WENT_DOWN
  | .cool _ => d.reg R.CL_EVENT != 0#32
  | .bus m => d.reg (R.BUS_EVENT m) != 0#32
  | .wit n => d.fld (R.WIT_EVENT_CNT n) F.WIT_EVENT_CNT.COUNT != 0
  | .gc _ => false

/-- An event register routed to core c by the routing register at r (CORE field first) has a bit set. -/
def Device.routed (d : Device) (c : Fin 4) (r : Nat) (core en : Fld) (any : Bool) : Bool :=
  d.flag r en && d.fld r core == c.val && any

/-- IP.BLOCK of core c (R586). -/
def Device.ipBlock (d : Device) (c : Fin 4) : Bool :=
  engines.any (fun e => d.routed c (R.ENG_ROUTE e.win) F.ENG_ROUTE.EVT_CORE F.ENG_ROUTE.EVT_EN (d.engEvents e)) ||
  d.routed c R.TR_ROUTE F.TR_ROUTE.EVT_CORE F.TR_ROUTE.EVT_EN
    (d.reg R.TR_EVENT != 0#32 || (List.finRange 9).any (fun i => d.engEvents (.seq i))) ||
  d.routed c R.CL_ROUTE F.CL_ROUTE.EVT_CORE F.CL_ROUTE.EVT_EN (d.reg R.CL_EVENT != 0#32) ||
  (List.range 12).any (fun m => d.routed c (R.BUS_ROUTE m) F.BUS_ROUTE.EVT_CORE F.BUS_ROUTE.EVT_EN
    (d.reg (R.BUS_EVENT m) != 0#32)) ||
  (List.range 16).any (fun j => d.routed c (R.MC_ROUTE j) F.MC_ROUTE.EVT_CORE F.MC_ROUTE.EVT_EN
    (d.reg (R.MC_EVENT j) != 0#32)) ||
  d.routed c R.SEC_ROUTE F.SEC_ROUTE.EVT_CORE F.SEC_ROUTE.EVT_EN (d.reg R.SEC_EVENT != 0#32) ||
  d.routed c R.TWIN_ROUTE F.TWIN_ROUTE.EVT_CORE F.TWIN_ROUTE.EVT_EN (d.reg R.TWIN_EVENT != 0#32) ||
  d.routed c R.ETH_ROUTE F.ETH_ROUTE.EVT_CORE F.ETH_ROUTE.EVT_EN
    (d.fld R.ETH_RX_HEAD F.ETH_RX_HEAD.OFFSET != d.fld R.ETH_RX_TAIL F.ETH_RX_TAIL.OFFSET)

/-- IP.MAILBOX of core c (R137). -/
def Device.ipMailbox (d : Device) (c : Fin 4) : Bool :=
  engines.any (fun e => d.routed c (R.ENG_ROUTE e.win) F.ENG_ROUTE.MBX_CORE F.ENG_ROUTE.MBX_EN
    (!(d.eng e).mboxOut.isEmpty))

/-- IP of core c (R100). -/
def Device.ip (d : Device) (c : Fin 4) : BitVec 64 :=
  let m := d.cores[c]
  BitVec.ofNat 64 (natOf (decide (m.timecmp.toNat ≤ m.timeUs.toNat)) + 2 * natOf m.ipi + 4 * natOf (d.ipMailbox c) +
    8 * natOf (d.ipBlock c))

/-- An interrupt enabled in IE is pending. -/
def Device.intPending (d : Device) (c : Fin 4) : Bool := (d.ip c &&& d.cores[c].ie) != 0#64

/-- The interrupt taken among those pending and enabled: IPI, MAILBOX, BLOCK, TIMER (R95), by its code (R100). -/
def Device.intCode (d : Device) (c : Fin 4) : Option Nat :=
  let p := d.ip c &&& d.cores[c].ie
  [1, 2, 3, 0].find? (fun i => p.getLsbD i)

/-- What is left of a WAIT or SLEEP of us microseconds after a lapse; all ones has no limit. -/
def timeLeft (us : BitVec 32) (lapse : Nat) : BitVec 32 :=
  if us = 0xFFFFFFFF#32 then us else BitVec.ofNat 32 (us.toNat - lapse)

/-- A core leaves what holds it for an interrupt: a WAIT stays the next instruction with the time left in gd (R80), a
SLEEP and a HALT are over (R81, R85). -/
def Device.leaveHold (d : Device) (c : Fin 4) : Device :=
  let m := d.cores[c]
  match m.hold with
  | .wait w =>
    let (now, d) := d.readTime c
    let m := d.cores[c]
    d.setCore c { m.setG w.rd ((timeLeft w.timeout (now.toNat - w.start)).zeroExtend 64) with hold := .none }
  | .sleep rd us =>
    let (t, d) := d.lapse
    d.setCore c { (m.setG rd ((timeLeft us t).zeroExtend 64)).nextPc with hold := .none }
  | .halt => d.setCore c { m.nextPc with hold := .none }
  | _ => d

/-- INTERRUPT_ENTRY: an enabled pending interrupt is taken between instructions (R93, R95); a HALT whose interrupt is
enabled in IE only continues (R85). Time has passed since it was last read (assumption log 4). -/
def devInterruptEntry (c : Fin 4) (d : Device) : Device :=
  if !d.answers (42 + c.val) || d.cores[c].stopped then d
  else
   let d := d.passCore c
   match d.intCode c with
    | none => d
    | some code =>
      if d.cores[c].intEnable then
        let d := d.leaveHold c
        let (tval, d) := d.fresh64
        d.setCore c (d.cores[c].enter (BitVec.ofNat 64 (2 ^ 63 + code)) d.cores[c].pc tval)
      else if d.cores[c].hold = .halt then d.leaveHold c
      else d

def execInterruptEntry (c : Fin 4) (s : State) : Host.Outcome State Fault Refusal :=
  .next (s.onDev (devInterruptEntry c))

/-! ### SLEEP (R81) -/

/-- SLEEP begins on a management core: an interrupt enabled in IE that is already pending ends it at once. -/
def sleepM (rd : BitVec 5) (c : Fin 4) (y : Sys) : MOut :=
  let y := y.onDev (·.passCore c)
  let m := y.dev.cores[c]
  let us := (m.g rd.toNat).truncate 32
  if y.dev.intPending c || us == 0#32 then .done (y.setM c m.nextPc)
  else .done (y.setM c { m with hold := .sleep rd.toNat us })

/-- SLEEP (R81, R122). -/
def execSleep (x : Issue) (rd rs : BitVec 5) (port : BitVec 12) (sub : BitVec 4) (s : State) :
    Host.Outcome State Fault Refusal :=
  let plain := rs == 0#5 && port == 0#12 && sub == 0#4
  .next (s.onSys (issue x (wordP 0x25#6 rd rs port sub) (low rd && plain) plain (sleepE rd) (sleepM rd)))

/-- SLEEP_END: a SLEEP ends early by a mailbox word or a pending interrupt, with the time left in gd, or by time, with 0;
one of 0xFFFF_FFFF has no time limit (R81). -/
def sysSleepEnd (u : EUnit) (y : Sys) : Sys :=
  match u with
  | .core c =>
    match y.dev.cores[c].hold with
    | .sleep rd us =>
      let y := y.onDev (·.passCore c)
      if y.dev.intPending c then y.onDev (·.leaveHold c)
      else if us = 0xFFFFFFFF#32 then y
      else (y.passTime u us.toNat).onDev (fun d =>
        d.setCore c { (d.cores[c].setG rd 0#64).nextPc with hold := .none })
    | _ => y
  | u =>
    let c := y.dev.ectx u
    match c.hold with
    | .sleep rd us =>
      if !c.mboxIn.isEmpty then
        let (t, d) := y.dev.lapse
        { y with dev := d.setEctx u (c.sleepEnd rd (timeLeft us t)) }
      else if us = 0xFFFFFFFF#32 then y
      else (y.passTime u us.toNat).onDev (fun d => d.setEctx u ((d.ectx u).sleepEnd rd 0#32))
    | _ => y

def execSleepEnd (u : EUnit) (s : State) : Host.Outcome State Fault Refusal := .next (s.onSys (sysSleepEnd u))

/-! ### TRAP, HALT, RETX, FENCE -/

/-- TRAP (R84). -/
def execTrap (x : Issue) (rd rs1 : BitVec 5) (imm : BitVec 16) (s : State) : Host.Outcome State Fault Refusal :=
  let plain := rd == 0#5 && rs1 == 0#5
  .next (s.onSys (issue x (wordI 0x26#6 rd rs1 imm) plain plain
    (fun u y => .done (y.setE u ((y.dev.ectx u).post (imm.zeroExtend 32) true).nextPc))
    (fun _ y => .trap .trap (some (imm.zeroExtend 64)) y)))

/-- HALT (R85): an engine's program ends; the security core stops; user mode raises USER_HALT; supervisor mode waits for
an interrupt enabled in IE. -/
def execHalt (x : Issue) (rd rs1 rs2 : BitVec 5) (s : State) : Host.Outcome State Fault Refusal :=
  let plain := rd == 0#5 && rs1 == 0#5 && rs2 == 0#5
  .next (s.onSys (issue x (wordA 0x27#6 rd rs1 rs2 2#11) plain plain
    (fun u y => match u with
      | .eng e => .done (y.onDev (·.engHalt e))
      | _ => .done (y.onDev (fun d => { d with sec := { d.sec with stopped := true } })))
    (fun c y =>
      let y := y.onDev (·.passCore c)
      let m := y.dev.cores[c]
      if !m.priv then .trap .userHalt none y
      else if y.dev.intPending c && !m.intEnable then .done (y.setM c m.nextPc)
      else .done (y.setM c { m with hold := .halt }))))

/-- RETX (R86, R94). -/
def execRetx (x : Issue) (rd rs1 rs2 : BitVec 5) (s : State) : Host.Outcome State Fault Refusal :=
  let plain := rd == 0#5 && rs1 == 0#5 && rs2 == 0#5
  .next (s.onSys (issue x (wordA 0x27#6 rd rs1 rs2 0#11) false plain noE
    (fun c y =>
      let m := y.dev.cores[c]
      if !m.priv then .trap .privilege none y else .done (y.setM c m.retx))))

/-- FENCE (R88): every access of this model takes effect as it is made, so a FENCE waits only for a cluster's queued G
instructions (R114). -/
def execFence (x : Issue) (rd rs1 rs2 : BitVec 5) (s : State) : Host.Outcome State Fault Refusal :=
  let plain := rd == 0#5 && rs1 == 0#5 && rs2 == 0#5
  .next (s.onSys (issue x (wordA 0x27#6 rd rs1 rs2 1#11) plain plain
    (fun u y => if y.dev.gQueueEmpty u then .done (y.setE u (y.dev.ectx u).nextPc) else .stall)
    (fun c y => .done (y.setM c y.dev.cores[c].nextPc))))

/-! ### System registers (R87, R97) -/

/-- The system registers of R97. -/
inductive SysReg where
  | coreId | status | epc | cause | tval | tvec | scratch | ie | ip | ipi | cycle | instret | timeUs | timecmp
  | wdog | patbase | pcapm | pvbase
  | pruBase (i : Fin 16)
  | pruLimit (i : Fin 16)
  | pruAttr (i : Fin 16)
  | pruCtl
  deriving DecidableEq, Repr

/-- The system register of a number (R97). -/
def sysReg (n : Nat) : Option SysReg :=
  match n with
  | 0x000 => some .coreId
  | 0x001 => some .status
  | 0x002 => some .epc
  | 0x003 => some .cause
  | 0x004 => some .tval
  | 0x005 => some .tvec
  | 0x006 => some .scratch
  | 0x007 => some .ie
  | 0x008 => some .ip
  | 0x009 => some .ipi
  | 0x010 => some .cycle
  | 0x011 => some .instret
  | 0x012 => some .timeUs
  | 0x013 => some .timecmp
  | 0x014 => some .wdog
  | 0x018 => some .patbase
  | 0x019 => some .pcapm
  | 0x01A => some .pvbase
  | 0x130 => some .pruCtl
  | n =>
    let i : Fin 16 := ⟨n % 16, Nat.mod_lt _ (by decide)⟩
    if n / 16 = 0x10 then some (.pruBase i)
    else if n / 16 = 0x11 then some (.pruLimit i)
    else if n / 16 = 0x12 then some (.pruAttr i)
    else none

/-- User mode may read these (R97). -/
def SysReg.userReads : SysReg → Bool
  | .coreId => true
  | .cycle => true
  | .instret => true
  | .timeUs => true
  | _ => false

/-- The value of a system register. CYCLE and TIME_US, and with it IP.TIMER, move on as they are read (assumption log 4). -/
def Device.readSysReg (d : Device) (c : Fin 4) (r : SysReg) : BitVec 64 × Device :=
  let m := d.cores[c]
  match r with
  | .coreId => (BitVec.ofNat 64 (c.val + 0x100), d)
  | .status => (m.status, d)
  | .epc => (m.epc, d)
  | .cause => (m.cause, d)
  | .tval => (m.tval, d)
  | .tvec => (m.tvec, d)
  | .scratch => (m.scratch, d)
  | .ie => (m.ie, d)
  | .ip =>
    let d := d.passCore c
    (d.ip c, d)
  | .ipi => (0#64, d)
  | .cycle =>
    let (t, d) := d.lapse
    let v := m.cycle + BitVec.ofNat 64 t
    (v, d.setCore c { m with cycle := v })
  | .instret => (m.instret, d)
  | .timeUs => d.readTime c
  | .timecmp => (m.timecmp, d)
  | .wdog => (m.wdog, d)
  | .patbase => (m.patbase, d)
  | .pcapm => (m.pcapm, d)
  | .pvbase => (m.pvbase, d)
  | .pruBase i => (d.pru.base[i], d)
  | .pruLimit i => (d.pru.limit[i], d)
  | .pruAttr i => (d.pru.attr[i], d)
  | .pruCtl => (d.pru.ctl, d)

/-- Region i is locked, by its LOCK or by LOCK_ALL (R106). -/
def Pru.locked (p : Pru) (i : Fin 16) : Bool := (p.attr[i]).getLsbD 7 || p.ctl.getLsbD 1

/-- A write ignored because of a lock, counted; the counter saturates (R104, R106). -/
def Pru.countLocked (p : Pru) : Pru :=
  let n := p.ctl.toNat / 65536 % 65536
  { p with ctl := BitVec.ofNat 64 (p.ctl.toNat % 65536 + min (n + 1) 0xFFFF * 65536) }

/-- A write of a protection register (R104, R106). -/
def Pru.write (p : Pru) (r : SysReg) (v : BitVec 64) : Pru :=
  match r with
  | .pruBase i => if p.locked i then p.countLocked else { p with base := vset p.base i (v &&& 0xFFFFFFFFF000#64) }
  | .pruLimit i => if p.locked i then p.countLocked else { p with limit := vset p.limit i (v &&& 0xFFFFFFFFF000#64) }
  | .pruAttr i => if p.locked i then p.countLocked else { p with attr := vset p.attr i (v &&& 0xFF#64) }
  | .pruCtl => if p.ctl.getLsbD 1 then p.countLocked else { p with ctl := (p.ctl &&& ~~~3#64) ||| (v &&& 3#64) }
  | _ => p

/-- A write of a system register (R97, R99, R100): read-only ones ignore it, reserved bits stay zero, and WDOG takes a
period of 100 to 10,000 ms under R9 and is kicked by any write. -/
def Device.writeSysReg (d : Device) (c : Fin 4) (r : SysReg) (v : BitVec 64) : Device :=
  let m := d.cores[c]
  match r with
  | .status => d.setCore c { m with status := (v &&& 0x1E#64) ||| (m.status &&& 1#64) }
  | .epc => d.setCore c { m with epc := v }
  | .cause => d.setCore c { m with cause := v }
  | .tval => d.setCore c { m with tval := v }
  | .tvec => d.setCore c { m with tvec := v &&& ~~~3#64 }
  | .scratch => d.setCore c { m with scratch := v }
  | .ie => d.setCore c { m with ie := v &&& 0xF#64 }
  | .ip => d.setCore c { m with ipi := m.ipi && !v.getLsbD 1 }
  | .ipi => (List.finRange 4).foldl (fun d k => if v.getLsbD k.val then d.setCore k { d.cores[k] with ipi := true } else d) d
  | .timecmp => d.setCore c { m with timecmp := v }
  | .wdog =>
    let p := v.toNat % 2 ^ 14
    let d := d.setCore c { m with wdogOnce := false }
    if p = m.wdog.toNat then d
    else if 100 ≤ p ∧ p ≤ 10000 then d.setCore c { d.cores[c] with wdog := BitVec.ofNat 64 p }
    else d.configReject 0x014
  | .patbase => d.setCore c { m with patbase := v &&& ~~~7#64 }
  | .pcapm => d.setCore c { m with pcapm := v &&& ~~~7#64 }
  | .pvbase => d.setCore c { m with pvbase := v &&& ~~~7#64 }
  | .coreId => d
  | .cycle => d
  | .instret => d
  | .timeUs => d
  | r => { d with pru := d.pru.write r v }

/-- The number names a system register of a management core (R97). -/
def sysRegExists (n : BitVec 12) : Bool := (sysReg n.toNat).isSome

/-- SYSR (R87, R97): engines have CYCLE and INSTRET, of which they return the low 32 bits. -/
def execSysr (x : Issue) (rd rs : BitVec 5) (port : BitVec 12) (sub : BitVec 4) (s : State) :
    Host.Outcome State Fault Refusal :=
  let plain := rs == 0#5 && sub == 0#4
  .next (s.onSys (issue x (wordP 0x28#6 rd rs port sub)
    (low rd && plain && (port == 0x010#12 || port == 0x011#12)) (plain && sysRegExists port)
    (fun u y =>
      let c := y.dev.ectx u
      if port = 0x011#12 then .done (y.setE u (c.setG rd.toNat (BitVec.ofNat 32 c.instret)).nextPc)
      else
        let (t, d) := y.dev.lapse
        let v := c.cycle + t
        .done ({ y with dev := d.setEctx u { c.setG rd.toNat (BitVec.ofNat 32 v) with cycle := v, pc := c.pc + 4 } }))
    (fun c y => match sysReg port.toNat with
      | none => .done y
      | some r =>
        if !y.dev.cores[c].priv && !r.userReads then .trap .privilege none y
        else
          let (v, d) := y.dev.readSysReg c r
          .done { y with dev := d.setCore c (d.cores[c].setG rd.toNat v).nextPc })))

/-- SYSW (R87, R97); the write that sets LOCK_ALL lets the output gate open (R448). -/
def execSysw (x : Issue) (rd rs : BitVec 5) (port : BitVec 12) (sub : BitVec 4) (s : State) :
    Host.Outcome State Fault Refusal :=
  let plain := rd == 0#5 && sub == 0#4
  .next (s.onSys (issue x (wordP 0x29#6 rd rs port sub) false (plain && sysRegExists port) noE
    (fun c y => match sysReg port.toNat with
      | none => .done y
      | some r =>
        if !y.dev.cores[c].priv then .trap .privilege none y
        else .done ((y.setM c y.dev.cores[c].nextPc).onDev (fun d =>
          d.writeSysReg c r (y.dev.cores[c].g rs.toNat))).gateCheck)))

/-- ENGINE_WATCHDOG_EXPIRY: an engine that has not kicked its watchdog faults with WATCHDOG (R83, R89, R90). -/
def devEngineWatchdog (u : EUnit) (d : Device) : Device :=
  match u with
  | .core _ => d
  | .eng e => if d.answers e.island && (d.engState e == 2 || d.engState e == 3) then
      d.unitFault u .watchdog (d.eng e).pc else d
  | .sec => if d.answers 39 && !d.sec.stopped then d.unitFault u .watchdog d.sec.ctx.pc else d

def execEngineWatchdogExpiry (u : EUnit) (s : State) : Host.Outcome State Fault Refusal :=
  .next (s.onDev (devEngineWatchdog u))

end Sys2Proof.Machine
end

