-- ==== Sys2Proof/Machine/Timers.lean ====
section
/-! DEFINITION. An access that goes unanswered (R25–R27, R70, R79), the cores' watchdogs (R98), and a memory controller that
becomes READY (R30, R296). -/

namespace Sys2Proof.Machine

/-- A unit whose access goes unanswered goes on past it: a read returns all ones. A WAIT ends as its timeout does (R79). -/
def Sys.downE (y : Sys) (u : EUnit) (write : Bool) (rd : BitVec 5) : Sys :=
  let c := (y.dev.ectx u).down
  match c.hold with
  | .wait w => (y.setE u c).waitDone u w 0xFFFFFFFF#32
  | _ => (y.setE u (if write then c else c.setG rd.toNat 0xFFFFFFFF#32).nextPc).retireE u

/-- ACCESS_TIMEOUT: the access of the instruction a unit stands at, or of its WAIT, completes with an error response. -/
def sysAccessTimeout (u : EUnit) (write : Bool) (rd : BitVec 5) (a : Nat) (y : Sys) : Sys :=
  let waits : Bool := match y.dev.holdOf u with
    | .wait _ => y.dev.unitUp u
    | _ => false
  if !(y.dev.unitRuns u || waits) then y
  else match u with
    | .core c => (y.setM c { y.dev.cores[c] with hold := .none }).mTrap c .busError y.dev.cores[c].pc (tvalOf a)
    | u => y.downE u write rd

def execAccessTimeout (u : EUnit) (write : Bool) (rd : BitVec 5) (a : Nat) (s : State) : Host.Outcome State Fault Refusal :=
  .next (s.onSys (sysAccessTimeout u write rd a))

/-- CORE_WATCHDOG_EXPIRY: the first period without a kick raises WATCHDOG, and the second restarts the firmware. -/
def sysCoreWatchdogExpiry (c : Fin 4) (y : Sys) : Sys :=
  if !y.dev.answers (42 + c.val) then y
  else if y.dev.cores[c].wdogOnce then y.fwRestart 4
  else
    let y := y.onDev (·.leaveHold c)
    let y := y.setM c { y.dev.cores[c] with wdogOnce := true }
    y.mTrap c .watchdog y.dev.cores[c].pc none

def execCoreWatchdogExpiry (c : Fin 4) (s : State) : Host.Outcome State Fault Refusal :=
  .next (s.onSys (sysCoreWatchdogExpiry c))

/-- The stencil window of a bay whose run was in flight at the restart is armed anew over its area, with no result taken
from it (R322). -/
def Device.rearmRun (d : Device) (b : Bay) : Device :=
  match ((d.stn b).visit).bind (·.run) with
  | none => d
  | some r =>
    if r.expectCrc.isSome then d.armStencil b 2 0 0 r.resultLen 0
    else d.armStencil b 3 r.expect.2.1 r.expect.2.2 r.resultLen r.expect.1

/-- MC_READY: with the last controller the witness engines arm their windows anew, and the credit that waited for it is
granted (R30, R296, R318, R322). -/
def devMcReady (j : Fin 16) (d : Device) : Device :=
  if d.answers (72 + j.val) ∧ d.mcReady j.val = false then
    let d := d.setFld (R.MC_STATUS j.val) F.MC_STATUS.STATE 1
    if d.allReady then bays.foldl (fun d b => ((d.armSample b).rearmRun b).grant b) d else d
  else d

def execMcReady (j : Fin 16) (s : State) : Host.Outcome State Fault Refusal := .next (s.onDev (devMcReady j))

end Sys2Proof.Machine
end

