-- ==== Sys2Proof/Machine/Dispatch.lean ====
section
/-! DEFINITION. The meaning of every command, by constructor. -/

namespace Sys2Proof.Machine

def exec (i : Instr) (s : State) : Host.Outcome State Fault Refusal :=
  match i with
  | .fwRestart who key => Sys2Proof.Machine.execFwRestart who key s
  | .commonsRestart who key => Sys2Proof.Machine.execCommonsRestart who key s
  | .fullReset who key => Sys2Proof.Machine.execFullReset who key s
  | .hubFault => Sys2Proof.Machine.execHubFault s
  | .sramRecheckDone => Sys2Proof.Machine.execSramRecheckDone s
  | .selfRefreshTimeout j => Sys2Proof.Machine.execSelfRefreshTimeout j s
  | .ucrFwReady c => Sys2Proof.Machine.execUcrFwReady c s
  | .tGraceExpiry => Sys2Proof.Machine.execTGraceExpiry s
  | .oscTrim dev => Sys2Proof.Machine.execOscTrim dev s
  | .trimLapse n => Sys2Proof.Machine.execTrimLapse n s
  | .refclkLost => Sys2Proof.Machine.execRefclkLost s
  | .refclkReturn => Sys2Proof.Machine.execRefclkReturn s
  | .accessTimeout u write rd a => Sys2Proof.Machine.execAccessTimeout u write rd a s
  | .add x rd rs1 rs2 => Sys2Proof.Machine.execAdd x rd rs1 rs2 s
  | .sub x rd rs1 rs2 => Sys2Proof.Machine.execSub x rd rs1 rs2 s
  | .and x rd rs1 rs2 => Sys2Proof.Machine.execAnd x rd rs1 rs2 s
  | .or x rd rs1 rs2 => Sys2Proof.Machine.execOr x rd rs1 rs2 s
  | .xor x rd rs1 rs2 => Sys2Proof.Machine.execXor x rd rs1 rs2 s
  | .shl x rd rs1 rs2 => Sys2Proof.Machine.execShl x rd rs1 rs2 s
  | .shr x rd rs1 rs2 => Sys2Proof.Machine.execShr x rd rs1 rs2 s
  | .sra x rd rs1 rs2 => Sys2Proof.Machine.execSra x rd rs1 rs2 s
  | .mul x rd rs1 rs2 => Sys2Proof.Machine.execMul x rd rs1 rs2 s
  | .mulh x rd rs1 rs2 => Sys2Proof.Machine.execMulh x rd rs1 rs2 s
  | .divu x rd rs1 rs2 => Sys2Proof.Machine.execDivu x rd rs1 rs2 s
  | .remu x rd rs1 rs2 => Sys2Proof.Machine.execRemu x rd rs1 rs2 s
  | .slt x rd rs1 rs2 => Sys2Proof.Machine.execSlt x rd rs1 rs2 s
  | .sltu x rd rs1 rs2 => Sys2Proof.Machine.execSltu x rd rs1 rs2 s
  | .min x rd rs1 rs2 => Sys2Proof.Machine.execMin x rd rs1 rs2 s
  | .max x rd rs1 rs2 => Sys2Proof.Machine.execMax x rd rs1 rs2 s
  | .addi x rd rs1 imm => Sys2Proof.Machine.execAddi x rd rs1 imm s
  | .andi x rd rs1 imm => Sys2Proof.Machine.execAndi x rd rs1 imm s
  | .ori x rd rs1 imm => Sys2Proof.Machine.execOri x rd rs1 imm s
  | .xori x rd rs1 imm => Sys2Proof.Machine.execXori x rd rs1 imm s
  | .slti x rd rs1 imm => Sys2Proof.Machine.execSlti x rd rs1 imm s
  | .shli x rd rs1 imm => Sys2Proof.Machine.execShli x rd rs1 imm s
  | .shri x rd rs1 imm => Sys2Proof.Machine.execShri x rd rs1 imm s
  | .srai x rd rs1 imm => Sys2Proof.Machine.execSrai x rd rs1 imm s
  | .lui x rd imm => Sys2Proof.Machine.execLui x rd imm s
  | .ldb x rd rs1 imm => Sys2Proof.Machine.execLdb x rd rs1 imm s
  | .ldh x rd rs1 imm => Sys2Proof.Machine.execLdh x rd rs1 imm s
  | .ldw x rd rs1 imm => Sys2Proof.Machine.execLdw x rd rs1 imm s
  | .ldd x rd rs1 imm => Sys2Proof.Machine.execLdd x rd rs1 imm s
  | .stb x rs2 rs1 imm => Sys2Proof.Machine.execStb x rs2 rs1 imm s
  | .sth x rs2 rs1 imm => Sys2Proof.Machine.execSth x rs2 rs1 imm s
  | .stw x rs2 rs1 imm => Sys2Proof.Machine.execStw x rs2 rs1 imm s
  | .std x rs2 rs1 imm => Sys2Proof.Machine.execStd x rs2 rs1 imm s
  | .beq x rs1 rs2 off => Sys2Proof.Machine.execBeq x rs1 rs2 off s
  | .bne x rs1 rs2 off => Sys2Proof.Machine.execBne x rs1 rs2 off s
  | .blt x rs1 rs2 off => Sys2Proof.Machine.execBlt x rs1 rs2 off s
  | .bge x rs1 rs2 off => Sys2Proof.Machine.execBge x rs1 rs2 off s
  | .bltu x rs1 rs2 off => Sys2Proof.Machine.execBltu x rs1 rs2 off s
  | .bgeu x rs1 rs2 off => Sys2Proof.Machine.execBgeu x rs1 rs2 off s
  | .jal x rd off => Sys2Proof.Machine.execJal x rd off s
  | .jalr x rd rs1 imm => Sys2Proof.Machine.execJalr x rd rs1 imm s
  | .inPort x rd rs port sub => Sys2Proof.Machine.execInPort x rd rs port sub s
  | .outPort x rd rs port sub => Sys2Proof.Machine.execOutPort x rd rs port sub s
  | .bset x rd rs port sub => Sys2Proof.Machine.execBset x rd rs port sub s
  | .bclr x rd rs port sub => Sys2Proof.Machine.execBclr x rd rs port sub s
  | .wait x rd rs port sub => Sys2Proof.Machine.execWait x rd rs port sub s
  | .waitConditionMet u => Sys2Proof.Machine.execWaitConditionMet u s
  | .waitTimeout u => Sys2Proof.Machine.execWaitTimeout u s
  | .sleep x rd rs port sub => Sys2Proof.Machine.execSleep x rd rs port sub s
  | .sleepEnd u => Sys2Proof.Machine.execSleepEnd u s
  | .yield x rd rs1 rs2 => Sys2Proof.Machine.execYield x rd rs1 rs2 s
  | .yieldResume u => Sys2Proof.Machine.execYieldResume u s
  | .trap x rd rs1 imm => Sys2Proof.Machine.execTrap x rd rs1 imm s
  | .halt x rd rs1 rs2 => Sys2Proof.Machine.execHalt x rd rs1 rs2 s
  | .retx x rd rs1 rs2 => Sys2Proof.Machine.execRetx x rd rs1 rs2 s
  | .sysr x rd rs port sub => Sys2Proof.Machine.execSysr x rd rs port sub s
  | .sysw x rd rs port sub => Sys2Proof.Machine.execSysw x rd rs port sub s
  | .fence x rd rs1 rs2 => Sys2Proof.Machine.execFence x rd rs1 rs2 s
  | .swap x rd rs1 rs2 func => Sys2Proof.Machine.execSwap x rd rs1 rs2 func s
  | .cas x rd rs1 rs2 func => Sys2Proof.Machine.execCas x rd rs1 rs2 func s
  | .sha x rd rs1 rs2 func => Sys2Proof.Machine.execSha x rd rs1 rs2 func s
  | .ecv x rd rs1 rs2 func => Sys2Proof.Machine.execEcv x rd rs1 rs2 func s
  | .tld x t rs1 imm => Sys2Proof.Machine.execTld x t rs1 imm s
  | .tst x t rs1 imm => Sys2Proof.Machine.execTst x t rs1 imm s
  | .xclr x rd rs1 rs2 func => Sys2Proof.Machine.execXclr x rd rs1 rs2 func s
  | .xdot x rd rs1 rs2 func => Sys2Proof.Machine.execXdot x rd rs1 rs2 func s
  | .xmag x rd rs1 rs2 func => Sys2Proof.Machine.execXmag x rd rs1 rs2 func s
  | .xrnd x rd rs1 rs2 func => Sys2Proof.Machine.execXrnd x rd rs1 rs2 func s
  | .bcmp x rd rs1 rs2 func => Sys2Proof.Machine.execBcmp x rd rs1 rs2 func s
  | .gQueueComplete g parity => Sys2Proof.Machine.execGQueueComplete g parity s
  | .interruptEntry c => Sys2Proof.Machine.execInterruptEntry c s
  | .coreWatchdogExpiry c => Sys2Proof.Machine.execCoreWatchdogExpiry c s
  | .engineWatchdogExpiry u => Sys2Proof.Machine.execEngineWatchdogExpiry u s
  | .engStart e => Sys2Proof.Machine.execEngStart e s
  | .engStop e => Sys2Proof.Machine.execEngStop e s
  | .engKill e => Sys2Proof.Machine.execEngKill e s
  | .startCheckDone e ok => Sys2Proof.Machine.execStartCheckDone e ok s
  | .tOffMinExpiry e => Sys2Proof.Machine.execTOffMinExpiry e s
  | .engMboxInWrite e v => Sys2Proof.Machine.execEngMboxInWrite e v s
  | .engMboxOutRead e => Sys2Proof.Machine.execEngMboxOutRead e s
  | .engLoadOpen e => Sys2Proof.Machine.execEngLoadOpen e s
  | .engLoadCommit e => Sys2Proof.Machine.execEngLoadCommit e s
  | .packVarWrite e v x => Sys2Proof.Machine.execPackVarWrite e v x s
  | .registerWrite who a v => Sys2Proof.Machine.execRegisterWrite who a v s
  | .laneDetectDone x => Sys2Proof.Machine.execLaneDetectDone x s
  | .laneTrainDone x => Sys2Proof.Machine.execLaneTrainDone x s
  | .alignLock x => Sys2Proof.Machine.execAlignLock x s
  | .alignLoss x => Sys2Proof.Machine.execAlignLoss x s
  | .flitReceive x bs fec => Sys2Proof.Machine.execFlitReceive x bs fec s
  | .nakRepeatTimer x => Sys2Proof.Machine.execNakRepeatTimer x s
  | .resendTimeout x => Sys2Proof.Machine.execResendTimeout x s
  | .tLinkExpiry x => Sys2Proof.Machine.execTLinkExpiry x s
  | .hello b => Sys2Proof.Machine.execHello b s
  | .caps b => Sys2Proof.Machine.execCaps b s
  | .unitMap b => Sys2Proof.Machine.execUnitMap b s
  | .stepOpen b => Sys2Proof.Machine.execStepOpen b s
  | .csum b => Sys2Proof.Machine.execCsum b s
  | .sample b parity => Sys2Proof.Machine.execSample b parity s
  | .stepClose b => Sys2Proof.Machine.execStepClose b s
  | .result b parity => Sys2Proof.Machine.execResult b parity s
  | .health b => Sys2Proof.Machine.execHealth b s
  | .maintReply b => Sys2Proof.Machine.execMaintReply b s
  | .fenceTimeout b slice => Sys2Proof.Machine.execFenceTimeout b slice s
  | .witlMaintGo b v => Sys2Proof.Machine.execWitlMaintGo b v s
  | .maint b => Sys2Proof.Machine.execMaint b s
  | .witlMaintRxdone b => Sys2Proof.Machine.execWitlMaintRxdone b s
  | .witCtlWrite b v => Sys2Proof.Machine.execWitCtlWrite b v s
  | .quietPoint b => Sys2Proof.Machine.execQuietPoint b s
  | .witEpochNew b => Sys2Proof.Machine.execWitEpochNew b s
  | .witEpochResend b => Sys2Proof.Machine.execWitEpochResend b s
  | .sealJob b => Sys2Proof.Machine.execSealJob b s
  | .galleryLag b => Sys2Proof.Machine.execGalleryLag b s
  | .replayTimeout b step tile => Sys2Proof.Machine.execReplayTimeout b step tile s
  | .witLedgerPop b => Sys2Proof.Machine.execWitLedgerPop b s
  | .witEventPop b => Sys2Proof.Machine.execWitEventPop b s
  | .arbiterHandover g => Sys2Proof.Machine.execArbiterHandover g s
  | .loaderCopyDone g path => Sys2Proof.Machine.execLoaderCopyDone g path s
  | .completionAccept => Sys2Proof.Machine.execCompletionAccept s
  | .tGdispExpiry g => Sys2Proof.Machine.execTGdispExpiry g s
  | .katRun g => Sys2Proof.Machine.execKatRun g s
  | .katDone g failing => Sys2Proof.Machine.execKatDone g failing s
  | .galFence g => Sys2Proof.Machine.execGalFence g s
  | .galUnfence g => Sys2Proof.Machine.execGalUnfence g s
  | .visitDue b => Sys2Proof.Machine.execVisitDue b s
  | .stencilDeadline b => Sys2Proof.Machine.execStencilDeadline b s
  | .obsWindowClose unitId => Sys2Proof.Machine.execObsWindowClose unitId s
  | .fsFence b slice => Sys2Proof.Machine.execFsFence b slice s
  | .fsUnfence b slice => Sys2Proof.Machine.execFsUnfence b slice s
  | .fsRetire b => Sys2Proof.Machine.execFsRetire b s
  | .fsUnretire b => Sys2Proof.Machine.execFsUnretire b s
  | .fsClear b slice => Sys2Proof.Machine.execFsClear b slice s
  | .fsCarry state age => Sys2Proof.Machine.execFsCarry state age s
  | .fsResume => Sys2Proof.Machine.execFsResume s
  | .fsRemovePack slot => Sys2Proof.Machine.execFsRemovePack slot s
  | .flowstoneTick => Sys2Proof.Machine.execFlowstoneTick s
  | .ftMark => Sys2Proof.Machine.execFtMark s
  | .fsAppendDone ok => Sys2Proof.Machine.execFsAppendDone ok s
  | .logScan => Sys2Proof.Machine.execLogScan s
  | .fsJournalAck v => Sys2Proof.Machine.execFsJournalAck v s
  | .mcReady j => Sys2Proof.Machine.execMcReady j s
  | .scrubRead j ch off found raced => Sys2Proof.Machine.execScrubRead j ch off found raced s
  | .scrubLate j => Sys2Proof.Machine.execScrubLate j s
  | .twArm n w v => Sys2Proof.Machine.execTwArm n w v s
  | .twClose n w v => Sys2Proof.Machine.execTwClose n w v s
  | .windowLanding a bs path => Sys2Proof.Machine.execWindowLanding a bs path s
  | .trwDqGo j => Sys2Proof.Machine.execTrwDqGo j s
  | .trowelCsumAcc j => Sys2Proof.Machine.execTrowelCsumAcc j s
  | .trowelCrc32c j => Sys2Proof.Machine.execTrowelCrc32c j s
  | .trowelCmpExp j => Sys2Proof.Machine.execTrowelCmpExp j s
  | .trowelXfold j => Sys2Proof.Machine.execTrowelXfold j s
  | .trowelFill j => Sys2Proof.Machine.execTrowelFill j s
  | .trowelCopy j => Sys2Proof.Machine.execTrowelCopy j s
  | .railPgRise k => Sys2Proof.Machine.execRailPgRise k s
  | .railPgFall k => Sys2Proof.Machine.execRailPgFall k s
  | .railPgGlitch k => Sys2Proof.Machine.execRailPgGlitch k s
  | .tWarnExpiry n => Sys2Proof.Machine.execTWarnExpiry n s
  | .tDownMaxExpiry n => Sys2Proof.Machine.execTDownMaxExpiry n s
  | .safeStopStep n => Sys2Proof.Machine.execSafeStopStep n s
  | .sqCntClr n clr => Sys2Proof.Machine.execSqCntClr n clr s
  | .vinLow vin vhold => Sys2Proof.Machine.execVinLow vin vhold s
  | .holdupWriteDone => Sys2Proof.Machine.execHoldupWriteDone s
  | .forcedOffStep => Sys2Proof.Machine.execForcedOffStep s
  | .vinReturn vin vhold => Sys2Proof.Machine.execVinReturn vin vhold s
  | .killIn => Sys2Proof.Machine.execKillIn s
  | .killInRelease => Sys2Proof.Machine.execKillInRelease s
  | .extOff b => Sys2Proof.Machine.execExtOff b s
  | .presenceLost b => Sys2Proof.Machine.execPresenceLost b s
  | .btnPress => Sys2Proof.Machine.execBtnPress s
  | .btnRelease => Sys2Proof.Machine.execBtnRelease s
  | .longPress => Sys2Proof.Machine.execLongPress s
  | .mrstNAssert => Sys2Proof.Machine.execMrstNAssert s
  | .capEngage vin imon => Sys2Proof.Machine.execCapEngage vin imon s
  | .capRelease vin imon => Sys2Proof.Machine.execCapRelease vin imon s
  | .sensorSample ain dies => Sys2Proof.Machine.execSensorSample ain dies s
  | .safeHotClear => Sys2Proof.Machine.execSafeHotClear s
  | .slotStale slot => Sys2Proof.Machine.execSlotStale slot s
  | .healthSlotJoin b => Sys2Proof.Machine.execHealthSlotJoin b s
  | .zoneEval => Sys2Proof.Machine.execZoneEval s
  | .zoneHot z => Sys2Proof.Machine.execZoneHot z s
  | .zoneCool z => Sys2Proof.Machine.execZoneCool z s
  | .channelCommand => Sys2Proof.Machine.execChannelCommand s
  | .motCfgWrite c v => Sys2Proof.Machine.execMotCfgWrite c v s
  | .motorAlignDone c dead hallBad => Sys2Proof.Machine.execMotorAlignDone c dead hallBad s
  | .motorLock c hallBad => Sys2Proof.Machine.execMotorLock c hallBad s
  | .lockDeadline c hallBad => Sys2Proof.Machine.execLockDeadline c hallBad s
  | .lockLoss c => Sys2Proof.Machine.execLockLoss c s
  | .lowSpeedStall c rpm => Sys2Proof.Machine.execLowSpeedStall c rpm s
  | .overcurrent c => Sys2Proof.Machine.execOvercurrent c s
  | .openWinding c => Sys2Proof.Machine.execOpenWinding c s
  | .retryWaitEnd c => Sys2Proof.Machine.execRetryWaitEnd c s
  | .triesReset c => Sys2Proof.Machine.execTriesReset c s
  | .driveThermalTrip t temp => Sys2Proof.Machine.execDriveThermalTrip t temp s
  | .driveDerate t temp => Sys2Proof.Machine.execDriveDerate t temp s
  | .auxTachFail n => Sys2Proof.Machine.execAuxTachFail n s
  | .clFailAck v => Sys2Proof.Machine.execClFailAck v s
  | .flowRate f pulses => Sys2Proof.Machine.execFlowRate f pulses s
  | .loopAnomaly l => Sys2Proof.Machine.execLoopAnomaly l s
  | .leakSample l ohms => Sys2Proof.Machine.execLeakSample l ohms s
  | .tShutExpiry l => Sys2Proof.Machine.execTShutExpiry l s
  | .clLkAck v => Sys2Proof.Machine.execClLkAck v s
  | .busFree m => Sys2Proof.Machine.execBusFree m s
  | .quickW m r => Sys2Proof.Machine.execQuickW m r s
  | .quickR m r => Sys2Proof.Machine.execQuickR m r s
  | .sendByte m r => Sys2Proof.Machine.execSendByte m r s
  | .recvByte m r => Sys2Proof.Machine.execRecvByte m r s
  | .writeByte m r => Sys2Proof.Machine.execWriteByte m r s
  | .readByte m r => Sys2Proof.Machine.execReadByte m r s
  | .writeWord m r => Sys2Proof.Machine.execWriteWord m r s
  | .readWord m r => Sys2Proof.Machine.execReadWord m r s
  | .procCall m r => Sys2Proof.Machine.execProcCall m r s
  | .blockWrite m r => Sys2Proof.Machine.execBlockWrite m r s
  | .blockRead m r => Sys2Proof.Machine.execBlockRead m r s
  | .blockProcCall m r => Sys2Proof.Machine.execBlockProcCall m r s
  | .i2cWrite m r => Sys2Proof.Machine.execI2cWrite m r s
  | .i2cRead m r => Sys2Proof.Machine.execI2cRead m r s
  | .i2cWriteRead m r => Sys2Proof.Machine.execI2cWriteRead m r s
  | .addrNackRetry m => Sys2Proof.Machine.execAddrNackRetry m s
  | .arbBackoffEnd m => Sys2Proof.Machine.execArbBackoffEnd m s
  | .clkTimeout m => Sys2Proof.Machine.execClkTimeout m s
  | .tgtTransaction m t => Sys2Proof.Machine.execTgtTransaction m t s
  | .tgtSleep m => Sys2Proof.Machine.execTgtSleep m s
  | .tgtSclTimeout m => Sys2Proof.Machine.execTgtSclTimeout m s
  | .hostNotify m addr data => Sys2Proof.Machine.execHostNotify m addr data s
  | .alertResponse m won => Sys2Proof.Machine.execAlertResponse m won s
  | .busStuck m => Sys2Proof.Machine.execBusStuck m s
  | .busStuckClear m => Sys2Proof.Machine.execBusStuckClear m s
  | .busUnpowered m => Sys2Proof.Machine.execBusUnpowered m s
  | .segOutcome m => Sys2Proof.Machine.execSegOutcome m s
  | .segRetry m => Sys2Proof.Machine.execSegRetry m s
  | .secRelease fuseOk patchOk leafOk flash => Sys2Proof.Machine.execSecRelease fuseOk patchOk leafOk flash s
  | .fuseShadowCheck same agree => Sys2Proof.Machine.execFuseShadowCheck same agree s
  | .mgmtVerifyDone flash => Sys2Proof.Machine.execMgmtVerifyDone flash s
  | .lockAllDeadline flash => Sys2Proof.Machine.execLockAllDeadline flash s
  | .secException => Sys2Proof.Machine.execSecException s
  | .secInstall flash => Sys2Proof.Machine.execSecInstall flash s
  | .secVerify => Sys2Proof.Machine.execSecVerify s
  | .secSignMmp => Sys2Proof.Machine.execSecSignMmp s
  | .secSpdm => Sys2Proof.Machine.execSecSpdm s
  | .secStage flash => Sys2Proof.Machine.execSecStage flash s
  | .secRevoke => Sys2Proof.Machine.execSecRevoke s
  | .secOwnerKey => Sys2Proof.Machine.execSecOwnerKey s
  | .secCertWrite leafOk => Sys2Proof.Machine.execSecCertWrite leafOk s
  | .secConfirm who key => Sys2Proof.Machine.execSecConfirm who key s
  | .arbResume => Sys2Proof.Machine.execArbResume s
  | .trialExpiry => Sys2Proof.Machine.execTrialExpiry s
  | .xtalStartFail => Sys2Proof.Machine.execXtalStartFail s
  | .getVersion req => Sys2Proof.Machine.execGetVersion req s
  | .getCapabilities req => Sys2Proof.Machine.execGetCapabilities req s
  | .negotiateAlgorithms req => Sys2Proof.Machine.execNegotiateAlgorithms req s
  | .getCertificate req => Sys2Proof.Machine.execGetCertificate req s
  | .challenge req => Sys2Proof.Machine.execChallenge req s
  | .getMeasurements req => Sys2Proof.Machine.execGetMeasurements req s
  | .actHandover who key pair => Sys2Proof.Machine.execActHandover who key pair s
  | .actCommons who key pair => Sys2Proof.Machine.execActCommons who key pair s
  | .actFull who key pair => Sys2Proof.Machine.execActFull who key pair s
  | .preverifyDone flash => Sys2Proof.Machine.execPreverifyDone flash s
  | .quiesced c => Sys2Proof.Machine.execQuiesced c s
  | .quiesceTimeout => Sys2Proof.Machine.execQuiesceTimeout s
  | .pauseCopyDone flash => Sys2Proof.Machine.execPauseCopyDone flash s
  | .goldReadDone b digest flash => Sys2Proof.Machine.execGoldReadDone b digest flash s
  | .goldReadbackDone b digest sectors cmdOk flash => Sys2Proof.Machine.execGoldReadbackDone b digest sectors cmdOk flash s
  | .tGoldMaxExpiry b => Sys2Proof.Machine.execTGoldMaxExpiry b s
  | .ethFrameReceive f => Sys2Proof.Machine.execEthFrameReceive f s
  | .arpRequest ip partner src => Sys2Proof.Machine.execArpRequest ip partner src s
  | .ndSolicit ip partner src => Sys2Proof.Machine.execNdSolicit ip partner src s
  | .icmpEcho v6 dst data src => Sys2Proof.Machine.execIcmpEcho v6 dst data src s
  | .dhcpReceive v6 m => Sys2Proof.Machine.execDhcpReceive v6 m s
  | .lldpTransmit => Sys2Proof.Machine.execLldpTransmit s
  | .ethRateWrite rate => Sys2Proof.Machine.execEthRateWrite rate s
  | .hsInit payload src => Sys2Proof.Machine.execHsInit payload src s
  | .hsFin session sig window late src => Sys2Proof.Machine.execHsFin session sig window late src s
  | .dataPacket p => Sys2Proof.Machine.execDataPacket p s
  | .ackPacket p => Sys2Proof.Machine.execAckPacket p s
  | .closePacket p => Sys2Proof.Machine.execClosePacket p s
  | .rtoExpiry => Sys2Proof.Machine.execRtoExpiry s
  | .ackKeepalive => Sys2Proof.Machine.execAckKeepalive s
  | .tSessionExpiry => Sys2Proof.Machine.execTSessionExpiry s
  | .mmpSpdm => Sys2Proof.Machine.execMmpSpdm s
  | .loadSecfw flash => Sys2Proof.Machine.execLoadSecfw flash s
  | .loadPack flash => Sys2Proof.Machine.execLoadPack flash s
  | .loadMgmt flash => Sys2Proof.Machine.execLoadMgmt flash s
  | .loadStencilPack => Sys2Proof.Machine.execLoadStencilPack s
  | .loadGolden flash => Sys2Proof.Machine.execLoadGolden flash s
  | .loadHostCode => Sys2Proof.Machine.execLoadHostCode s
  | .runProgram c ceiling => Sys2Proof.Machine.execRunProgram c ceiling s
  | .runLimitExpiry c => Sys2Proof.Machine.execRunLimitExpiry c s
  | .mmpRead => Sys2Proof.Machine.execMmpRead s
  | .mmpWrite => Sys2Proof.Machine.execMmpWrite s
  | .ethEvtGo => Sys2Proof.Machine.execEthEvtGo s
  | .eventAck => Sys2Proof.Machine.execEventAck s
  | .eventResend => Sys2Proof.Machine.execEventResend s
  | .bulkFlowstone => Sys2Proof.Machine.execBulkFlowstone s
  | .bulkLedger => Sys2Proof.Machine.execBulkLedger s
  | .bulkSample => Sys2Proof.Machine.execBulkSample s
  | .bulkGolden flash => Sys2Proof.Machine.execBulkGolden flash s
  | .bulkHoldup => Sys2Proof.Machine.execBulkHoldup s
  | .ethRxTailWrite v => Sys2Proof.Machine.execEthRxTailWrite v s
  | .ethTxHeadWrite v => Sys2Proof.Machine.execEthTxHeadWrite v s
  | .relayStart mine => Sys2Proof.Machine.execRelayStart mine s
  | .relayEnd mine => Sys2Proof.Machine.execRelayEnd mine s
  | .hbSend => Sys2Proof.Machine.execHbSend s
  | .hbReceive h => Sys2Proof.Machine.execHbReceive h s
  | .hbPinEdge => Sys2Proof.Machine.execHbPinEdge s
  | .twinLinkDown => Sys2Proof.Machine.execTwinLinkDown s
  | .partnerLost => Sys2Proof.Machine.execPartnerLost s
  | .joinTimeout => Sys2Proof.Machine.execJoinTimeout s
  | .stepRecord id n c => Sys2Proof.Machine.execStepRecord id n c s
  | .stepAck id => Sys2Proof.Machine.execStepAck id s
  | .stepAckTimeout id => Sys2Proof.Machine.execStepAckTimeout id s
  | .mirrorRecord m => Sys2Proof.Machine.execMirrorRecord m s
  | .verdictRecord b result step tile epoch => Sys2Proof.Machine.execVerdictRecord b result step tile epoch s
  | .sealNoteRecord b n => Sys2Proof.Machine.execSealNoteRecord b n s
  | .fsRecordReceive bs => Sys2Proof.Machine.execFsRecordReceive bs s
  | .requestRecord n q => Sys2Proof.Machine.execRequestRecord n q s
  | .requestOffTimeout n => Sys2Proof.Machine.execRequestOffTimeout n s
  | .relayRecord packet => Sys2Proof.Machine.execRelayRecord packet s
  | .actRecord what => Sys2Proof.Machine.execActRecord what s
  | .twinSwap who key => Sys2Proof.Machine.execTwinSwap who key s
  | .standAside who key v => Sys2Proof.Machine.execStandAside who key v s
  | .soloStart => Sys2Proof.Machine.execSoloStart s
  | .vinConfirmTimeout => Sys2Proof.Machine.execVinConfirmTimeout s
  | .vstbyGood => Sys2Proof.Machine.execVstbyGood s
  | .supplyOutOfRange x => Sys2Proof.Machine.execSupplyOutOfRange x s
  | .vioBankLoss k => Sys2Proof.Machine.execVioBankLoss k s
  | .xtalStop => Sys2Proof.Machine.execXtalStop s
  | .bridgeSwitchOpen vin => Sys2Proof.Machine.execBridgeSwitchOpen vin s
  | .bridgeSwitchClose vin => Sys2Proof.Machine.execBridgeSwitchClose vin s
  | .holdOkChange vhold => Sys2Proof.Machine.execHoldOkChange vhold s
  | .vstbyLoss => Sys2Proof.Machine.execVstbyLoss s
  | .supplyReturn x => Sys2Proof.Machine.execSupplyReturn x s
  | .vioBankReturn k => Sys2Proof.Machine.execVioBankReturn k s
  | .xtalReturn => Sys2Proof.Machine.execXtalReturn s
  | .mrstNRelease => Sys2Proof.Machine.execMrstNRelease s
  | .pairPauseTimeout => Sys2Proof.Machine.execPairPauseTimeout s
  | .pinPathLoss => Sys2Proof.Machine.execPinPathLoss s

end Sys2Proof.Machine
end

