-- ==== Sys2Proof/Certificates/Slice0/Obligations.lean ====
section
/-! DEFINITION. The statements for the provers. Each says which rules of the manual it states; the helpers in
`Sys2Proof.Claims` are the words they are stated in. -/

namespace Sys2Proof.Claims

open Sys2Proof.Machine

/-! ### The queue -/

/-- The block with one more command in front of its queue. -/
def front (c : Instr) (s : State) : State := { s with pending := c :: s.pending }

/-! ### Instructions: who executes them, and the state after one -/

/-- A BCMP that waits in the queue of a Gallery cluster writes one of these general registers (R114). -/
def Owes (s : State) (u : EUnit) (rs : List Nat) : Prop :=
  ∃ g : Fin 12, u = .eng (.gc g) ∧ ∃ q ∈ s.sys.dev.gcs[g].queue, q.op = 0x36 ∧ q.a ≠ 0 ∧ q.a ∈ rs

/-- An E- or G-profile unit executes the instruction x issues, which reads the general registers rs: the unit runs,
the instruction has no parity error, its address lies in the program store, and no queued BCMP owes it a register. -/
def IssuesE (s : State) (x : Issue) (rs : List Nat) : Prop :=
  (∀ c, x.unit ≠ .core c) ∧ s.sys.dev.unitRuns x.unit = true ∧ x.parity = false ∧
    s.sys.dev.fetchOk x.unit = true ∧ ¬ Owes s x.unit rs

/-- Management core c executes the instruction x issues: the core runs, the instruction has no parity error, it may be
fetched, and its line is not poisoned. -/
def IssuesM (s : State) (x : Issue) (c : Fin 4) : Prop :=
  x.unit = .core c ∧ s.sys.dev.unitRuns x.unit = true ∧ x.parity = false ∧
    s.sys.dev.mFetchOk c s.sys.dev.cores[c].pc.toNat = true ∧ s.sys.dev.poisoned s.sys.dev.cores[c].pc.toNat = false

/-- The state after an instruction of an E- or G-profile unit whose whole effect is the context f gives. -/
def doneE (s : State) (u : EUnit) (f : ECtx → ECtx) : State :=
  s.onDev (fun d => d.setEctx u { f (d.ectx u) with instret := (d.ectx u).instret + 1 })

/-- The state after an instruction of a management core whose whole effect is the context f gives. -/
def doneM (s : State) (c : Fin 4) (f : MCtx → MCtx) : State :=
  s.onDev (fun d => d.setCore c { f d.cores[c] with instret := d.cores[c].instret + 1#64 })

/-- A general register takes a value, and execution goes on with the next instruction. -/
def writesE (rd : BitVec 5) (v : BitVec 32) (c : ECtx) : ECtx := { c.setG rd.toNat v with pc := c.pc + 4 }
def writesM (rd : BitVec 5) (v : BitVec 64) (m : MCtx) : MCtx := { m.setG rd.toNat v with pc := m.pc + 4#64 }

/-- The general registers of an E- or G-profile unit, and of a management core. -/
def g32 (s : State) (u : EUnit) (r : BitVec 5) : BitVec 32 := (s.sys.dev.ectx u).g r.toNat
def g64 (s : State) (c : Fin 4) (r : BitVec 5) : BitVec 64 := (s.sys.dev.cores[c]).g r.toNat

/-! ### ALU instructions (R49–R52) -/

/-- The value of an ALU instruction for the W-bit values x and y, as a whole number before it wraps (R49, R51). -/
abbrev AluRule := (w : Nat) → BitVec w → BitVec w → Int

def sumRule : AluRule := fun _ x y => x.toNat + y.toNat
def subRule : AluRule := fun _ x y => x.toNat - y.toNat
def andRule : AluRule := fun _ x y => (x.toNat &&& y.toNat : Nat)
def orRule : AluRule := fun _ x y => (x.toNat ||| y.toNat : Nat)
def xorRule : AluRule := fun _ x y => (x.toNat ^^^ y.toNat : Nat)
def shlRule : AluRule := fun w x y => x.toNat * 2 ^ (y.toNat % w)
def shrRule : AluRule := fun w x y => x.toNat / 2 ^ (y.toNat % w)
def sraRule : AluRule := fun w x y => x.toInt / 2 ^ (y.toNat % w)
def mulRule : AluRule := fun _ x y => x.toInt * y.toInt
def mulhRule : AluRule := fun w x y => x.toInt * y.toInt / 2 ^ w
def divuRule : AluRule := fun w x y => if y.toNat = 0 then 2 ^ w - 1 else x.toNat / y.toNat
def remuRule : AluRule := fun _ x y => if y.toNat = 0 then x.toNat else x.toNat % y.toNat
def sltRule : AluRule := fun _ x y => if x.toInt < y.toInt then 1 else 0
def sltuRule : AluRule := fun _ x y => if x.toNat < y.toNat then 1 else 0
def minRule : AluRule := fun _ x y => min x.toInt y.toInt
def maxRule : AluRule := fun _ x y => max x.toInt y.toInt

/-- The three-register instructions of the ALU group, each with its rule. -/
def aluTable : List ((Issue → BitVec 5 → BitVec 5 → BitVec 5 → Instr) × AluRule) :=
  [(.add, sumRule), (.sub, subRule), (.and, andRule), (.or, orRule), (.xor, xorRule), (.shl, shlRule), (.shr, shrRule),
   (.sra, sraRule), (.mul, mulRule), (.mulh, mulhRule), (.divu, divuRule), (.remu, remuRule), (.slt, sltRule),
   (.sltu, sltuRule), (.min, minRule), (.max, maxRule)]

/-- The instructions of one register and an immediate, each with its rule and whether its immediate is sign-extended
(R50); a shift takes its amount from the low bits of the immediate. -/
def immTable : List ((Issue → BitVec 5 → BitVec 5 → BitVec 16 → Instr) × AluRule × Bool) :=
  [(.addi, sumRule, true), (.slti, sltRule, true), (.andi, andRule, false), (.ori, orRule, false), (.xori, xorRule, false),
   (.shli, shlRule, false), (.shri, shrRule, false), (.srai, sraRule, false)]

/-- An immediate extended to w bits. -/
def extend (w : Nat) (signed : Bool) (imm : BitVec 16) : BitVec w := if signed then imm.signExtend w else imm.zeroExtend w

/-! ### Exceptions (R89–R96) -/

/-- The state after an exception of an E- or G-profile unit at its program counter (R90). -/
def faultE (s : State) (u : EUnit) (c : Cause) : State := s.onDev (fun d => d.unitFault u c (d.ectx u).pc)

/-- The state after an exception of a management core at its program counter, with the TVAL the manual gives it (R93,
R96). -/
def trapM (s : State) (c : Fin 4) (cause : Cause) (tval : BitVec 64) : State :=
  s.onSys (fun y => y.mTrap c cause y.dev.cores[c].pc (some tval))

/-! ### Branches and jumps (R59–R63) -/

/-- The condition of a branch, on the W-bit values of gs1 and gs2. -/
abbrev CondRule := (w : Nat) → BitVec w → BitVec w → Bool

/-- The conditional branches, each with its condition (R59). -/
def branchTable : List ((Issue → BitVec 5 → BitVec 5 → BitVec 16 → Instr) × CondRule) :=
  [(.beq, fun _ x y => decide (x.toNat = y.toNat)), (.bne, fun _ x y => decide (x.toNat ≠ y.toNat)),
   (.blt, fun _ x y => decide (x.toInt < y.toInt)), (.bge, fun _ x y => decide (y.toInt ≤ x.toInt)),
   (.bltu, fun _ x y => decide (x.toNat < y.toNat)), (.bgeu, fun _ x y => decide (y.toNat ≤ x.toNat))]

/-- An E- or G-profile unit may go to t: a multiple of 4, inside the program store of an engine, or inside a range the
security core may execute (R47, R62, R63). -/
def JumpOk (u : EUnit) (t : Int) : Prop :=
  t % 4 = 0 ∧ match u with
    | .eng _ => 0 ≤ t ∧ t < 0x4000
    | _ => (0 ≤ t ∧ t < 0x40000) ∨ (0x80000 ≤ t ∧ t < 0x100000)

/-- The next state of a jump to t that writes gd in the way f says: to t, or the exception of the jump (R62, R63). -/
def JumpsE (s t : State) (u : EUnit) (target : Int) (f : ECtx → ECtx) : Prop :=
  (JumpOk u target → t = doneE s u (fun c => { f c with pc := target.toNat })) ∧
    (¬ JumpOk u target → t = faultE s u .illegal)

def JumpsM (s t : State) (c : Fin 4) (target : BitVec 64) (f : MCtx → MCtx) : Prop :=
  (target.toNat % 4 = 0 → t = doneM s c (fun m => { f m with pc := target })) ∧
    (target.toNat % 4 ≠ 0 → t = trapM s c .fetchFault target)

/-- The program counters. -/
def pcE (s : State) (u : EUnit) : Nat := (s.sys.dev.ectx u).pc
def pcM (s : State) (c : Fin 4) : BitVec 64 := s.sys.dev.cores[c].pc

/-! ### Loads and stores (R53–R57) -/

/-- The loads and the stores, each with the bytes it transfers (R53). -/
def loadTable : List ((Issue → BitVec 5 → BitVec 5 → BitVec 16 → Instr) × Nat) :=
  [(.ldb, 1), (.ldh, 2), (.ldw, 4), (.ldd, 8)]
def storeTable : List ((Issue → BitVec 5 → BitVec 5 → BitVec 16 → Instr) × Nat) :=
  [(.stb, 1), (.sth, 2), (.stw, 4), (.std, 8)]

/-- n bytes from a lie in an engine's local data, at a multiple of n (R54). -/
def InLocal (a : Int) (n : Nat) : Prop := 0 ≤ a ∧ a + n ≤ 0x1000 ∧ a % n = 0

/-- n bytes from a lie in the private SRAM of the security core (R47). -/
def InPrivate (a : Int) (n : Nat) : Prop := 0x80000 ≤ a ∧ a + n ≤ 0x100000

/-- Management core c may make the access of n bytes at a to memory, and it is answered at once: aligned, in system SRAM
or in LPDDR4X whose controller is READY, and granted by the protection unit (R55, R105, R296). -/
def ReachesM (s : State) (c : Fin 4) (r : Right) (a n : Nat) : Prop :=
  a % n = 0 ∧
    (inSram a = true ∨ (inDram a = true ∧ s.sys.dev.answers (72 + controllerOf a) = true ∧
      s.sys.dev.mcReady (controllerOf a) = true)) ∧
    s.sys.dev.pru.allows s.sys.dev.cores[c].priv r a = true

/-- No ARMED landing window counts a byte of the n from a. -/
def NoWindow (s : State) (a n : Nat) : Prop :=
  ∀ w, w < 64 → s.sys.dev.armed w = true →
    a + n ≤ (s.sys.dev.windowOp w).src ∨ (s.sys.dev.windowOp w).src + (s.sys.dev.windowOp w).len ≤ a

/-- The address of a load or store: a whole number on an E- or G-profile unit, modulo 2^64 on a core (R53). -/
def addrE (s : State) (u : EUnit) (rs1 : BitVec 5) (imm : BitVec 16) : Int := (g32 s u rs1).toNat + imm.toInt
def addrM (s : State) (c : Fin 4) (rs1 : BitVec 5) (imm : BitVec 16) : Nat :=
  (((g64 s c rs1).toNat + imm.toInt) % 2 ^ 64).toNat

/-- The number that n bytes of memory from a hold, least significant byte first (R4). -/
def littleEndian (m : Mem) (a n : Nat) : Nat :=
  ((List.range n).map (fun i => (memByte m (a + i)).toNat * 256 ^ i)).sum

/-- Memory m' is memory m with the n low bytes of v stored from a, least significant byte first. -/
def StoredAt (m m' : Mem) (a n v : Nat) : Prop :=
  (∀ i, i < n → memByte m' (a + i) = BitVec.ofNat 8 (v / 256 ^ i)) ∧
    (∀ b, b < a ∨ a + n ≤ b → memByte m' b = memByte m b)

/-! ### Exception entry (R93, R96, R97) -/

/-- No host program is ended by an exception that core c takes: the core is in supervisor mode, or runs none (R101). -/
def NoHostProgram (s : State) (c : Fin 4) : Prop :=
  s.sys.dev.cores[c].priv = true ∨ ∀ r ∈ s.sys.dev.eth.runs, r.core ≠ c

/-- STATUS after an exception (R93): PRIV and EXL are 1, IE is 0, and PIE and PPRIV hold the old IE and PRIV. -/
def entryStatus (m : MCtx) : BitVec 64 :=
  BitVec.ofNat 64 (1 + 4 * (m.status.getLsbD 1).toNat + 8 * (m.status.getLsbD 0).toNat + 16)

/-- A core's context after it has taken an exception at epc (R93); one that arises while EXL is 1 stops the core (R96). -/
def entered (m : MCtx) (cause epc tval : BitVec 64) : MCtx :=
  if m.status.getLsbD 4 = true then { m with stopped := true, hold := .none }
  else { m with status := entryStatus m, epc := epc, cause := cause, tval := tval, pc := m.tvec, hold := .none }

/-- The state after core c has taken an exception at its program counter, as R93 and R96 give it. -/
def exceptionM (s : State) (c : Fin 4) (cause : Nat) (tval : BitVec 64) : State :=
  s.onDev (fun d => d.setCore c (entered d.cores[c] (BitVec.ofNat 64 cause) d.cores[c].pc tval))

/-! ### System registers (R97) -/

/-- The system registers that hold a value of their own and are read and written whole, or with some bits reading zero:
number, the value, and the context after a write (R97, R99, R100). -/
def sysTable : List (Nat × (MCtx → BitVec 64) × (BitVec 64 → MCtx → MCtx)) :=
  [(0x001, (·.status), fun v m => { m with status := (v &&& 0x1E#64) ||| (m.status &&& 1#64) }),
   (0x002, (·.epc), fun v m => { m with epc := v }),
   (0x003, (·.cause), fun v m => { m with cause := v }),
   (0x004, (·.tval), fun v m => { m with tval := v }),
   (0x005, (·.tvec), fun v m => { m with tvec := v &&& ~~~3#64 }),
   (0x006, (·.scratch), fun v m => { m with scratch := v }),
   (0x007, (·.ie), fun v m => { m with ie := v &&& 0xF#64 }),
   (0x011, (·.instret), fun _ m => m),
   (0x013, (·.timecmp), fun v m => { m with timecmp := v }),
   (0x018, (·.patbase), fun v m => { m with patbase := v &&& ~~~7#64 }),
   (0x019, (·.pcapm), fun v m => { m with pcapm := v &&& ~~~7#64 }),
   (0x01A, (·.pvbase), fun v m => { m with pvbase := v &&& ~~~7#64 })]

/-- The numbers of R97. -/
def sysNumbers : List Nat :=
  [0x000, 0x001, 0x002, 0x003, 0x004, 0x005, 0x006, 0x007, 0x008, 0x009, 0x010, 0x011, 0x012, 0x013, 0x014, 0x018, 0x019,
   0x01A, 0x130] ++ (List.range 48).map (0x100 + ·)

/-! ### Engines that halt (R85, R134) -/

/-- The fault address, cause and state an engine records on an exception (R90). -/
def Faulted (t : State) (e : Eng) (code pc : Nat) : Prop :=
  t.sys.dev.engState e = 4 ∧ t.sys.dev.fld (R.ENG_FAULT e.win) F.ENG_FAULT.CAUSE = code ∧
    t.sys.dev.fld (R.ENG_FAULT e.win) F.ENG_FAULT.PC = pc % 2 ^ 14

/-! ### Ports (R65–R74) -/

/-- The value of a common port that has no effect on a read: number, and value (R65, R66); the number of a pack variable's
port is left to the statement. -/
def commonValue (s : State) (u : EUnit) : Nat → Option (BitVec 32)
  | 0x001 => some (BitVec.ofNat 32 (((s.sys.dev.ectx u).xdown).toNat + 2 * ((s.sys.dev.ectx u).mboxLost).toNat +
      4 * (decide ((s.sys.dev.ectx u).mboxIn ≠ [])).toNat + 8 * (decide (16 ≤ (s.sys.dev.ectx u).mboxOut.length)).toNat))
  | 0x003 => some (match u with
      | .eng e => BitVec.ofNat 32 (s.sys.dev.fld (R.ENG_WDOG e.win) F.ENG_WDOG.PERIOD)
      | _ => 100#32)
  | 0x005 => some (BitVec.ofNat 32 (s.sys.dev.ectx u).mboxIn.length)
  | 0x007 => some (BitVec.ofNat 32 (16 - (s.sys.dev.ectx u).mboxOut.length))
  | 0x008 => some (match u with
      | .core _ => 0#32
      | .eng e => BitVec.ofNat 32 (e.typeCode + 256 * e.index + 0x10000)
      | .sec => BitVec.ofNat 32 0x10007)
  | 0x009 => some (BitVec.ofNat 32 (s.sys.dev.ectx u).xdownCnt)
  | _ => none

/-- The word written into a 32-bit scratch word of a bus engine's buffer by OUT, BSET or BCLR (R68, R414). -/
def bufferWord (s : State) (m : Fin 12) (k : Nat) : Nat := littleEndian s.sys.dev.buses[m].buf (4 * k) 4

/-- The state after a bus engine has written word k of its buffer, its buffer now being b. -/
def bufferWritten (s : State) (m : Fin 12) (b : Mem) : State :=
  doneE (s.onDev (fun d => { d with buses := d.buses.set m.val { d.buses[m] with buf := b } })) (.eng (.bus m))
    (fun c => { c with pc := c.pc + 4 })

/-- A core reads memory at a without any exception: the access reaches SRAM or LPDDR4X, and no line is poisoned. -/
def ReadsM (s : State) (c : Fin 4) (a n : Nat) : Prop :=
  ReachesM s c .read a n ∧ s.sys.dev.poisonedRange a n = false

/-- A WAIT's condition on the masked value v, the first masked value being first, and the word to compare (R75). -/
def waitCond (cond : Nat) (mask value first v : BitVec 32) : Bool :=
  match cond with
  | 0 => decide (v &&& mask = value &&& mask)
  | 1 => decide (v &&& mask ≠ 0#32)
  | 2 => decide (v &&& mask = mask)
  | 3 => decide (v &&& mask = 0#32)
  | _ => decide (v &&& mask ≠ first)

/-- A unit's context and a core's after a WAIT or a SLEEP has ended with gd = v. -/
def endsE (rd : Nat) (v : BitVec 32) (c : ECtx) : ECtx := { c.setG rd v with pc := c.pc + 4, hold := .none }
def endsM (rd : Nat) (v : BitVec 64) (m : MCtx) : MCtx := { m.setG rd v with pc := m.pc + 4#64, hold := .none }

/-- The timer of an E- or G-profile unit moved on. -/
def ticks (us : Nat) (c : ECtx) : ECtx := { c with timer := (c.timer + us) % 2 ^ 32 }

/-- The context of an E- or G-profile unit, or of a core, changed and nothing else. -/
def onE (s : State) (u : EUnit) (f : ECtx → ECtx) : State := s.onDev (fun d => d.setEctx u (f (d.ectx u)))
def onM (s : State) (c : Fin 4) (f : MCtx → MCtx) : State := s.onDev (fun d => d.setCore c (f d.cores[c]))


/-! ### Free values, interrupts and watchdogs (R93, R95, R98, R100) -/

/-- One free value has been drawn (assumption log 2). -/
def drawn (s : State) : State := s.onDev (fun d => { d with freeCtr := d.freeCtr + 1 })

/-- Time has passed on core c by a free lapse (assumption log 4). -/
def passed (s : State) (c : Fin 4) : State :=
  onM (drawn s) c (fun m => { m with timeUs := m.timeUs + BitVec.ofNat 64 (Config.freeElapsed s.sys.dev.freeCtr) })

/-- The entry of the interrupt with code i at the instruction at epc, TVAL being a free value (R93). -/
def interrupted (i : Nat) (epc tval : BitVec 64) (m : MCtx) : MCtx :=
  { m with status := entryStatus m, epc := epc, cause := BitVec.ofNat 64 (2 ^ 63 + i), tval := tval, pc := m.tvec, hold := .none }

/-- The first interrupt pending and enabled, in the order IPI, MAILBOX, BLOCK, TIMER (R95). -/
def firstPending (s : State) (c : Fin 4) : Option Nat :=
  [1, 2, 3, 0].find? (fun i => (s.sys.dev.ip c &&& s.sys.dev.cores[c].ie).getLsbD i)

/-! ### Crypto instructions (R116, R117) -/

/-- n bytes from a lie in the private SRAM of the security core (R47). -/
def PrivateRange (a n : Nat) : Prop := 0x80000 ≤ a ∧ a + n ≤ 0x100000

/-- The number that n bytes of memory from a hold, most significant byte first (R117). -/
def bigEndian (m : Mem) (a : Nat) : Nat → Nat
  | 0 => 0
  | n + 1 => bigEndian m a n * 256 + (memByte m (a + n)).toNat

/-- n bytes of memory from a. -/
def bytesAt (m : Mem) (a n : Nat) : List (BitVec 8) := (List.range n).map (fun i => memByte m (a + i))

/-- The result of ECV on a digest, a public key and a signature (R117). -/
def ecvCode (digest x y r s : Nat) : BitVec 32 :=
  if p256On x y = true ∧ 1 ≤ r ∧ r < p256n ∧ 1 ≤ s ∧ s < p256n then (if ecdsaVerify digest x y r s then 0#32 else 1#32)
  else 2#32

/-! ### G instructions (R112–R115) -/

/-- The cluster's own state changed. -/
def onG (s : State) (g : Fin 12) (f : GcCtx → GcCtx) : State :=
  s.onDev (fun d => { d with gcs := d.gcs.set g.val (f d.gcs[g]) })

/-- The queued G instructions: constructor, opcode, and the register fields they may hold (R113, R123). -/
def gTable : List ((Issue → BitVec 5 → BitVec 5 → BitVec 5 → BitVec 11 → Instr) × Nat × Nat × Nat × Nat) :=
  [(.xclr, 0x32, 4, 1, 1), (.xdot, 0x33, 4, 8, 8), (.xmag, 0x34, 4, 8, 8), (.xrnd, 0x35, 8, 4, 1), (.bcmp, 0x36, 16, 8, 4)]

/-- The operand at the front of the cluster's queue is q, and rest follows it; the cluster's island answers. -/
def Queued (s : State) (g : Fin 12) (q : GOp) (rest : List GOp) : Prop :=
  s.sys.dev.answers (88 + g.val) = true ∧ s.sys.dev.gcs[g].queue = q :: rest

/-- Tiles A and B may be multiplied into bank a, which is not in WIDE mode and has been cleared: an integer pairing, in the
tile store and within the bank, nothing poisoned (R115, R234–R236). -/
def IntegerDot (c : GcCtx) (a : Nat) (ta tb : Tile) : Prop :=
  a < 4 ∧ c.wideMode a = false ∧ c.bank a = Bank.reset ∧
    (ta.fmt = 0x0B ∨ ta.fmt = 0x0C) ∧ (tb.fmt = 0x0B ∨ tb.fmt = 0x0C) ∧ ta.cols = tb.rows ∧
    ta.rows ≤ 256 ∧ tb.cols ≤ 256 ∧ ta.cols ≤ 65536 ∧
    ta.base + ta.bytes ≤ 0x400000 ∧ tb.base + tb.bytes ≤ 0x400000 ∧ ta.aux ≤ 0x400000 ∧ tb.aux ≤ 0x400000 ∧
    c.tilePoison ta true = false ∧ c.tilePoison tb false = false

/-- Element (r, k) of an integer tile as a signed number (R232). -/
def Tile.int (t : Tile) (s : Mem) (r k : Nat) : Int :=
  signed (if t.fmt = 0x0C then 4 else 8) (t.bits s r k)

/-- The exact product sum of output (r, j) of two integer tiles. -/
def dotSum (s : Mem) (ta tb : Tile) (r j : Nat) : Int :=
  ((List.range ta.cols).map (fun k => Tile.int ta s r k * Tile.int tb s k j)).sum

/-! ### Registers and engines (R9, R129–R140) -/

/-- State t is s but for registers, and of them only those listed. -/
def RegsAt (s t : State) (l : List Nat) : Prop :=
  t = s.onDev (fun d => { d with regs := t.sys.dev.regs }) ∧ ∀ a, a ∉ l → t.sys.dev.reg a = s.sys.dev.reg a

/-- The context of an engine changed and nothing else. -/
def onEng (s : State) (e : Eng) (f : ECtx → ECtx) : State := s.onDev (fun d => d.setEng e (f (d.eng e)))

/-- A field of a register. -/
def fldOf (s : State) (a : Nat) (f : Fld) : Nat := s.sys.dev.fld a f

/-- An engine whose chapter adds nothing to a start or a stop: a bus engine, a witness engine or a Gallery cluster. -/
def PlainEngine (e : Eng) : Prop := (∀ i, e ≠ .seq i) ∧ ∀ i, e ≠ .cool i

/-- The engine's program counter at entry k. -/
def entryPc (s : State) (e : Eng) (k : Nat) : Nat := 4 * fldOf s (R.ENG_ENTRY e.win k) F.ENG_ENTRY.INDEX

/-- A START would be taken: a valid program, no install open, and ENG_CTL.ENTRY defined (R134, R140). -/
def StartOk (s : State) (e : Eng) : Prop :=
  fldOf s (R.ENG_STATUS e.win) F.ENG_STATUS.PROG_VALID ≠ 0 ∧ fldOf s (R.ENG_LOAD_STATUS e.win) F.ENG_LOAD_STATUS.OPEN = 0 ∧
    (fldOf s (R.ENG_PROG_INFO e.win) F.ENG_PROG_INFO.ENTRY_MASK).testBit (fldOf s (R.ENG_CTL e.win) F.ENG_CTL.ENTRY) = true

/-- The word a field of a register holds after a write of v (R6, R9): a settable field takes a value in its range or the one
it already holds, a W1C field loses the bits written as 1, and any other field keeps its value. -/
def fieldAfter (f : FieldRow) (old v : BitVec 32) : Nat :=
  match f.access with
  | .rw | .rwl => if f.limit.admits (f.fld.get v) then f.fld.get v else f.fld.get old
  | .w1c => f.fld.get old &&& (2 ^ f.fld.width - 1 - f.fld.get v)
  | _ => f.fld.get old

/-- A settable field is written with a new value outside its range (R9). -/
def OutOfRange (f : FieldRow) (old v : BitVec 32) : Prop :=
  (f.access = .rw ∨ f.access = .rwl) ∧ f.fld.get v ≠ f.fld.get old ∧ f.limit.admits (f.fld.get v) = false

/-! ### Registers of the block -/

/-- A field of a register takes a value, and nothing else changes. -/
def put (s : State) (a : Nat) (f : Fld) (x : Nat) : State := s.onDev (fun d => d.setFld a f x)

/-- Several fields take a value each, in order. -/
def puts (s : State) (l : List (Nat × Fld × Nat)) : State := l.foldl (fun s p => put s p.1 p.2.1 p.2.2) s

/-- A counter field goes up by one and saturates (R6). -/
def bump (s : State) (a : Nat) (f : Fld) : State := put s a f (min (fldOf s a f + 1) (2 ^ f.width - 1))

/-- A host event is raised (R532). -/
def event (s : State) (code source : Nat) (detail : List Nat) : State := s.onDev (fun d => d.raise code source detail)

/-- Bit n of a field set to b, the rest kept. -/
def putBit (s : State) (a : Nat) (f : Fld) (n : Nat) (b : Bool) : State :=
  put s a f (fldOf s a f - (fldOf s a f / 2 ^ n % 2) * 2 ^ n + b.toNat * 2 ^ n)

/-- The state of an island: 0 ISOLATED, 1 RESET, 2 RUN. -/
def island (s : State) (i : Nat) : Nat := fldOf s (R.ISLE_ENTRY i) F.ISLE_ENTRY.STATE

/-- The levels on the pins changed, and nothing else. -/
def onPins (s : State) (f : PinCtx → PinCtx) : State := s.onDev (fun d => { d with pins := f d.pins })

/-! ### Restarts (R32–R43) -/

/-- The registers that show the straps, the role that follows from them, the cause of a restart and the islands: a restart
leaves them at other values than the table's. -/
def strapRegs : List Nat := [R.IO_STRAP, R.TWIN_STATUS, R.ETH_STAT, R.ETH_CFG, R.UCR_RST_CAUSE] ++ (List.range 100).map R.ISLE_ENTRY

/-- The islands a commons restart resets: the commons and the host side, not the rails, cooling, buses and witnesses (R32). -/
def CommonsIsland (i : Nat) : Prop := (39 ≤ i ∧ i ≤ 52) ∨ (69 ≤ i ∧ i ≤ 99)

/-- t is s after a full device reset for a cause, whatever the pins were (R32, R33, R38): every register is at its reset
value but those of the straps and islands, memory and the cores are as after power-on, and the fuses and flash are kept, no
hold-up record being written. -/
def FullReset (s t : State) (cause : Nat) : Prop :=
  t.sys.dev.cores = Vector.replicate 4 MCtx.reset ∧ t.sys.dev.mem = [] ∧ t.sys.dev.sec = SecCore.reset ∧
    t.sys.dev.eth = EthCtx.reset ∧ t.sys.dev.restart = 0 ∧ t.sys.dev.fwTimes = [] ∧
    fldOf t R.UCR_RST_CAUSE F.UCR_RST_CAUSE.CAUSE = cause ∧
    (∀ a, a ∉ strapRegs → t.sys.dev.reg a = regReset a) ∧
    (s.sys.dev.tray.holdup = [] → t.sys.nv = s.sys.nv) ∧ t.pending = s.pending

/-- What every partial restart writes into UCR_RST_CAUSE and UCR_FW_READY (R43). -/
def NotedRestart (s t : State) (kind cause : Nat) : Prop :=
  fldOf t R.UCR_RST_CAUSE F.UCR_RST_CAUSE.LAST_KIND = kind ∧ fldOf t R.UCR_RST_CAUSE F.UCR_RST_CAUSE.CAUSE = cause ∧
    fldOf t R.UCR_RST_CAUSE F.UCR_RST_CAUSE.PARTIAL_CNT = min (fldOf s R.UCR_RST_CAUSE F.UCR_RST_CAUSE.PARTIAL_CNT + 1) 0xFFFF ∧
    fldOf t R.UCR_FW_READY F.UCR_FW_READY.READY = 0

/-- t is s after a commons restart (R32, R38, R40, R41): system SRAM and the commons' registers are reset, every other
register is kept, LPDDR4X keeps its contents, and the fuses and flash are kept where no golden image waits. -/
def CommonsRestart (s t : State) (cause : Nat) : Prop :=
  NotedRestart s t 2 cause ∧ t.sys.dev.restart = 2 ∧ t.sys.dev.cores = Vector.replicate 4 MCtx.reset ∧
    (∀ a, memByte t.sys.dev.mem a = if inSram a then 0#8 else memByte s.sys.dev.mem a) ∧
    (∀ a, CommonsIsland (islandOf a) → a ∉ strapRegs → a ≠ R.SEC_LOCK_ID → t.sys.dev.reg a = regReset a) ∧
    (∀ a, ¬ CommonsIsland (islandOf a) → a ∉ strapRegs → a ≠ R.UCR_FW_READY → a ≠ R.GAL_UNFENCE →
      (∀ g : Fin 12, a ≠ R.GC_STATUS g.val) → t.sys.dev.reg a = s.sys.dev.reg a) ∧
    (∀ e : Eng, (∀ g, e ≠ .gc g) → t.sys.dev.eng e = s.sys.dev.eng e) ∧ t.sys.nv = s.sys.nv ∧ t.pending = s.pending

/-- t is s after a firmware restart (R32, R36): the four cores and their islands are reset, and nothing else is. -/
def FirmwareRestart (s t : State) (cause : Nat) : Prop :=
  NotedRestart s t 1 cause ∧ t.sys.dev.restart = 1 ∧ t.sys.dev.cores = Vector.replicate 4 MCtx.reset ∧
    (∀ c : Fin 4, island t (42 + c.val) = if s.sys.dev.pins.vcore then 1 else 0) ∧
    (∀ a, a ≠ R.UCR_RST_CAUSE → a ≠ R.UCR_FW_READY → (∀ c : Fin 4, a ≠ R.ISLE_ENTRY (42 + c.val)) →
      t.sys.dev.reg a = s.sys.dev.reg a) ∧
    t.sys.dev.mem = s.sys.dev.mem ∧ t.sys.dev.engs = s.sys.dev.engs ∧ t.sys.nv = s.sys.nv ∧ t.pending = s.pending

/-- No accepted golden image waits for its slot (R493). -/
def NoGoldWaits (s : State) : Prop := ∀ g : Fin 4, s.sys.dev.goldNext[g] = none

/-! ### Supplies and the boot (R435–R460, R594–R616) -/

/-- A supply not good, or good again. -/
def supplyAt (s : State) (x : Supply) (good : Bool) : PinCtx := s.sys.dev.pins.setSupply x good

/-- The words of n registers from a show these bytes, the first byte in bits [7:0] of the first word. -/
def ShowsBytes (t : State) (a : Nat) (bs : List (BitVec 8)) : Prop :=
  ∀ i, i < 8 → t.sys.dev.reg (a + 4 * i) = BitVec.ofNat 32 (bytesNat ((bs.drop (4 * i)).take 4))

/-- The load of a slot that had been released fails with a check code, no other slot is left to try, and the device is in
recovery wait: the code is recorded, and the cores are back in reset (R447, R448, R459). -/
def RecoveryWait (s t : State) (code : Nat) : Prop :=
  fldOf t R.SEC_BOOT_STATUS F.SEC_BOOT_STATUS.MODE = 2 ∧ t.sys.dev.boot.phase = .recovery ∧
    t.sys.dev.cores = Vector.replicate 4 MCtx.reset ∧
    t.sys.nv = s.sys.nv.putDir (fun b => b.setRej s.sys.dev.boot.slot code) ∧ t.pending = s.pending

/-! ### Power (R327–R367) -/

/-- PWR of a sequencer: 0 OFF, 1 UP, 2 ON, 3 DOWN, 4 FORCED_OFF. -/
def pwrOf (s : State) (i : Fin 9) : Nat := fldOf s (R.SQ_STATUS i.val) F.SQ_STATUS.PWR

/-- Bit c of a channel mask of a sequencer. -/
def chanOn (s : State) (a : Nat) (f : Fld) (c : Nat) : Bool := (fldOf s a f).testBit c

/-- A sequencer whose program runs goes down for a cause (R334, R335): the cause and the count are recorded, PWR is DOWN, and
the program continues at entry 1, or at entry 2 where PWR was UP and that entry is defined. -/
def GoesDown (s t : State) (i : Fin 9) (cause : Nat) : Prop :=
  let st := R.SQ_STATUS i.val
  let entry := if pwrOf s i = 1 ∧
    (fldOf s (R.ENG_PROG_INFO (Eng.seq i).win) F.ENG_PROG_INFO.ENTRY_MASK).testBit 2 = true then 2 else 1
  fldOf t st F.SQ_STATUS.LAST_DOWN = cause ∧ fldOf t st F.SQ_STATUS.WENT_DOWN = 1 ∧
    fldOf t st F.SQ_STATUS.DOWN_CNT = min (fldOf s st F.SQ_STATUS.DOWN_CNT + 1) (2 ^ F.SQ_STATUS.DOWN_CNT.width - 1) ∧
    pwrOf t i = 3 ∧ fldOf t st F.SQ_STATUS.WARN = 0 ∧
    fldOf t (R.ENG_STATUS (Eng.seq i).win) F.ENG_STATUS.STATE = 3 ∧ (t.sys.dev.eng (.seq i)).pc = entryPc s (.seq i) entry

/-- A sequencer that can go down by its program: UP or ON, RUNNING, with the entry it needs (R335). -/
def CanGoDown (s : State) (i : Fin 9) : Prop :=
  (pwrOf s i = 1 ∨ pwrOf s i = 2) ∧ fldOf s (R.ENG_STATUS (Eng.seq i).win) F.ENG_STATUS.STATE = 2 ∧
    (fldOf s (R.ENG_PROG_INFO (Eng.seq i).win) F.ENG_PROG_INFO.ENTRY_MASK).testBit 1 = true

/-- Bays that are UP or ON, one bit each. -/
def baysUpMask (s : State) : Nat :=
  ((List.finRange 8).map (fun b : Bay => (decide (pwrOf s (seqOf b) = 1 ∨ pwrOf s (seqOf b) = 2)).toNat * 2 ^ b.val)).sum

/-- t is s after a forced off has begun for cause c (R351, R354, R355): every sequencer is FORCED_OFF with its engine OFF and
no START held, the clearing schedule is due, and a hold-up record waits to be written. -/
def ForcedOff (s t : State) (c : ForceCause) (code : Nat) : Prop :=
  t.sys.dev.tray.forced = true ∧ t.sys.dev.tray.forceActive = [c] ∧ t.sys.dev.tray.killOut = true ∧
    t.sys.dev.tray.forceStep = 0 ∧ fldOf t R.TR_STAT F.TR_STAT.FORCING = 1 ∧
    fldOf t R.TR_STAT F.TR_STAT.BAYS_LAST = baysUpMask s ∧
    (∀ i : Fin 9, pwrOf t i = 4 ∧ fldOf t (R.ENG_STATUS (Eng.seq i).win) F.ENG_STATUS.STATE = 0 ∧
      fldOf t (R.ENG_CTL (Eng.seq i).win) F.ENG_CTL.PEND = 0) ∧
    (∃ r, t.sys.dev.tray.holdup = s.sys.dev.tray.holdup ++ [r] ∧ r.cause = code ∧ r.trayPwr = pwrOf s 8 ∧
      r.baysLast = baysUpMask s) ∧ t.sys.nv = s.sys.nv

/-- The tray's own state changed. -/
def onTray (s : State) (f : TrayCtx → TrayCtx) : State := s.onDev (fun d => { d with tray := f d.tray })

/-- VIN and VHOLD as measured, in 10 mV. -/
def measuredAt (s : State) (vin vhold : Nat) : State :=
  puts s [(R.TR_VIN, F.TR_VIN.VIN, min vin 0xFFFF), (R.TR_VIN, F.TR_VIN.VHOLD, min vhold 0xFFFF)]

/-- The command c completes in s: exec answers a next state, and P holds of it. -/
def Completes (c : Instr) (s : State) (P : State → Prop) : Prop := ∃ t, exec c s = .next t ∧ P t

/-- Nothing outside the device, and none of these parts of it, changed: the engines, memory, the cores, the flash and fuses
and the queue. -/
def RestKept (s t : State) : Prop :=
  t.sys.nv = s.sys.nv ∧ t.sys.dev.engs = s.sys.dev.engs ∧ t.sys.dev.cores = s.sys.dev.cores ∧ t.sys.dev.mem = s.sys.dev.mem ∧
    t.pending = s.pending

/-! ### Cooling (R370–R400) -/

/-- A sensor slot as an update leaves it: VALUE and the flags; never STALE. -/
def SlotHolds (t : State) (k value isOpen short range temp : Nat) : Prop :=
  let a := R.CL_SENS k
  fldOf t a F.CL_SENS.VALUE = value ∧ fldOf t a F.CL_SENS.OPEN = isOpen ∧ fldOf t a F.CL_SENS.SHORT = short ∧
    fldOf t a F.CL_SENS.RANGE = range ∧ fldOf t a F.CL_SENS.STALE = 0 ∧ fldOf t a F.CL_SENS.TEMP = temp

/-- The flags alone of a faulted slot, for which the manual gives no VALUE. -/
def SlotFault (t : State) (k isOpen short range temp : Nat) : Prop :=
  SlotHolds t k (fldOf t (R.CL_SENS k) F.CL_SENS.VALUE) isOpen short range temp

/-- KIND, P1, P2 and P3 of an analog input. -/
def ainKindOf (s : State) (i : Nat) : Nat := fldOf s (R.CL_AIN_A i) F.CL_AIN_A.KIND
def ainP1 (s : State) (i : Nat) : Nat := fldOf s (R.CL_AIN_A i) F.CL_AIN_A.P1
def ainP2 (s : State) (i : Nat) : Nat := fldOf s (R.CL_AIN_B i) F.CL_AIN_B.P2
def ainP3 (s : State) (i : Nat) : Nat := fldOf s (R.CL_AIN_B i) F.CL_AIN_B.P3

/-- The inputs AIN0 to AIN7 of kind NTC, which SAFE mode reads (R379). -/
def safeInputs (s : State) : List Nat := (List.range 8).filter (fun i => ainKindOf s i == 1)

/-- A slot reads OPEN, SHORT or RANGE. -/
def slotFaultedAt (s : State) (k : Nat) : Bool :=
  fldOf s (R.CL_SENS k) F.CL_SENS.OPEN + fldOf s (R.CL_SENS k) F.CL_SENS.SHORT + fldOf s (R.CL_SENS k) F.CL_SENS.RANGE != 0

/-- The signed reading of a slot and of a zone, in 0.1 °C. -/
def slotReads (s : State) (k : Nat) : Int := signed16 (fldOf s (R.CL_SENS k) F.CL_SENS.VALUE)
def zoneReads (s : State) (z : Nat) : Int := signed16 (fldOf s (R.CL_ZSTAT z) F.CL_ZSTAT.TEMP)

/-- A field of a leak loop's status. -/
def loopFld (s : State) (l : Nat) (f : Fld) : Nat := fldOf s (R.CL_LK_STAT l) f

/-- A loop is in a sensor-fault state: OPEN, SHORT, DRIFT or PENDING (R396). -/
def LoopFaulted (s : State) (l : Nat) : Prop := 2 ≤ loopFld s l F.CL_LK_STAT.STATE ∧ loopFld s l F.CL_LK_STAT.STATE ≤ 5

/-- A WET response is in force on a loop: it is latched, and the leak override shows (R397). -/
def WetInForce (t : State) (l : Nat) : Prop :=
  loopFld t l F.CL_LK_STAT.LATCHED = 1 ∧ fldOf t R.CL_MODE F.CL_MODE.LEAK_OVR = 1 ∧ fldOf t R.CL_EVENT F.CL_EVENT.LEAK_WET = 1

/-- The band a loop resistance lies in, as the code of its state (R396): 0 DRY, 1 WET, 2 OPEN, 3 SHORT, 4 DRIFT. -/
def InBand (ohms st : Nat) : Prop :=
  (ohms < 100 ∧ st = 3) ∨ (100 ≤ ohms ∧ ohms < 5000 ∧ st = 1) ∨ (5000 ≤ ohms ∧ ohms < 8000 ∧ st = 4) ∨
    (8000 ≤ ohms ∧ ohms ≤ 12000 ∧ st = 0) ∨ (12000 < ohms ∧ ohms ≤ 20000 ∧ st = 4) ∨ (20000 < ohms ∧ st = 2)

/-! ### Motors (R385–R393) -/

/-- A field of a direct-drive channel's status. -/
def motFld (s : State) (c : Fin 12) (f : Fld) : Nat := fldOf s (R.MOT_STAT c.val) f

/-- A count has gone up by one, to its limit (R6). -/
def CountedAt (s t : State) (a : Nat) (f : Fld) : Prop := fldOf t a f = min (fldOf s a f + 1) (2 ^ f.width - 1)

/-- A channel is FAILED: its state, its bit, the event and the override (R389, R392). -/
def ChannelFailed (t : State) (c : Fin 12) : Prop :=
  motFld t c F.MOT_STAT.STATE = 5 ∧ chanOn t R.CL_FAILED F.CL_FAILED.MOT c.val = true ∧
    fldOf t R.CL_EVENT F.CL_EVENT.CH_FAILED = 1 ∧ fldOf t R.CL_MODE F.CL_MODE.FAIL_OVR = 1

/-- A failed attempt of a channel for a cause (R388, R389): the fourth in a row fails the channel, an earlier one waits. -/
def FailedAttempt (s t : State) (c : Fin 12) (cause : Nat) : Prop :=
  motFld t c F.MOT_STAT.CAUSE = cause ∧ motFld t c F.MOT_STAT.TRIES = motFld s c F.MOT_STAT.TRIES + 1 ∧
    CountedAt s t (R.MOT_CNT c.val) F.MOT_CNT.FAILS ∧
    (3 ≤ motFld s c F.MOT_STAT.TRIES → ChannelFailed t c) ∧
    (motFld s c F.MOT_STAT.TRIES < 3 → motFld t c F.MOT_STAT.STATE = 4 ∧
      fldOf t R.CL_FAILED F.CL_FAILED.MOT = fldOf s R.CL_FAILED F.CL_FAILED.MOT) ∧
    (∀ k : Fin 12, k ≠ c → t.sys.dev.reg (R.MOT_STAT k.val) = s.sys.dev.reg (R.MOT_STAT k.val)) ∧ RestKept s t

/-- The sum of P_MAX over the enabled channels (R386). -/
def enabledPower (s : State) : Nat :=
  ((List.finRange 12).map (fun k => fldOf s (R.MOT_CFG k.val) F.MOT_CFG.EN * fldOf s (R.MOT_CFG k.val) F.MOT_CFG.P_MAX)).sum

/-! ### Two-wire buses (R407–R428) -/

/-- A bus beside its registers. -/
def busAt (s : State) (m : Fin 12) : BusCtx := s.sys.dev.buses[m]

/-- What a protocol reads after its (repeated) START. -/
inductive BusReads where
  | none
  | bytes (n : Nat)
  | rlen
  | block

/-- A row of the protocol table (R408): PROTO, the R/W bit of the first address, whether CMD and a count follow it, how many
data bytes are written (none: WLEN), whether a repeated START follows, and what is read. -/
structure BusShape where
  proto : Nat
  readBit : Nat
  cmd : Bool
  count : Bool
  writes : Option Nat
  again : Bool
  reads : BusReads

/-- The protocol table (R408), a row for each command. -/
def busTable : List ((Fin 12 → BusRun → Instr) × BusShape) :=
  [(.quickW, ⟨0x0, 0, false, false, some 0, false, .none⟩), (.quickR, ⟨0x1, 1, false, false, some 0, false, .none⟩),
   (.sendByte, ⟨0x2, 0, true, false, some 0, false, .none⟩), (.recvByte, ⟨0x3, 1, false, false, some 0, false, .bytes 1⟩),
   (.writeByte, ⟨0x4, 0, true, false, some 1, false, .none⟩), (.readByte, ⟨0x5, 0, true, false, some 0, true, .bytes 1⟩),
   (.writeWord, ⟨0x6, 0, true, false, some 2, false, .none⟩), (.readWord, ⟨0x7, 0, true, false, some 0, true, .bytes 2⟩),
   (.procCall, ⟨0x8, 0, true, false, some 2, true, .bytes 2⟩), (.blockWrite, ⟨0x9, 0, true, true, none, false, .none⟩),
   (.blockRead, ⟨0xA, 0, true, false, some 0, true, .block⟩), (.blockProcCall, ⟨0xB, 0, true, true, none, true, .block⟩),
   (.i2cWrite, ⟨0xC, 0, false, false, none, false, .none⟩), (.i2cRead, ⟨0xD, 1, false, false, some 0, false, .rlen⟩),
   (.i2cWriteRead, ⟨0xE, 0, false, false, none, true, .rlen⟩)]

/-- ADDR, PROTO, PEC and CMD of BP_XFER_A, and WLEN and RLEN of BP_XFER_B, as BP_GO found them (R414). -/
def xferAddr (c : BusCtx) : Nat := c.curA.toNat % 128
def xferProto (c : BusCtx) : Nat := c.curA.toNat / 2 ^ 8 % 16
def xferPec (c : BusCtx) : Bool := c.curA.getLsbD 12
def xferCmd (c : BusCtx) : Nat := c.curA.toNat / 2 ^ 16 % 256
def xferWlen (c : BusCtx) : Nat := c.curB.toNat % 512
def xferRlen (c : BusCtx) : Nat := c.curB.toNat / 2 ^ 16 % 512

/-- The first address byte, and what follows it up to the end or a repeated START. -/
def firstByte (x : BusShape) (c : BusCtx) : BitVec 8 := BitVec.ofNat 8 (2 * xferAddr c + x.readBit)
def written (x : BusShape) (c : BusCtx) : List (BitVec 8) :=
  (if x.cmd then [BitVec.ofNat 8 (xferCmd c)] else []) ++ (if x.count then [BitVec.ofNat 8 (xferWlen c)] else []) ++
    (List.range (x.writes.getD (xferWlen c))).map (memByte c.buf)

/-- Every byte the controller sends before a read phase. -/
def sentBytes (x : BusShape) (c : BusCtx) : List (BitVec 8) :=
  firstByte x c :: written x c ++ if x.again then [BitVec.ofNat 8 (2 * xferAddr c + 1)] else []

/-- The count byte and the data bytes of the read phase; a byte no part drives reads 0xFF. -/
def countRead (x : BusShape) (r : BusRun) : List (BitVec 8) :=
  match x.reads with
  | .block => [r.data.getD 0 0xFF#8]
  | _ => []
def dataRead (x : BusShape) (c : BusCtx) (r : BusRun) : List (BitVec 8) :=
  match x.reads with
  | .none => []
  | .bytes n => (List.range n).map (fun i => r.data.getD i 0xFF#8)
  | .rlen => (List.range (xferRlen c)).map (fun i => r.data.getD i 0xFF#8)
  | .block => (List.range (r.data.getD 0 0xFF#8).toNat).map (fun i => r.data.getD (i + 1) 0xFF#8)

/-- The segment of a bus has no power (R426). -/
def SegDead (s : State) (m : Fin 12) : Prop :=
  fldOf s (R.BUS_CFG m.val) F.BUS_CFG.SEG_EN = 1 ∧
    (chanOn s (R.SQ_RAIL_ST 8) F.SQ_RAIL_ST.EN (fldOf s (R.BUS_CFG m.val) F.BUS_CFG.SEG_CH) = false ∨
      chanOn s (R.SQ_RAIL_ST 8) F.SQ_RAIL_ST.PG (fldOf s (R.BUS_CFG m.val) F.BUS_CFG.SEG_CH) = false)

/-- Nothing changed but bus m and registers of its window. -/
def BusOnly (s t : State) (m : Fin 12) : Prop :=
  (∀ k : Fin 12, k ≠ m → busAt t k = busAt s k) ∧
    (∀ a, a < R.BUS_CFG m.val ∨ R.BUS_CFG m.val + 0x10000 ≤ a → t.sys.dev.reg a = s.sys.dev.reg a) ∧
    t.sys.dev.reg (R.BUS_CFG m.val) = s.sys.dev.reg (R.BUS_CFG m.val) ∧ RestKept s t

/-- The transfer of a bus has ended with a RESULT (R415): the bus is idle, and the transfer is counted. -/
def TransferEnds (s t : State) (m : Fin 12) (result : Nat) (free : Bool) : Prop :=
  (busAt t m).phase = .idle ∧ (busAt t m).result = result ∧ (busAt t m).free = free ∧
    (busAt t m).cfgNow = s.sys.dev.reg (R.BUS_CFG m.val) ∧ CountedAt s t (R.BUS_XFER_CNT m.val) F.BUS_XFER_CNT.COUNT ∧
    BusOnly s t m

/-- A field of a bus's BUS_STAT, BUS_EVENT or BUS_CFG. -/
def busStat (s : State) (m : Fin 12) (f : Fld) : Nat := fldOf s (R.BUS_STAT m.val) f
def busEvent (s : State) (m : Fin 12) (f : Fld) : Nat := fldOf s (R.BUS_EVENT m.val) f
def busCfg (s : State) (m : Fin 12) (f : Fld) : Nat := fldOf s (R.BUS_CFG m.val) f

/-- The context of a bus changed and nothing else. -/
def onBus (s : State) (m : Fin 12) (f : BusCtx → BusCtx) : State := s.onDev (fun d => d.setBus m (f d.buses[m]))

/-- A value of the target that no free value enters, by its command code (R416): STATUS, TRAY_PWR, VIN, P_NOW and CAP_EFF. -/
def targetValues (s : State) : List (Nat × List (BitVec 8)) :=
  let word (n : Nat) : List (BitVec 8) := [BitVec.ofNat 8 n, BitVec.ofNat 8 (n / 256)]
  [(0x01, word (fldOf s R.TR_STAT F.TR_STAT.VIN_LOW + 2 * (decide (pwrOf s 8 = 4)).toNat +
      4 * fldOf s R.CL_MODE F.CL_MODE.FAIL_OVR + 8 * fldOf s R.CL_MODE F.CL_MODE.LEAK_OVR +
      16 * fldOf s R.CL_MODE F.CL_MODE.FAULT_OVR + 32 * (decide (fldOf s R.PC_STAT F.PC_STAT.CAP_MASK ≠ 0)).toNat +
      64 * ((List.range 8).any (fun b => fldOf s (R.WIT_HEALTH b) F.WIT_HEALTH.BAY_HEALTH == 2)).toNat +
      128 * (decide (fldOf s R.CL_MODE F.CL_MODE.MODE_NOW = 2)).toNat)),
   (0x02, [BitVec.ofNat 8 (pwrOf s 8)]), (0x04, word (fldOf s R.TR_VIN F.TR_VIN.VIN)),
   (0x05, word (fldOf s R.PC_STAT F.PC_STAT.P_NOW)), (0x06, word (fldOf s R.PC_EFF F.PC_EFF.CAP_EFF))]

/-- n bytes of a read of the target (R418): the value, the PEC over the transaction, and 0xFF beyond. -/
def targetSends (head value : List (BitVec 8)) (n : Nat) : List (BitVec 8) :=
  (value ++ [pec (head ++ value)] ++ List.replicate n 0xFF#8).take n

/-- A segment power cycle is requested (R427): the channel's bit stands in SQ_SEG_REQ, and the episode counts a cycle. -/
def SegRequested (s t : State) (m : Fin 12) : Prop :=
  busStat t m F.BUS_STAT.SEG_PENDING = 1 ∧ (busAt t m).segCh = some (busCfg s m F.BUS_CFG.SEG_CH) ∧
    t.sys.dev.tray.segReq = s.sys.dev.tray.segReq ||| 2 ^ busCfg s m F.BUS_CFG.SEG_CH ∧ (busAt t m).judging = false ∧
    CountedAt s t (R.BUS_STUCK_CNT m.val) F.BUS_STUCK_CNT.SEG_CYCLES

/-! ### The security core's services (R440–R469) -/

/-- The address of the request block (R462), and the block. -/
def blockAt (s : State) : Nat :=
  (s.sys.dev.reg R.SEC_REQ_ADDR_LO).toNat + (s.sys.dev.reg R.SEC_REQ_ADDR_HI).toNat % 2 ^ 16 * 2 ^ 32
def block (s : State) : List (BitVec 8) := memBytes s.sys.dev.mem (blockAt s) 64

/-- OP, ARG0, ADDR0, ADDR1, LEN, ARG1 and the data of the block. -/
def blockOp (s : State) : Nat := bytesNat ((block s).take 1)
def blockArg0 (s : State) : Nat := bytesNat (((block s).drop 4).take 4)
def blockAddr0 (s : State) : Nat := bytesNat (((block s).drop 8).take 8)
def blockAddr1 (s : State) : Nat := bytesNat (((block s).drop 16).take 8)
def blockLen (s : State) : Nat := bytesNat (((block s).drop 24).take 4)
def blockArg1 (s : State) : Nat := bytesNat (((block s).drop 28).take 4)
def blockData (s : State) : List (BitVec 8) := ((block s).drop 32).take 32

/-- n bytes from a lie in system SRAM. -/
def InSram (a n : Nat) : Prop := 0x10000000 ≤ a ∧ a + n ≤ 0x11000000

/-- A request of an operation reaches the security core: its island answers, it has not stopped, and the block names it. -/
def Reaches (s : State) (op : Nat) : Prop :=
  s.sys.dev.answers 39 = true ∧ s.sys.dev.sec.stopped = false ∧ InSram (blockAt s) 64 ∧ blockOp s = op

/-- Requests are refused: the gate is closed, an activation runs, or a chunked request of another kind is held. -/
def Refuses (s : State) (op : Nat) : Prop :=
  fldOf s R.SEC_BOOT_STATUS F.SEC_BOOT_STATUS.GATE = 0 ∨
    (1 ≤ fldOf s R.SEC_ACT_STAT F.SEC_ACT_STAT.STATE ∧ fldOf s R.SEC_ACT_STAT F.SEC_ACT_STAT.STATE ≤ 3) ∨
    (∃ c, s.sys.dev.boot.chunk = some c ∧ op ≠ if c.stage then 5 else 2)

/-- The request is served: none of what refuses it holds, and its block is not poisoned. -/
def Serves (s : State) (op : Nat) : Prop :=
  Reaches s op ∧ ¬ Refuses s op ∧ s.sys.dev.poisonedRange (blockAt s) 64 = false

/-- t answers the request of s: STATUS is 1 DONE with code 0 or 2 ERROR with the code, and BUSY ends (R462). -/
def answered (s t : State) (code : Nat) : State :=
  t.onDev (fun d => (d.store (blockAt s + 1) [if code = 0 then 1#8 else 2#8, BitVec.ofNat 8 code] false).setFld R.SEC_REQ_STAT
    F.SEC_REQ_STAT.BUSY 0)

/-- Bytes stored, by hardware, in memory. -/
def stores (s : State) (a : Nat) (bs : List (BitVec 8)) : State := s.onDev (fun d => d.store a bs false)

/-- As many free values were drawn. -/
def drew (s : State) (n : Nat) : State := s.onDev (fun d => { d with freeCtr := n })

/-- The command is a request to the security core with this operation code (R463). -/
def IsRequest (c : Instr) (op : Nat) : Prop :=
  (∃ flash, c = .secInstall flash ∧ op = 1) ∨ (c = .secVerify ∧ op = 2) ∨ (c = .secSignMmp ∧ op = 3) ∨
    (c = .secSpdm ∧ op = 4) ∨ (∃ flash, c = .secStage flash ∧ op = 5) ∨ (c = .secRevoke ∧ op = 6) ∨
    (c = .secOwnerKey ∧ op = 7) ∨ ∃ leafOk, c = .secCertWrite leafOk ∧ op = 8

/-- The outcome of a request in its block, and BUSY over. -/
def AnsweredWith (s t : State) (code : Nat) : Prop :=
  memByte t.sys.dev.mem (blockAt s + 1) = (if code = 0 then 1#8 else 2#8) ∧
    memByte t.sys.dev.mem (blockAt s + 2) = BitVec.ofNat 8 code ∧ fldOf t R.SEC_REQ_STAT F.SEC_REQ_STAT.BUSY = 0

/-- Both fuse views after a change. -/
def FusesAre (t : State) (f : FuseFields) : Prop := t.sys.nv.fuses.fields = f ∧ t.sys.dev.shadow = f

/-- The responder's state changed (R468). -/
def onSpdm (s : State) (f : SpdmCtx → SpdmCtx) : State := s.onDev (fun d => d.setSpdm (f d.boot.spdm))

/-- The command is the SPDM request req, of this code, for which the connection must have reached this stage: 0 none. -/
def IsSpdm (c : Instr) (req : List (BitVec 8)) (code need : Nat) : Prop :=
  (c = .getVersion req ∧ code = 0x84 ∧ need = 0) ∨ (c = .getCapabilities req ∧ code = 0xE1 ∧ need = 1) ∨
    (c = .negotiateAlgorithms req ∧ code = 0xE3 ∧ need = 2) ∨ (c = .getCertificate req ∧ code = 0x82 ∧ need = 3) ∨
    (c = .challenge req ∧ code = 0x83 ∧ need = 3) ∨ (c = .getMeasurements req ∧ code = 0xE0 ∧ need = 3)

/-- A number in n bytes of a message from offset a. -/
def wordAt (m : List (BitVec 8)) (a n : Nat) : Nat := bytesNat ((m.drop a).take n)

/-- SPDM is answered: the security core answers and the gate is open, or the device waits for recovery (R450, R459). -/
def SpdmServed (s : State) : Prop :=
  s.sys.dev.answers 39 = true ∧ s.sys.dev.sec.stopped = false ∧
    (fldOf s R.SEC_BOOT_STATUS F.SEC_BOOT_STATUS.GATE = 1 ∨ s.sys.dev.boot.phase = .recovery)

/-- A signature with the identity key, for some nonce, of the SPDM 1.2 prefix, a context and the hash of a transcript. -/
def SpdmSigned (s : State) (context : List (BitVec 8)) (transcript sig : List (BitVec 8)) : Prop :=
  ∃ k, sig = s.sys.nv.fuses.signWith k (bytesNatBe (sha256 ((List.replicate 4 (ascii "dmtf-spdm-v1.2.*")).flatten ++
    zeros (36 - context.length) ++ context ++ sha256 transcript)))

/-! ### Activation and golden images (R480–R499) -/

/-- STATE of an activation: 0 IDLE, 1 PREVERIFY, 2 QUIESCE, 3 PAUSE, 4 DONE, 5 REFUSED, 6 FAILED; and its REJECT code. -/
def actState (s : State) : Nat := fldOf s R.SEC_ACT_STAT F.SEC_ACT_STAT.STATE
def actReject (s : State) : Nat := fldOf s R.SEC_ACT_STAT F.SEC_ACT_STAT.REJECT

/-- The command is a GO of this METHOD: 0 HANDOVER, 1 COMMONS, 2 FULL. -/
def IsGo (c : Instr) (method : Nat) (who : Initiator) (key : BitVec 16) (pair : Bool) : Prop :=
  (c = .actHandover who key pair ∧ method = 0) ∨ (c = .actCommons who key pair ∧ method = 1) ∨
    (c = .actFull who key pair ∧ method = 2)

/-- The pair rules of R488: a pair's handover is ordered by its LEAD, a lone one by a SINGLE or ORPHAN; no other method is
a pair's. -/
def PairRules (s : State) (method : Nat) (pair : Bool) : Prop :=
  if method = 0 then (if pair then fldOf s R.TWIN_STATUS F.TWIN_STATUS.ROLE = 1 else
    fldOf s R.TWIN_STATUS F.TWIN_STATUS.ROLE = 0 ∨ fldOf s R.TWIN_STATUS F.TWIN_STATUS.ROLE = 3) else pair = false

/-- The security core answers. -/
def SecAnswers (s : State) : Prop := s.sys.dev.answers 39 = true ∧ s.sys.dev.sec.stopped = false

/-- The activation's own state changed; and an ACT record sent to the partner. -/
def onAct (s : State) (f : ActCtx → ActCtx) : State := s.onDev (fun d => d.onAct f)
def tells (s : State) (what : Nat) : State := s.onDev (fun d => d.twinSend (.act what))

/-- The activation of s ends REFUSED with a code; in a pair the partner is told (R482, R488). -/
def actRefuses (s : State) (code : Nat) : State :=
  let t := puts s [(R.SEC_ACT_STAT, F.SEC_ACT_STAT.STATE, 5), (R.SEC_ACT_STAT, F.SEC_ACT_STAT.REJECT, code),
    (R.SEC_ACT_STAT, F.SEC_ACT_STAT.QUIESCE_REQ, 0)]
  if s.sys.dev.boot.act.pair then tells t 1 else t

/-- PAUSE has begun (steps 3 and 4 of R482): the trial runs, and the four cores are held in reset. -/
def Paused (s t : State) : Prop :=
  actState t = 3 ∧ fldOf t R.SEC_ACT_STAT F.SEC_ACT_STAT.QUIESCE_REQ = 0 ∧ t.sys.nv.dir.trial = 2 ∧
    t.sys.nv.dir.trialSlot = s.sys.nv.dir.trialSlot ∧ t.sys.dev.cores = Vector.replicate 4 MCtx.reset ∧
    (∀ i : Fin 4, island t (42 + i.val) ≠ 2) ∧ t.sys.nv.slots = s.sys.nv.slots

/-- STATE of bay b's golden check: 0 IDLE, 1 CHECK, 2 REFLASH; and its golden image. -/
def goldState (s : State) (b : Bay) : Nat := fldOf s (R.GOLD_BAY_STAT b.val) F.GOLD_BAY_STAT.STATE
def goldImage (s : State) (b : Bay) : List (BitVec 8) := s.sys.nv.golden.toList.getD s.sys.dev.golds[b].slot []

/-- A golden check has ended with an OUTCOME (R495): 1 MATCH, 2 REFLASHED, 3 FAILED, 4 NO_IMAGE; a failure discards the
held START. -/
def GoldEnds (s t : State) (b : Bay) (outcome : Nat) : Prop :=
  goldState t b = 0 ∧ fldOf t (R.GOLD_BAY_STAT b.val) F.GOLD_BAY_STAT.OUTCOME = outcome ∧
    (outcome ≠ 1 → chanOn t R.GOLD_EVENT F.GOLD_EVENT.DONE b.val = true) ∧
    (outcome = 2 → CountedAt s t (R.GOLD_BAY_CNT b.val) F.GOLD_BAY_CNT.REFLASH) ∧
    (3 ≤ outcome → CountedAt s t (R.GOLD_BAY_CNT b.val) F.GOLD_BAY_CNT.FAIL ∧
      fldOf t (R.ENG_CTL (Eng.seq (seqOf b)).win) F.ENG_CTL.PEND = 0 ∧
      t.sys.dev.reg (R.ENG_STATUS (Eng.seq (seqOf b)).win) = s.sys.dev.reg (R.ENG_STATUS (Eng.seq (seqOf b)).win))

/-! ### Lanes and flits (R141–R152, R504, R505, R544) -/

/-- The retry state of a lane; a host-port lane has a phase alone. -/
def laneAt (s : State) (x : Lane) : LaneCtx := s.sys.dev.lane x

/-- The registers show that a lane runs or does not: ALIGNED, the LANES bit, and LINK while all four host lanes run. -/
def shownLane (s : State) (x : Lane) (run : Bool) : State :=
  match x with
  | .wit b => put s (R.WITL_STATUS b.val) F.WITL_STATUS.ALIGNED run.toNat
  | .twin j => putBit s R.TWIN_STATUS F.TWIN_STATUS.LANES j.val run
  | .host l => let s' := putBit s R.ETH_STAT F.ETH_STAT.LANES l.val run
    put s' R.ETH_STAT F.ETH_STAT.LINK (decide (fldOf s' R.ETH_STAT F.ETH_STAT.LANES = 15)).toNat

/-- A lane's retry state replaced; and replaced with what the registers show of its phase. -/
def laneSet (s : State) (x : Lane) (l : LaneCtx) : State := s.onDev (fun d => d.setLane x l)
def laneTo (s : State) (x : Lane) (l : LaneCtx) : State := laneSet (shownLane s x (decide (l.phase = .run))) x l

/-- A counter of a witness lane counts up by one; another lane has none. -/
def bumpWit (s : State) (x : Lane) (a : Bay → Nat) (f : Fld) : State :=
  match x with
  | .wit b => bump s (a b) f
  | _ => s

/-- A host event has been raised since s, unless the queue is full (R532). -/
def Raises (s t : State) (code source : Nat) (detail : List Nat) : Prop :=
  (∃ e ∈ t.sys.dev.eth.events.drop s.sys.dev.eth.events.length, e.code = code ∧ e.source = source ∧ e.detail = detail) ∨
    4096 ≤ t.sys.dev.eth.events.length

/-- The credit totals a lane sends (R154): those of its bay, or zero. -/
def laneCredit (s : State) (x : Lane) : Nat × Nat × Nat :=
  match x with
  | .wit b => s.sys.dev.links[b].returned
  | _ => (0, 0, 0)

/-- The waiting flits that fit among 64 unacknowledged ones have left, with the next sequence numbers (R149, R150). -/
def Pumped (cr : Nat × Nat × Nat) (l l' : LaneCtx) : Prop :=
  let n := min (64 - l.buf.length) l.wait.length
  ∃ out : List TxFlit, out.length = n ∧
    (∀ i : Fin 64, i.val < n → ∃ f w, out[i.val]? = some f ∧ l.wait[i.val]? = some w ∧ f.fseq = (l.nextSeq + i.val) % 256 ∧
      f.firstRec = w.1 ∧ f.payload = w.2) ∧
    l' = { l with buf := l.buf ++ out, wait := l.wait.drop n, nextSeq := (l.nextSeq + n) % 256,
                  sent := l.sent ++ out.map (l.stamp cr) }

/-- The output gate of a lane's kind (R42, R451, R459, R539). -/
def LaneGate (s : State) (x : Lane) : Prop :=
  match x with
  | .wit _ => s.sys.dev.tray.gate = true
  | .twin _ => fldOf s R.SEC_BOOT_STATUS F.SEC_BOOT_STATUS.GATE = 1 ∧ fldOf s R.TWIN_STATUS F.TWIN_STATUS.PAIR_MODE = 1
  | .host _ => fldOf s R.SEC_BOOT_STATUS F.SEC_BOOT_STATUS.GATE = 1 ∨ fldOf s R.SEC_BOOT_STATUS F.SEC_BOOT_STATUS.MODE = 2

/-- The flit that asks for a resend (R147, R149): IDLE, with NAK, and the acknowledgement and credits of the moment. -/
def nakFlit (l : LaneCtx) (cr : Nat × Nat × Nat) : SentFlit :=
  { kind := 0, fseq := 0, nak := true, ackValid := l.rxAny, ackSeq := (l.rxNext + 255) % 256, firstRec := 0,
    credits := (cr.1 % 65536, cr.2.1 % 65536, cr.2.2 % 65536), payload := List.replicate 240 0#8 }

/-- A counter of a witness lane has gone up by one; another lane has none. -/
def LaneCounted (s t : State) (x : Lane) (a : Bay → Nat) (f : Fld) : Prop :=
  match x with
  | .wit b => CountedAt s t (a b) f
  | _ => True

/-- The resends of a lane begin (R150): each unacknowledged flit leaves again with the acknowledgement and credits of now. -/
def resent (l : LaneCtx) (cr : Nat × Nat × Nat) : LaneCtx := { l with sent := l.sent ++ l.buf.map (l.stamp cr) }

/-- A lane retrains (R152): its retry state is kept, and a witness lane counts it. -/
def retrained (s : State) (x : Lane) (l : LaneCtx) : State :=
  bumpWit (laneTo s x { l with phase := .train }) x (fun b => R.WITL_LANE b.val) F.WITL_LANE.RETRAINS

/-- A flit of 256 bytes with its fields (R145): sequence number, kind, NAK, ACK_VALID, ACKSEQ, FIRST_REC, the three credit
totals, a payload of 240 bytes and its CRC-32C. -/
def flitBytes (seq kind : Nat) (nak ackOn : Bool) (ackSeq firstRec cr0 cr1 cr2 : Nat) (payload : List (BitVec 8)) :
    List (BitVec 8) :=
  let body := natBytes 1 seq ++ natBytes 1 (kind + 4 * nak.toNat + 8 * ackOn.toNat) ++ natBytes 1 ackSeq ++
    natBytes 1 firstRec ++ natBytes 2 cr0 ++ natBytes 2 cr1 ++ natBytes 2 cr2 ++ natBytes 2 0 ++ payload
  body ++ natBytes 4 (crc32c body).toNat

/-- A flit fails R144 or R146: an uncorrectable hit, a wrong length or CRC, or a reserved kind or bit. -/
def FlitBad (bs : List (BitVec 8)) (fec : FlitFec) : Prop :=
  fec.hit = true ∨ bs.length ≠ 256 ∨ natBytes 4 (crc32c (bs.take 252)).toNat ≠ bs.drop 252 ∨
    2 ≤ (bs.getD 1 0#8).toNat % 4 ∨ 16 ≤ (bs.getD 1 0#8).toNat ∨ (bs.drop 10).take 2 ≠ [0#8, 0#8]

/-- The flits of l after an acknowledgement of seq (R149). -/
def ackedBuf (l : LaneCtx) (seq : Nat) : List TxFlit :=
  match l.buf.findIdx? (fun f => f.fseq == seq) with
  | none => l.buf
  | some i => l.buf.drop (i + 1)

/-- A witness or twin lane. -/
def IsRetryLane (x : Lane) : Prop := ∀ l, x ≠ .host l

/-- A discarded flit (R149): the first after an accepted one sends a NAK and is counted on a witness lane. -/
def Discarded (s t : State) (x : Lane) : Prop :=
  (laneAt t x).naked = true ∧ (laneAt t x).rxNext = (laneAt s x).rxNext ∧
    ((laneAt s x).naked = false → ((laneAt s x).sent ++ [nakFlit (laneAt s x) (laneCredit s x)]) <+: (laneAt t x).sent ∧
      LaneCounted s t x (fun b => R.WITL_RETRY_REQ b.val) F.WITL_RETRY_REQ.COUNT)

/-- What a witness lane's registers count of a flit's forward error correction (R151). -/
def FecCounted (s t : State) (b : Bay) (fec : FlitFec) : Prop :=
  fldOf t (R.WITL_FEC_CORR b.val) F.WITL_FEC_CORR.COUNT =
      min (fldOf s (R.WITL_FEC_CORR b.val) F.WITL_FEC_CORR.COUNT + fec.corrected) (2 ^ F.WITL_FEC_CORR.COUNT.width - 1) ∧
    fldOf t (R.WITL_FEC_UNCORR b.val) F.WITL_FEC_UNCORR.COUNT =
      min (fldOf s (R.WITL_FEC_UNCORR b.val) F.WITL_FEC_UNCORR.COUNT + fec.uncorrected) (2 ^ F.WITL_FEC_UNCORR.COUNT.width - 1)

/-! ### Records from an accelerator (R157–R177, R617) -/

/-- A bay's session beside its registers, and its checks and seals. -/
def linkAt (s : State) (b : Bay) : LinkCtx := s.sys.dev.links[b]
def witAt (s : State) (b : Bay) : WitCtx := s.sys.dev.wits[b]

/-- STATE of a session: 0 DOWN, 1 TRAINED, 2 HELLO, 3 READY, 4 ACTIVE; and the current epoch of a bay. -/
def sessionAt (s : State) (b : Bay) : Nat := fldOf s (R.WITL_STATUS b.val) F.WITL_STATUS.STATE
def epochAt (s : State) (b : Bay) : Nat := fldOf s (R.WITL_STATUS b.val) F.WITL_STATUS.EPOCH

/-- The step of a number that is not sealed; and the step that is open. -/
def stepAt (s : State) (b : Bay) (step : Nat) : Option StepCtx := (witAt s b).steps.find? (fun x => x.step == step)
def openAt (s : State) (b : Bay) : Option StepCtx := (witAt s b).steps.find? (fun x => !x.closed)

/-- The step opened last, and the step sealed last (R227). -/
def openedAt (s : State) (b : Bay) : Nat :=
  (s.sys.dev.reg (R.WIT_OPENED_LO b.val)).toNat + fldOf s (R.WIT_OPENED_HI b.val) F.WIT_OPENED_HI.STEP * 2 ^ 32
def sealedAt (s : State) (b : Bay) : Option Nat :=
  if fldOf s (R.WIT_SEALED_HI b.val) F.WIT_SEALED_HI.VALID = 0 then none else
    some ((s.sys.dev.reg (R.WIT_SEALED_LO b.val)).toNat + fldOf s (R.WIT_SEALED_HI b.val) F.WIT_SEALED_HI.STEP * 2 ^ 32)

/-- The command handles records of this type from this bay. -/
def IsRec (c : Instr) (b : Bay) (ty : Nat) : Prop :=
  (c = .hello b ∧ ty = 0x01) ∨ (c = .caps b ∧ ty = 0x02) ∨ (c = .unitMap b ∧ ty = 0x03) ∨ (c = .stepOpen b ∧ ty = 0x10) ∨
    (c = .csum b ∧ ty = 0x11) ∨ ((∃ parity, c = .sample b parity) ∧ ty = 0x12) ∨ (c = .stepClose b ∧ ty = 0x13) ∨
    (c = .health b ∧ ty = 0x20) ∨ (c = .maintReply b ∧ ty = 0x30)

/-- A record has epoch scope (R158). -/
def HasEpoch (ty : Nat) : Prop := 0x10 ≤ ty ∧ ty ≤ 0x13

/-- The next record to handle is r, of a type, and its frame is sound (checks 1 to 4 of R617). -/
def Comes (s : State) (b : Bay) (ty : Nat) (r : RxRec) : Prop :=
  s.sys.dev.front b = some r ∧ r.type = ty ∧ r.frame b = .take

/-- The session of a bay takes records of a type (R170). -/
def SessionTakes (s : State) (b : Bay) (ty : Nat) : Prop :=
  (sessionAt s b = 1 ∧ ty = 0x01) ∨
    (sessionAt s b = 2 ∧ (ty = 0x02 ∨ (ty = 0x03 ∧ (linkAt s b).capsSeen = true) ∨ ty = 0x20 ∨ ty = 0x30)) ∨
    (sessionAt s b = 3 ∧ ty ≠ 0x02 ∧ ¬ HasEpoch ty) ∨ (sessionAt s b = 4 ∧ ty ≠ 0x02)

/-- An epoch lies ahead of another by serial arithmetic (R172). -/
def AheadOf (e c : Nat) : Prop := 1 ≤ (e + 65536 - c) % 65536 ∧ (e + 65536 - c) % 65536 ≤ 32767

/-- The record passes checks 5 to 7 of R617. -/
def Passes (s : State) (b : Bay) (ty : Nat) (r : RxRec) : Prop :=
  Comes s b ty r ∧ r.beyond = false ∧ SessionTakes s b ty ∧ (HasEpoch ty → r.epoch = epochAt s b)

/-- The record has left the inbox; what followed it may have been dropped too. -/
def Gone (s t : State) (b : Bay) (r : RxRec) : Prop :=
  ((linkAt t b).inbox.isSublist ((linkAt s b).inbox.erase r)) = true

/-- The device has sent these records first, in this order, since s. -/
def Sends (s t : State) (b : Bay) (l : List TxRec) : Prop := (s.sys.dev.txRecs[b] ++ l) <+: t.sys.dev.txRecs[b]

/-- A violation of a cause drops the record (R175–R177): it is counted, the first NAK and event of the cause go out, and the
causes marked so hold the bay with PROTOCOL. -/
def Refused (s t : State) (b : Bay) (r : RxRec) (code detail : Nat) : Prop :=
  CountedAt s t (R.WITL_NAK_CNT b.val code) F.WITL_NAK_CNT.COUNT ∧ Gone s t b r ∧
    ((linkAt s b).nakTimes.all (fun p => p.1 != code) = true → sessionAt s b ≠ 0 →
      TxRec.nak code r.type r.epoch r.step detail ∈ t.sys.dev.txRecs[b].drop s.sys.dev.txRecs[b].length) ∧
    ((linkAt s b).nakEvents.all (fun p => p.1 != code) = true → Raises s t 0x0301 b.val [code, r.type]) ∧
    (code ∈ [0x06, 0x07, 0x08, 0x09, 0x0B, 0x0D, 0x0E] → chanOn t (R.WITL_STATUS b.val) F.WITL_STATUS.HOLD_MASK 2 = true)

/-- The rest of the machine is as before, and so are the checks, the seals and the sessions of the other bays. -/
def BayOnly (s t : State) (b : Bay) : Prop :=
  t.sys.nv = s.sys.nv ∧ t.sys.dev.engs = s.sys.dev.engs ∧ t.sys.dev.cores = s.sys.dev.cores ∧ t.pending = s.pending ∧
    ∀ c : Bay, c ≠ b → witAt t c = witAt s c ∧ linkAt t c = linkAt s c ∧ t.sys.dev.txRecs[c] = s.sys.dev.txRecs[c]

/-- MODEL as a peer declared it, and MODEL of a golden slot. -/
def peerModelOf (r : RxRec) : Nat := r.u 32 8
def goldModelAt (s : State) (k : Nat) : Nat :=
  (s.sys.dev.reg (R.GOLD_MODEL_LO k)).toNat + (s.sys.dev.reg (R.GOLD_MODEL_HI k)).toNat * 2 ^ 32

/-- A UNIT_MAP's fields are in range and go on from the last map of the session (R164, R167). -/
def MapOk (s : State) (b : Bay) (r : RxRec) : Prop :=
  let n := r.u 16 1
  1 ≤ n ∧ n ≤ 64 ∧ r.len = 32 + 16 * n ∧ 1 ≤ r.u 17 1 ∧ r.u 17 1 ≤ n ∧
    (∀ i ∈ List.range n, r.u (32 + 16 * i) 1 = i ∧ r.u (33 + 16 * i) 1 ≤ 2) ∧
    (match (linkAt s b).mapSeq with
      | none => r.u 20 4 = 0
      | some q => r.u 20 4 = (q + 1) % 2 ^ 32 ∧
        (List.range n).map (fun i => r.u (40 + 16 * i) 8) = (linkAt s b).slices.map (·.unitId))

/-- The slices of a UNIT_MAP: STATE and UNIT_ID. -/
def mapSlices (r : RxRec) : List SliceEntry := (List.range (r.u 16 1)).map (fun i => ⟨r.u (33 + 16 * i) 1, r.u (40 + 16 * i) 8⟩)

/-- The step an accelerator may open next (R161). -/
def nextStepOf (s : State) (b : Bay) : Nat :=
  if (witAt s b).opened then (openedAt s b + 1) % 2 ^ 48 else (witAt s b).firstStep

/-- SEAL(x) has been sent in this epoch (R200). -/
def SealSent (s : State) (b : Bay) (x : Nat) : Prop := ∃ y ∈ sealedAt s b, x ≤ y

/-- The seed in force for a step opened under a mode and a lag (R199, R200). -/
def seedOf (s : State) (b : Bay) (mode lag step : Nat) : BitVec 64 :=
  let w := witAt s b
  if mode = 2 ∧ w.firstStep + lag + 1 ≤ step then
    match w.seals.find? (fun p => p.1 == step - lag - 1) with
    | some p => p.2
    | none => w.epochSeed
  else w.epochSeed

/-- An entry of a CSUM passes its comparison (R196, R198). -/
def passesCompare (s : State) (b : Bay) (e : CsumIn) : Bool := (s.sys.dev.compareEntry b e.fmt (e.kM1 + 1) e.sOut e.sPred e.mag).1

/-- The entries whose tile no earlier entry of the step or of the record has named (R163). -/
def newEntries (have_ : List Nat) : List CsumIn → List CsumIn
  | [] => []
  | e :: l => if e.tile ∈ have_ then newEntries have_ l else e :: newEntries (e.tile :: have_) l

/-- The part of a tile's sample to which a chunk belongs, and the part as it is before the first chunk (R165, R318). -/
def partAt (s : State) (b : Bay) (step : Nat) (c : SampleIn) : PartCtx :=
  match (stepAt s b step).bind (fun x => x.sample? c.tile c.replay) with
  | some x => (x.parts.find? c.mine).getD (s.sys.dev.newPart b c)
  | none => s.sys.dev.newPart b c

/-- A chunk of a SAMPLE has landed for its tile in its step: in memory where its part has a place, and in the sample. -/
def ChunkLanded (s t : State) (b : Bay) (step : Nat) (c : SampleIn) (parity : Bool) : Prop :=
  let p := partAt s b step c
  t.sys.dev.mem = (if p.addr = 0 then s.sys.dev.mem else (s.sys.dev.land (p.addr + c.offset) c.data parity).mem) ∧
    ∃ y x q, stepAt t b step = some y ∧ y.sample? c.tile c.replay = some x ∧ x.parts.find? c.mine = some q ∧
      q.chunks = p.chunks ++ [(c.offset, c.data.length)] ∧ q.addr = p.addr ∧ q.broken = p.broken ∧ (c.last = true → x.last = true)

/-- The REPLAY outstanding for a tile of a step, with its suspect (R215). -/
def replayAt (s : State) (b : Bay) (step tile : Nat) : Option (SuspectCtx × ReplayCtx) :=
  (stepAt s b step).bind (fun x => (x.suspects.find? (fun y => y.tile == tile && y.out)).bind (fun y => y.replay.map (fun p => (y, p))))

/-- The parts held of a tile's sample. -/
def partsAt (s : State) (b : Bay) (step : Nat) (c : SampleIn) : List PartCtx :=
  match (stepAt s b step).bind (fun x => x.sample? c.tile c.replay) with
  | some x => x.parts
  | none => []

/-- An answer's chunk may come from this slice: from RUN_SLICE, and its outputs from ORIG_SLICE where that was asked (R216). -/
def AnswersFrom (y : SuspectCtx) (p : ReplayCtx) (c : SampleIn) : Prop :=
  c.slice = p.runSlice ∨ (c.part = 2 ∧ p.flags.testBit 1 = true ∧ c.slice = y.slice)

/-! ### The maintenance channel, epochs and seals (R166, R167, R180–R228) -/

/-- A body length MAINT can have (R186). -/
abbrev MaintLen (n : Nat) : Prop := 4 ≤ n ∧ n ≤ 4076 ∧ n % 4 = 0

/-- Word i of the maintenance buffers of a bay (R180). -/
def maintTx (s : State) (b : Bay) (i : Nat) : BitVec 32 := s.sys.dev.reg (0x20906000 + 0x10000 * b.val + 4 * i)
def maintRx (s : State) (b : Bay) (i : Nat) : BitVec 32 := s.sys.dev.reg (0x20907000 + 0x10000 * b.val + 4 * i)

/-- A field of a register of bay b. -/
def bayFld (s : State) (a : Nat → Nat) (b : Bay) (f : Fld) : Nat := fldOf s (a b.val) f

/-- DEV credit held (R154). -/
def devCredit (s : State) (b : Bay) : Nat := (linkAt s b).devGrant + (linkAt s b).devTotal - (linkAt s b).devUsed

/-- MODE, LAG and SAMPLE_SHIFT as WIT_CTL asks for them; LAG at most the MAX_L of the accelerator (R227). -/
def askedAt (s : State) (b : Bay) : Nat × Nat × Nat :=
  let l := bayFld s R.WIT_CTL b F.WIT_CTL.LAG
  (bayFld s R.WIT_CTL b F.WIT_CTL.MODE, (if (linkAt s b).maxL = 0 then l else min l (linkAt s b).maxL),
    bayFld s R.WIT_CTL b F.WIT_CTL.SAMPLE_SHIFT)

/-- The hold set of a bay: 1 LAG, 2 JOB_FAULT, 4 PROTOCOL, 8 HOST. -/
def holdsAt (s : State) (b : Bay) : Nat := bayFld s R.WITL_STATUS b F.WITL_STATUS.HOLD_MASK

/-- The session is READY or ACTIVE. -/
def SessionReady (s : State) (b : Bay) : Prop := sessionAt s b = 3 ∨ sessionAt s b = 4

/-- The oldest step not sealed (R168). -/
def oldestAt (s : State) (b : Bay) : Nat :=
  match sealedAt s b with
  | none => (witAt s b).firstStep
  | some x => (x + 1) % 2 ^ 48

/-- The lag point has been reached (R193). -/
def AtLagPoint (s : State) (b : Bay) : Prop :=
  let w := witAt s b
  bayFld s R.WIT_STAT b F.WIT_STAT.MODE_NOW = 2 ∧ w.opened = true ∧
    (match sealedAt s b with
      | none => w.firstStep + w.sent.2.1 ≤ openedAt s b
      | some x => x + w.sent.2.1 + 1 ≤ openedAt s b)

/-- A change of WIT_CTL waits to be sent. -/
def ChangeWaits (s : State) (b : Bay) : Prop := askedAt s b ≠ (witAt s b).sent

/-- A quiet point at which a change or a re-send that waits goes out (R193, R194, R560). -/
def GoesOut (s : State) (b : Bay) : Prop :=
  s.sys.dev.role ≠ 2 ∧ sessionAt s b = 4 ∧ (AtLagPoint s b ∨ (holdsAt s b ≠ 0 ∧ (witAt s b).openedInHold = false)) ∧
    (ChangeWaits s b ∨ bayFld s R.WIT_EPOCH_GO b F.WIT_EPOCH_GO.RESEND = 1)

/-- NEW is refused (R223, R267, R270, R286, R289, R560). -/
def NewRefused (s : State) (b : Bay) : Prop :=
  let e := bayFld s R.WIT_EPOCH_NEXT b F.WIT_EPOCH_NEXT.EPOCH
  s.sys.dev.role = 2 ∨ e = 0 ∨ (epochAt s b ≠ 0 ∧ ¬ AheadOf e (epochAt s b)) ∨ ¬ SessionReady s b ∨
    (∃ x ∈ (linkAt s b).slices, (s.sys.dev.unit x.unitId).state = 3) ∨
    (∃ x ∈ (linkAt s b).slices, (s.sys.dev.unit x.unitId).state = 2 ∧ x.state ≠ 1) ∨
    fldOf s R.FS_STATUS F.FS_STATUS.READY = 0 ∨ fldOf s R.FS_STATUS F.FS_STATUS.RESUME_WAIT = 1

/-- The bays of the job of bay b (R205). -/
def jobBays (s : State) (b : Bay) : List Bay :=
  if (witAt s b).job = 0 then [b] else (List.finRange 8).filter (fun c => (witAt s c).job == (witAt s b).job)

/-- Step q of bay c can be sealed (R206–R208, R213, R561). -/
def SealReady (s : State) (q : Nat) (c : Bay) : Prop :=
  (∃ x ∈ stepAt s c q, x.mode ≠ 0 ∧ x.clear c = true ∧
    (s.sys.dev.role ≠ 1 ∨ x.pair = some 1 ∨ x.pair = some 2 ∨ fldOf s R.TWIN_STATUS F.TWIN_STATUS.SOLO = 1)) ∧
    oldestAt s c = q ∧ (witAt s c).ledger.length < 4096 ∧ (witAt s c).events.length < 256 ∧
    bayFld s R.WIT_STAT c F.WIT_STAT.FAULTED = 0 ∧ ¬ (ChangeWaits s c ∧ AtLagPoint s c)

/-- A step of the job that the shadow found at fault is clear here (R562). -/
def PairDisagrees (s : State) (c : Bay) : Prop := ∃ x ∈ (witAt s c).steps, x.pair = some 3 ∧ x.clear c = true

/-- The lowest unsealed step of a job. -/
def IsLowest (s : State) (b : Bay) (q : Nat) : Prop :=
  (∃ c ∈ jobBays s b, oldestAt s c = q) ∧ ∀ c ∈ jobBays s b, q ≤ oldestAt s c

/-- Memory and some cluster of the Gallery can be used (R31). -/
def ReplayRuns (s : State) : Prop :=
  (∀ j ∈ List.range 16, s.sys.dev.mcReady j = true ∧ s.sys.dev.answers (72 + j) = true) ∧
    ∃ g ∈ List.range 12, s.sys.dev.answers (88 + g) = true

/-! ### The Gallery (R204, R217, R218, R245–R260) -/

/-- A cluster's state, a field of its GC_STATUS, and its observed lanes. -/
def gcAt (s : State) (g : Fin 12) : GcCtx := s.sys.dev.gcs[g]
def gcFld (s : State) (g : Fin 12) (f : Fld) : Nat := fldOf s (R.GC_STATUS g.val) f
def lanesOf (s : State) (g : Fin 12) : List Nat :=
  (List.range 512).filter (fun l => (s.sys.dev.reg (R.GC_OBS g.val (l / 32))).toNat.testBit (l % 32))

/-- A cluster's state changed; and a bay's checks changed. -/
def onGc (s : State) (g : Fin 12) (f : GcCtx → GcCtx) : State := s.onDev (fun d => { d with gcs := d.gcs.set g (f d.gcs[g]) })
def onWit (s : State) (b : Bay) (f : WitCtx → WitCtx) : State := s.onDev (fun d => { d with wits := d.wits.set b (f d.wits[b]) })

/-- Flash, fuses, cores, memory and the queue are as before. -/
def GalOnly (s t : State) : Prop :=
  t.sys.nv = s.sys.nv ∧ t.sys.dev.cores = s.sys.dev.cores ∧ t.sys.dev.mem = s.sys.dev.mem ∧ t.pending = s.pending

/-- A dispatch's TAG in its bay, while it is open and of the dispatch's generation. -/
def liveTag (s : State) (x : GDisp) : Option TagCtx :=
  (witAt s x.bay).tags.find? (fun y => y.tag == x.tag && y.isOpen && y.gen == x.gen)

/-- Each TAG is held once. -/
def TagsOnce (s : State) (b : Bay) : Prop := (witAt s b).tags.Pairwise (fun x y => x.tag ≠ y.tag)

/-- The TAG of a dispatch has lost its generation and awaits its redispatch; the program is told with a CLUSTER_SUSPECT item
(R231, R252). -/
def Recalled (s t : State) (x : GDisp) (g : Fin 12) : Prop :=
  TagsOnce s x.bay → ∀ y ∈ liveTag s x,
    (∃ z ∈ (witAt t x.bay).tags, z.tag = x.tag ∧ z.isOpen = true ∧ z.await = true ∧ z.gen = (x.gen + 1) % 65536 ∧ z.cluster = none) ∧
      ∃ i ∈ (witAt t x.bay).items.drop (witAt s x.bay).items.length, i.kind = 5 ∧ i.cluster = g.val ∧ i.tile = x.tile ∧ i.step = x.step

/-- A dispatch has ended ABORTED: its completion waits for its bay (R230, R249). -/
def Aborted (s t : State) (x : GDisp) : Prop :=
  ∃ p ∈ t.sys.dev.gdone.drop s.sys.dev.gdone.length, p.1 = x.bay ∧ fieldOf p.2 0 2 = x.tag ∧ fieldOf p.2 2 1 = 2

/-- A cluster is FENCED (R255): what the registers show, its completions withdrawn, and no dispatch with it. -/
def GcFenced (s t : State) (g : Fin 12) : Prop :=
  gcFld t g F.GC_STATUS.HEALTH = 2 ∧ chanOn t R.GAL_FENCED F.GAL_FENCED.FENCED g.val = true ∧
    chanOn t R.GAL_CHANGE F.GAL_CHANGE.CHANGED g.val = true ∧
    (fldOf t R.GAL_FENCED F.GAL_FENCED.FENCED = 0xFFF → fldOf t R.GAL_CHANGE F.GAL_CHANGE.EMPTY = 1) ∧
    (gcAt t g).cur = none ∧ (gcAt t g).waiting = none ∧ (gcAt t g).passes = [] ∧
    (∀ x ∈ (gcAt s g).cur, Aborted s t x)

/-- A cluster's HEALTH is as before, with what the registers show of it. -/
def HealthKept (s t : State) (g : Fin 12) : Prop :=
  gcFld t g F.GC_STATUS.HEALTH = gcFld s g F.GC_STATUS.HEALTH ∧ t.sys.dev.reg R.GAL_FENCED = s.sys.dev.reg R.GAL_FENCED ∧
    ∀ k ∈ List.range 16, t.sys.dev.reg (R.GC_OBS g.val k) = s.sys.dev.reg (R.GC_OBS g.val k)

/-- A cluster may be given a dispatch now (R247, R254). -/
def GcIdle (s : State) (g : Fin 12) : Prop :=
  s.sys.dev.answers (88 + g.val) = true ∧ fldOf s (R.ENG_STATUS (Eng.gc g).win) F.ENG_STATUS.STATE = 2 ∧
    gcFld s g F.GC_STATUS.HEALTH ≠ 2 ∧ (gcAt s g).cur = none ∧ (gcAt s g).waiting = none ∧ (gcAt s g).katDue = false ∧
    gcFld s g F.GC_STATUS.CHECKING = 0 ∧ (gcAt s g).katMade = true

/-- How far a bay lies behind the last one served, in the round-robin order (R247). -/
def turnOf (s : State) (b : Bay) : Nat := (b.val + 15 - s.sys.dev.arbLast.val) % 8

/-- The slice that produced a tile, as its CSUM entry or its sample names it. -/
def sliceOf (s : State) (b : Bay) (step tile : Nat) : Nat := s.sys.dev.tileSlice b step tile

/-- A verdict has been given on a tile of a step (R219, R227). -/
def VerdictIs (t : State) (b : Bay) (code tile step : Nat) : Prop :=
  fldOf t (R.WIT_VERDICT0 b.val) F.WIT_VERDICT0.VERDICT = code ∧
    t.sys.dev.reg (R.WIT_VERDICT1 b.val) = BitVec.ofNat 32 tile ∧ t.sys.dev.reg (R.WIT_VERDICT2 b.val) = BitVec.ofNat 32 step

/-- The code of a class of the accumulators in GC_LANE_LAST (R260). -/
def classCode : AccClass → Nat
  | .wideFloat => 0
  | .half => 1
  | .narrow => 2
  | .wide => 3
  | .integer => 4

/-! ### Stencils (R273–R281, R286) -/

/-- A bay's stencil state, a field of its WIT_STN_STAT, and the pack in a slot. -/
def stnAt (s : State) (b : Bay) : StnCtx := s.sys.dev.stns[b]
def stnFld (s : State) (b : Bay) (f : Fld) : Nat := fldOf s (R.WIT_STN_STAT b.val) f
def packAt (s : State) (k : Nat) : List (BitVec 8) := s.sys.nv.packs.toList.getD k []

/-- STENCIL records sent since s. -/
def stencilsSent (s t : State) (b : Bay) : List TxRec :=
  (t.sys.dev.txRecs[b].drop s.sys.dev.txRecs[b].length).filter (fun r => r.type == 0x46)

/-- The bytes of the stencil area (R290). -/
def areaOf (s : State) (b : Bay) : Nat := fldOf s (R.WIT_STN_SIZE b.val) F.WIT_STN_SIZE.MIB * 2 ^ 20
def areaStart (s : State) (b : Bay) : Nat := (s.sys.dev.reg (R.WIT_STN_BASE b.val)).toNat * 2 ^ 16

/-- The STENCIL records of a run, from the section bodies in the cache: INPUT, PROGRAM, and an empty GO (R279). -/
def runRecords (t : State) (p : List (BitVec 8)) (slot test id slice : Nat) : List TxRec :=
  let body (kind : Nat) : List (BitVec 8) := match packPart p kind test with
    | none => []
    | some x => memBytes t.sys.dev.mem (cacheAddr slot p x) x.len
  stencilChunks id slice 0 (body 1) ++ stencilChunks id slice 1 (body 2) ++ [.stencil id slice 2 false 0 0 []]

/-- A run of a visit has begun since s, or has ended at once with AREA_SMALL (8) or UNREADABLE (7) (R278, R279). -/
def RunBegins (s t : State) (b : Bay) (slot test slice unit runs : Nat) (rest : List (Nat × Nat)) : Prop :=
  let p := packAt s slot
  let len := packResultLen p test
  let id := s.sys.dev.reg (R.WIT_STN_RUN_ID b.val) + 1#32
  t.sys.dev.reg (R.WIT_STN_RUN_ID b.val) = id ∧ stnFld t b F.WIT_STN_STAT.SLOT = slot % 16 ∧
    stnFld t b F.WIT_STN_STAT.SLICE = slice % 64 ∧
    (areaOf s b < len → stnFld t b F.WIT_STN_STAT.OUTCOME = 8 ∧ (stnAt t b).visit = none ∧ Raises s t 0x0504 b.val [slot, test]) ∧
    (len ≤ areaOf s b → (runSecs p test).all (s.sys.dev.cacheOk slot p) = false → packCheck s.sys.dev.shadow p ≠ 0 →
      stnFld t b F.WIT_STN_STAT.OUTCOME = 7 ∧ (stnAt t b).visit = none) ∧
    (len ≤ areaOf s b → (stnAt t b).visit = none → stnFld t b F.WIT_STN_STAT.OUTCOME = 7) ∧
    (len ≤ areaOf s b → ∀ v ∈ (stnAt t b).visit, stnFld t b F.WIT_STN_STAT.RUNNING = 1 ∧
      t.sys.dev.armed (8 + b.val) = true ∧ v.slice = slice ∧ v.unitId = unit ∧ v.left = rest ∧ v.runs = runs ∧
      (∃ r ∈ v.run, r.runId = id.toNat ∧ r.slot = slot ∧ r.test = test ∧ r.resultLen = len ∧ r.chunks = []) ∧
      stencilsSent s t b ++ (linkAt t b).devWait = (linkAt s b).devWait ++ runRecords t p slot test id.toNat slice)

/-- The run in flight has ended with an outcome and the visit with it (R281). -/
def RunEnds (s t : State) (b : Bay) (v : VisitCtx) (r : RunCtx) (outcome : Nat) : Prop :=
  stnFld t b F.WIT_STN_STAT.RUNNING = 0 ∧ stnFld t b F.WIT_STN_STAT.OUTCOME = outcome ∧ (stnAt t b).visit = none ∧
    t.sys.dev.armed (8 + b.val) = false ∧
    (outcome = 1 → CountedAt s t (R.WIT_STN_PASS_CNT b.val) F.WIT_STN_PASS_CNT.COUNT) ∧
    (outcome = 2 ∨ outcome = 3 → CountedAt s t (R.WIT_STN_FAIL_CNT b.val) F.WIT_STN_FAIL_CNT.COUNT ∧
      ∃ e ∈ t.sys.dev.fs.queue, match e with
        | .visit b' slice unit o failure runs _ id _ => b' = b ∧ slice = v.slice ∧ unit = v.unitId ∧ o = outcome ∧
          failure = true ∧ runs = v.runs + 1 ∧ id = r.runId
        | _ => False) ∧
    (4 ≤ outcome → CountedAt s t (R.WIT_STN_OTHER_CNT b.val) F.WIT_STN_OTHER_CNT.COUNT) ∧
    (outcome = 4 → (stnAt t b).refused = (stnAt s b).refused ++ [r.slot] ∧ Raises s t 0x0503 b.val [r.slot, r.test])

/-- The data of a RESULT without the padding past TOTAL_LEN (R280). -/
def resultData (x : RxRec) : List (BitVec 8) :=
  let raw := x.bytes.drop 32
  if x.u 24 4 + raw.length < x.u 28 4 + 4 then raw.take (x.u 28 4 - x.u 24 4) else raw

/-- The state with a RESULT's chunk landed in the stencil area. -/
def resultLanded (s : State) (b : Bay) (x : RxRec) (parity : Bool) : State :=
  s.onDev (fun d => d.landResult b (x.u 24 4) (resultData x) parity)

/-- A run with a RESULT's chunk noted. -/
def withChunk (r : RunCtx) (x : RxRec) : RunCtx :=
  if resultData x = [] then r else { r with chunks := r.chunks ++ [(x.u 24 4, (resultData x).length)] }

/-- A visit may begin on a bay (R277, R278). -/
def VisitMay (s : State) (b : Bay) : Prop :=
  s.sys.dev.role ≠ 2 ∧ SessionReady s b ∧ s.sys.dev.answers 47 = true ∧ fldOf s R.FS_STATUS F.FS_STATUS.READY = 1 ∧
    (∀ j ∈ List.range 16, s.sys.dev.mcReady j = true ∧ s.sys.dev.answers (72 + j) = true) ∧ (stnAt s b).visit = none

/-- The slots whose pack is for the bay's accelerator, in slot order (R277). -/
def packsFor (s : State) (b : Bay) : List Nat :=
  (List.range 16).filter (fun k => packAt s k != [] && packModel (packAt s k) == s.sys.dev.peerModel b)

/-- The slots a visit uses now, and what it runs of each: every test in order, or of a ROTATE pack the next in turn. -/
def packsNow (s : State) (b : Bay) : List Nat :=
  (packsFor s b).filter (fun k => !(stnAt s b).refused.contains k && (packWhen (packAt s k) == 0 || sessionAt s b == 3))
def visitRuns (s : State) (b : Bay) (unit : Nat) : List (Nat × Nat) :=
  (packsNow s b).flatMap (fun k =>
    if packOrder (packAt s k) = 0 then (packTests (packAt s k)).map (fun t => (k, t))
    else match rotateTest (packTests (packAt s k)) (((stnAt s b).rotate.find? (fun x => x.1 == k && x.2.1 == unit)).map (·.2.2)) with
      | none => []
      | some t => [(k, t)])

/-! ### Flowstone (R262–R272, R282–R289) -/

/-- The Flowstone events that wait for their records, with e joined. -/
def enqueued (s : State) (es : List FsEvent) : State :=
  s.onDev (fun d => { d with fs := { d.fs with queue := d.fs.queue ++ es } })

/-- A write of FS_CMD is taken up (R268): the FLASH island runs, no shadow, none in progress, the scan over. -/
def CmdOpen (s : State) : Prop :=
  s.sys.dev.answers 47 = true ∧ s.sys.dev.role ≠ 2 ∧ fldOf s R.FS_CMD_STAT F.FS_CMD_STAT.BUSY = 0 ∧
    fldOf s R.FS_STATUS F.FS_STATUS.READY = 1

/-- The command is a host command of Flowstone that names no slot. -/
def IsFsCmd (c : Instr) : Prop :=
  (∃ b x, c = .fsFence b x ∨ c = .fsUnfence b x ∨ c = .fsClear b x) ∨ (∃ b, c = .fsRetire b ∨ c = .fsUnretire b) ∨
    (∃ st age, c = .fsCarry st age) ∨ c = .fsResume ∨ (∃ x : BitVec 6, c = .fsRemovePack x ∧ 16 ≤ x.toNat)

/-- A host command refused with a result; and accepted, with the events it brings. -/
def cmdResult (s : State) (code : Nat) : State := put s R.FS_CMD_STAT F.FS_CMD_STAT.RESULT code
def cmdTaken (s : State) (es : List FsEvent) : State := enqueued (put s R.FS_CMD_STAT F.FS_CMD_STAT.BUSY 1) es

/-- The unit in a slice, and its state: 0 NORMAL, 1 OBSERVED, 2 FENCED, 3 RETIRED. -/
def unitIn (s : State) (b : Bay) (slice : Nat) : Option Nat := ((linkAt s b).slices[slice]?).map (·.unitId)
def unitState (s : State) (id : Nat) : Nat := (s.sys.dev.unit id).state

/-- The other slices of a bay that stay ACTIVE without one (R266). -/
def othersActive (s : State) (b : Bay) (slice : Nat) : Nat :=
  ((linkAt s b).slices.zipIdx.filter (fun p => p.2 != slice && p.1.state == 0 && unitState s p.1.unitId != 2)).length

/-- A bay is RETIRED: one of its units is (R262). -/
def BayRetired (s : State) (b : Bay) : Prop := ∃ x ∈ (linkAt s b).slices, unitState s x.unitId = 3

/-- The event at the front of the queue gets a record (R284). -/
def GetsRecord (s : State) (e : FsEvent) : Prop :=
  match e with
  | .visit _ _ unit outcome failure _ _ _ _ =>
    failure = true ∨ unitState s unit = 1 ∨ unitState s unit = 2 ∨ outcome ≠ (s.sys.dev.unit unit).lastVisit
  | .retireBay _ _ => False
  | .unretireBay _ => False
  | _ => True

/-- The record of an event as R264, R268 and R284 form it: its kind, its unit, and the states before and after. -/
def FormsRecord (s : State) (e : FsEvent) (ft : Nat) (r : FsRecord) : Prop :=
  match e with
  | .fault b slice unit code flags ep step tile n => r.kind = 0x01 ∧ r.cause = code ∧ r.flags = flags ∧ r.epoch = ep ∧ r.step = step ∧
      r.ref = tile ∧ r.count = min n 65535 ∧ r.bay = b.val ∧ r.slice = slice.getD 0xFF ∧
      (slice.isSome = true → (code = 1 ∨ code = 4 ∨ code = 6) → unit ≠ 0 → r.unitId = unit ∧ r.before = unitState s unit ∧
        (2 ≤ unitState s unit → r.after = unitState s unit) ∧
        (unitState s unit < 2 → r.after =
          if (s.sys.dev.unit unit).lastFault.any (fun t => decide (ft ≤ t + fldOf s R.FS_CFG1 F.FS_CFG1.T_FAULT * 86400)) then 2 else 1))
  | .window unit => r.kind = 0x02 ∧ r.cause = 1 ∧ r.unitId = unit ∧ r.before = 1 ∧ r.after = 0
  | .host op b slice unit => r.kind = 0x02 ∧ r.cause = 3 ∧ r.detail = op ∧ r.unitId = unit ∧ r.bay = b.val ∧ r.slice = slice ∧
      r.before = unitState s unit ∧ r.after = (if op = 1 then 2 else if op = 2 then 1 else 0)
  | .visit b slice unit outcome failure runs pack _ _ => r.kind = 0x03 ∧ r.cause = outcome ∧ r.flags = failure.toNat ∧ r.unitId = unit ∧
      r.bay = b.val ∧ r.slice = slice ∧ r.count = runs ∧ r.ref = pack ∧ r.before = unitState s unit ∧
      (failure = false ∨ 2 ≤ unitState s unit → r.after = unitState s unit) ∧
      (failure = true → unitState s unit = 1 → r.after = 2)
  | .retireUnit _ _ unit => r.kind = 0x02 ∧ r.cause = 2 ∧ r.unitId = unit ∧ r.before = unitState s unit ∧ r.after = 3
  | .unretireUnit _ _ unit => r.kind = 0x02 ∧ r.cause = 3 ∧ r.detail = 4 ∧ r.unitId = unit ∧ r.before = 3 ∧
      r.after = (if (s.sys.dev.unit unit).before = 2 then 2 else 1)
  | .tick first => r.kind = 0x05 ∧ r.flags = first.toNat ∧ r.unitId = 0
  | .carry unit st age => r.kind = 0x06 ∧ r.cause = age ∧ r.unitId = unit ∧ r.after = st
  | .pack cause _ tests id version => r.kind = 0x07 ∧ r.cause = cause ∧ r.count = tests ∧ r.ref = id ∧ r.detail = version
  | .guardUnit unit => r.kind = 0x02 ∧ r.cause = 4 ∧ r.unitId = unit ∧ r.before = 0 ∧ r.after = 1
  | .seen b slice unit serial _ => r.kind = 0x04 ∧ r.unitId = unit ∧ r.bay = b.val ∧ r.slice = slice ∧ r.detail = serial
  | .mirror x => { r with seq := 0, journal := false } = { x with seq := 0, mirrored := true, journal := false }
  | _ => False

/-- The event still changes something, so that a record is formed (R268, R269). -/
def StillActs (s : State) (ft : Nat) (e : FsEvent) : Prop := (s.sys.dev.fsForm ft 0 e).isSome = true

/-- A slot of the log remains (R282). -/
def LogRoom (s : State) : Prop := s.sys.dev.fs.block < 512 ∧ s.sys.dev.fs.block < 480 + s.sys.dev.fs.abandoned

/-- Records of the log, of the journal and of the override table that name a unit, in order (R262, R286, R288). -/
def recordsOf (s : State) (id : Nat) : List FsRecord :=
  (s.sys.nv.fsLog.filterMap (·.record) ++ s.sys.dev.fs.journal.map (·.2) ++ s.sys.dev.fs.overrides).filter (fun r => r.unitId == id)

/-! ### Memory and trowels (R293–R325) -/

/-- A field of a register of controller j, and of landing window w, whose home is controller w / 4 (R312, R325). -/
def mcFld (s : State) (j : Nat) (r : Nat → Nat) (f : Fld) : Nat := fldOf s (r j) f
def winFld (s : State) (w : Nat) (r : Nat → Nat → Nat) (f : Fld) : Nat := fldOf s (r (w / 4) (w % 4)) f

/-- Controller j is READY, and its island answers. -/
def MemUp (s : State) (j : Nat) : Prop := mcFld s j R.MC_STATUS F.MC_STATUS.STATE = 1 ∧ s.sys.dev.answers (72 + j) = true

/-- The line a scrub reads at an offset of a channel, as a system address (R294). -/
def scrubLine (j : Fin 16) (ch : Fin 2) (off : Nat) : Nat :=
  0x100000000 + (off / 256 * 32 + (2 * j.val + ch.val)) * 256 + off % 256 / 64 * 64

/-- Poison is that of s, but that the line of a is poisoned as well where b says so. -/
def PoisonAdds (s t : State) (a : Nat) (b : Prop) : Prop :=
  ∀ x, t.sys.dev.poisoned x = true ↔ s.sys.dev.poisoned x = true ∨ (b ∧ x / 64 = a / 64)

/-- The error record of the controller of line a (R299, R306, R324). -/
def ErrorRecorded (t : State) (j a kind scrub : Nat) : Prop :=
  (t.sys.dev.reg (R.MC_ERR_ADDR_LO j)).toNat = a / 64 * 64 % 2 ^ 32 ∧
    mcFld t j R.MC_ERR_ADDR_HI F.MC_ERR_ADDR_HI.ADDR = a / 2 ^ 32 ∧ mcFld t j R.MC_ERR_ADDR_HI F.MC_ERR_ADDR_HI.VALID = 1 ∧
    mcFld t j R.MC_ERR_INFO F.MC_ERR_INFO.KIND = kind ∧ mcFld t j R.MC_ERR_INFO F.MC_ERR_INFO.BY_SCRUB = scrub ∧
    mcFld t j R.MC_ERR_INFO F.MC_ERR_INFO.CHANNEL = (a - 0x100000000) / 256 % 2

/-- The scrubber moves on by one line; a pass ends with the last of the two channels (R307). -/
def ScrubMoves (s t : State) (j : Nat) : Prop :=
  let n := mcFld s j R.MC_SCRUB_POS F.MC_SCRUB_POS.LINES + 1
  (n < 62914560 → mcFld t j R.MC_SCRUB_POS F.MC_SCRUB_POS.LINES = n ∧
    mcFld t j R.MC_SCRUB_PASSES F.MC_SCRUB_PASSES.COUNT = mcFld s j R.MC_SCRUB_PASSES F.MC_SCRUB_PASSES.COUNT) ∧
  (62914560 ≤ n → mcFld t j R.MC_SCRUB_POS F.MC_SCRUB_POS.LINES = 0 ∧
    CountedAt s t (R.MC_SCRUB_PASSES j) F.MC_SCRUB_PASSES.COUNT)

/-- What the write or the start of an operation fails of R316: check k, for a window w or for a descriptor. -/
def CheckFails (s : State) (o : TrowelOp) (win : Option Nat) (k : Nat) : Prop :=
  let lineOk (a : Nat) := a % 64 = 0 ∧ 0x100000000 ≤ a ∧ a + 64 ≤ 0x1000000000
  let inMem (a n : Nat) := 0x100000000 ≤ a ∧ a + n ≤ 0x1000000000
  match k with
  | 1 => ¬ (lineOk o.src ∧ (o.op ∈ [1, 3, 4, 6] → lineOk o.param) ∧ (o.op = 3 → o.map ≠ 0 → lineOk o.map))
  | 2 => ¬ (1 ≤ o.lines ∧ o.lines ≤ 2 ^ 27 ∧ inMem o.src (64 * o.lines) ∧ ∀ x ∈ o.outputs, inMem x.1 x.2)
  | 3 => ∃ w ∈ win, ∃ v ∈ List.range 64, v ≠ w ∧ s.sys.dev.armed v = true ∧
      o.src < (s.sys.dev.windowOp v).src + (s.sys.dev.windowOp v).len ∧ (s.sys.dev.windowOp v).src < o.src + o.len
  | 4 => (o.op = 3 ∨ (win ≠ none ∧ o.op = 6)) ∧ o.param % 8192 ≠ o.src % 8192
  | 5 => ¬ (1 ≤ o.op ∧ o.op ≤ 6 ∧ ¬ (win ≠ none ∧ o.op = 5) ∧ (o.op = 1 → o.fmt ∈ [0, 1, 2, 3, 4, 0x0B, 0x0C, 0x0D]) ∧
      (o.op = 3 → o.fmt = 0xFF ∨ o.fmt ≤ 0x0D) ∧ (o.fmt = 0xFF → o.tol = 0))
  | 6 => o.op = 1 ∧ ¬ (o.rows * o.rowBytes = 64 * o.lines ∧ o.cols ≤ 65536)
  | 7 => ∃ w ∈ win, s.sys.dev.armed w = true
  | 8 => ∃ x ∈ o.outputs, ∃ i ∈ List.range ((x.2 + 63) / 64), 0xFB0000000 ≤ x.1 + 64 * i ∧ x.1 + 64 * i < 0x1000000000
  | _ => False

/-- The first failing check of R316 is k; and none fails. -/
def FirstFails (s : State) (o : TrowelOp) (win : Option Nat) (k : Nat) : Prop :=
  CheckFails s o win k ∧ ∀ i ∈ List.range k, ¬ CheckFails s o win i
def Suits (s : State) (o : TrowelOp) (win : Option Nat) : Prop := ∀ i ∈ List.range 9, ¬ CheckFails s o win i

/-- Element e of w bits of packed bytes (R165). -/
def elemOf (bs : List (BitVec 8)) (w e : Nat) : Nat := bytesNat ((bs.drop (e * w / 8)).take 5) / 2 ^ (e * w % 8) % 2 ^ w

/-- The sum of some numbers of w bits, as a signed 64-bit integer (R311). -/
def sum64 (w : Nat) (xs : List Nat) : Nat := (((xs.map (signed w)).sum : Int) % 2 ^ 64).toNat

/-- Two elements match under a format and a tolerance (R311). -/
def ElemsMatch (fmt tol x y : Nat) : Prop :=
  if fmt = 0xFF then x = y
  else if fmtInt fmt = true then (signed (fmtWidth fmt) x - signed (fmtWidth fmt) y).natAbs ≤ tol
  else elemMatches fmt tol x y = true

/-- Doubleword k of some bytes. -/
def word64 (bs : List (BitVec 8)) (k : Nat) : Nat := bytesNat ((bs.drop (8 * k)).take 8)

/-- The results of operation o over the bytes bs of its range: u' is u with what it writes, v is RESULT (R310, R311). -/
def ResultOf (u u' : State) (o : TrowelOp) (bs : List (BitVec 8)) (v : BitVec 32) : Prop :=
  let row (r : Nat) := (List.range o.cols).map (fun c => elemOf (bs.drop (r * o.rowBytes)) o.width c)
  let col (c : Nat) := (List.range o.rows).map (fun r => elemOf (bs.drop (r * o.rowBytes)) o.width c)
  let n := o.len * 8 / o.width
  let want := memBytes u.sys.dev.mem o.param (o.len + 5)
  let Bad (e : Nat) := ¬ ElemsMatch o.fmt o.tol (elemOf bs o.width e) (elemOf want o.width e)
  (o.op = 1 → v = 0 ∧ ∃ out : List (BitVec 8), out.length = 8 * (o.rows + o.cols + 1) ∧
    (fmtInt o.fmt = false → ∃ k, u' = stores (drew u k) o.param out) ∧
    (fmtInt o.fmt = true → u' = stores u o.param out) ∧
    (fmtInt o.fmt = true → o.rows * o.rowBytes = o.len → (∀ r ∈ List.range o.rows, word64 out r = sum64 o.width (row r)) ∧
      (∀ c ∈ List.range o.cols, word64 out (o.rows + c) = sum64 o.width (col c)) ∧
      word64 out (o.rows + o.cols) = sum64 o.width ((List.range o.rows).flatMap row))) ∧
  (o.op = 2 → u' = u ∧ v = crc32c bs) ∧
  (o.op = 3 → (∃ bad : List Nat, bad.Nodup ∧ (∀ e ∈ bad, e < n) ∧ (∀ e ∈ List.range n, Bad e ↔ e ∈ bad) ∧
      v = BitVec.ofNat 32 bad.length) ∧
    (o.map = 0 → u' = u) ∧
    (o.map ≠ 0 → ∃ map : List (BitVec 8), u' = stores u o.map map ∧ map.length = (n + 7) / 8 ∧
      ∀ e ∈ List.range (8 * map.length), (map.getD (e / 8) 0#8).getLsbD (e % 8) = true ↔ e < n ∧ Bad e)) ∧
  (o.op = 4 → v = 0 ∧ ∃ fold : List (BitVec 8), u' = stores u o.param fold ∧ fold.length = 64 ∧
    ∀ i ∈ List.range 64, fold.getD i 0#8 = ((List.range o.lines).map (fun l => bs.getD (64 * l + i) 0#8)).foldl (· ^^^ ·) 0#8) ∧
  (o.op = 6 → u' = u ∧ v = 0)

/-- The bytes a window over o counts of a write of bs at a, each with its place in the range (R314). -/
def countedOf (o : TrowelOp) (a : Nat) (bs : List (BitVec 8)) : List (Nat × BitVec 8) :=
  ((List.range bs.length).filter (fun i => decide (o.src ≤ a + i ∧ a + i < o.src + o.len))).map
    (fun i => (a + i - o.src, bs.getD i 0#8))

/-- Every byte of a range was counted exactly once: its bytes are bs. -/
def CountedOnce (log : List (Nat × BitVec 8)) (bs : List (BitVec 8)) : Prop :=
  log.length = bs.length ∧ ∀ o ∈ List.range bs.length, (log.filter (fun p => p.1 == o)).map (·.2) = [bs.getD o 0#8]

/-- COVERED of a window (R325). -/
def coveredAt (s : State) (w : Nat) : Nat :=
  (s.sys.dev.reg (R.TW_COVERED_LO (w / 4) (w % 4))).toNat + 2 ^ 32 * winFld s w R.TW_COVERED_HI F.TW_COVERED_HI.BYTES

/-- A window is ARMED anew: nothing counted, no result, no flag (R313). -/
def armedAnew (s : State) (w : Nat) : State :=
  let j := w / 4
  let i := w % 4
  let z := put s (R.TW_CTL j i) F.TW_CTL.REJECT 0
  let z := z.onDev (fun d => d.setReg (R.TW_STATUS j i) 0#32)
  let z := put z (R.TW_STATUS j i) F.TW_STATUS.ARMED 1
  let z := z.onDev (fun d => d.setReg (R.TW_COVERED_LO j i) 0#32)
  let z := put z (R.TW_COVERED_HI j i) F.TW_COVERED_HI.BYTES 0
  let z := z.onDev (fun d => d.setReg (R.TW_RESULT j i) 0#32)
  z.onDev (fun d => { d with landed := vset d.landed (winIndex w) [] })

/-- A window closes at once; CSUM_ACC and XFOLD write what they have, unless COMPLETE has or poison was counted (R317). -/
def WindowCloses (s t : State) (w : Nat) : Prop :=
  let o := s.sys.dev.windowOp w
  let log := s.sys.dev.landed[winIndex w]
  let st := R.TW_STATUS (w / 4) (w % 4)
  let writes := winFld s w R.TW_STATUS F.TW_STATUS.COMPLETE = 0 ∧ (o.op = 1 ∨ o.op = 4)
  let closed (u : State) := puts u [(st, F.TW_STATUS.ARMED, 0), (st, F.TW_STATUS.CLOSED, 1)]
  (¬ writes → t = closed s) ∧
  (writes → winFld t w R.TW_STATUS F.TW_STATUS.ARMED = 0 ∧ winFld t w R.TW_STATUS F.TW_STATUS.CLOSED = 1 ∧
    winFld t w R.TW_STATUS F.TW_STATUS.COMPLETE = 0 ∧ t.sys.dev.reg (R.TW_RESULT (w / 4) (w % 4)) = s.sys.dev.reg (R.TW_RESULT (w / 4) (w % 4)) ∧
    (winFld s w R.TW_STATUS F.TW_STATUS.POISON = 1 → t.sys.dev.mem = s.sys.dev.mem) ∧
    (winFld s w R.TW_STATUS F.TW_STATUS.POISON = 0 → o.op = 4 → ∃ fold : List (BitVec 8), fold.length = 64 ∧
      t.sys.dev.mem = (stores s o.param fold).sys.dev.mem ∧
      ∀ i ∈ List.range 64, fold.getD i 0#8 = ((log.filter (fun p => p.1 % 64 == i)).map (·.2)).foldl (· ^^^ ·) 0#8) ∧
    (winFld s w R.TW_STATUS F.TW_STATUS.POISON = 0 → o.op = 1 → ∃ out : List (BitVec 8), out.length = 8 * (o.rows + o.cols + 1) ∧
      t.sys.dev.mem = (stores s o.param out).sys.dev.mem))

/-- A write of TW_CTL by an initiator that may: the settings, ARM, then CLOSE (R9, R313, R316, R317, R325). -/
def TwWritten (s t : State) (w : Nat) (v : BitVec 32) : Prop :=
  let a := R.TW_CTL (w / 4) (w % 4)
  let fs := [F.TW_CTL.OP, F.TW_CTL.IRQ, F.TW_CTL.FMT, F.TW_CTL.TOL_ULP]
  let was := s.sys.dev.armed w = true
  let changed := ∃ f ∈ fs, f.get v ≠ fldOf s a f
  ∃ s1 s2,
    (was → changed → s1 = event s 0x0102 0xFF [a]) ∧
    (was → ¬ changed → s1 = s) ∧
    (¬ was → s1 = puts s (fs.map (fun f => (a, f, f.get v)))) ∧
    (F.TW_CTL.ARM.get v = 0 → s2 = s1) ∧
    (F.TW_CTL.ARM.get v = 1 → (∀ k ∈ List.range 9, FirstFails s1 (s1.sys.dev.windowOp w) (some w) k → s2 = put s1 a F.TW_CTL.REJECT k) ∧
      (Suits s1 (s1.sys.dev.windowOp w) (some w) → s2 = armedAnew s1 w)) ∧
    (F.TW_CTL.CLOSE.get v = 1 → was → WindowCloses s2 t w) ∧
    (F.TW_CTL.CLOSE.get v = 0 ∨ ¬ was → t = s2)

/-- No ARMED window but w counts a byte of the n from a. -/
def OnlyWindow (s : State) (w a n : Nat) : Prop :=
  ∀ v ∈ List.range 64, v ≠ w → s.sys.dev.armed v = true →
    a + n ≤ (s.sys.dev.windowOp v).src ∨ (s.sys.dev.windowOp v).src + (s.sys.dev.windowOp v).len ≤ a

/-- Bytes written to memory with the poison they carry. -/
def storesBad (s : State) (a : Nat) (bs : List (BitVec 8)) (bad : Bool) : State := s.onDev (fun d => d.store a bs bad)

/-- The descriptor at a ends: STATUS, REJECT and RESULT in it, and DESC_DONE where its FLAGS ask (R320). -/
def descEnded (s : State) (j : Fin 16) (a status reject : Nat) (result : Option (BitVec 32)) : State :=
  let u := stores s (a + 48) [BitVec.ofNat 8 status, BitVec.ofNat 8 reject]
  let u := match result with
    | some v => stores u (a + 52) (natBytes 4 v.toNat)
    | none => u
  if (memByte s.sys.dev.mem (a + 1)).getLsbD 0 = true then put u (R.MC_EVENT j.val) F.MC_EVENT.DESC_DONE 1 else u

/-- The trowel j runs this descriptor and holds these queued. -/
def trowelHolds (s : State) (j : Fin 16) (running : Option Nat) (queue : List Nat) : State :=
  s.onDev (fun d => { d with mcs := vset d.mcs j { d.mcs[j] with running := running, queue := queue } })

/-- The next of the queued descriptors starts: those before it lie in a poisoned line or fail R316 and end so (R303, R316,
R321). -/
def DescStarts (j : Fin 16) : List Nat → State → State → Prop
  | [], u, t => t = trowelHolds u j none []
  | a :: q, u, t =>
    let o := descOp u.sys.dev.mem a
    (u.sys.dev.poisoned a = true → DescStarts j q (descEnded u j a 2 0 none) t) ∧
    (u.sys.dev.poisoned a = false → Suits u o none → t = trowelHolds u j (some a) q) ∧
    (∀ k ∈ List.range 9, u.sys.dev.poisoned a = false → FirstFails u o none k →
      DescStarts j q (descEnded u j a 3 k none) t)

/-! ### The host port (R502–R521, R530–R537) -/

/-- The host port's own state changed; a record sent to the partner. -/
def onEth (s : State) (f : EthCtx → EthCtx) : State := s.onDev (fun d => { d with eth := f d.eth })
def twinSent (s : State) (r : TwinTx) : State := s.onDev (fun d => { d with twin := { d.twin with tx := d.twin.tx ++ [r] } })

/-- A field of ETH_STAT, the ETH island answering with its port up, and packets of the host reaching it (R502, R536). -/
def ethFld (s : State) (f : Fld) : Nat := fldOf s R.ETH_STAT f
def PortUp (s : State) : Prop := s.sys.dev.answers 48 = true ∧ ethFld s F.ETH_STAT.LINK = 1
def HostReaches (s : State) : Prop :=
  s.sys.dev.answers 48 = true ∧ (ethFld s F.ETH_STAT.LINK = 1 ∨
    (ethFld s F.ETH_STAT.RELAY_OUT = 1 ∧ fldOf s R.TWIN_STATUS F.TWIN_STATUS.LINK = 1))

/-- A frame leaves: on the port, counted; over the twin link while the partner relays; else it is lost (R536). -/
def frameOut (s : State) (o : EthOut) : State :=
  if ethFld s F.ETH_STAT.LINK = 1 then bump (onEth s (fun e => { e with out := e.out ++ [o] })) R.ETH_TX_FRAMES F.ETH_TX_FRAMES.COUNT
  else if ethFld s F.ETH_STAT.RELAY_OUT = 1 ∧ fldOf s R.TWIN_STATUS F.TWIN_STATUS.LINK = 1 then twinSent s (.relay o)
  else s

/-- The MAC address, the IPv4 address and the IPv6 addresses held (R507, R508). -/
def macOf (s : State) : Nat := (s.sys.dev.reg R.ETH_MAC_LO).toNat + 2 ^ 32 * fldOf s R.ETH_MAC_HI F.ETH_MAC_HI.MAC
def linkLocalOf (s : State) : BitVec 128 :=
  let b (i : Nat) := macOf s / 256 ^ i % 256
  BitVec.ofNat 128 (0xFE80 * 2 ^ 112 + (b 0 ^^^ 2) * 2 ^ 56 + b 1 * 2 ^ 48 + b 2 * 2 ^ 40 + 0xFF * 2 ^ 32 + 0xFE * 2 ^ 24 +
    b 3 * 2 ^ 16 + b 4 * 2 ^ 8 + b 5)
def Holds4 (s : State) (ip : BitVec 32) : Prop := fldOf s R.ETH_IP4_CFG F.ETH_IP4_CFG.BOUND = 1 ∧ s.sys.dev.reg R.ETH_IP4_ADDR = ip
def Holds6 (s : State) (ip : BitVec 128) : Prop :=
  fldOf s R.ETH_IP6_CFG F.ETH_IP6_CFG.BOUND = 1 ∧
    ip.toNat = (s.sys.dev.reg (R.ETH_IP6_ADDR 0)).toNat * 2 ^ 96 + (s.sys.dev.reg (R.ETH_IP6_ADDR 1)).toNat * 2 ^ 64 +
      (s.sys.dev.reg (R.ETH_IP6_ADDR 2)).toNat * 2 ^ 32 + (s.sys.dev.reg (R.ETH_IP6_ADDR 3)).toNat

/-- A frame the port takes (R506, R508). -/
def TakesFrame (s : State) (f : EthFrame) : Prop :=
  f.len ≤ 9216 ∧ f.fragment = false ∧ f.proto ≠ .other ∧ f.proto ≠ .lldp ∧
    (fldOf s R.ETH_CFG F.ETH_CFG.VLAN_EN = 1 → f.tags = [BitVec.ofNat 12 (fldOf s R.ETH_VLAN F.ETH_VLAN.VID)]) ∧
    (fldOf s R.ETH_CFG F.ETH_CFG.VLAN_EN ≠ 1 → f.tags = [])

/-- An address of DHCP held, or none (R508). -/
def bound (s : State) (v6 : Bool) (a : Option (BitVec 128)) : State :=
  let w (i : Nat) : BitVec 32 := BitVec.ofNat 32 ((a.getD 0#128).toNat / 2 ^ (32 * i))
  let set (s : State) (r : Nat) (x : BitVec 32) : State := s.onDev (fun d => d.setReg r x)
  if v6 = true then put (set (set (set (set s (R.ETH_IP6_ADDR 0) (w 3)) (R.ETH_IP6_ADDR 1) (w 2)) (R.ETH_IP6_ADDR 2) (w 1))
    (R.ETH_IP6_ADDR 3) (w 0)) R.ETH_IP6_CFG F.ETH_IP6_CFG.BOUND a.isSome.toNat
  else put (set s R.ETH_IP4_ADDR (w 0)) R.ETH_IP4_CFG F.ETH_IP4_CFG.BOUND a.isSome.toNat

/-- The clock of microseconds has been read. -/
def timeRead (s : State) (now : Nat) : State := s.onDev (fun d => { d with freeCtr := d.freeCtr + 1, clock := now })

/-- The times within the last second (R508, R515). -/
def lastSecond (times : List Nat) (now : Nat) : List Nat := times.filter (fun x => decide (now < x + 1000000))

/-! ### MMP sessions (R509–R517) -/

def sessOf (s : State) : Option MmpSession := s.sys.dev.eth.sess

/-- The session ends (R516, R517): replies and streams go, and events that were sent are marked to be sent again. -/
def sessionEnded (s : State) : State :=
  put (onEth s (fun e => { e with
    sess := none, streams := [], evMsgs := [],
    events := e.events.map (fun x => { x with sent := false, again := x.again || x.sent }) })) R.ETH_STAT F.ETH_STAT.HOST 0

/-- The WINDOW offered (R513). -/
def windowOf (s : State) : Nat := if s.sys.dev.eth.fwWait = [] then 64 else 0

/-- The messages that wait to leave (R511, R534). -/
def waitingOf (s : State) : Nat :=
  ((sessOf s).elim 0 (fun σ => σ.txWait.length)) + (s.sys.dev.eth.streams.map (fun p => p.2.length)).sum

/-- The messages of a session in the order they leave: sent and not acknowledged, then waiting. -/
def msgsOf (σ : MmpSession) : List MmpOut := σ.unacked.map (·.2) ++ σ.txWait

/-- The flow of a session goes on from what σ holds with these messages handed over: in order, with the next PSNs, inside the
window of the host (R511–R513). -/
def FlowsFrom (σ : MmpSession) (l : List MmpOut) (σ' : MmpSession) : Prop :=
  σ.unacked <+: σ'.unacked ∧ (msgsOf σ ++ l) <+: msgsOf σ' ∧ σ'.txNext = σ.txNext + (σ'.unacked.length - σ.unacked.length) ∧
    (∀ i ∈ List.range (σ'.unacked.length - σ.unacked.length),
      ((σ'.unacked.drop σ.unacked.length)[i]?).map (·.1) = some (σ.txNext + i) ∧ σ.txNext + i ≤ σ.txTop) ∧
    (σ'.txWait ≠ [] → σ.txTop < σ'.txNext) ∧ σ'.txTop = σ.txTop ∧ σ'.id = σ.id ∧ σ'.peer = σ.peer ∧ σ'.keys = σ.keys

/-- The session is in force with what P says of it, or n more messages would have taken a PSN to 2^40 and it has ended
(R511). -/
def Goes (s t : State) (σ : MmpSession) (n : Nat) (P : MmpSession → Prop) : Prop :=
  (∃ σ' ∈ sessOf t, P σ') ∨
    (sessOf t = none ∧ ethFld t F.ETH_STAT.HOST = 0 ∧ (2 ^ 40 ≤ σ.txNext + waitingOf s + n + 1 ∨ 2 ^ 40 ≤ σ.rxAck + σ.rxHeld.length + 2))

/-- What an authenticated packet acknowledges: taken where ACK lies between the oldest packet waiting and the last one sent
(R513). -/
def AckTaken (σ : MmpSession) (p : MmpPacket) (σ' : MmpSession) : Prop :=
  let oldest := match σ.unacked with
    | [] => σ.txNext
    | (psn, _) :: _ => psn
  let valid := oldest - 1 ≤ p.ack.toNat ∧ p.ack.toNat < σ.txNext
  (valid → σ' = { σ with
    peer := p.src
    unacked := σ.unacked.filter (fun x => decide (p.ack.toNat < x.1))
    txTop := p.ack.toNat + p.window.toNat
    expiries := if oldest - 1 < p.ack.toNat then 0 else σ.expiries }) ∧
  (¬ valid → σ' = { σ with peer := p.src })

/-- A packet of the session in force σ whose tag verifies (R512). -/
def OfSession (s : State) (p : MmpPacket) (σ : MmpSession) : Prop :=
  HostReaches s ∧ sessOf s = some σ ∧ σ.id = p.session.toNat ∧ p.tagOk = true

/-- The command brings a DATA, ACK or CLOSE packet. -/
def IsPacket (c : Instr) (p : MmpPacket) : Prop := c = .dataPacket p ∨ c = .ackPacket p ∨ c = .closePacket p

/-- A message of the host arrives (R518–R521, R530, R459). -/
def Arrives (s t : State) (σ : MmpSession) (m : List (BitVec 8)) : Prop :=
  let e := s.sys.dev.eth
  let e' := t.sys.dev.eth
  let kind := fieldOf m 0 1
  let reply := fieldOf m 1 1 % 2 = 1
  let recovery := s.sys.dev.boot.phase = .recovery
  let kept := e'.inbox = e.inbox ∧ e'.fwReqs = e.fwReqs ∧ e'.fwWait = e.fwWait
  let answers (result : Nat) := kept ∧ (sessOf t = none ∨ ∃ σ' ∈ sessOf t, ∃ r ∈ (msgsOf σ').drop (msgsOf σ).length,
    r = replyOf kind (fieldOf m 2 2) result 0 0 [])
  (reply → kind ≠ 7 → kept) ∧
  ((reply → kind = 7) → msgOk m σ.maxp = false → answers 1) ∧
  ((reply → kind = 7) → msgOk m σ.maxp = true → kind ≠ 7 → recovery → recoveryServes m = false → answers 7) ∧
  ((reply → kind = 7) → msgOk m σ.maxp = true → (kind = 7 ∨ ¬ recovery ∨ recoveryServes m = true) →
    (kind ∈ [5, 6, 7] → e'.inbox = e.inbox ++ [(σ.id, m)] ∧ e'.fwReqs = e.fwReqs ∧ e'.fwWait = e.fwWait) ∧
    (kind ∉ [5, 6, 7] → e'.inbox = e.inbox ∧ (recovery → e'.fwReqs = e.fwReqs ++ [(σ.id, m)] ∧ e'.fwWait = e.fwWait) ∧
      (¬ recovery → e'.fwReqs ++ e'.fwWait = e.fwReqs ++ e.fwWait ++ [(σ.id, m)] ∧ e.fwReqs <+: e'.fwReqs)))

/-- The owner slots that may vouch for a host key, or the vendor slots while no owner slot is usable (R514). -/
def HostKeyKnown (f : FuseFields) (key : List (BitVec 8)) : Prop :=
  let hit (k : Fin 8) := f.usable k = true ∧ f.keyHash[k] = digestNum (sha256 key)
  (∃ k : Fin 8, 4 ≤ k.val ∧ hit k) ∨ ((∀ k : Fin 8, 4 ≤ k.val → f.usable k = false) ∧ ∃ k : Fin 8, k.val < 4 ∧ hit k)

/-- An HS_INIT payload the device answers (R514, R515). -/
def HelloOk (p : List (BitVec 8)) : Prop :=
  p.length = 164 ∧ fieldOf p 0 1 = 1 ∧ 1 ≤ fieldOf p 1 1 ∧ fieldOf p 1 1 ≤ 8 ∧ fieldOf p 2 2 = 0 ∧
    p256On (be32 p 36) (be32 p 68) = true

/-! ### Events and rings (R521, R531–R533) -/

/-- The event records as they were raised, whatever has been sent of them. -/
def recordsRaised (s : State) : List (Nat × Nat × Nat × Nat × Nat × List Nat) :=
  s.sys.dev.eth.events.map (fun e => (e.seq, e.code, e.source, e.ft, e.wall, e.detail))

/-- Every event record has been sent in the session in force, or there is none. -/
def EventsOut (t : State) : Prop := sessOf t = none ∨ ∀ e ∈ t.sys.dev.eth.events, e.sent = true

/-- Where an entry of n bytes goes in a ring of 256 KiB, and whether the writer wraps (R521). -/
def RingFits (head tail n at' : Nat) (wraps : Bool) : Prop :=
  let ahead := head + n < 262144 ∨ (head + n = 262144 ∧ 0 < tail)
  (head < tail ∧ head + n < tail ∧ at' = head ∧ wraps = false) ∨
  (tail ≤ head ∧ ahead ∧ at' = head ∧ wraps = false) ∨
  (tail ≤ head ∧ ¬ ahead ∧ n < tail ∧ at' = 0 ∧ wraps = true)

/-- The bytes an entry of a message takes, and the entry itself (R521). -/
def entrySize (n : Nat) : Nat := (n + 8 + 63) / 64 * 64
def entryOf (id : Nat) (m : List (BitVec 8)) : List (BitVec 8) :=
  natBytes 4 m.length ++ natBytes 4 id ++ m ++ List.replicate (entrySize m.length - (8 + m.length)) 0#8

/-- A ring lies at this address: its base is not 0 and all of it lies in system SRAM. -/
def RingAt (s : State) (r base : Nat) : Prop :=
  base = (s.sys.dev.reg r).toNat * 65536 ∧ 0x10000000 ≤ base ∧ base + 262144 ≤ 0x11000000

/-- The message of an entry of the outbound ring, where it holds no poison. -/
def entryMsg (m : List (BitVec 8)) : MmpOut :=
  { kind := fieldOf m 0 1, reply := decide (fieldOf m 1 1 % 2 = 1), tag := fieldOf m 2 2, result := fieldOf m 8 1,
    code := fieldOf m 9 1, index := fieldOf m 10 2, body := m.drop 16, records := [] }

/-! ### Messages of the host (R518–R530, R534, R535) -/

/-- Firmware, or the mask ROM in recovery wait, serves requests (R459, R519). -/
def FwServes (s : State) : Prop :=
  s.sys.dev.answers 48 = true ∧
    ((fldOf s R.SEC_BOOT_STATUS F.SEC_BOOT_STATUS.GATE = 1 ∧ ∃ c ∈ [42, 43, 44, 45], s.sys.dev.answers c = true) ∨
      s.sys.dev.boot.phase = .recovery)
def InRecovery (s : State) : Prop := s.sys.dev.boot.phase = .recovery

/-- A request of a TYPE, and of the OBJECT or STREAM its body begins with, 0 for any. -/
def ReqIs (kind first : Nat) (m : List (BitVec 8)) : Bool :=
  fieldOf m 0 1 == kind && (first == 0 || fieldOf m 16 1 == first)

/-- The oldest request handed to firmware of a kind: its SESSION_ID and its message; and the state with it taken. -/
def oldestReq (s : State) (kind first : Nat) : Option (Nat × List (BitVec 8)) := s.sys.dev.eth.fwReqs.find? (fun m => ReqIs kind first m.2)
def taken (s : State) (kind first : Nat) : State :=
  onEth s (fun e => { e with fwReqs := e.fwReqs.eraseP (fun m => ReqIs kind first m.2) })

/-- A command that serves one request, and the kind of request it serves. -/
def IsServe (c : Instr) (kind first : Nat) : Prop :=
  (c = .mmpSpdm ∧ kind = 2 ∧ first = 0) ∨ (∃ f, c = .loadSecfw f ∧ kind = 3 ∧ first = 1) ∨ (∃ f, c = .loadPack f ∧ kind = 3 ∧ first = 2) ∨
  (∃ f, c = .loadMgmt f ∧ kind = 3 ∧ first = 3) ∨ (c = .loadStencilPack ∧ kind = 3 ∧ first = 4) ∨
  (∃ f, c = .loadGolden f ∧ kind = 3 ∧ first = 5) ∨ (c = .loadHostCode ∧ kind = 3 ∧ first = 6) ∨
  (∃ k m, c = .runProgram k m ∧ kind = 4 ∧ first = 0) ∨ (c = .bulkFlowstone ∧ kind = 8 ∧ first = 1) ∨
  (c = .bulkLedger ∧ kind = 8 ∧ first = 2) ∨ (c = .bulkSample ∧ kind = 8 ∧ first = 3) ∨
  (∃ f, c = .bulkGolden f ∧ kind = 8 ∧ first = 4) ∨ (c = .bulkHoldup ∧ kind = 8 ∧ first = 5)

/-- State t is u but for the host port and its registers. -/
def PortOnly (u t : State) : Prop :=
  RestKept u t ∧ t.sys.dev.fs = u.sys.dev.fs ∧ t.sys.dev.boot = u.sys.dev.boot ∧ t.sys.dev.mcs = u.sys.dev.mcs ∧
    t.sys.dev.eth.fwReqs = u.sys.dev.eth.fwReqs ∧ t.sys.dev.eth.fwWait = u.sys.dev.eth.fwWait ∧
    t.sys.dev.eth.inbox = u.sys.dev.eth.inbox ∧ t.sys.dev.eth.loads = u.sys.dev.eth.loads ∧
    t.sys.dev.eth.code = u.sys.dev.eth.code ∧ t.sys.dev.eth.runs = u.sys.dev.eth.runs ∧ recordsRaised t = recordsRaised u ∧
    ∀ r, r ≠ R.ETH_STAT → r ≠ R.ETH_TX_FRAMES → t.sys.dev.reg r = u.sys.dev.reg r

/-- The message joins the flow of its session; of another session it is discarded (R519, R521). -/
def Replied (u t : State) (id : Nat) (out : MmpOut) : Prop :=
  ((∀ σ ∈ sessOf u, σ.id ≠ id) → t = u) ∧
    (∀ σ ∈ sessOf u, σ.id = id → PortOnly u t ∧ Goes u t σ 1 (FlowsFrom σ [out]))

/-- The reply to the request m with a RESULT, a CODE and a body; and the one that gives a code: OK for 0 (R520). -/
def answerTo (m : List (BitVec 8)) (result code : Nat) (body : List (BitVec 8)) : MmpOut :=
  { kind := fieldOf m 0 1, reply := true, tag := fieldOf m 2 2, result := result, code := code, index := 0, body := body, records := [] }
def codeTo (m : List (BitVec 8)) (code : Nat) : MmpOut := answerTo m (if code = 0 then 0 else 4) code []

/-- The security core refuses a request: stopped or gone, before the gate, during an activation, or with a chunked request held
that this one does not carry on (R436, R450, R464, R481). -/
def SecRefuses (s : State) (stage : Bool) : Prop :=
  s.sys.dev.sec.stopped = true ∨ s.sys.dev.answers 39 = false ∨ fldOf s R.SEC_BOOT_STATUS F.SEC_BOOT_STATUS.GATE ≠ 1 ∨
    (1 ≤ actState s ∧ actState s ≤ 3) ∨ ∃ c ∈ s.sys.dev.boot.chunk, ¬ (stage = true ∧ c.stage = true)

/-- The bytes of a LOAD chunk, and the fields of its head (R522). -/
def chunkData (m : List (BitVec 8)) : List (BitVec 8) := m.drop 32
def chunkFirst (m : List (BitVec 8)) : Prop := fieldOf m 17 1 % 2 = 1
def chunkLast (m : List (BitVec 8)) : Prop := fieldOf m 17 1 / 2 % 2 = 1
def chunkTrial (m : List (BitVec 8)) : Nat := if fieldOf m 28 2 = 0 then 120 else fieldOf m 28 2

/-- The load l is the load of its OBJECT with the chunk taken: a FIRST begins anew; OFFSET is the number of bytes taken so far,
and the LAST chunk ends at TOTAL_LEN (R523). -/
def ChunkTaken (s : State) (m : List (BitVec 8)) (l : LoadCtx) : Prop :=
  let object := fieldOf m 16 1
  let held := s.sys.dev.eth.loads.find? (fun l => l.object == object)
  let new : LoadCtx := ⟨object, fieldOf m 18 1, [], chunkTrial m⟩
  ∃ l0, (chunkFirst m ∨ held = none → l0 = new) ∧ (¬ chunkFirst m → ∀ h ∈ held, l0 = h) ∧
    fieldOf m 20 4 = l0.bytes.length ∧ (chunkLast m → fieldOf m 20 4 + (chunkData m).length = fieldOf m 24 4) ∧
    fieldOf m 20 4 + (chunkData m).length ≤ fieldOf m 24 4 ∧ l = { l0 with bytes := l0.bytes ++ chunkData m }

/-- The load of an OBJECT held, or dropped with its last chunk. -/
def loadHeld (s : State) (l : LoadCtx) (ended : Prop) [Decidable ended] : State :=
  onEth s (fun e => { e with loads := e.loads.filter (fun x => x.object != l.object) ++ (if ended then [] else [l]) })

/-- A chunk of a component in recovery wait: its code, and the flash slots and boot directory after it (R459). -/
def RecoveryTakes (u u' : State) (c : Component) (l : LoadCtx) (last : Prop) (flash : BitVec 3) (code : Nat) : Prop :=
  let bad := 1 < l.slot ∨ l.tTrial < 30 ∨ 900 < l.tTrial
  (bad → code = 0x21 ∧ u' = u) ∧
  (¬ bad → c.maxLen < l.bytes.length → code = 3 ∧ u' = u) ∧
  (¬ bad → l.bytes.length ≤ c.maxLen → ∀ k : Fin 2, k.val = l.slot →
    let slot := u.sys.nv.slots[k].putPart c l.bytes
    let written (s : State) : State := { s with sys := { s.sys with nv := { s.sys.nv with slots := vset s.sys.nv.slots k slot } } }
    let check := slotCheck u.sys.dev.shadow slot (fun c => flash.getLsbD c.code)
    (¬ last → code = 0 ∧ u' = written u) ∧
    (last → check ≠ 0 → code = check ∧ u' = written u) ∧
    (last → check = 0 → code = 0 ∧ u'.sys.nv.slots = (written u).sys.nv.slots ∧ u'.sys.nv.dir.trial = 1 ∧
      u'.sys.nv.dir.trialSlot = k ∧ u'.sys.nv.dir.tTrial = l.tTrial ∧ u'.sys.nv.dir.skip / 2 ^ k.val % 2 = 0 ∧
      u'.sys.nv.fuses = u.sys.nv.fuses ∧ u'.sys.dev.eth = u.sys.dev.eth))

/-- The host port holds the pack p in slot k of flash as R275 to R276 have it installed. -/
def PackInstalled (u u' : State) (k : Fin 16) (p : List (BitVec 8)) : Prop :=
  (∀ j ∈ List.range 16, packAt u' j = if j = k.val then p else packAt u j) ∧ u'.sys.nv.fuses = u.sys.nv.fuses ∧
    fldOf u' (R.STN_INFO k.val) F.STN_INFO.VALID = 1 ∧
    u.sys.dev.fs.queue ++ [.pack 1 (ownerSigned p (packTrailer p)) (packTests p).length (packId p) (packVersion p)] =
      u'.sys.dev.fs.queue ∧ u'.sys.dev.eth = u.sys.dev.eth

/-- A RUN body is laid out as R524 has it. -/
def RunBodyOk (b : List (BitVec 8)) : Prop :=
  let args := fieldOf b 8 2
  args ≤ 768 ∧ b.length = 528 + args ∧ fieldOf b 0 1 < 8 ∧ (fieldOf b 1 1 < 4 ∨ fieldOf b 1 1 = 0xFF) ∧ fieldOf b 2 2 ≤ 60000 ∧
    fieldOf b 4 4 % 4 = 0 ∧ fieldOf b 10 6 = 0

/-- The messages of a stream over some content, each byte with whether it is poisoned (R534, R535). -/
def StreamOf (id size : Nat) (c : List (BitVec 8 × Bool)) (ms : List MmpOut) : Prop :=
  ms.length = max 1 ((c.length + size - 1) / size) ∧ ∀ i ∈ List.range ms.length, ∃ m ∈ ms[i]?,
    let part := (c.drop (i * size)).take size
    let bad (l : Nat) := ∃ x ∈ (part.drop (64 * l)).take 64, x.2 = true
    m.kind = 8 ∧ m.reply = false ∧ m.tag = id ∧ m.result = 0 ∧ m.code = 0 ∧ m.body.length = 32 + part.length ∧
    m.body.take 8 = natBytes 8 (i * size) ∧ fieldOf m.body 8 1 = (if i + 1 = ms.length then 1 else 0) ∧ fieldOf m.body 9 7 = 0 ∧
    (∀ l ∈ List.range 128, fieldOf m.body 16 16 / 2 ^ l % 2 = 1 ↔ bad l) ∧
    (∀ j ∈ List.range part.length, (bad (j / 64) → m.body.getD (32 + j) 0#8 = 0#8) ∧
      (¬ bad (j / 64) → ∀ x ∈ part[j]?, m.body.getD (32 + j) 0#8 = x.1))

/-- Content without poison, and content as memory holds it. -/
def clean (bs : List (BitVec 8)) : List (BitVec 8 × Bool) := bs.map (fun b => (b, false))
def inMemory (s : State) (a n : Nat) : List (BitVec 8 × Bool) :=
  (List.range n).map (fun i => (memByte s.sys.dev.mem (a + i), s.sys.dev.poisoned (a + i)))

/-- FROM and ARG of a BULK request (R534). -/
def fromOf (m : List (BitVec 8)) : Nat := fieldOf m 20 8
def argOf (m : List (BitVec 8)) : Nat := fieldOf m 28 4

/-- One item of sample export: its head of 32 bytes and the data of the part (R535). -/
def sampleItem (s : State) (st : StepCtx) (x : SampleCtx) (p : PartCtx) : List (BitVec 8 × Bool) :=
  clean (natBytes 4 x.tile ++ natBytes 6 st.step ++ natBytes 2 st.epoch ++ natBytes 1 p.slice ++ natBytes 1 p.part ++
    natBytes 2 p.fmt ++ natBytes 2 p.m ++ natBytes 2 p.n ++ natBytes 4 p.kM1 ++ natBytes 4 p.len ++
    natBytes 4 (crc32c (memBytes s.sys.dev.mem p.addr ((p.len + 3) / 4 * 4))).toNat) ++ inMemory s p.addr p.len

/-- A golden image is whole as it is read: its key, signature and block CRCs (R461, R493). -/
def GoldenReads (s : State) (p : List (BitVec 8)) (flash : Bool) : Prop :=
  p ≠ [] ∧ flash = false ∧ trustCheck s.sys.dev.shadow true p (goldTrailer p) = 0 ∧ goldBlocksOk p = true

/-- What a BULK request asks for; nothing where its ARG or FROM is not as R534 has it. -/
def ContentIs (s : State) (stream : Nat) (flash : Bool) (m : List (BitVec 8)) (c : Option (List (BitVec 8 × Bool))) : Prop :=
  let arg := argOf m
  let from_ := fromOf m
  (stream = 1 → (arg ≠ 0 → c = none) ∧ (arg = 0 → c = some (clean (((s.sys.nv.fsLog.filterMap (·.record) ++
    s.sys.dev.fs.journal.map (·.2)).filter (fun r => decide (from_ ≤ r.seq))).flatMap FsRecord.bytes)))) ∧
  (stream = 2 → (8 ≤ arg → c = none) ∧ (∀ b : Bay, b.val = arg →
    c = some (clean ((s.sys.dev.ledgers[b].filter (fun e => decide (from_ ≤ fieldOf e 0 8))).flatten)))) ∧
  (stream = 3 → (8 ≤ arg → c = none) ∧ (∀ b : Bay, b.val = arg → c = some (((witAt s b).steps.filter (fun x => decide (from_ = 0 ∨ x.step = from_))).flatMap
    (fun st => st.samples.flatMap (fun x => (x.parts.filter (fun p => decide (p.addr ≠ 0))).flatMap (sampleItem s st x)))))) ∧
  (stream = 4 → (4 ≤ arg ∨ from_ ≠ 0 → c = none) ∧ (∀ k : Fin 4, k.val = arg → from_ = 0 → let p := s.sys.nv.golden[k]
    (GoldenReads s p flash → c = some (clean p)) ∧ (¬ GoldenReads s p flash → c = some []))) ∧
  (stream = 5 → (arg ≠ 0 → c = none) ∧ (arg = 0 → ∃ rs : List HoldupRec, c = some (clean (rs.flatMap HoldupRec.bytes)) ∧
    rs.Pairwise (fun x y => x.seq ≤ y.seq) ∧
    rs.Perm ((s.sys.nv.holdup.map (·.2)).filter (fun r => decide (r.torn = false ∧ from_ ≤ r.seq)))))

/-- The words a READ or WRITE names (R527). -/
def wordsNamed (m : List (BitVec 8)) : List Nat :=
  (List.range (fieldOf m 20 2)).map (fun i => fieldOf m 16 4 + (if fieldOf m 22 1 % 2 = 1 then 4 * i else 0))

/-- A READ or WRITE body is laid out as R527 has it. -/
def WordsBodyOk (write : Bool) (m : List (BitVec 8)) : Prop :=
  let n := fieldOf m 20 2
  24 ≤ m.length ∧ 1 ≤ n ∧ n ≤ 256 ∧ fieldOf m 16 4 % 4 = 0 ∧ fieldOf m 22 1 < 2 ∧ fieldOf m 23 1 = 0 ∧
    m.length = if write = true then 24 + 4 * n else 24

/-- MMP_PERM lets the host read, or write, a word (R529). -/
def HostMay (s : State) (write : Bool) (a : Nat) : Prop :=
  let b := (a - 0x20000000) / 2 ^ 20
  let perm := (s.sys.dev.reg R.MMP_PERM).toNat / 4 ^ b % 4
  0x20000000 ≤ a ∧ b < 14 ∧ (write = false → perm = 1 ∨ perm = 2) ∧
    (write = true → perm = 2 ∧ a ∉ [R.MMP_PERM, R.MMP_CFG, R.ETH_RX_BASE, R.ETH_RX_HEAD, R.ETH_RX_TAIL, R.ETH_TX_BASE, R.ETH_TX_HEAD, R.ETH_TX_TAIL])

/-- Words read in order from u, up to the first error response: the bytes read, the index of that word, and the state. -/
def HostReads : List Nat → Nat → State → List (BitVec 8) → Option Nat → State → Prop
  | [], _, u, out, err, t => out = [] ∧ err = none ∧ t = u
  | a :: rest, i, u, out, err, t => ∃ y, let r := u.sys.regRead .host a
      y = { u with sys := r.2 } ∧ (r.1 = none → out = [] ∧ err = some i ∧ t = y) ∧
      (∀ v ∈ r.1, ∃ out', out = natBytes 4 v.toNat ++ out' ∧ HostReads rest (i + 1) y out' err t)

/-- Words written in order from u, up to the first error response; one that ends the session ends the rest. -/
def HostWrites (id : Nat) : List (Nat × BitVec 32) → Nat → State → Option Nat → State → Prop
  | [], _, u, err, t => err = none ∧ t = u
  | (a, v) :: rest, i, u, err, t => let r := u.sys.regWrite .host a v
      ((∀ σ ∈ sessOf u, σ.id ≠ id) → err = none ∧ t = u) ∧
      (∀ σ ∈ sessOf u, σ.id = id → (r.1 = false → err = some i ∧ t = { u with sys := r.2 }) ∧
        (r.1 = true → HostWrites id rest (i + 1) { u with sys := r.2 } err t))

/-! ### The pair (R540–R568) -/

/-- A field of TWIN_STATUS; the TWIN island running on a device of a pair; the partner heard (R539, R548). -/
def twinFld (s : State) (f : Fld) : Nat := fldOf s R.TWIN_STATUS f
def TwinRuns (s : State) : Prop := s.sys.dev.answers 71 = true ∧ twinFld s F.TWIN_STATUS.PAIR_MODE = 1
def PartnerHeard (s : State) : Prop := twinFld s F.TWIN_STATUS.LINK = 1 ∨ twinFld s F.TWIN_STATUS.PIN = 1

/-- A joined SHADOW, and the LEAD, each with its TWIN island running (R540). -/
def ShadowJoined (s : State) : Prop := TwinRuns s ∧ twinFld s F.TWIN_STATUS.ROLE = 2 ∧ twinFld s F.TWIN_STATUS.JOINED = 1
def Leads (s : State) : Prop := TwinRuns s ∧ twinFld s F.TWIN_STATUS.ROLE = 1

/-- The pair's own state changed, and the records sent to the partner since s. -/
def onTwin (s : State) (f : TwinCtx → TwinCtx) : State := s.onDev (fun d => { d with twin := f d.twin })
def toldSince (s t : State) : List TwinTx := t.sys.dev.twin.tx.drop s.sys.dev.twin.tx.length

/-- The device stands aside; its gate is open; it is healthy (R541, R543). -/
def asideAt (s : State) : Nat := fldOf s R.TWIN_CTL F.TWIN_CTL.STAND_ASIDE
def GateOpen (s : State) : Prop := fldOf s R.SEC_BOOT_STATUS F.SEC_BOOT_STATUS.GATE = 1
def healthyAt (s : State) : Bool :=
  decide (fldOf s R.SEC_BOOT_STATUS F.SEC_BOOT_STATUS.GATE = 1 ∧ fldOf s R.SEC_BOOT_STATUS F.SEC_BOOT_STATUS.MODE ≤ 1 ∧
    fldOf s R.UCR_FW_READY F.UCR_FW_READY.READY = 1)

/-- The device has role r; a change of it is shown, and one to ORPHAN is counted (R540, R575). -/
def RoleNow (s t : State) (r : Nat) : Prop :=
  twinFld t F.TWIN_STATUS.ROLE = r ∧ (twinFld s F.TWIN_STATUS.ROLE ≠ r → fldOf t R.TWIN_EVENT F.TWIN_EVENT.ROLE_CHANGE = 1 ∧
    (r = 3 → CountedAt s t R.TWIN_TAKEOVER_CNT F.TWIN_TAKEOVER_CNT.COUNT))
def RoleKept (s t : State) : Prop := twinFld t F.TWIN_STATUS.ROLE = twinFld s F.TWIN_STATUS.ROLE

/-- The body of the heartbeat the device sends (R547): STATE, COOL, POWER, ACT, PUMP_STOP and LAST_FS_SEQ. -/
def hbBody (s : State) : TwinTx :=
  let cool (f : Fld) := fldOf s R.CL_MODE f
  let tray (f : Fld) := fldOf s R.TR_STAT f
  let stopped (c : Nat) : Bool := (List.range 8).any (fun l => loopFld s l F.CL_LK_STAT.LATCHED == 1 && chanOn s (R.CL_LK_A l) F.CL_LK_A.PUMPS c)
  .hb (twinFld s F.TWIN_STATUS.ROLE + 4 * twinFld s F.TWIN_STATUS.JOINED + 8 * (healthyAt s).toNat +
      16 * twinFld s F.TWIN_STATUS.SOLO + 32 * asideAt s)
    (cool F.CL_MODE.FANS_PROVEN + 2 * cool F.CL_MODE.FAIL_OVR + 4 * cool F.CL_MODE.LEAK_OVR + 8 * cool F.CL_MODE.FAULT_OVR +
      16 * cool F.CL_MODE.SAFE_HOT)
    (tray F.TR_STAT.VIN_LOW + 2 * tray F.TR_STAT.FORCING + 4 * tray F.TR_STAT.HOLD_OK)
    (fldOf s R.SEC_ACT_STAT F.SEC_ACT_STAT.STATE)
    (((List.range 12).map (fun c => (stopped c).toNat * 2 ^ c)).sum)
    (if twinFld s F.TWIN_STATUS.ROLE = 2 then s.sys.dev.twin.leadFs else s.sys.dev.fs.nextSeq - 1)

/-- This device takes the place of the lower PAIR_ID (R541). -/
def TakesLower (s : State) (h : Heartbeat) : Prop :=
  let id := twinFld s F.TWIN_STATUS.PAIR_ID
  (id = 0 ∧ h.pairId = true) ∨
    (id = h.pairId.toNat ∧ bytesNatBe ((List.range 8).flatMap (fun i => natBytes 4 (s.sys.dev.reg (R.SEC_ID_PUB_X i)).toNat)) < h.pubX.toNat)

/-- Every sequencer is ON, OFF or FORCED_OFF, and none is still to start over running rails (R574). -/
def JoinMayBegin (s : State) : Prop :=
  ∀ i : Fin 9, (pwrOf s i = 0 ∨ pwrOf s i = 2 ∨ pwrOf s i = 4) ∧ s.sys.dev.twin.takeover[i] = false

/-- SQ_RAIL_EN and SQ_BAY_OUT of a sequencer (R328, R340), and a bit of an off line or of TRAY_KILL_N asserted (R553, R555). -/
def enAt (s : State) (i : Fin 9) : Nat := fldOf s (R.SQ_RAIL_ST i.val) F.SQ_RAIL_ST.EN
def outAt (s : State) (i : Fin 9) : Nat := fldOf s (R.SQ_BAYSIG i.val) F.SQ_BAYSIG.OUT
def OffLine (t : State) (i : Fin 9) : Prop :=
  (i = 8 → t.sys.dev.tray.killOut = true) ∧ (i ≠ 8 → t.sys.dev.seqs[i].hwOff = true)

/-- Every output stays at its value (R565). -/
def OutputsKept (s t : State) : Prop := ∀ i : Fin 9, enAt t i = enAt s i ∧ outAt t i = outAt s i

/-- A change has been made on this device (R551, R552). -/
def Applied (s t : State) (i : Fin 9) : SeqChange → Prop
  | .en v => enAt t i = v % (if i = 8 then 65536 else 256) ∧ outAt t i = outAt s i
  | .out v => enAt t i = enAt s i ∧ (i ≠ 8 → outAt t i = v % 16)
  | .pwr v => enAt t i = enAt s i ∧ outAt t i = outAt s i ∧ pwrOf t i = v % 8

/-- A change toward the reset state: each bit it changes goes to its reset value, rails off and SQ_BAY_OUT 0x0B (R552). -/
def TowardReset (s : State) (i : Fin 9) : SeqChange → Prop
  | .en v => ∀ c : Fin 16, (v % (if i = 8 then 65536 else 256)).testBit c.val = true → (enAt s i).testBit c.val = true
  | .out v => ∀ c : Fin 4, (v % 16).testBit c.val ≠ (outAt s i).testBit c.val → (v % 16).testBit c.val = Nat.testBit 0x0B c.val
  | .pwr _ => True

/-- The survivor takes a sequencer over (R565): from UP or ON at entry 0, from DOWN at entry 1, its START acting or held; OFF and
FORCED_OFF ones stay. -/
def TakenOver (s t : State) (i : Fin 9) : Prop :=
  let e : Eng := .seq i
  let st := fldOf t (R.ENG_STATUS e.win) F.ENG_STATUS.STATE
  (pwrOf s i = 0 ∨ pwrOf s i = 4 → pwrOf t i = pwrOf s i) ∧
  (1 ≤ pwrOf s i → pwrOf s i ≤ 3 → fldOf t (R.ENG_CTL e.win) F.ENG_CTL.ENTRY = (if pwrOf s i = 3 then 1 else 0) ∧
    (fldOf t (R.ENG_CTL e.win) F.ENG_CTL.PEND = 1 ∨ st = 1 ∨ fldOf t (R.ENG_STATUS e.win) F.ENG_STATUS.START_REJ = 1) ∧
    s.sys.dev.engIdle e = true) ∧
  (i = 8 → pwrOf s 8 = 2 → pwrOf t 8 = 1)

/-- The STEP with an identifier that waits for its ACK, and the pair's state without it (R552). -/
def waitingStep (s : State) (id : Nat) : Option StepPend := s.sys.dev.twin.steps.find? (fun p => p.id == id)
def stepTaken (s : State) (id : Nat) : State := onTwin s (fun t => { t with steps := t.steps.filter (fun p => p.id != id) })

/-- The program of a sequencer waits for the ACK of its write. -/
def HeldOnStep (s : State) (i : Fin 9) : Prop := (s.sys.dev.eng (.seq i)).hold = .step

/-- A bay's part of a MIRROR record holds (R560, R567). -/
def WitMirrored (t : State) (m : MirrorWit) : Prop :=
  let w := witAt t m.bay
  epochAt t m.bay = m.epoch.toNat ∧ sealedAt t m.bay = m.sealedTo.map (·.toNat) ∧ (∀ o ∈ m.openedTo, openedAt t m.bay = o.toNat) ∧
    w.firstStep = m.first.toNat ∧ w.epochSeed = m.seed ∧ w.job = m.job.toNat ∧ w.sent = (m.mode.toNat, m.lag.toNat, m.shift.toNat) ∧
    w.seals = m.seeds.map (fun p => (p.1.toNat, p.2))

/-- A sequencer's part of a MIRROR record holds (R551). -/
def SeqMirrored (t : State) (m : MirrorSeq) : Prop :=
  enAt t m.seq = m.en.toNat % (if m.seq = 8 then 65536 else 256) ∧ (m.seq ≠ 8 → outAt t m.seq = m.out.toNat) ∧ pwrOf t m.seq = m.pwr.toNat

/-- A keyed write of TWIN reaches it (R25). -/
def TwinWritable (s : State) (who : Initiator) : Prop :=
  s.sys.dev.answers 71 = true ∧ match who with
    | .core c => s.sys.dev.answers (42 + c.val) = true
    | .sec => s.sys.dev.answers 39 = true
    | .host => True
    | .eng e => s.sys.dev.answers e.island = true

/-- SWAP is refused (R542, R574). -/
def SwapRefused (s : State) : Prop :=
  twinFld s F.TWIN_STATUS.ROLE ≠ 1 ∨ twinFld s F.TWIN_STATUS.JOINED = 0 ∨ twinFld s F.TWIN_STATUS.PARTNER_JOINED = 0 ∨
    twinFld s F.TWIN_STATUS.LINK = 0 ∨ (1 ≤ actState s ∧ actState s ≤ 3) ∨
    (1 ≤ s.sys.dev.twin.partner.2.2.2.1 ∧ s.sys.dev.twin.partner.2.2.2.1 ≤ 3) ∨
    ∃ b : Bay, bayFld s R.WIT_STAT b F.WIT_STAT.FAULTED = 1

/-! ### What no command undoes (R282, R437) -/

/-- Every bit that x holds, y holds. -/
def BitsIn {w : Nat} (x y : BitVec w) : Prop := ∀ k, x.getLsbD k = true → y.getLsbD k = true

/-- Of the fuses f every bit that is blown is blown in f' too; those blown at manufacture are as they were (R437). -/
def FusesKept (f f' : Fuses) : Prop :=
  f'.idSeed = f.idSeed ∧ f'.fields.debugClosed = f.fields.debugClosed ∧
    (∀ k : Fin 8, BitsIn f.fields.keyHash[k] f'.fields.keyHash[k]) ∧
    (∀ k : Fin 8, k.val < 4 → f'.fields.keyHash[k] = f.fields.keyHash[k] ∧
      f'.fields.keySet.getLsbD k.val = f.fields.keySet.getLsbD k.val) ∧
    BitsIn f.fields.keySet f'.fields.keySet ∧ BitsIn f.fields.revoke f'.fields.revoke ∧
    BitsIn f.fields.arb0 f'.fields.arb0 ∧ BitsIn f.fields.arb1 f'.fields.arb1

/-- The device holds the fuses f with every bit of them, an OTP patch, and a Flowstone log that goes on from l. -/
def HoldsForGood (f : Fuses) (otp : List (BitVec 8)) (l : List FsSlot) (s : State) : Prop :=
  FusesKept f s.sys.nv.fuses ∧ s.sys.nv.otp = otp ∧ l <+: s.sys.nv.fsLog
end Sys2Proof.Claims

open Sys2Proof Sys2Proof.Machine Sys2Proof.Claims

/-- A step takes the command at the front of the queue and carries it out over the rest of the queue (assumption log 1 gives
the queue, which is the model's own). -/
def Obligations.StepRunsFrontCommand : Prop :=
  ∀ (c : Instr) (s : State), step (front c s) = exec c s

/-- Every command answers a next state and leaves the queue of waiting commands as it was. -/
def Obligations.EveryCommandKeepsQueue : Prop :=
  ∀ (c : Instr) (s : State), ∃ t, exec c s = .next t ∧ t.pending = s.pending

/-- R49, R51, R45: the three-register ALU instructions, on every profile, with their frame: nothing else changes. Model's own
readings: log entry 8. Model's own readings: log entry 8. -/
def Obligations.AluThreeRegisterResult : Prop :=
  ∀ ins f, (ins, f) ∈ aluTable → ∀ (x : Issue) (rd rs1 rs2 : BitVec 5) (s : State),
    (IssuesE s x [rs1.toNat, rs2.toNat] → rd.toNat < 16 → rs1.toNat < 16 → rs2.toNat < 16 →
      exec (ins x rd rs1 rs2) s =
        .next (doneE s x.unit (writesE rd (BitVec.ofInt 32 (f 32 (g32 s x.unit rs1) (g32 s x.unit rs2)))))) ∧
    (∀ c, IssuesM s x c →
      exec (ins x rd rs1 rs2) s = .next (doneM s c (writesM rd (BitVec.ofInt 64 (f 64 (g64 s c rs1) (g64 s c rs2))))))

/-- R49, R50, R51: the ALU instructions with an immediate. Model's own readings: log entry 8. -/
def Obligations.AluImmediateResult : Prop :=
  ∀ ins f sg, (ins, f, sg) ∈ immTable → ∀ (x : Issue) (rd rs1 : BitVec 5) (imm : BitVec 16) (s : State),
    (IssuesE s x [rs1.toNat] → rd.toNat < 16 → rs1.toNat < 16 →
      exec (ins x rd rs1 imm) s =
        .next (doneE s x.unit (writesE rd (BitVec.ofInt 32 (f 32 (g32 s x.unit rs1) (extend 32 sg imm)))))) ∧
    (∀ c, IssuesM s x c →
      exec (ins x rd rs1 imm) s = .next (doneM s c (writesM rd (BitVec.ofInt 64 (f 64 (g64 s c rs1) (extend 64 sg imm))))))

/-- R52: LUI on every profile. Model's own readings: log entry 8. -/
def Obligations.LuiResult : Prop :=
  ∀ (x : Issue) (rd : BitVec 5) (imm : BitVec 21) (s : State),
    (IssuesE s x [] → rd.toNat < 16 →
      exec (.lui x rd imm) s = .next (doneE s x.unit (writesE rd (BitVec.ofNat 32 (imm.toNat * 2 ^ 11))))) ∧
    (∀ c, IssuesM s x c →
      exec (.lui x rd imm) s =
        .next (doneM s c (writesM rd ((BitVec.ofNat 32 (imm.toNat * 2 ^ 11)).signExtend 64))))

/-- R59, R62, R63: the conditional branches, taken and not taken, and the exception of a taken branch to a target that it may
not go to. Model's own readings: log entry 8. -/
def Obligations.BranchResult : Prop :=
  ∀ ins cond, (ins, cond) ∈ branchTable → ∀ (x : Issue) (rs1 rs2 : BitVec 5) (off : BitVec 16) (s : State),
    (IssuesE s x [rs1.toNat, rs2.toNat] → rs1.toNat < 16 → rs2.toNat < 16 →
      ∃ t, exec (ins x rs1 rs2 off) s = .next t ∧
        if cond 32 (g32 s x.unit rs1) (g32 s x.unit rs2) = true
        then JumpsE s t x.unit (pcE s x.unit + 4 * off.toInt) id
        else t = doneE s x.unit (fun c => { c with pc := c.pc + 4 })) ∧
    (∀ c, IssuesM s x c →
      ∃ t, exec (ins x rs1 rs2 off) s = .next t ∧
        if cond 64 (g64 s c rs1) (g64 s c rs2) = true
        then JumpsM s t c (pcM s c + BitVec.ofInt 64 (4 * off.toInt)) id
        else t = doneM s c (fun m => { m with pc := m.pc + 4#64 }))

/-- R60, R61, R62, R63: JAL and JALR link and jump; JALR forms its target from the old gs1. Model's own readings: log entry
8. -/
def Obligations.JumpAndLinkResult : Prop :=
  ∀ (x : Issue) (rd rs1 : BitVec 5) (off : BitVec 21) (imm : BitVec 16) (s : State),
    (rd.toNat < 16 → rs1.toNat < 16 →
      (IssuesE s x [] → ∃ t, exec (.jal x rd off) s = .next t ∧
        JumpsE s t x.unit (pcE s x.unit + 4 * off.toInt) (fun c => c.setG rd.toNat (BitVec.ofNat 32 (c.pc + 4)))) ∧
      (IssuesE s x [rs1.toNat] → ∃ t, exec (.jalr x rd rs1 imm) s = .next t ∧
        JumpsE s t x.unit (addrE s x.unit rs1 imm) (fun c => c.setG rd.toNat (BitVec.ofNat 32 (c.pc + 4))))) ∧
    (∀ c, IssuesM s x c →
      (∃ t, exec (.jal x rd off) s = .next t ∧
        JumpsM s t c (pcM s c + BitVec.ofInt 64 (4 * off.toInt)) (fun m => m.setG rd.toNat (m.pc + 4#64))) ∧
      (∃ t, exec (.jalr x rd rs1 imm) s = .next t ∧
        JumpsM s t c (BitVec.ofNat 64 (addrM s c rs1 imm)) (fun m => m.setG rd.toNat (m.pc + 4#64))))

/-- R53, R54, R47, R55: loads of every width zero-extend what memory holds, least significant byte first, and change nothing
but gd; an engine's load outside its local data raises ILLEGAL. Model's own readings: log entries 7, 8. -/
def Obligations.LoadResult : Prop :=
  ∀ ins n, (ins, n) ∈ loadTable → ∀ (x : Issue) (rd rs1 : BitVec 5) (imm : BitVec 16) (s : State),
    (n < 8 → IssuesE s x [rs1.toNat] → rd.toNat < 16 → rs1.toNat < 16 →
      (∀ e, x.unit = .eng e → InLocal (addrE s x.unit rs1 imm) n →
        exec (ins x rd rs1 imm) s = .next (doneE s x.unit (writesE rd
          (BitVec.ofNat 32 (littleEndian (s.sys.dev.eng e).data (addrE s x.unit rs1 imm).toNat n))))) ∧
      (∀ e, x.unit = .eng e → ¬ InLocal (addrE s x.unit rs1 imm) n →
        exec (ins x rd rs1 imm) s = .next (faultE s x.unit .illegal)) ∧
      (x.unit = .sec → InPrivate (addrE s .sec rs1 imm) n →
        exec (ins x rd rs1 imm) s = .next (doneE s .sec (writesE rd
          (BitVec.ofNat 32 (littleEndian s.sys.dev.sec.ctx.data (addrE s .sec rs1 imm).toNat n)))))) ∧
    (∀ c, IssuesM s x c → x.path = .clean → ReachesM s c .read (addrM s c rs1 imm) n →
      s.sys.dev.poisonedRange (addrM s c rs1 imm) n = false →
      exec (ins x rd rs1 imm) s = .next (doneM s c (writesM rd
        (BitVec.ofNat 64 (littleEndian s.sys.dev.mem (addrM s c rs1 imm) n)))))

/-- R53, R54, R47, R55, R295: stores of every width write the low bytes of gs2, least significant byte first, and no other
byte; an engine's store outside its local data raises ILLEGAL. Model's own readings: log entry 8. -/
def Obligations.StoreResult : Prop :=
  ∀ ins n, (ins, n) ∈ storeTable → ∀ (x : Issue) (rs2 rs1 : BitVec 5) (imm : BitVec 16) (s : State),
    (n < 8 → IssuesE s x [rs2.toNat, rs1.toNat] → rs2.toNat < 16 → rs1.toNat < 16 →
      (∀ e, x.unit = .eng e → InLocal (addrE s x.unit rs1 imm) n →
        ∃ m, exec (ins x rs2 rs1 imm) s = .next (doneE s x.unit (fun c => { c with data := m, pc := c.pc + 4 })) ∧
          StoredAt (s.sys.dev.eng e).data m (addrE s x.unit rs1 imm).toNat n (g32 s x.unit rs2).toNat) ∧
      (∀ e, x.unit = .eng e → ¬ InLocal (addrE s x.unit rs1 imm) n →
        exec (ins x rs2 rs1 imm) s = .next (faultE s x.unit .illegal)) ∧
      (x.unit = .sec → InPrivate (addrE s .sec rs1 imm) n →
        ∃ m, exec (ins x rs2 rs1 imm) s = .next (doneE s .sec (fun c => { c with data := m, pc := c.pc + 4 })) ∧
          StoredAt s.sys.dev.sec.ctx.data m (addrE s .sec rs1 imm).toNat n (g32 s .sec rs2).toNat)) ∧
    (∀ c, IssuesM s x c → x.path = .clean → ReachesM s c .write (addrM s c rs1 imm) n →
      inReserved (addrM s c rs1 imm) = false → NoWindow s (addrM s c rs1 imm) n →
      ∃ m, exec (ins x rs2 rs1 imm) s =
          .next (doneM (s.onDev (fun d => { d with mem := m })) c (fun k => { k with pc := k.pc + 4#64 })) ∧
        StoredAt s.sys.dev.mem m (addrM s c rs1 imm) n (g64 s c rs2).toNat)

/-- R107: SWAP and CAS read the 8 bytes at gs1 into gd and write gs2 there, CAS only where the bytes equal the old gd.
Model's own readings: log entry 8. -/
def Obligations.AtomicResult : Prop :=
  ∀ (x : Issue) (rd rs1 rs2 : BitVec 5) (s : State) (c : Fin 4), IssuesM s x c → x.path = .clean →
    ReachesM s c .write (g64 s c rs1).toNat 8 → inReserved (g64 s c rs1).toNat = false →
    NoWindow s (g64 s c rs1).toNat 8 → s.sys.dev.poisoned (g64 s c rs1).toNat = false →
    let old := BitVec.ofNat 64 (littleEndian s.sys.dev.mem (g64 s c rs1).toNat 8)
    (∃ m, exec (.swap x rd rs1 rs2 0#11) s = .next (doneM (s.onDev (fun d => { d with mem := m })) c (writesM rd old)) ∧
      StoredAt s.sys.dev.mem m (g64 s c rs1).toNat 8 (g64 s c rs2).toNat) ∧
    (old ≠ g64 s c rd → exec (.cas x rd rs1 rs2 0#11) s = .next (doneM s c (writesM rd old))) ∧
    (old = g64 s c rd →
      ∃ m, exec (.cas x rd rs1 rs2 0#11) s = .next (doneM (s.onDev (fun d => { d with mem := m })) c (writesM rd old)) ∧
        StoredAt s.sys.dev.mem m (g64 s c rs1).toNat 8 (g64 s c rs2).toNat)

/-- R93, R96, R89: what an exception with a stated TVAL does to a management core, and the codes CAUSE takes; nothing else
changes. Model's own readings: log entry 8. -/
def Obligations.CoreExceptionEntry : Prop :=
  (∀ (s : State) (c : Fin 4) (cause : Cause) (tval : BitVec 64), NoHostProgram s c →
    trapM s c cause tval = exceptionM s c cause.code tval) ∧
  [Cause.none, .illegal, .privilege, .portDenied, .fetchFault, .loadFault, .storeFault, .misaligned, .busError, .poison,
    .parity, .watchdog, .trap, .userHalt].map Cause.code = List.range 14

/-- R90, R46, R48: an instruction that names a register an engine does not have, and one its profile lacks, raise ILLEGAL; a
witness engine then stands FAULTED with the cause code and the address of the instruction, no other register of the control
window changed. Model's own readings: log entries 8, 12, 13. -/
def Obligations.EngineIllegalFaults : Prop :=
  (∀ ins f, (ins, f) ∈ aluTable → ∀ (x : Issue) (rd rs1 rs2 : BitVec 5) (s : State), IssuesE s x [rs1.toNat, rs2.toNat] →
    16 ≤ rd.toNat ∨ 16 ≤ rs1.toNat ∨ 16 ≤ rs2.toNat → exec (ins x rd rs1 rs2) s = .next (faultE s x.unit .illegal)) ∧
  (∀ (x : Issue) (rd rs1 rs2 : BitVec 5) (imm : BitVec 16) (port : BitVec 12) (s : State),
    (∀ c, x.unit ≠ .core c) → s.sys.dev.unitRuns x.unit = true → x.parity = false →
    ∀ i ∈ [Instr.ldd x rd rs1 imm, .std x rd rs1 imm, .swap x rd rs1 rs2 0#11, .cas x rd rs1 rs2 0#11, .retx x 0#5 0#5 0#5,
      .sysw x 0#5 rs1 port 0#4], exec i s = .next (faultE s x.unit .illegal)) ∧
  (∀ (s : State) (n : Bay) (c : Cause),
    Faulted (faultE s (.eng (.wit n)) c) (.wit n) c.code (pcE s (.eng (.wit n))) ∧
    ∀ a, a ≠ R.ENG_STATUS (Eng.wit n).win → a ≠ R.ENG_FAULT (Eng.wit n).win →
      (faultE s (.eng (.wit n)) c).sys.dev.reg a = s.sys.dev.reg a)

/-- R84, R85: TRAP posts its code to an engine's outbound mailbox with the tag bit set, or counts it lost, and is an
exception on a core; HALT ends an engine's program, stops the security core, holds a supervisor core for an interrupt enabled
in IE, and is USER_HALT in user mode. Model's own readings: log entry 8. -/
def Obligations.TrapAndHaltResult : Prop :=
  ∀ (x : Issue) (s : State),
    (IssuesE s x [] →
      (∀ imm : BitVec 16, exec (.trap x 0#5 0#5 imm) s = .next (doneE s x.unit (fun c =>
        if c.mboxOut.length < 16 then { c with mboxOut := c.mboxOut ++ [(BitVec.ofNat 32 imm.toNat, true)], pc := c.pc + 4 }
        else { c with mboxLost := true, pc := c.pc + 4 }))) ∧
      (∀ e, x.unit = .eng e → (∀ i, e ≠ .seq i) → (∀ i, e ≠ .cool i) → s.sys.dev.pend e = false →
        exec (.halt x 0#5 0#5 0#5) s = .next (s.onDev (fun d =>
          (d.setFld (R.ENG_STATUS e.win) F.ENG_STATUS.STATE 0).setEng e
            { d.eng e with toff := true, instret := (d.eng e).instret + 1 }))) ∧
      (x.unit = .sec → ∃ t, exec (.halt x 0#5 0#5 0#5) s = .next t ∧ t.sys.dev.sec.stopped = true ∧
        t.sys.dev.regs = s.sys.dev.regs ∧ t.sys.nv = s.sys.nv)) ∧
    (∀ c, IssuesM s x c →
      (∀ imm : BitVec 16, exec (.trap x 0#5 0#5 imm) s = .next (trapM s c .trap (BitVec.ofNat 64 imm.toNat))) ∧
      (let s' := s.onDev (·.passCore c)
       if s.sys.dev.cores[c].priv = false then
         exec (.halt x 0#5 0#5 0#5) s = .next (s'.onSys (fun y => y.mTrap c .userHalt s.sys.dev.cores[c].pc none))
       else exec (.halt x 0#5 0#5 0#5) s = .next (doneM s' c (fun m =>
         if s'.sys.dev.intPending c = true ∧ m.intEnable = false then { m with pc := m.pc + 4#64 }
         else { m with hold := .halt }))))

/-- R94, R86, R88: RETX on a core; FENCE on a core, and on a unit whose queue of G instructions is empty. Model's own
readings: log entry 8. Model's own readings: log entry 8. -/
def Obligations.RetxAndFenceResult : Prop :=
  ∀ (x : Issue) (s : State),
    (∀ c, IssuesM s x c →
      (s.sys.dev.cores[c].priv = true → exec (.retx x 0#5 0#5 0#5) s = .next (doneM s c (fun m => { m with
        pc := m.epc
        status := BitVec.ofNat 64 ((m.status.getLsbD 3).toNat + 2 * (m.status.getLsbD 2).toNat +
          4 * (m.status.getLsbD 2).toNat + 8 * (m.status.getLsbD 3).toNat) }))) ∧
      (s.sys.dev.cores[c].priv = false → exec (.retx x 0#5 0#5 0#5) s =
        .next (s.onSys (fun y => y.mTrap c .privilege s.sys.dev.cores[c].pc none))) ∧
      exec (.fence x 0#5 0#5 0#5) s = .next (doneM s c (fun m => { m with pc := m.pc + 4#64 }))) ∧
    (IssuesE s x [] → (∀ g, x.unit = .eng (.gc g) → s.sys.dev.gcs[g].queue = []) →
      exec (.fence x 0#5 0#5 0#5) s = .next (doneE s x.unit (fun c => { c with pc := c.pc + 4 })))

/-- R97, R99, R100: SYSR reads and SYSW writes the system registers that hold a value; CORE_ID; the registers user mode may
read; a number that does not exist is ILLEGAL with the instruction word as TVAL. Model's own readings: log entries 8, 15. -/
def Obligations.SystemRegisterAccess : Prop :=
  ∀ (x : Issue) (rd rs : BitVec 5) (n : BitVec 12) (s : State) (c : Fin 4), IssuesM s x c →
    (∀ get put, (n.toNat, get, put) ∈ sysTable →
      (s.sys.dev.cores[c].priv = true ∨ n = 0x011#12 →
        exec (.sysr x rd 0#5 n 0#4) s = .next (doneM s c (fun m => writesM rd (get m) m))) ∧
      (s.sys.dev.cores[c].priv = true → s.sys.dev.boot.phase ≠ .verified →
        exec (.sysw x 0#5 rs n 0#4) s = .next (doneM s c (fun m => { put (m.g rs.toNat) m with pc := m.pc + 4#64 }))) ∧
      (s.sys.dev.cores[c].priv = false → n ≠ 0x011#12 →
        exec (.sysr x rd 0#5 n 0#4) s = .next (s.onSys (fun y => y.mTrap c .privilege s.sys.dev.cores[c].pc none)))) ∧
    (n = 0x000#12 → exec (.sysr x rd 0#5 n 0#4) s = .next (doneM s c (writesM rd (BitVec.ofNat 64 (0x100 + c.val))))) ∧
    (s.sys.dev.cores[c].priv = false → n.toNat ∈ sysNumbers →
      exec (.sysw x 0#5 rs n 0#4) s = .next (s.onSys (fun y => y.mTrap c .privilege s.sys.dev.cores[c].pc none))) ∧
    (n.toNat ∉ sysNumbers →
      exec (.sysr x rd 0#5 n 0#4) s = .next (trapM s c .illegal ((wordP 0x28#6 rd 0#5 n 0#4).zeroExtend 64)) ∧
      exec (.sysw x 0#5 rs n 0#4) s = .next (trapM s c .illegal ((wordP 0x29#6 0#5 rs n 0#4).zeroExtend 64)))

/-- R87, R97: an engine reads the low 32 bits of its INSTRET and of its CYCLE, which has moved on by a free lapse (assumption
log 4); R104, R106: a supervisor's write of a protection register, locked or not. Model's own readings: log entries 4, 15. -/
def Obligations.EngineCountersAndProtectionWrite : Prop :=
  (∀ (x : Issue) (rd : BitVec 5) (s : State), IssuesE s x [] → rd.toNat < 16 →
    exec (.sysr x rd 0#5 0x011#12 0#4) s =
      .next (doneE s x.unit (fun c => writesE rd (BitVec.ofNat 32 c.instret) c)) ∧
    exec (.sysr x rd 0#5 0x010#12 0#4) s =
      .next (doneE (s.onDev (fun d => { d with freeCtr := d.freeCtr + 1 })) x.unit (fun c =>
        writesE rd (BitVec.ofNat 32 (c.cycle + Config.freeElapsed s.sys.dev.freeCtr))
          { c with cycle := c.cycle + Config.freeElapsed s.sys.dev.freeCtr }))) ∧
  (∀ (x : Issue) (rs : BitVec 5) (i : Fin 16) (s : State) (c : Fin 4), IssuesM s x c → s.sys.dev.cores[c].priv = true →
    s.sys.dev.boot.phase ≠ .verified →
    let after (p : Pru) : State := doneM (s.onDev (fun d => { d with pru := p })) c (fun m => { m with pc := m.pc + 4#64 })
    let p := s.sys.dev.pru
    let v := g64 s c rs
    if (p.attr[i]).getLsbD 7 = true ∨ p.ctl.getLsbD 1 = true then
      ∀ n ∈ [0x100, 0x110, 0x120], exec (.sysw x 0#5 rs (BitVec.ofNat 12 (n + i.val)) 0#4) s =
        .next (after { p with ctl := BitVec.ofNat 64 (p.ctl.toNat % 65536 + min (p.ctl.toNat / 65536 % 65536 + 1) 65535 * 65536) })
    else
      exec (.sysw x 0#5 rs (BitVec.ofNat 12 (0x100 + i.val)) 0#4) s =
        .next (after { p with base := p.base.set i.val (v &&& 0xFFFFFFFFF000#64) }) ∧
      exec (.sysw x 0#5 rs (BitVec.ofNat 12 (0x110 + i.val)) 0#4) s =
        .next (after { p with limit := p.limit.set i.val (v &&& 0xFFFFFFFFF000#64) }) ∧
      exec (.sysw x 0#5 rs (BitVec.ofNat 12 (0x120 + i.val)) 0#4) s =
        .next (after { p with attr := p.attr.set i.val (v &&& 0xFF#64) }))

/-- R65, R66, R67: IN of the common ports that a read does not change, of MBOX_IN, whose read takes the oldest word, and of a
pack variable; IN of a core's ENGINE_ID and of its pack variables in memory (R74). Model's own readings: log entries 8, 12.
-/
def Obligations.PortReadResult : Prop :=
  ∀ (x : Issue) (rd : BitVec 5) (p : BitVec 12) (s : State),
    (IssuesE s x [] → rd.toNat < 16 →
      (∀ v, commonValue s x.unit p.toNat = some v →
        exec (.inPort x rd 0#5 p 0#4) s = .next (doneE s x.unit (writesE rd v))) ∧
      exec (.inPort x rd 0#5 0x004#12 0#4) s = .next (doneE s x.unit (fun c =>
        writesE rd (c.mboxIn.headD 0#32) { c with mboxIn := c.mboxIn.tail })) ∧
      (∀ e, x.unit = .eng e → 0x40 ≤ p.toNat → p.toNat < 0x100 →
        exec (.inPort x rd 0#5 p 0#4) s = .next (doneE s x.unit (writesE rd
          (if p.toNat - 0x40 < s.sys.dev.fld (R.ENG_PROG_INFO e.win) F.ENG_PROG_INFO.VAR_COUNT
           then s.sys.dev.reg (e.win + 0x100 + 4 * (p.toNat - 0x40)) else 0#32))))) ∧
    (∀ c, IssuesM s x c →
      exec (.inPort x rd 0#5 0x008#12 0#4) s = .next (doneM s c (writesM rd (BitVec.ofNat 64 (0x10008 + 256 * c.val)))) ∧
      (0x40 ≤ p.toNat → p.toNat < 0x100 →
        ReadsM s c (s.sys.dev.cores[c].pvbase.toNat + 4 * (p.toNat - 0x40)) 4 →
        exec (.inPort x rd 0#5 p 0#4) s = .next (doneM s c (writesM rd (BitVec.ofNat 64
          (littleEndian s.sys.dev.mem (s.sys.dev.cores[c].pvbase.toNat + 4 * (p.toNat - 0x40)) 4))))))

/-- R68, R71, R67: OUT to MBOX_OUT posts a word or counts it lost; OUT, BSET and BCLR on SELF_STATUS clear the bits written
as 1 as their access code says; OUT, BSET and BCLR on a read-write word of a bus engine's buffer write it, set its bits and
clear its bits. Model's own readings: log entries 8, 12. -/
def Obligations.PortWriteResult : Prop :=
  ∀ (x : Issue) (rs : BitVec 5) (s : State), IssuesE s x [rs.toNat] → rs.toNat < 16 →
    let g := g32 s x.unit rs
    let cleared : State := doneE s x.unit (fun c =>
      { c with xdown := c.xdown && !g.getLsbD 0, mboxLost := c.mboxLost && !g.getLsbD 1, pc := c.pc + 4 })
    exec (.outPort x 0#5 rs 0x006#12 0#4) s = .next (doneE s x.unit (fun c =>
      if c.mboxOut.length < 16 then { c with mboxOut := c.mboxOut ++ [(g, false)], pc := c.pc + 4 }
      else { c with mboxLost := true, pc := c.pc + 4 })) ∧
    exec (.outPort x 0#5 rs 0x001#12 0#4) s = .next cleared ∧
    exec (.bset x 0#5 rs 0x001#12 0#4) s = .next cleared ∧
    exec (.bclr x 0#5 rs 0x001#12 0#4) s = .next (doneE s x.unit (fun c => { c with pc := c.pc + 4 })) ∧
    (∀ (m : Fin 12) (p : BitVec 12), x.unit = .eng (.bus m) → 0x140 ≤ p.toNat → p.toNat < 0x180 →
      (∃ b, exec (.outPort x 0#5 rs p 0#4) s = .next (bufferWritten s m b) ∧
        StoredAt s.sys.dev.buses[m].buf b (4 * (p.toNat - 0x140)) 4 g.toNat) ∧
      (∃ b, exec (.bset x 0#5 rs p 0#4) s = .next (bufferWritten s m b) ∧
        StoredAt s.sys.dev.buses[m].buf b (4 * (p.toNat - 0x140)) 4
          (BitVec.ofNat 32 (bufferWord s m (p.toNat - 0x140)) ||| g).toNat) ∧
      (∃ b, exec (.bclr x 0#5 rs p 0#4) s = .next (bufferWritten s m b) ∧
        StoredAt s.sys.dev.buses[m].buf b (4 * (p.toNat - 0x140)) 4
          (BitVec.ofNat 32 (bufferWord s m (p.toNat - 0x140)) &&& ~~~g).toNat))

/-- R67: a port reserved or not defined for the unit, an access against the port's direction, and BSET and BCLR of a port
that is not both read and written raise PORT_DENIED. Model's own readings: log entries 8, 12. -/
def Obligations.PortDeniedFaults : Prop :=
  ∀ (x : Issue) (r : BitVec 5) (p : BitVec 12) (s : State), IssuesE s x [r.toNat] → r.toNat < 16 →
    ((p.toNat = 2 ∨ p.toNat = 6 ∨ (9 < p.toNat ∧ p.toNat < 0x40) ∨ (x.unit = .sec ∧ 0x100 ≤ p.toNat)) →
      exec (.inPort x r 0#5 p 0#4) s = .next (faultE s x.unit .portDenied) ∧
      exec (.bset x 0#5 r p 0#4) s = .next (faultE s x.unit .portDenied) ∧
      exec (.bclr x 0#5 r p 0#4) s = .next (faultE s x.unit .portDenied)) ∧
    ((p.toNat = 0 ∨ (3 ≤ p.toNat ∧ p.toNat ≤ 5) ∨ (7 ≤ p.toNat ∧ p.toNat < 0x100) ∨ (x.unit = .sec ∧ 0x100 ≤ p.toNat)) →
      exec (.outPort x 0#5 r p 0#4) s = .next (faultE s x.unit .portDenied))

/-- R75, R76, R77, R79: WAIT on a port that it may read: the first value and the first test are reads of the port; the
condition met gives gd = 0, a timeout of 0 gives all ones at once, and otherwise the unit is held; WAIT_CONDITION_MET tests
the port again; WAIT_TIMEOUT gives all ones unless the condition is met then, and a timeout of all ones never passes. Model's
own readings: log entries 4, 8. Model's own readings: log entries 4, 8. -/
def Obligations.WaitResult : Prop :=
  (∀ (x : Issue) (rd rs : BitVec 5) (p : BitVec 12) (cond : BitVec 4) (s : State) (i : PortInfo) (first v : BitVec 32)
      (y1 y2 : Sys), IssuesE s x [rd.toNat, rs.toNat, rs.toNat + 1] → rd.toNat < 16 → rs.toNat < 16 →
    cond.toNat ≤ 4 → (cond.toNat = 0 → rs.toNat ≠ 15) → portInfo x.unit p.toNat = some i → i.rd = true →
    ({ s.sys with dev := (s.sys.dev.readTimerE x.unit).2 } : Sys).portRead x.unit p.toNat = (.ok first, y1) →
    y1.portRead x.unit p.toNat = (.ok v, y2) → y2.dev.unitUp x.unit = true →
    let c := s.sys.dev.ectx x.unit
    let mask := c.g rs.toNat
    exec (.wait x rd rs p cond) s = .next (doneE { s with sys := y2 } x.unit (fun k =>
      if waitCond cond.toNat mask (c.g (rs.toNat + 1)) (first &&& mask) v then endsE rd.toNat 0#32 k
      else if c.g rd.toNat = 0#32 then endsE rd.toNat 0xFFFFFFFF#32 k
      else { k with hold := .wait { rd := rd.toNat, port := p.toNat, cond := cond.toNat, mask := mask, value := c.g (rs.toNat + 1),
                                    first := first &&& mask, start := (s.sys.dev.readTimerE x.unit).1,
                                    timeout := c.g rd.toNat } }))) ∧
  (∀ (u : EUnit) (s : State) (w : WaitCtx) (v : BitVec 32) (y : Sys), (∀ c, u ≠ .core c) →
    (s.sys.dev.ectx u).hold = .wait w → s.sys.portRead u w.port = (.ok v, y) →
    exec (.waitConditionMet u) s = .next (if waitCond w.cond w.mask w.value w.first v
      then onE { s with sys := y } u (endsE w.rd 0#32) else { s with sys := y })) ∧
  (∀ (u : EUnit) (s : State) (w : WaitCtx) (v : BitVec 32) (y : Sys), (∀ c, u ≠ .core c) → (∀ i, u ≠ .eng (.seq i)) →
    (s.sys.dev.ectx u).hold = .wait w → w.timeout ≠ 0xFFFFFFFF#32 →
    (onE s u (ticks w.timeout.toNat)).sys.portRead u w.port = (.ok v, y) →
    exec (.waitTimeout u) s = .next (onE { s with sys := y } u
      (endsE w.rd (if waitCond w.cond w.mask w.value w.first v then 0#32 else 0xFFFFFFFF#32)))) ∧
  (∀ (u : EUnit) (s : State) (w : WaitCtx), s.sys.dev.holdOf u = .wait w → w.timeout = 0xFFFFFFFF#32 →
    exec (.waitTimeout u) s = .next s)

/-- R81, R82: SLEEP and YIELD on an E- or G-profile unit and on a core; SLEEP_END by a word, by an interrupt or by time;
YIELD_RESUME at the next tick. What passed before a word came is a free lapse (assumption log 4). Model's own readings: log
entries 4, 15. Model's own readings: log entries 4, 15. -/
def Obligations.SleepAndYieldResult : Prop :=
  (∀ (x : Issue) (rd : BitVec 5) (s : State),
    (IssuesE s x [rd.toNat] → rd.toNat < 16 → exec (.sleep x rd 0#5 0#12 0#4) s = .next (doneE s x.unit (fun c =>
      if c.mboxIn ≠ [] ∨ c.g rd.toNat = 0#32 then { c with pc := c.pc + 4 }
      else { c with hold := .sleep rd.toNat (c.g rd.toNat) }))) ∧
    (∀ c, IssuesM s x c → let s' := s.onDev (·.passCore c)
      exec (.sleep x rd 0#5 0#12 0#4) s = .next (doneM s' c (fun m =>
        if s'.sys.dev.intPending c = true ∨ (m.g rd.toNat).truncate 32 = 0#32 then { m with pc := m.pc + 4#64 }
        else { m with hold := .sleep rd.toNat ((m.g rd.toNat).truncate 32) }))) ∧
    (IssuesE s x [] → exec (.yield x 0#5 0#5 0#5) s = .next (doneE s x.unit (fun c => { c with hold := .yield }))) ∧
    (∀ c, IssuesM s x c → exec (.yield x 0#5 0#5 0#5) s = .next (doneM s c (fun m => { m with pc := m.pc + 4#64 })))) ∧
  (∀ (u : EUnit) (s : State) (rd : Nat) (us : BitVec 32), (∀ c, u ≠ .core c) → (s.sys.dev.ectx u).hold = .sleep rd us →
    exec (.sleepEnd u) s = .next (
      if (s.sys.dev.ectx u).mboxIn ≠ [] then
        onE (s.onDev (fun d => { d with freeCtr := d.freeCtr + 1 })) u (endsE rd
          (if us = 0xFFFFFFFF#32 then us else BitVec.ofNat 32 (us.toNat - Config.freeElapsed s.sys.dev.freeCtr)))
      else if us = 0xFFFFFFFF#32 then s
      else onE s u (fun c => endsE rd 0#32 (ticks us.toNat c)))) ∧
  (∀ (c : Fin 4) (s : State) (rd : Nat) (us : BitVec 32), s.sys.dev.cores[c].hold = .sleep rd us →
    let s' := s.onDev (·.passCore c)
    s'.sys.dev.intPending c = false → us ≠ 0xFFFFFFFF#32 →
    exec (.sleepEnd (.core c)) s = .next (onM s' c (fun m =>
      endsM rd 0#64 { m with timeUs := m.timeUs + BitVec.ofNat 64 us.toNat }))) ∧
  (∀ (u : EUnit) (s : State), (∀ c, u ≠ .core c) → (s.sys.dev.ectx u).hold = .yield →
    exec (.yieldResume u) s = .next (onE s u (fun c => { ticks 1 c with pc := c.pc + 4, hold := .none })))


/-- R93, R95, R100, R80, R85: the bits of IP; INTERRUPT_ENTRY takes the first pending and enabled interrupt in the order of
R95 while IE is set, a HALT being left behind; a HALT with IE clear only continues. TVAL and the time passed are free values
(assumption logs 2 and 4). Model's own readings: log entries 2, 4, 17. -/
def Obligations.InterruptEntryResult : Prop :=
  ∀ (c : Fin 4) (s : State), s.sys.dev.answers (42 + c.val) = true → s.sys.dev.cores[c].stopped = false →
    let s' := passed s c
    let m := s'.sys.dev.cores[c]
    let ip := s'.sys.dev.ip c
    (ip.getLsbD 0 = decide (m.timecmp.toNat ≤ m.timeUs.toNat) ∧ ip.getLsbD 1 = m.ipi ∧
      (ip.getLsbD 2 = true ↔ ∃ e, s'.sys.dev.fld (R.ENG_ROUTE e.win) F.ENG_ROUTE.MBX_EN ≠ 0 ∧
        s'.sys.dev.fld (R.ENG_ROUTE e.win) F.ENG_ROUTE.MBX_CORE = c.val ∧ (s'.sys.dev.eng e).mboxOut ≠ [])) ∧
    (∀ i, firstPending s' c = some i → m.status.getLsbD 1 = true → m.hold = .none ∨ m.hold = .halt →
      exec (.interruptEntry c) s = .next (onM (drawn s') c (interrupted i (if m.hold = .halt then m.pc + 4#64 else m.pc)
        (Config.freeDWord s'.sys.dev.freeCtr)))) ∧
    (∀ i, firstPending s' c = some i → m.status.getLsbD 1 = false → m.hold = .halt →
      exec (.interruptEntry c) s = .next (onM s' c (fun k => { k with pc := k.pc + 4#64, hold := .none }))) ∧
    (firstPending s' c = none → exec (.interruptEntry c) s = .next s')

/-- R98, R83, R90, R25, R27, R70: a core's first watchdog period raises WATCHDOG and the second restarts the firmware with
cause 4; an engine's watchdog faults it; an access that goes unanswered gives a read of all ones and XDOWN on an engine, and
BUS_ERROR with the address in TVAL on a core. Model's own readings: log entries 4, 17. -/
def Obligations.WatchdogAndTimeoutResult : Prop :=
  (∀ (c : Fin 4) (s : State), s.sys.dev.answers (42 + c.val) = true →
    (s.sys.dev.cores[c].wdogOnce = false → s.sys.dev.cores[c].hold = .none → NoHostProgram s c →
      exec (.coreWatchdogExpiry c) s = .next (drawn (exceptionM (onM s c (fun m => { m with wdogOnce := true })) c 0x0B
        (Config.freeDWord s.sys.dev.freeCtr)))) ∧
    (s.sys.dev.cores[c].wdogOnce = true → exec (.coreWatchdogExpiry c) s = .next (s.onSys (fun y => y.fwRestart 4)))) ∧
  (∀ (e : Eng) (s : State), s.sys.dev.answers e.island = true → s.sys.dev.engState e = 2 ∨ s.sys.dev.engState e = 3 →
    exec (.engineWatchdogExpiry (.eng e)) s = .next (faultE s (.eng e) .watchdog)) ∧
  (∀ (u : EUnit) (s : State) (rd : BitVec 5) (a : Nat), s.sys.dev.unitRuns u = true →
    (let down (c : ECtx) : ECtx := { c with xdown := true, xdownCnt := min (c.xdownCnt + 1) 0xFFFFFFFF }
     (∀ c, u ≠ .core c) →
      exec (.accessTimeout u true rd a) s = .next (doneE s u (fun c => { down c with pc := c.pc + 4 })) ∧
      exec (.accessTimeout u false rd a) s = .next (doneE s u (fun c => writesE rd 0xFFFFFFFF#32 (down c)))) ∧
    (∀ c w, u = .core c → exec (.accessTimeout u w rd a) s = .next (trapM s c .busError (BitVec.ofNat 64 a))))

/-- R116, R117: a SHA job with INIT and FINAL over private SRAM writes the SHA-256 digest and gives gd = 0; one that names an
address outside R47 gives gd = 1 and hashes nothing; ECV gives the code of R117. Model's own readings: log entries 8, 48. -/
def Obligations.CryptoInstructionResult : Prop :=
  ∀ (x : Issue) (rd rs1 rs2 : BitVec 5) (s : State), x.unit = .sec → IssuesE s x [] →
    rd.toNat < 16 → rs1.toNat < 16 → rs2.toNat < 16 →
    let data := s.sys.dev.sec.ctx.data
    let a := (g32 s .sec rs1).toNat
    let dst := (g32 s .sec rs2).toNat
    let src := littleEndian data a 4
    let len := littleEndian data (a + 4) 4
    let slot := (memByte data (a + 8)).toNat
    (∀ k : Fin 4, PrivateRange a 16 → PrivateRange dst 32 → (memByte data (a + 9)).toNat % 4 = 3 → slot = k.val →
      PrivateRange src len →
      ∃ m, exec (.sha x rd rs1 rs2 0#11) s = .next (doneE
          (s.onDev (fun d => { d with sec := { d.sec with hash := d.sec.hash.set k.val ([], 0) } })) .sec
          (fun c => writesE rd 0#32 { c with data := m })) ∧
        (∀ i, i < 32 → memByte m (dst + i) = (sha256 (bytesAt data src len)).getD i 0#8) ∧
        (∀ b, b < dst ∨ dst + 32 ≤ b → memByte m b = memByte data b)) ∧
    (PrivateRange a 16 → PrivateRange dst 32 → 0x30000000 < src + len →
      exec (.sha x rd rs1 rs2 0#11) s = .next (doneE s .sec (writesE rd 1#32))) ∧
    (PrivateRange a 160 → exec (.ecv x rd rs1 0#5 0#11) s = .next (doneE s .sec (writesE rd
      (ecvCode (bigEndian data a 32) (bigEndian data (a + 32) 32) (bigEndian data (a + 64) 32) (bigEndian data (a + 96) 32)
        (bigEndian data (a + 128) 32)))))

/-- R113, R114: on a cluster, TLD loads a descriptor with STATUS cleared and TST stores one, once no queued instruction uses
the tile register; XCLR, XDOT, XMAG, XRND and BCMP join the queue, which stalls the scalar part while it holds four. Model's
own readings: log entries 8, 49. Model's own readings: log entries 8, 49. -/
def Obligations.TileInstructionResult : Prop :=
  ∀ (x : Issue) (g : Fin 12) (s : State), x.unit = .eng (.gc g) →
    (∀ (t : Fin 8) (rs1 : BitVec 5) (imm : BitVec 16), IssuesE s x [rs1.toNat] → rs1.toNat < 16 →
      InLocal (addrE s x.unit rs1 imm) 16 →
      (∀ q ∈ s.sys.dev.gcs[g].queue, q.usesTile t.val = false) →
      let a := (addrE s x.unit rs1 imm).toNat
      let old := (s.sys.dev.eng (.gc g)).data
      exec (.tld x (BitVec.ofNat 5 t.val) rs1 imm) s = .next (doneE
        (onG s g (fun k => { k with tiles := k.tiles.set t.val (bytesAt old a 10 ++ [0#8, 0#8] ++ bytesAt old (a + 12) 4) }))
        x.unit (fun c => { c with pc := c.pc + 4 })) ∧
      (s.sys.dev.gcs[g].tiles[t].length = 16 →
        ∃ m, exec (.tst x (BitVec.ofNat 5 t.val) rs1 imm) s =
            .next (doneE s x.unit (fun c => { c with data := m, pc := c.pc + 4 })) ∧
          bytesAt m a 16 = s.sys.dev.gcs[g].tiles[t] ∧ ∀ b, b < a ∨ a + 16 ≤ b → memByte m b = memByte old b)) ∧
    (∀ ins op n1 n2 n3, (ins, op, n1, n2, n3) ∈ gTable → ∀ r1 r2 r3 : BitVec 5, IssuesE s x [] →
      r1.toNat < n1 → r2.toNat < n2 → r3.toNat < n3 →
      exec (ins x r1 r2 r3 0#11) s = .next (if 4 ≤ s.sys.dev.gcs[g].queue.length then s else
        doneE (onG s g (fun k => { k with queue := k.queue ++
          [{ op := op, a := r1.toNat, b := r2.toNat, c := r3.toNat, pc := pcE s x.unit }] })) x.unit
          (fun c => { c with pc := c.pc + 4 })))

/-- R113–R115, R230, R235, R236: the instruction at the front of a cluster's queue finishes: XCLR clears its bank; XDOT of
two integer tiles into a cleared bank adds each output's exact products; a pairing that does not combine and a parity error
of the tile store raise the exception at the instruction's place. Model's own readings: log entry 49. -/
def Obligations.QueuedInstructionResult : Prop :=
  ∀ (g : Fin 12) (s : State) (q : GOp) (rest : List GOp), Queued s g q rest →
    let pop := onG s g (fun k => { k with queue := rest })
    let c := s.sys.dev.gcs[g]
    let raised (e : Cause) : State := pop.onDev (fun d => d.unitFault (.eng (.gc g)) e q.pc)
    (s.sys.dev.engState (.gc g) = 2 → exec (.gQueueComplete g true) s = .next (raised .parity)) ∧
    (∀ a : Fin 4, q.op = 0x32 → q.a = a.val → c.wideMode a.val = false →
      exec (.gQueueComplete g false) s =
        .next (onG pop g (fun k => { k with banks := k.banks.set a.val Bank.reset }))) ∧
    (q.op = 0x33 → s.sys.dev.engState (.gc g) = 2 → pairing (c.tileReg q.b).fmt (c.tileReg q.c).fmt = none →
      exec (.gQueueComplete g false) s = .next (raised .illegal)) ∧
    (∀ a : Fin 4, q.op = 0x33 → q.a = a.val → IntegerDot c q.a (c.tileReg q.b) (c.tileReg q.c) →
      ∃ b : Bank, exec (.gQueueComplete g false) s = .next (onG pop g (fun k => { k with banks := k.banks.set a.val b })) ∧
        b.cls = some .integer ∧ b.m = (c.tileReg q.b).rows ∧ b.n = (c.tileReg q.c).cols ∧ b.k = (c.tileReg q.b).cols ∧
        ∀ i, i < b.m * b.n → (b.outs.map (·.sum))[i]? =
          some ((dotSum c.store (c.tileReg q.b) (c.tileReg q.c) (i / b.n) (i % b.n)).bmod (2 ^ 48)))

/-- R134, R129: what START, STOP, KILL, the end of the start check and the end of T_off_min do to a bus engine, a witness
engine or a Gallery cluster, with the frame of each. Model's own readings: log entry 1. -/
def Obligations.EngineStateResult : Prop :=
  ∀ (e : Eng) (s : State), PlainEngine e → s.sys.dev.answers e.island = true →
    let st := R.ENG_STATUS e.win
    let ctl := R.ENG_CTL e.win
    let state := fldOf s st F.ENG_STATUS.STATE
    let pend := fldOf s ctl F.ENG_CTL.PEND
    (state = 0 ∨ state = 4 → pend = 0 →
      (StartOk s e → (s.sys.dev.eng e).toff = false → (s.sys.dev.eng e).released = true →
        ∃ t, exec (.engStart e) s = .next t ∧ fldOf t st F.ENG_STATUS.STATE = 1 ∧
          fldOf t st F.ENG_STATUS.START_CNT = min (fldOf s st F.ENG_STATUS.START_CNT + 1) 0xFFFF ∧ fldOf t ctl F.ENG_CTL.PEND = 0 ∧
          RegsAt (onEng s e (fun c => { c with regs := Vector.replicate 16 0#32, data := [], mboxIn := [], hold := .none })) t
            [st, ctl]) ∧
      (StartOk s e → (s.sys.dev.eng e).toff = true ∨ (s.sys.dev.eng e).released = false →
        exec (.engStart e) s = .next (s.onDev (fun d => d.setFld ctl F.ENG_CTL.PEND 1))) ∧
      (¬ StartOk s e → exec (.engStart e) s = .next (s.onDev (fun d => d.setFld st F.ENG_STATUS.START_REJ 1)))) ∧
    (state = 2 → (fldOf s (R.ENG_PROG_INFO e.win) F.ENG_PROG_INFO.ENTRY_MASK).testBit 1 = true →
      (s.sys.dev.eng e).hold ≠ .step →
      exec (.engStop e) s = .next (onEng (s.onDev (fun d => d.setFld st F.ENG_STATUS.STATE 3)) e
        (fun c => { c with pc := entryPc s e 1, hold := .none }))) ∧
    (state = 4 → exec (.engKill e) s = .next ((onEng (s.onDev (fun d => d.setFld st F.ENG_STATUS.STATE 0)) e
        (fun c => { c with hold := .none })).onDev (fun d => d.setFld ctl F.ENG_CTL.PEND 0))) ∧
    (state = 1 → (s.sys.dev.eng e).hold ≠ .step →
      (crc32c (s.sys.dev.programBytes e (fldOf s (R.ENG_PROG_INFO e.win) F.ENG_PROG_INFO.CODE_LEN)) =
          s.sys.dev.reg (R.ENG_PROG_CRC e.win) →
        exec (.startCheckDone e true) s = .next (onEng (s.onDev (fun d => d.setFld st F.ENG_STATUS.STATE 2)) e
          (fun c => { c with pc := entryPc s e (fldOf s ctl F.ENG_CTL.ENTRY), hold := .none }))) ∧
      exec (.startCheckDone e false) s = .next (s.onDev (fun d => d.unitFault (.eng e) .parity 0))) ∧
    ((s.sys.dev.eng e).toff = true → pend = 0 → (∀ g, e = .gc g → s.sys.dev.gcs[g].selfStart = false) →
      exec (.tOffMinExpiry e) s = .next (onEng s e (fun c => { c with toff := false })))

/-- R137, R131, R132, R133: the mailboxes, an install opened and committed, and a write of a pack variable inside and outside
its limits. Model's own readings: log entries 1, 55. -/
def Obligations.MailboxInstallAndVariableResult : Prop :=
  ∀ (e : Eng) (s : State), PlainEngine e → s.sys.dev.answers e.island = true →
    let mb := R.ENG_MBOX_STATUS e.win
    let st := R.ENG_STATUS e.win
    let ld := R.ENG_LOAD_STATUS e.win
    (∀ v : BitVec 32, exec (.engMboxInWrite e v) s = .next (if 16 ≤ (s.sys.dev.eng e).mboxIn.length
      then s.onDev (fun d => d.setFld mb F.ENG_MBOX_STATUS.IN_LOST 1)
      else onEng s e (fun c => { c with mboxIn := c.mboxIn ++ [v] }))) ∧
    (∀ v tag rest, (s.sys.dev.eng e).mboxOut = (v, tag) :: rest →
      exec (.engMboxOutRead e) s = .next ((onEng s e (fun c => { c with mboxOut := rest })).onDev
        (fun d => d.setFld mb F.ENG_MBOX_STATUS.LAST_TAG (tag : Bool).toNat))) ∧
    (fldOf s st F.ENG_STATUS.STATE = 0 ∨ fldOf s st F.ENG_STATUS.STATE = 4 →
      ∃ t, exec (.engLoadOpen e) s = .next t ∧ fldOf t st F.ENG_STATUS.PROG_VALID = 0 ∧ fldOf t ld F.ENG_LOAD_STATUS.OPEN = 1 ∧
        fldOf t ld F.ENG_LOAD_STATUS.REJECT = 0 ∧
        (∀ x, x < 4096 → t.sys.dev.reg (e.win + 0x1000 + 4 * x) = 0xFC000000#32) ∧
        RegsAt s t (st :: ld :: (List.range 4096).map (fun x => e.win + 0x1000 + 4 * x))) ∧
    (1 ≤ fldOf s st F.ENG_STATUS.STATE → fldOf s st F.ENG_STATUS.STATE ≤ 3 →
      exec (.engLoadOpen e) s = .next (s.onDev (fun d => d.setFld ld F.ENG_LOAD_STATUS.REJECT 1))) ∧
    (fldOf s (R.ENG_CTL e.win) F.ENG_CTL.PEND = 0 →
      ∃ t, exec (.engLoadCommit e) s = .next t ∧ fldOf t ld F.ENG_LOAD_STATUS.REJECT = s.sys.dev.commitCheck e ∧
        fldOf t ld F.ENG_LOAD_STATUS.OPEN = 0 ∧ RegsAt s t [st, ld] ∧
        (s.sys.dev.commitCheck e = 0 → fldOf t st F.ENG_STATUS.PROG_VALID = 1) ∧
        (s.sys.dev.commitCheck e ≠ 0 → t.sys.dev.reg st = s.sys.dev.reg st)) ∧
    (∀ (v : Fin 192) (x : BitVec 32),
      let lo := s.sys.dev.reg (e.win + 0x400 + 8 * v.val)
      let hi := s.sys.dev.reg (e.win + 0x404 + 8 * v.val)
      let inside : Prop := v.val < fldOf s (R.ENG_PROG_INFO e.win) F.ENG_PROG_INFO.VAR_COUNT ∧
        if (s.sys.dev.reg (e.win + 0xA00 + 4 * (v.val / 32))).getLsbD (v.val % 32) = true
        then lo.toInt ≤ x.toInt ∧ x.toInt ≤ hi.toInt else lo.toNat ≤ x.toNat ∧ x.toNat ≤ hi.toNat
      (inside → exec (.packVarWrite e v x) s = .next (s.onDev (fun d => d.setReg (e.win + 0x100 + 4 * v.val) x))) ∧
      (¬ inside → exec (.packVarWrite e v x) s = .next (s.onDev (fun d => d.configReject (e.win + 0x100 + 4 * v.val)))))

/-- R9, R6, R7, R532: a register write of the TWIN island is judged field by field, and one CONFIG_REJECT names the register
where a field is out of range; every other register keeps its value. A host event joins the queue with the next number, or is
counted when 4,096 wait. Model's own readings: log entries 55, 57. -/
def Obligations.RegisterWriteResult : Prop :=
  (∀ (who : Initiator) (a : Nat) (v : BitVec 32) (s : State),
    a ∈ [R.TWIN_STATUS, R.TWIN_CFG, R.TWIN_EVENT, R.TWIN_ROUTE, R.TWIN_TAKEOVER_CNT, R.TWIN_BAD_CNT] →
    s.sys.dev.answers 71 = true → s.sys.dev.writerRefused who a 71 = false →
    ∃ t, exec (.registerWrite who a v) s = .next t ∧
      (∀ f ∈ fieldsAt a, fldOf t a f.fld = fieldAfter f (s.sys.dev.reg a) v) ∧
      (∀ b, b ≠ a → b ≠ R.ETH_EVT_STAT → t.sys.dev.reg b = s.sys.dev.reg b) ∧ t.sys.nv = s.sys.nv ∧
      ((∀ f ∈ fieldsAt a, ¬ OutOfRange f (s.sys.dev.reg a) v) → t.sys.dev.eth = s.sys.dev.eth) ∧
      ((∃ f ∈ fieldsAt a, OutOfRange f (s.sys.dev.reg a) v) → s.sys.dev.eth.events.length < 4096 →
        ∃ e, t.sys.dev.eth.events = s.sys.dev.eth.events ++ [e] ∧ e.code = 0x0102 ∧ e.detail = [a])) ∧
  (∀ (s : State) (code source : Nat) (detail : List Nat), let t := s.onDev (fun d => d.raise code source detail)
    (s.sys.dev.eth.events.length < 4096 →
      ∃ e, t.sys.dev.eth.events = s.sys.dev.eth.events ++ [e] ∧ e.seq = s.sys.dev.eth.evSeq ∧ e.code = code ∧
        e.source = source ∧ e.detail = detail ∧ t.sys.dev.eth.evSeq = s.sys.dev.eth.evSeq + 1 ∧
        fldOf t R.ETH_EVT_STAT F.ETH_EVT_STAT.COUNT = s.sys.dev.eth.events.length + 1) ∧
    (4096 ≤ s.sys.dev.eth.events.length → t.sys.dev.eth.events = s.sys.dev.eth.events ∧
      fldOf t R.ETH_EVT_STAT F.ETH_EVT_STAT.LOST = min (fldOf s R.ETH_EVT_STAT F.ETH_EVT_STAT.LOST + 1) (2 ^ 16 - 1)))

/-- R33, R43, R34, R36, R32, R38: keyed requests for the three kinds of restart, each with what it resets and what it keeps;
a request with the wrong key, and one that a restart in progress absorbs, change nothing; the third firmware restart within
60 s is a commons restart with cause 5. Model's own readings: log entries 1, 4, 52. -/
def Obligations.RestartRequestResult : Prop :=
  ∀ (who : Initiator) (s : State), s.sys.dev.ucrWritable who = true →
    let cause := if who = .host then 2 else 3
    (∃ t, exec (.fullReset who 0xC0A7#16) s = .next t ∧ FullReset s t cause) ∧
    (s.sys.dev.restart ≠ 2 → NoGoldWaits s →
      ∃ t, exec (.commonsRestart who 0xC0A7#16) s = .next t ∧ CommonsRestart s t cause) ∧
    (s.sys.dev.restart = 0 → s.sys.dev.eth.runs = [] →
      (s.sys.dev.fwTimes.length ≤ 1 → ∃ t, exec (.fwRestart who 0xC0A7#16) s = .next t ∧ FirmwareRestart s t cause) ∧
      (NoGoldWaits s → 2 ≤ s.sys.dev.fwTimes.length →
        (∀ x ∈ s.sys.dev.fwTimes, s.sys.dev.clock + Config.freeElapsed s.sys.dev.freeCtr < x + 60000000) →
        ∃ t, exec (.fwRestart who 0xC0A7#16) s = .next t ∧ CommonsRestart s t 5)) ∧
    (∀ key : BitVec 16, key ≠ 0xC0A7#16 → exec (.fullReset who key) s = .next s ∧ exec (.commonsRestart who key) s = .next s ∧
      exec (.fwRestart who key) s = .next s) ∧
    (s.sys.dev.restart = 2 → exec (.commonsRestart who 0xC0A7#16) s = .next s ∧ exec (.fwRestart who 0xC0A7#16) s = .next s)

/-- R33, R39, R40, R35, R36, R436: what restarts the commons or the device besides a request, how the cores come out of a
firmware restart, what a channel not refreshed in time loses, READY, and an exception of the security core. Model's own
readings: log entries 1, 52. Model's own readings: log entries 1, 52. -/
def Obligations.RestartProgressResult : Prop :=
  ∀ s : State,
    (s.sys.dev.answers 46 = true → s.sys.dev.restart ≠ 2 → NoGoldWaits s →
      ∃ t, exec .hubFault s = .next t ∧ CommonsRestart s t 6) ∧
    (s.sys.dev.restart = 1 → s.sys.dev.answers 39 = true → s.sys.dev.sec.stopped = false → island s 42 = 1 →
      s.sys.dev.boot.phase = .running →
      (s.sys.dev.sramAgrees s.sys.dev.boot.image.mgmtLen s.sys.dev.boot.image.mgmtDigest = true →
        ∃ t, exec .sramRecheckDone s = .next t ∧
          (∀ c : Fin 4, t.sys.dev.cores[c] =
            { MCtx.reset with pc := BitVec.ofNat 64 (0x10000000 + s.sys.dev.boot.image.entry) }) ∧
          (∀ c : Fin 4, island s (42 + c.val) = 1 → island t (42 + c.val) = 2) ∧
          (∀ a, (∀ c : Fin 4, a ≠ R.ISLE_ENTRY (42 + c.val)) → t.sys.dev.reg a = s.sys.dev.reg a) ∧ t.sys.nv = s.sys.nv) ∧
      (s.sys.dev.sramAgrees s.sys.dev.boot.image.mgmtLen s.sys.dev.boot.image.mgmtDigest = false → NoGoldWaits s →
        ∃ t, exec .sramRecheckDone s = .next t ∧ CommonsRestart s t 8)) ∧
    (∀ j : Fin 16, s.sys.dev.restart = 2 → island s (72 + j.val) ≠ 2 →
      ∃ t, exec (.selfRefreshTimeout j) s = .next t ∧
        fldOf t (R.MC_STATUS j.val) F.MC_STATUS.CH0_LOST = 1 ∧ fldOf t (R.MC_STATUS j.val) F.MC_STATUS.CH1_LOST = 1 ∧
        fldOf t (R.MC_ERR_INFO j.val) F.MC_ERR_INFO.KIND = 3 ∧
        (∀ a, inDram (a / 64 * 64) = true → channelOf (a / 64 * 64) / 2 = j.val → t.sys.dev.poisoned a = true) ∧
        (∀ a, inDram (a / 64 * 64) = true → channelOf (a / 64 * 64) / 2 ≠ j.val → t.sys.dev.poisoned a = s.sys.dev.poisoned a) ∧
        (∀ b, b ≠ R.MC_STATUS j.val → b ≠ R.MC_ERR_INFO j.val → t.sys.dev.reg b = s.sys.dev.reg b) ∧
        t.sys.dev.mem = s.sys.dev.mem) ∧
    (∀ c : Fin 4, s.sys.dev.answers (42 + c.val) = true → s.sys.dev.answers 0 = true → s.sys.dev.gateOpen = true →
      exec (.ucrFwReady c) s = .next ((put s R.UCR_FW_READY F.UCR_FW_READY.READY 1).onDev (fun d => { d with restart := 0 }))) ∧
    (fldOf s R.UCR_FW_READY F.UCR_FW_READY.READY = 0 →
      let spared := (fldOf s R.TWIN_STATUS F.TWIN_STATUS.ROLE = 1 ∨ fldOf s R.TWIN_STATUS F.TWIN_STATUS.ROLE = 2) ∧
        (fldOf s R.TWIN_STATUS F.TWIN_STATUS.LINK = 1 ∨ fldOf s R.TWIN_STATUS F.TWIN_STATUS.PIN = 1)
      spared →
        (s.sys.dev.restart = 1 → NoGoldWaits s → ∃ t, exec .tGraceExpiry s = .next t ∧ CommonsRestart s t 5) ∧
        (s.sys.dev.restart = 2 → ∃ t, exec .tGraceExpiry s = .next t ∧ FullReset s t 5)) ∧
    (s.sys.dev.answers 39 = true → s.sys.dev.sec.stopped = false →
      let down := s.onDev (fun d => { d with sec := { d.sec with stopped := true } })
      (s.sys.dev.gateOpen = true → exec .secException s =
        .next (puts down [(R.SEC_REQ_STAT, F.SEC_REQ_STAT.DOWN, 1), (R.SEC_EVENT, F.SEC_EVENT.SEC_DOWN, 1)])) ∧
      (s.sys.dev.gateOpen = false → ∃ t, exec .secException s = .next t ∧ t.sys.dev.sec.stopped = true ∧
        t.sys.dev.boot.phase = .dead ∧ t.sys.dev.cores = Vector.replicate 4 MCtx.reset ∧
        (∀ c : Fin 4, island s (42 + c.val) = 2 → s.sys.dev.pins.vcore = true → island t (42 + c.val) = 1) ∧
        ∀ a, (∀ c : Fin 4, a ≠ R.ISLE_ENTRY (42 + c.val)) → t.sys.dev.reg a = s.sys.dev.reg a))

/-- R595, R597, R598, R599, R611, R616, R33, R359: supplies, the VIO banks, the crystal and MRST_N: what each does to the
pins and the islands, and which of them restart the device. Model's own readings: log entries 1, 6, 36. -/
def Obligations.SupplyResult : Prop :=
  ∀ s : State,
    (∀ k : Fin 8, exec (.vioBankLoss k) s = .next (onPins s (fun p => { p with vio := p.vio.set k.val false })) ∧
      exec (.vioBankReturn k) s = .next (onPins s (fun p => { p with vio := p.vio.set k.val true }))) ∧
    (∃ t, exec .vstbyGood s = .next t ∧ FullReset s t 0 ∧ t.sys.dev.pins = { s.sys.dev.pins with vstby := true }) ∧
    (∃ t, exec .vstbyLoss s = .next t ∧ FullReset s t 0 ∧ t.sys.dev.pins = { s.sys.dev.pins with vstby := false } ∧
      ∀ i, i < 39 → island t i = 0) ∧
    (s.sys.dev.pins.vio[4] = true →
      ∃ t, exec .mrstNAssert s = .next t ∧ FullReset s t 1 ∧ t.sys.dev.pins = { s.sys.dev.pins with mrst := true }) ∧
    exec .mrstNRelease s = .next (onPins s (fun p => { p with mrst := false })) ∧
    (s.sys.dev.restart ≠ 2 → s.sys.dev.boot.phase ≠ .held → NoGoldWaits s →
      ∃ t, exec .xtalStop s = .next t ∧ CommonsRestart s t 9 ∧ t.sys.dev.pins = { s.sys.dev.pins with xtal := false }) ∧
    exec .xtalReturn s = .next (onPins s (fun p => { p with xtal := true })) ∧
    (s.sys.dev.boot.phase = .held → s.sys.dev.restart = 0 → island s 0 = 1 →
      ∃ t, exec .xtalStartFail s = .next t ∧ t.sys.dev.pins = { s.sys.dev.pins with xtal := false } ∧
        ∀ i, i < 39 → island s i = 1 → island t i = 2) ∧
    (∀ x : Supply, ∃ t, exec (.supplyOutOfRange x) s = .next t ∧ t.sys.dev.pins = supplyAt s x false ∧
      (∀ i, i < 100 → (supplyAt s x false).supplied i = false → island t i = 0) ∧
      (x = .vsrd085 ∨ x = .vsrd12 → ∀ i, i < 100 → (supplyAt s x false).supplied i = true → island t i = island s i) ∧
      (x = .vdd1 ∨ x = .vdd2 ∨ x = .vddq → s.sys.dev.restart ≠ 2 → s.sys.dev.boot.phase ≠ .held → NoGoldWaits s →
        NotedRestart s t 2 9 ∧ t.sys.dev.restart = 2)) ∧
    (∀ x : Supply, ∃ t, exec (.supplyReturn x) s = .next t ∧ t.sys.dev.pins = supplyAt s x true ∧
      (∀ i, i < 100 → island t i = if island s i = 0 ∧ (supplyAt s x true).supplied i = true
        then (if ((49 ≤ i ∧ i ≤ 60) ∨ i = 69 ∨ i = 70) ∧ island t 39 = 2 then 2 else 1) else island s i) ∧
      (∀ a, (∀ i, i < 100 → a ≠ R.ISLE_ENTRY i) → t.sys.dev.reg a = s.sys.dev.reg a))

/-- R594, R350, R17–R20: the bridge switch, HOLD_OK, the trims of the oscillators, and REFCLK. Model's own readings: log
entries 1, 4, 6, 21. Model's own readings: log entries 1, 4, 6, 21. -/
def Obligations.BridgeHoldAndClockResult : Prop :=
  ∀ s : State,
    (∀ v : Nat, 6200 < v → exec (.bridgeSwitchOpen v) s =
      .next (onPins (put s R.TR_VIN F.TR_VIN.VIN (min v 0xFFFF)) (fun p => { p with bridgeOpen := true }))) ∧
    (∀ v : Nat, v < 6100 → exec (.bridgeSwitchClose v) s =
      .next (onPins (put s R.TR_VIN F.TR_VIN.VIN v) (fun p => { p with bridgeOpen := false }))) ∧
    (∀ v : Nat, ∃ t, exec (.holdOkChange v) s = .next t ∧ fldOf t R.TR_VIN F.TR_VIN.VHOLD = min v 0xFFFF ∧
      (fldOf t R.TR_STAT F.TR_STAT.HOLD_OK = 1 ↔ 4000 ≤ v) ∧ RegsAt s t [R.TR_VIN, R.TR_STAT]) ∧
    (∀ dev : List (BitVec 8), fldOf s R.ISLE_REFCLK F.ISLE_REFCLK.PRESENT = 1 →
      ∃ t, exec (.oscTrim dev) s = .next t ∧ RegsAt s t ((List.range 100).map R.ISLE_ENTRY) ∧
        ∀ i, i < 100 → fldOf t (R.ISLE_ENTRY i) F.ISLE_ENTRY.TRIMMED = 1 ∧
          fldOf t (R.ISLE_ENTRY i) F.ISLE_ENTRY.FREQ_DEV = (dev.getD i 0#8).toNat ∧ island t i = island s i) ∧
    (fldOf s R.ISLE_REFCLK F.ISLE_REFCLK.PRESENT = 0 → ∀ dev : List (BitVec 8), exec (.oscTrim dev) s = .next s) ∧
    (∀ i : Fin 100, exec (.trimLapse i) s = .next (if fldOf s R.ISLE_REFCLK F.ISLE_REFCLK.PRESENT = 1 then s
      else put s (R.ISLE_ENTRY i.val) F.ISLE_ENTRY.TRIMMED 0)) ∧
    (fldOf s R.ISLE_REFCLK F.ISLE_REFCLK.PRESENT = 1 → exec .refclkLost s =
      .next (event (bump (puts s [(R.ISLE_REFCLK, F.ISLE_REFCLK.PRESENT, 0), (R.ISLE_REFCLK, F.ISLE_REFCLK.LOST, 1)])
        R.ISLE_REFCLK F.ISLE_REFCLK.LOSS_CNT) 0x0103 0xFF [])) ∧
    exec .refclkReturn s = .next (put s R.ISLE_REFCLK F.ISLE_REFCLK.PRESENT 1)

/-- R435, R438, R447–R449, R453, R454, R457, R459: a release whose fuses disagree is FUSE_FAULT, and one strapped to recovery
waits there; the checks of the fuse shadow and of the running copy; a load that fails with nothing left to try; CONFIRM, the
advance of the counters, and a trial that expires. Model's own readings: log entries 1, 5, 31, 53. -/
def Obligations.BootResult : Prop :=
  ∀ s : State,
    (∀ (patchOk leafOk : Bool) (flash : BitVec 6), s.sys.dev.releasable = true →
      (∀ b : Bay, fldOf s (R.WIT_EPOCH_GO b.val) F.WIT_EPOCH_GO.NEW = 0) →
      (s.sys.dev.gateOpen = false → ∃ t, exec (.secRelease false patchOk leafOk flash) s = .next t ∧
        fldOf t R.SEC_BOOT_STATUS F.SEC_BOOT_STATUS.MODE = 3 ∧ t.sys.dev.sec.stopped = true ∧ t.sys.dev.boot.phase = .dead ∧
        t.sys.nv = s.sys.nv) ∧
      (s.sys.dev.pins.bootMode = 3 → ∃ t, exec (.secRelease true patchOk leafOk flash) s = .next t ∧
        fldOf t R.SEC_BOOT_STATUS F.SEC_BOOT_STATUS.MODE = 2 ∧ fldOf t R.SEC_BOOT_STATUS F.SEC_BOOT_STATUS.STRAP = 3 ∧
        fldOf t R.SEC_BOOT_STATUS F.SEC_BOOT_STATUS.PATCH_BAD = (!patchOk).toNat ∧ t.sys.dev.boot.phase = .recovery ∧
        t.sys.dev.shadow = s.sys.nv.fuses.fields)) ∧
    (s.sys.dev.answers 41 = true →
      exec (.fuseShadowCheck false true) s = .next ((put s R.SEC_EVENT F.SEC_EVENT.SHADOW 1).onDev (fun d =>
        ({ d with shadow := s.sys.nv.fuses.fields } : Device).showFuses)) ∧
      (∃ t, exec (.fuseShadowCheck false false) s = .next t ∧ fldOf t R.SEC_BOOT_STATUS F.SEC_BOOT_STATUS.MODE = 3 ∧
        fldOf t R.SEC_EVENT F.SEC_EVENT.SHADOW = 1 ∧ t.sys.dev.sec.stopped = true ∧ t.sys.nv = s.sys.nv)) ∧
    (∀ flash : BitVec 6, s.sys.dev.boot.phase = .verifying → s.sys.dev.sec.stopped = false → s.sys.dev.answers 39 = true →
      let n := s.sys.dev.boot.image.mgmtLen
      let copy := memBytes s.sys.dev.mem 0x10000000 (n + trailerLen)
      (s.sys.dev.poisonedRange 0x10000000 (n + trailerLen) = false → signatureOk copy n = true → s.sys.dev.lockAll = false →
        ∃ t, exec (.mgmtVerifyDone flash) s = .next t ∧ t.sys.dev.boot.phase = .verified ∧
          ShowsBytes t (R.SEC_IMG_DIGEST 0) (sha256 (copy.take n)) ∧
          t.sys.dev.boot.image.mgmtDigest = digestNum (sha256 (copy.take n)) ∧
          (∀ a, (∀ i, i < 8 → a ≠ R.SEC_IMG_DIGEST i) → t.sys.dev.reg a = s.sys.dev.reg a) ∧ t.sys.nv = s.sys.nv) ∧
      (s.sys.dev.boot.left = [] → s.sys.dev.lockAll = false →
        (s.sys.dev.poisonedRange 0x10000000 (n + trailerLen) = true →
          ∃ t, exec (.mgmtVerifyDone flash) s = .next t ∧ RecoveryWait s t 9) ∧
        (s.sys.dev.poisonedRange 0x10000000 (n + trailerLen) = false → signatureOk copy n = false →
          ∃ t, exec (.mgmtVerifyDone flash) s = .next t ∧ RecoveryWait s t 8))) ∧
    (∀ flash : BitVec 6, s.sys.dev.boot.phase = .verifying ∨ s.sys.dev.boot.phase = .verified →
      (s.sys.dev.lockAll = true → exec (.lockAllDeadline flash) s = .next s) ∧
      (s.sys.dev.lockAll = false → s.sys.dev.boot.left = [] →
        ∃ t, exec (.lockAllDeadline flash) s = .next t ∧ RecoveryWait s t 0x0A)) ∧
    (∀ who : Initiator, s.sys.dev.secWritable who = true →
      (s.sys.dev.gateOpen = true → fldOf s R.SEC_BOOT_STATUS F.SEC_BOOT_STATUS.MODE = 1 → s.sys.dev.sec.stopped = false →
        s.sys.dev.holdOk = false →
        let nv := s.sys.nv.putDir (fun b => { b with active := b.trialSlot, trial := 0, arbPending := true })
        exec (.secConfirm who 0xC0F1#16) s = .next ((puts
          { s with sys := { dev := s.sys.dev.showDir nv.dir, nv := nv } }
          [(R.SEC_EVENT, F.SEC_EVENT.CONFIRMED, 1), (R.SEC_BOOT_STATUS, F.SEC_BOOT_STATUS.MODE, 0)]).onDev
          (fun d => { d with boot := { d.boot with trialOn := false } }))) ∧
      (fldOf s R.SEC_BOOT_STATUS F.SEC_BOOT_STATUS.MODE ≠ 1 →
        exec (.secConfirm who 0xC0F1#16) s = .next (put s R.SEC_EVENT F.SEC_EVENT.CONFIRM_REJ 1)) ∧
      (∀ key : BitVec 16, key ≠ 0xC0F1#16 → exec (.secConfirm who key) s = .next s)) ∧
    (s.sys.dev.answers 39 = true → s.sys.dev.sec.stopped = false → s.sys.dev.boot.phase = .running →
      s.sys.nv.dir.arbPending = true → s.sys.nv.dir.active = s.sys.dev.boot.slot →
      (s.sys.dev.holdOk = false → exec .arbResume s = .next s) ∧
      (s.sys.dev.holdOk = true → ∃ t, exec .arbResume s = .next t ∧
        t.sys.nv.fuses.fields = { s.sys.nv.fuses.fields with
          arb0 := raiseCounter s.sys.nv.fuses.fields.arb0 s.sys.dev.boot.image.secSvn
          arb1 := raiseCounter s.sys.nv.fuses.fields.arb1 s.sys.dev.boot.image.mgmtSvn } ∧
        t.sys.nv.dirs = (s.sys.nv.putDir (fun b => { b with arbPending := false })).dirs ∧
        fldOf t R.SEC_EVENT F.SEC_EVENT.ARB_ADVANCED = 1)) ∧
    (s.sys.dev.boot.trialOn = true → s.sys.dev.restart ≠ 2 → NoGoldWaits s →
      ∃ t, exec .trialExpiry s = .next t ∧ NotedRestart s t 2 3 ∧ t.sys.dev.restart = 2 ∧
        fldOf t R.SEC_EVENT F.SEC_EVENT.TRIAL_FAILED = 1 ∧ t.sys.nv = s.sys.nv.putDir (fun b => { b with trial := 0 }))

/-- R329–R333, R340–R343: power-good rising, falling and glitching, on a rail that runs and on one that does not; the end of
T_warn and of T_down_max; a step of the safe stop; the counters cleared. Model's own readings: log entries 1, 19, 20. -/
def Obligations.RailAndSequencerResult : Prop :=
  (∀ (k : Fin 80) (s : State), let i := railSeq k
    let c := railChan k
    let st := R.SQ_RAIL_ST i.val
    let seen := R.SQ_RAIL_ST2 i.val
    let runs := chanOn s st F.SQ_RAIL_ST.EN c = true ∧ chanOn s seen F.SQ_RAIL_ST2.SEEN c = true
    (s.sys.dev.pins.vio[0] = true → exec (.railPgRise k) s = .next (if chanOn s st F.SQ_RAIL_ST.EN c = true
      then putBit (putBit s st F.SQ_RAIL_ST.PG c true) seen F.SQ_RAIL_ST2.SEEN c true
      else putBit s st F.SQ_RAIL_ST.PG c true)) ∧
    (s.sys.dev.pins.vio[0] = false → exec (.railPgRise k) s = .next s) ∧
    (¬ runs → exec (.railPgFall k) s = .next (putBit s st F.SQ_RAIL_ST.PG c false) ∧ exec (.railPgGlitch k) s = .next s) ∧
    (runs → exec (.railPgGlitch k) s = .next (bump s (R.SQ_CNT_B i.val c) F.SQ_CNT_B.GLITCHES)) ∧
    (runs → ∃ t, exec (.railPgFall k) s = .next t ∧ chanOn t st F.SQ_RAIL_ST.PG c = false ∧
      chanOn t (R.SQ_FAULTED i.val) F.SQ_FAULTED.FAULTED c = true ∧
      fldOf t (R.SQ_CNT_B i.val c) F.SQ_CNT_B.FAULTS =
        min (fldOf s (R.SQ_CNT_B i.val c) F.SQ_CNT_B.FAULTS + 1) (2 ^ F.SQ_CNT_B.FAULTS.width - 1) ∧
      (i ≠ 8 → t.sys.dev.seqs[i].hwPfw = true) ∧
      (fldOf s R.TWIN_STATUS F.TWIN_STATUS.ROLE ≠ 2 → fldOf s (R.ENG_STATUS (Eng.seq i).win) F.ENG_STATUS.STATE ≠ 3 →
        fldOf t (R.SQ_STATUS i.val) F.SQ_STATUS.WARN = 1) ∧
      (∀ a, a ≠ st → a ≠ R.SQ_FAULTED i.val → a ≠ R.SQ_CNT_B i.val c → a ≠ R.SQ_STATUS i.val →
        t.sys.dev.reg a = s.sys.dev.reg a))) ∧
  (∀ (i : Fin 9) (s : State),
    (fldOf s (R.SQ_STATUS i.val) F.SQ_STATUS.WARN = 0 → exec (.tWarnExpiry i) s = .next s) ∧
    (fldOf s (R.SQ_STATUS i.val) F.SQ_STATUS.WARN = 1 →
      (fldOf s (R.ENG_STATUS (Eng.seq i).win) F.ENG_STATUS.STATE = 3 →
        exec (.tWarnExpiry i) s = .next (put s (R.SQ_STATUS i.val) F.SQ_STATUS.WARN 0)) ∧
      (CanGoDown s i → ∃ t, exec (.tWarnExpiry i) s = .next t ∧ GoesDown s t i 3)) ∧
    (fldOf s (R.ENG_STATUS (Eng.seq i).win) F.ENG_STATUS.STATE ≠ 3 → exec (.tDownMaxExpiry i) s = .next s) ∧
    (fldOf s (R.ENG_STATUS (Eng.seq i).win) F.ENG_STATUS.STATE = 3 → pwrOf s i = 3 → i ≠ 8 → s.sys.dev.tray.forced = false →
      fldOf s (R.SQ_RAIL_ST i.val) F.SQ_RAIL_ST.EN ≠ 0 →
      ∃ t, exec (.tDownMaxExpiry i) s = .next t ∧ fldOf t (R.SQ_STATUS i.val) F.SQ_STATUS.LAST_DOWN = 7 ∧
        fldOf t (R.ENG_STATUS (Eng.seq i).win) F.ENG_STATUS.STATE = 0 ∧ t.sys.dev.seqs[i].hwPfw = true ∧
        t.sys.dev.seqs[i].hwRst = true ∧ t.sys.dev.seqs[i].safeStop = true ∧
        t.sys.dev.reg (R.SQ_RAIL_ST i.val) = s.sys.dev.reg (R.SQ_RAIL_ST i.val)) ∧
    (s.sys.dev.seqs[i].safeStop = false ∨ s.sys.dev.tray.forced = true → exec (.safeStopStep i) s = .next s) ∧
    (∀ c, s.sys.dev.seqs[i].safeStop = true → s.sys.dev.tray.forced = false → i ≠ 8 →
      fldOf s R.TWIN_STATUS F.TWIN_STATUS.ROLE ≠ 1 → c < 8 →
      chanOn s (R.SQ_RAIL_ST i.val) F.SQ_RAIL_ST.EN c = true →
      fldOf s (R.SQ_RAIL_ST i.val) F.SQ_RAIL_ST.EN < 2 ^ (c + 1) → fldOf s (R.SQ_RAIL_ST i.val) F.SQ_RAIL_ST.EN ≠ 2 ^ c →
      ∃ t, exec (.safeStopStep i) s = .next t ∧
        fldOf t (R.SQ_RAIL_ST i.val) F.SQ_RAIL_ST.EN = fldOf s (R.SQ_RAIL_ST i.val) F.SQ_RAIL_ST.EN - 2 ^ c ∧
        RegsAt s t [R.SQ_RAIL_ST i.val, R.SQ_RAIL_ST2 i.val]) ∧
    (∀ clr : BitVec 16, s.sys.dev.answers (1 + i.val) = true →
      ∃ t, exec (.sqCntClr i clr) s = .next t ∧
        (∀ c, c < (if i = 8 then 16 else 8) → clr.getLsbD c = true →
          t.sys.dev.reg (R.SQ_CNT_A i.val c) = 0#32 ∧ t.sys.dev.reg (R.SQ_CNT_B i.val c) = 0#32) ∧
        (∀ a, (∀ c, c < (if i = 8 then 16 else 8) → clr.getLsbD c = true → a ≠ R.SQ_CNT_A i.val c ∧ a ≠ R.SQ_CNT_B i.val c) →
          t.sys.dev.reg a = s.sys.dev.reg a)))

/-- R350–R352, R354–R358, R556: what forces the tray off, its schedule, the hold-up record written, and how each cause goes.
Model's own readings: log entries 1, 19, 21, 23. -/
def Obligations.ForcedOffResult : Prop :=
  ∀ s : State,
    (∀ vin vhold : Nat, 3600 ≤ vin → exec (.vinLow vin vhold) s =
      .next (put (measuredAt s vin vhold) R.TR_STAT F.TR_STAT.VIN_OK (decide (4200 < vin)).toNat)) ∧
    (∀ vin vhold : Nat, vin < 3600 → fldOf s R.TR_STAT F.TR_STAT.VIN_LOW = 0 → s.sys.dev.tray.forced = false →
      fldOf s R.TWIN_STATUS F.TWIN_STATUS.ROLE = 0 ∨ fldOf s R.TWIN_STATUS F.TWIN_STATUS.LINK = 0 →
      ∃ t, exec (.vinLow vin vhold) s = .next t ∧ ForcedOff s t .vinLow 1 ∧ fldOf t R.TR_STAT F.TR_STAT.VIN_LOW = 1 ∧
        fldOf t R.TR_STAT F.TR_STAT.VIN_OK = 0 ∧ fldOf t R.TR_VIN F.TR_VIN.VIN = vin ∧
        fldOf t R.TR_EVENT F.TR_EVENT.VIN_LOW = 1) ∧
    (s.sys.dev.tray.killOut = false → s.sys.dev.pins.vio[4] = true → s.sys.dev.tray.forced = false →
      ∃ t, exec .killIn s = .next t ∧ ForcedOff s t .killIn 3 ∧ fldOf t R.TR_EVENT F.TR_EVENT.KILL_IN = 1) ∧
    (s.sys.dev.tray.killOut = true ∨ s.sys.dev.pins.vio[4] = false → exec .killIn s = .next s) ∧
    (s.sys.dev.tray.btn = true → s.sys.dev.tray.btnLong = false → s.sys.dev.tray.forced = false →
      ∃ t, exec .longPress s = .next t ∧ ForcedOff s t .longPress 2 ∧ t.sys.dev.tray.btnLong = true ∧
        fldOf t R.TR_EVENT F.TR_EVENT.BTN_LONG = 1) ∧
    (∀ vin vhold : Nat, 4200 < vin →
      (fldOf s R.TR_STAT F.TR_STAT.VIN_LOW = 0 →
        exec (.vinReturn vin vhold) s = .next (put (measuredAt s vin vhold) R.TR_STAT F.TR_STAT.VIN_OK 1)) ∧
      (fldOf s R.TR_STAT F.TR_STAT.VIN_LOW = 1 → s.sys.dev.tray.forced = false →
        exec (.vinReturn vin vhold) s = .next (onTray ((puts (measuredAt s vin vhold) [(R.TR_STAT, F.TR_STAT.VIN_OK, 1),
          (R.TR_STAT, F.TR_STAT.VIN_LOW, 0), (R.TR_EVENT, F.TR_EVENT.VIN_RETURN, 1)]).onDev (·.alertCheck))
          (fun t => { t with vinWait := false, forceActive := t.forceActive.filter (· != .vinLow) })))) ∧
    (s.sys.dev.tray.forceActive.filter (· != .killIn) ≠ [] → exec .killInRelease s =
      .next (onTray s (fun t => { t with forceActive := t.forceActive.filter (· != .killIn) }))) ∧
    (fldOf s R.TR_STAT F.TR_STAT.FORCING = 0 → exec .forcedOffStep s = .next s) ∧
    (∀ n, s.sys.dev.tray.forceStep + 1 = n → fldOf s R.TR_STAT F.TR_STAT.FORCING = 1 → n < 24 →
      ∃ t, exec .forcedOffStep s = .next t ∧ t.sys.dev.tray.forceStep = n ∧ fldOf t R.TR_STAT F.TR_STAT.FORCING = 1 ∧
        (n ≤ 8 → ∀ b : Bay, chanOn t (R.SQ_RAIL_ST b.val) F.SQ_RAIL_ST.EN (8 - n) = false) ∧
        (8 < n → chanOn t (R.SQ_RAIL_ST 8) F.SQ_RAIL_ST.EN (24 - n) = false)) ∧
    (∀ r rest, s.sys.dev.tray.holdup = r :: rest →
      let s' := onTray s (fun t => { t with holdup := rest })
      (∀ k, holdupSlot s.sys.nv.holdup = some k → exec .holdupWriteDone s =
        .next ({ put s' R.TR_EVENT F.TR_EVENT.HU_WRITTEN 1 with
          sys := { dev := ((put s' R.TR_EVENT F.TR_EVENT.HU_WRITTEN 1).sys.dev.setHuSeq (s.sys.dev.huSeq + 1)),
                   nv := { s.sys.nv with holdup := sparseInsert k { r with seq := s.sys.dev.huSeq } s.sys.nv.holdup } } })) ∧
      (holdupSlot s.sys.nv.holdup = none → exec .holdupWriteDone s = .next (put s' R.TR_EVENT F.TR_EVENT.HU_FAILED 1)))

/-- R357, R358, R335, R360, R362: external off and presence lost; the button; and the power cap that engages for the first ON
bay at or after NEXT and is released for the earliest. Model's own readings: log entries 1, 19, 21. -/
def Obligations.ButtonPresenceAndCapResult : Prop :=
  ∀ s : State,
    (∀ b : Bay, CanGoDown s (seqOf b) → fldOf s R.TWIN_STATUS F.TWIN_STATUS.ROLE ≠ 2 →
      (s.sys.dev.asserts b 0 = false → s.sys.dev.pins.vio[1] = true →
        ∃ t, exec (.extOff b) s = .next t ∧ GoesDown s t (seqOf b) 5 ∧ fldOf t (R.SQ_STATUS b.val) F.SQ_STATUS.EXT_OFF = 1) ∧
      (∃ t, exec (.presenceLost b) s = .next t ∧ GoesDown s t (seqOf b) 4 ∧ t.sys.dev.seqs[seqOf b].hwPfw = true)) ∧
    (∀ b : Bay, pwrOf s (seqOf b) = 0 → exec (.extOff b) s = .next s ∧ exec (.presenceLost b) s = .next s) ∧
    (s.sys.dev.tray.btn = false → s.sys.dev.pins.vio[4] = true →
      exec .btnPress s = .next (onTray s (fun t => { t with btn := true, btnLong := false }))) ∧
    (s.sys.dev.tray.btn = false → exec .btnRelease s = .next s) ∧
    (s.sys.dev.tray.btn = true → s.sys.dev.tray.btnLong = false →
      let s' := onTray s (fun t => { t with btn := false, btnLong := false })
      (pwrOf s 8 = 0 ∨ pwrOf s 8 = 3 →
        exec .btnRelease s = .next ((put s' R.TR_EVENT F.TR_EVENT.BTN_ON 1).onDev (·.seqStart 8))) ∧
      (pwrOf s 8 = 4 → exec .btnRelease s = .next s') ∧
      (CanGoDown s 8 → fldOf s R.TWIN_STATUS F.TWIN_STATUS.ROLE ≠ 2 →
        ∃ t, exec .btnRelease s = .next t ∧ GoesDown s t 8 1 ∧ fldOf t R.TR_EVENT F.TR_EVENT.BTN_OFF = 1)) ∧
    (s.sys.dev.tray.btn = true → s.sys.dev.tray.btnLong = true → exec .btnRelease s =
      .next ((onTray s (fun t => { t with btn := false, btnLong := false })).onDev (·.forceGone .longPress))) ∧
    (∀ (vin : Nat) (imon : List Nat) (b : Bay), let s' := s.onDev (·.capSample vin imon)
      fldOf s R.TWIN_STATUS F.TWIN_STATUS.ROLE ≠ 2 →
      fldOf s' R.PC_EFF F.PC_EFF.CAP_EFF < s'.sys.dev.pNow vin imon → s'.sys.dev.capNext = some b →
      ∃ t, exec (.capEngage vin imon) s = .next t ∧ chanOn t R.PC_STAT F.PC_STAT.CAP_MASK b.val = true ∧
        fldOf t R.PC_STAT F.PC_STAT.NEXT = (b.val + 1) % 8 ∧ fldOf t R.TR_EVENT F.TR_EVENT.CAP_ENGAGED = 1 ∧
        fldOf t R.PC_ENGAGE_CNT F.PC_ENGAGE_CNT.COUNT =
          min (fldOf s' R.PC_ENGAGE_CNT F.PC_ENGAGE_CNT.COUNT + 1) (2 ^ F.PC_ENGAGE_CNT.COUNT.width - 1) ∧
        t.sys.dev.tray.capOrder = s'.sys.dev.tray.capOrder ++ [b]) ∧
    (∀ (vin : Nat) (imon : List Nat), let s' := s.onDev (·.capSample vin imon)
      (fldOf s' R.PC_EFF F.PC_EFF.CAP_EFF < s'.sys.dev.pNow vin imon → s'.sys.dev.capNext = none →
        fldOf s' R.TWIN_STATUS F.TWIN_STATUS.ROLE ≠ 2 →
        exec (.capEngage vin imon) s = .next (put s' R.TR_EVENT F.TR_EVENT.CAP_SATURATED 1)) ∧
      (∀ b rest, s'.sys.dev.tray.capOrder = b :: rest → chanOn s' R.PC_STAT F.PC_STAT.CAP_MASK b.val = true →
        s'.sys.dev.pNow vin imon * 100 < fldOf s' R.PC_EFF F.PC_EFF.CAP_EFF * (100 - fldOf s' R.PC_CFG F.PC_CFG.HYST_PCT) →
        ∃ t, exec (.capRelease vin imon) s = .next t ∧ chanOn t R.PC_STAT F.PC_STAT.CAP_MASK b.val = false ∧
          t.sys.dev.tray.capOrder = s'.sys.dev.tray.capOrder.filter (· != b)))

/-- R371–R375, R379, R383, R394–R399: what a sample leaves in each sensor slot; SAFE_HOT; zones formed, hot and cool; flow;
the leak loops' bands, responses, shutdown and acknowledgement. Model's own readings: log entries 1, 24, 26, 63. -/
def Obligations.CoolingResult : Prop :=
  ∀ s : State,
    (∀ (ain : List Nat) (dies : List Int), Completes (.sensorSample ain dies) s (fun t =>
      (∀ i uv : Nat, i < 48 → ain[i]? = some uv → ainKindOf s i = 1 →
        (2450000 ≤ uv → SlotFault t i 1 0 0 1) ∧
        (uv < 2450000 → 4 * uv < ainP1 s i → SlotFault t i 0 1 0 1) ∧
        (uv < 2450000 → ainP1 s i ≤ 4 * uv → SlotHolds t i (word16 (ntcTemp uv 5 (10 * ainP1 s i) (ainP2 s i))) 0 0 0 1)) ∧
      (∀ i uv : Nat, i < 48 → ain[i]? = some uv → ainKindOf s i = 2 →
        ((uv : Int) < 1000 * ((ainP1 s i : Int) - 50) ∨ 1000 * (ainP3 s i + 50) < uv → SlotFault t i 0 0 1 0) ∧
        (∀ v : Nat, 1000 * ainP1 s i ≤ uv → uv ≤ 1000 * ainP3 s i → ainP1 s i < ainP3 s i →
          v = (uv - 1000 * ainP1 s i) * ainP2 s i / (1000 * (ainP3 s i - ainP1 s i)) → SlotHolds t i v 0 0 0 0)) ∧
      (∀ (j : Nat) (x : Int), j < 4 → dies[j]? = some x → SlotHolds t (56 + j) (word16 x) 0 0 0 1) ∧
      ((∃ i ∈ safeInputs s, slotFaultedAt t i = true ∨ 700 < slotReads t i) ∨ safeInputs s = [] →
        fldOf t R.CL_MODE F.CL_MODE.SAFE_HOT = 1) ∧ RestKept s t)) ∧
    (safeInputs s ≠ [] → (∀ i ∈ safeInputs s, slotFaultedAt s i = false ∧ slotReads s i ≤ 650) →
      exec .safeHotClear s = .next (put s R.CL_MODE F.CL_MODE.SAFE_HOT 0)) ∧
    (safeInputs s = [] ∨ (∃ i ∈ safeInputs s, slotFaultedAt s i = true ∨ 650 < slotReads s i) → exec .safeHotClear s = .next s) ∧
    (∀ k : Fin 112, Completes (.slotStale k) s (fun t => fldOf t (R.CL_SENS k.val) F.CL_SENS.STALE = 1 ∧
      (∀ a, a ≠ R.CL_SENS k.val → a ≠ R.CL_EVENT → t.sys.dev.reg a = s.sys.dev.reg a) ∧ RestKept s t)) ∧
    (∀ b : Bay, (pwrOf s (seqOf b) = 0 ∨ pwrOf s (seqOf b) = 4 → exec (.healthSlotJoin b) s = .next s) ∧
      (pwrOf s (seqOf b) ≠ 0 → pwrOf s (seqOf b) ≠ 4 → Completes (.healthSlotJoin b) s (fun t =>
        t.sys.dev.cool.healthJoin[b] = true ∧ (∀ a, a ≠ R.CL_EVENT → t.sys.dev.reg a = s.sys.dev.reg a) ∧ RestKept s t))) ∧
    Completes .zoneEval s (fun t => ∀ z, z < 16 →
      (s.sys.dev.zoneSlots z = [] → zoneReads t z = 1500 ∧ fldOf t (R.CL_ZSTAT z) F.CL_ZSTAT.FAULT = 0 ∧
        fldOf t (R.CL_ZSTAT z) F.CL_ZSTAT.EMPTY = 1 ∧ fldOf t (R.CL_ZSTAT z) F.CL_ZSTAT.HOT = 0) ∧
      (s.sys.dev.zoneSlots z ≠ [] → fldOf t (R.CL_ZSTAT z) F.CL_ZSTAT.EMPTY = 0 ∧
        (∀ k ∈ s.sys.dev.zoneSlots z, s.sys.dev.slotTemp k ≤ zoneReads t z) ∧
        (∃ k ∈ s.sys.dev.zoneSlots z, s.sys.dev.slotTemp k = zoneReads t z) ∧
        (fldOf t (R.CL_ZSTAT z) F.CL_ZSTAT.FAULT = 1 ↔ ∃ k ∈ s.sys.dev.zoneSlots z, s.sys.dev.slotBad k = true)) ∧
      RestKept s t) ∧
    (∀ z : Fin 16, let a := R.CL_ZSTAT z.val
      let limit : Int := fldOf s (R.CL_ZCFG z.val) F.CL_ZCFG.T_HOT
      (fldOf s a F.CL_ZSTAT.EMPTY = 0 → fldOf s a F.CL_ZSTAT.HOT = 0 → limit ≤ zoneReads s z.val →
        exec (.zoneHot z) s = .next ((puts s [(a, F.CL_ZSTAT.HOT, 1), (R.CL_EVENT, F.CL_EVENT.THERMAL, 1)]).onDev
          (·.refreshThrs))) ∧
      (fldOf s a F.CL_ZSTAT.EMPTY = 1 ∨ zoneReads s z.val < limit → exec (.zoneHot z) s = .next s) ∧
      (zoneReads s z.val < limit - 50 → exec (.zoneCool z) s = .next ((put s a F.CL_ZSTAT.HOT 0).onDev (·.refreshThrs))) ∧
      (limit - 50 ≤ zoneReads s z.val → exec (.zoneCool z) s = .next s)) ∧
    (∀ (f : Fin 4) (pulses : Nat), let k := fldOf s (R.CL_FLOW_CFG f.val) F.CL_FLOW_CFG.K
      Completes (.flowRate f pulses) s (fun t =>
        fldOf t (R.CL_FLOW f.val) F.CL_FLOW.RATE = (if k = 0 then 0 else min (pulses * 6000 / k) 65535) ∧
        (∀ a, a ≠ R.CL_FLOW f.val → (∀ l, l < 8 → a ≠ R.CL_LK_STAT l) → t.sys.dev.reg a = s.sys.dev.reg a) ∧ RestKept s t)) ∧
    (∀ l : Fin 8, let low := s.sys.dev.pressureLow l.val = true ∨ s.sys.dev.flowLow l.val = true
      (¬ low → exec (.loopAnomaly l) s = .next s) ∧
      (low → loopFld s l.val F.CL_LK_STAT.STATE = 0 → exec (.loopAnomaly l) s = .next
        (puts s [(R.CL_LK_STAT l.val, F.CL_LK_STAT.ANOMALY, 1), (R.CL_EVENT, F.CL_EVENT.LOOP_ANOMALY, 1)])) ∧
      (low → loopFld s l.val F.CL_LK_STAT.STATE ≠ 0 →
        ¬ (LoopFaulted s l.val ∧ fldOf s (R.CL_LK_A l.val) F.CL_LK_A.EN = 1 ∧ loopFld s l.val F.CL_LK_STAT.INFERRED = 0) →
        exec (.loopAnomaly l) s = .next (put s (R.CL_LK_STAT l.val) F.CL_LK_STAT.ANOMALY 1)) ∧
      (low → LoopFaulted s l.val → fldOf s (R.CL_LK_A l.val) F.CL_LK_A.EN = 1 → loopFld s l.val F.CL_LK_STAT.INFERRED = 0 →
        Completes (.loopAnomaly l) s (fun t => loopFld t l.val F.CL_LK_STAT.ANOMALY = 1 ∧
          loopFld t l.val F.CL_LK_STAT.INFERRED = 1 ∧ WetInForce t l.val))) ∧
    (∀ (l : Fin 8) (ohms st : Nat), InBand ohms st →
      (fldOf s (R.CL_LK_A l.val) F.CL_LK_A.EN = 0 → exec (.leakSample l ohms) s = .next s) ∧
      (fldOf s (R.CL_LK_A l.val) F.CL_LK_A.EN = 1 → Completes (.leakSample l ohms) s (fun t =>
        loopFld t l.val F.CL_LK_STAT.OHMS = min (ohms / 10) 0xFFFF ∧
        t.sys.dev.cool.bands[l] = (st :: s.sys.dev.cool.bands[l]).take 5 ∧
        ((s.sys.dev.cool.bands[l]).take 4 ≠ [st, st, st, st] →
          loopFld t l.val F.CL_LK_STAT.STATE = loopFld s l.val F.CL_LK_STAT.STATE) ∧
        ((s.sys.dev.cool.bands[l]).take 4 = [st, st, st, st] → loopFld t l.val F.CL_LK_STAT.STATE = st) ∧
        ((s.sys.dev.cool.bands[l]).take 4 = [st, st, st, st] → loopFld s l.val F.CL_LK_STAT.STATE ≠ st →
          (st = 1 → WetInForce t l.val) ∧
          (2 ≤ st → fldOf t R.CL_EVENT F.CL_EVENT.LEAK_FAULT = 1 ∧ fldOf t R.CL_MODE F.CL_MODE.FAULT_OVR = 1 ∧
            (loopFld s l.val F.CL_LK_STAT.ANOMALY = 1 → loopFld s l.val F.CL_LK_STAT.INFERRED = 0 →
              loopFld t l.val F.CL_LK_STAT.INFERRED = 1 ∧ WetInForce t l.val))) ∧
        (loopFld s l.val F.CL_LK_STAT.LATCHED = 1 → loopFld t l.val F.CL_LK_STAT.LATCHED = 1)))) ∧
    (∀ l : Fin 8, let shut := loopFld s l.val F.CL_LK_STAT.STATE = 1 ∨
        (fldOf s (R.CL_LK_A l.val) F.CL_LK_A.EN = 1 ∧ LoopFaulted s l.val ∧ loopFld s l.val F.CL_LK_STAT.ANOMALY = 1)
      (shut → exec (.tShutExpiry l) s = .next ((put s R.CL_EVENT F.CL_EVENT.LEAK_SHUTDOWN 1).onDev (·.seqStop 8))) ∧
      (¬ shut → exec (.tShutExpiry l) s = .next s)) ∧
    (∀ v : BitVec 32, s.sys.dev.answers 25 = false → exec (.clLkAck v) s = .next s) ∧
    (∀ v : BitVec 32, s.sys.dev.answers 25 = true → Completes (.clLkAck v) s (fun t => ∀ l, l < 8 →
      (v.getLsbD l = false → t.sys.dev.reg (R.CL_LK_STAT l) = s.sys.dev.reg (R.CL_LK_STAT l)) ∧
      (v.getLsbD l = true → loopFld s l F.CL_LK_STAT.STATE = 0 → loopFld s l F.CL_LK_STAT.ANOMALY = 0 →
        loopFld t l F.CL_LK_STAT.LATCHED = 0 ∧ loopFld t l F.CL_LK_STAT.INFERRED = 0) ∧
      (v.getLsbD l = true → loopFld s l F.CL_LK_STAT.STATE ≠ 0 ∨ loopFld s l F.CL_LK_STAT.ANOMALY = 1 →
        loopFld t l F.CL_LK_STAT.ACK_REJ = 1 ∧ loopFld t l F.CL_LK_STAT.LATCHED = loopFld s l F.CL_LK_STAT.LATCHED)))

/-- R380, R381, R385–R393: the command of each channel, the configuration within the power limit, and the states of a channel
from its start through its failed attempts to its acknowledgement. Model's own readings: log entries 1, 25, 63. -/
def Obligations.MotorResult : Prop :=
  ∀ s : State,
    (s.sys.dev.cool.trip = Vector.replicate 2 false → let s' := s.onDev (·.refreshCool)
      Completes .channelCommand s (fun t =>
        (∀ c : Fin 12, s'.sys.dev.motEnabled c = false →
          motFld t c F.MOT_STAT.STATE = 0 ∧ fldOf t (R.MOT_CMD c.val) F.MOT_CMD.PCT = 0) ∧
        (∀ c : Fin 12, s'.sys.dev.motEnabled c = true → 5 ≤ motFld s c F.MOT_STAT.STATE →
          motFld t c F.MOT_STAT.STATE = motFld s c F.MOT_STAT.STATE ∧
          (motFld s c F.MOT_STAT.STATE ≤ 6 → fldOf t (R.MOT_CMD c.val) F.MOT_CMD.PCT = 0)) ∧
        (∀ (c : Fin 12) (p st : Nat), s'.sys.dev.motEnabled c = true → motFld s c F.MOT_STAT.STATE = st → 1 ≤ st → st ≤ 4 →
          s'.sys.dev.command c.val = p → fldOf t (R.MOT_CMD c.val) F.MOT_CMD.PCT = p % 128 ∧
          (p = 0 → motFld t c F.MOT_STAT.STATE = if st = 4 then 4 else 1) ∧
          (0 < p → st = 1 → motFld t c F.MOT_STAT.STATE = 2 ∧ CountedAt s t (R.MOT_CNT c.val) F.MOT_CNT.STARTS) ∧
          (0 < p → st ≠ 1 → motFld t c F.MOT_STAT.STATE = st) ∧
          (0 < p → st = 3 → fldOf t (R.MOT_CMD c.val) F.MOT_CMD.RPM_CMD =
            rampStep (fldOf s (R.MOT_CMD c.val) F.MOT_CMD.RPM_CMD) (s.sys.dev.motTarget c p)
              (fldOf s (R.MOT_RAMP c.val) F.MOT_RAMP.RAMP) % 65536)) ∧
        (∀ n, n < 8 → (fldOf s (R.AX_STAT n) F.AX_STAT.STATE = 0 → fldOf t (R.AX_STAT n) F.AX_STAT.DUTY = 0) ∧
          (fldOf s (R.AX_STAT n) F.AX_STAT.STATE = 1 →
            fldOf t (R.AX_STAT n) F.AX_STAT.DUTY = s'.sys.dev.command (16 + n) % 128) ∧
          (fldOf s (R.AX_STAT n) F.AX_STAT.STATE = 2 → t.sys.dev.reg (R.AX_STAT n) = s.sys.dev.reg (R.AX_STAT n))))) ∧
    (∀ (c : Fin 12) (v : BitVec 32), s.sys.dev.answers (12 + c.val) = false → exec (.motCfgWrite c v) s = .next s) ∧
    (∀ (c : Fin 12) (v : BitVec 32), s.sys.dev.answers (12 + c.val) = true → Completes (.motCfgWrite c v) s (fun t =>
      (enabledPower s ≤ 1050 → enabledPower t ≤ 1050) ∧
      (∀ k : Fin 12, k ≠ c → t.sys.dev.reg (R.MOT_CFG k.val) = s.sys.dev.reg (R.MOT_CFG k.val) ∧
        t.sys.dev.reg (R.MOT_SPEED k.val) = s.sys.dev.reg (R.MOT_SPEED k.val)) ∧
      (fldOf t (R.MOT_CFG c.val) F.MOT_CFG.PROFILE ≠ fldOf s (R.MOT_CFG c.val) F.MOT_CFG.PROFILE →
        let fan := fldOf t (R.MOT_CFG c.val) F.MOT_CFG.PROFILE = 0
        fldOf t (R.MOT_CFG c.val) F.MOT_CFG.POLES = (if fan then 4 else 2) ∧
        fldOf t (R.MOT_CFG c.val) F.MOT_CFG.P_MAX = (if fan then 80 else 100) ∧
        fldOf t (R.MOT_SPEED c.val) F.MOT_SPEED.MIN_RPM = (if fan then 1500 else 500) ∧
        fldOf t (R.MOT_SPEED c.val) F.MOT_SPEED.MAX_RPM = (if fan then 20000 else 6000) ∧
        fldOf t (R.MOT_RAMP c.val) F.MOT_RAMP.RAMP = (if fan then 5000 else 1000) ∧
        fldOf t (R.CL_MAP c.val) F.CL_MAP.FLOOR = (if fan then 20 else 40)) ∧
      (fldOf t (R.MOT_CFG c.val) F.MOT_CFG.POLES ≠ fldOf s (R.MOT_CFG c.val) F.MOT_CFG.POLES →
        1 ≤ fldOf t (R.MOT_CFG c.val) F.MOT_CFG.POLES) ∧
      (fldOf t (R.MOT_CFG c.val) F.MOT_CFG.P_MAX ≠ fldOf s (R.MOT_CFG c.val) F.MOT_CFG.P_MAX →
        10 ≤ fldOf t (R.MOT_CFG c.val) F.MOT_CFG.P_MAX ∧ fldOf t (R.MOT_CFG c.val) F.MOT_CFG.P_MAX ≤ 150) ∧
      (fldOf t (R.MOT_CFG c.val) F.MOT_CFG.EN = 0 → motFld t c F.MOT_STAT.STATE = 0))) ∧
    (∀ (c : Fin 12) (bad : Bool), let start := motFld s c F.MOT_STAT.STATE = 2
      let hall := bad = true ∧ fldOf s (R.MOT_CFG c.val) F.MOT_CFG.HALL = 1
      (¬ start → ∀ dead, exec (.motorAlignDone c dead bad) s = .next s) ∧
      (¬ start → exec (.motorLock c bad) s = .next s ∧ exec (.lockDeadline c bad) s = .next s) ∧
      (start → ¬ hall → exec (.motorAlignDone c false bad) s = .next s) ∧
      (start → hall → exec (.motorAlignDone c false bad) s = .next (put s (R.MOT_STAT c.val) F.MOT_STAT.HALL_FAULT 1)) ∧
      (start → s.sys.dev.cool.motRan[c] = false → Completes (.motorAlignDone c true bad) s (fun t =>
        motFld t c F.MOT_STAT.STATE = 6 ∧ fldOf t R.CL_EVENT F.CL_EVENT.CH_ABSENT = 1 ∧
        t.sys.dev.reg R.CL_FAILED = s.sys.dev.reg R.CL_FAILED ∧ RestKept s t)) ∧
      (start → s.sys.dev.cool.motRan[c] = true → motFld s c F.MOT_STAT.TRIES < 4 →
        Completes (.motorAlignDone c true bad) s (fun t => FailedAttempt s t c 4)) ∧
      (start → motFld s c F.MOT_STAT.TRIES < 4 → Completes (.lockDeadline c bad) s (fun t => FailedAttempt s t c 1)) ∧
      (start → Completes (.motorLock c bad) s (fun t => motFld t c F.MOT_STAT.STATE = 3 ∧ t.sys.dev.cool.motRan[c] = true ∧
        motFld t c F.MOT_STAT.TRIES = motFld s c F.MOT_STAT.TRIES ∧ (hall → motFld t c F.MOT_STAT.HALL_FAULT = 1) ∧
        RestKept s t))) ∧
    (∀ c : Fin 12, let st := motFld s c F.MOT_STAT.STATE
      (st ≠ 3 → exec (.lockLoss c) s = .next s ∧ exec (.openWinding c) s = .next s ∧ exec (.triesReset c) s = .next s ∧
        ∀ rpm, exec (.lowSpeedStall c rpm) s = .next s) ∧
      (st = 3 → exec (.triesReset c) s = .next (put s (R.MOT_STAT c.val) F.MOT_STAT.TRIES 0)) ∧
      (st = 3 → motFld s c F.MOT_STAT.TRIES < 4 →
        Completes (.lockLoss c) s (fun t => FailedAttempt s t c 2) ∧
        Completes (.openWinding c) s (fun t => FailedAttempt s t c 4) ∧
        ∀ rpm : BitVec 16, rpm.toNat * 100 < fldOf s (R.MOT_RAMP c.val) F.MOT_RAMP.STALL_PCT *
            fldOf s (R.MOT_CMD c.val) F.MOT_CMD.RPM_CMD →
          Completes (.lowSpeedStall c rpm) s (fun t => FailedAttempt s t c 2)) ∧
      (st = 2 ∨ st = 3 → motFld s c F.MOT_STAT.TRIES < 4 → Completes (.overcurrent c) s (fun t => FailedAttempt s t c 3)) ∧
      (st ≠ 2 → st ≠ 3 → exec (.overcurrent c) s = .next s) ∧
      (st ≠ 4 → exec (.retryWaitEnd c) s = .next s) ∧
      (st = 4 → Completes (.retryWaitEnd c) s (fun t =>
        (s.sys.dev.command c.val = 0 → motFld t c F.MOT_STAT.STATE = 1) ∧
        (0 < s.sys.dev.command c.val → motFld t c F.MOT_STAT.STATE = 2 ∧
          CountedAt s t (R.MOT_CNT c.val) F.MOT_CNT.STARTS)))) ∧
    (∀ (k : Fin 2) (temp : Int),
      (temp < 1250 → exec (.driveThermalTrip k temp) s = .next s) ∧
      (1250 ≤ temp → Completes (.driveThermalTrip k temp) s (fun t => t.sys.dev.cool.trip[k] = true ∧
        ∀ c : Fin 12, (c.val < 6 ↔ k = 0) → motFld s c F.MOT_STAT.STATE ≠ 0 → motFld s c F.MOT_STAT.STATE ≠ 5 →
          ChannelFailed t c ∧ motFld t c F.MOT_STAT.CAUSE = 5 ∧
          motFld t c F.MOT_STAT.TRIES = motFld s c F.MOT_STAT.TRIES ∧ CountedAt s t (R.MOT_CNT c.val) F.MOT_CNT.FAILS)) ∧
      (temp < 1150 ∨ 1250 ≤ temp → exec (.driveDerate k temp) s = .next s) ∧
      (1150 ≤ temp → temp < 1250 → Completes (.driveDerate k temp) s (fun t =>
        (∀ c : Fin 12, (c.val < 6 ↔ k = 0) → motFld t c F.MOT_STAT.DERATE = 1) ∧
        ((∀ c : Fin 12, (c.val < 6 ↔ k = 0) → motFld s c F.MOT_STAT.DERATE = 0) →
          fldOf t R.CL_EVENT F.CL_EVENT.DERATE = 1)))) ∧
    (∀ n : Fin 8, let a := R.AX_STAT n.val
      (fldOf s a F.AX_STAT.STATE = 1 → 20 < fldOf s a F.AX_STAT.DUTY → Completes (.auxTachFail n) s (fun t =>
        fldOf t a F.AX_STAT.STATE = 2 ∧ fldOf t a F.AX_STAT.DUTY = fldOf s a F.AX_STAT.DUTY ∧
        chanOn t R.CL_FAILED F.CL_FAILED.AUX n.val = true ∧ fldOf t R.CL_EVENT F.CL_EVENT.CH_FAILED = 1 ∧
        fldOf t R.CL_MODE F.CL_MODE.FAIL_OVR = 1)) ∧
      (fldOf s a F.AX_STAT.STATE ≠ 1 ∨ fldOf s a F.AX_STAT.DUTY ≤ 20 → exec (.auxTachFail n) s = .next s)) ∧
    (∀ v : BitVec 32, s.sys.dev.answers 10 = false → exec (.clFailAck v) s = .next s) ∧
    (∀ v : BitVec 32, s.sys.dev.answers 10 = true → s.sys.dev.cool.trip = Vector.replicate 2 false →
      Completes (.clFailAck v) s (fun t =>
        (∀ c : Fin 12, v.getLsbD c.val = false → t.sys.dev.reg (R.MOT_STAT c.val) = s.sys.dev.reg (R.MOT_STAT c.val) ∧
          chanOn t R.CL_FAILED F.CL_FAILED.MOT c.val = chanOn s R.CL_FAILED F.CL_FAILED.MOT c.val) ∧
        (∀ c : Fin 12, v.getLsbD c.val = true → motFld s c F.MOT_STAT.STATE = 5 ∨ motFld s c F.MOT_STAT.STATE = 6 →
          (motFld t c F.MOT_STAT.STATE = 1 ∨ motFld t c F.MOT_STAT.STATE = 2) ∧ motFld t c F.MOT_STAT.TRIES = 0 ∧
          chanOn t R.CL_FAILED F.CL_FAILED.MOT c.val = false) ∧
        (∀ c : Fin 12, v.getLsbD c.val = true → motFld s c F.MOT_STAT.STATE = 0 → motFld t c F.MOT_STAT.STATE = 0 ∧
          chanOn t R.CL_FAILED F.CL_FAILED.MOT c.val = false) ∧
        (∀ n, n < 8 → v.getLsbD (16 + n) = true → chanOn t R.CL_FAILED F.CL_FAILED.AUX n = false ∧
          (fldOf s (R.AX_STAT n) F.AX_STAT.STATE = 2 → fldOf t (R.AX_STAT n) F.AX_STAT.STATE = 1))))

/-- R407–R412, R415, R426: one attempt at a transaction of each of the fifteen protocols, by the table of R408: the bytes on
the wire, what is read into BP_BUF, PEC, and every other end; the retry, the back-off, the free bus and the clock timeout.
Model's own readings: log entries 1, 27. -/
def Obligations.BusTransactionResult : Prop :=
  (∀ row ∈ busTable, ∀ (s : State) (m : Fin 12) (r : BusRun), let x := row.2
    let c := busAt s m
    let sent := sentBytes x c
    let got := dataRead x c r
    (c.phase ≠ .running ∨ xferProto c ≠ x.proto → exec (row.1 m r) s = .next s) ∧
    (c.phase = .running → xferProto c = x.proto → SegDead s m →
      Completes (row.1 m r) s (fun t => TransferEnds s t m 7 false)) ∧
    (c.phase = .running → xferProto c = x.proto → ¬ SegDead s m →
      (r.stretches ≠ 0 → Completes (row.1 m r) s (fun t => busEvent t m F.BUS_EVENT.MIDBYTE_STRETCH = 1 ∧
        fldOf t (R.BUS_STRETCH_CNT m.val) F.BUS_STRETCH_CNT.COUNT =
          min (fldOf s (R.BUS_STRETCH_CNT m.val) F.BUS_STRETCH_CNT.COUNT + r.stretches) (2 ^ 32 - 1))) ∧
      (r.lost = true → Completes (row.1 m r) s (fun t => busEvent t m F.BUS_EVENT.ARB_LOST = 1 ∧
        CountedAt s t (R.BUS_ARB_CNT m.val) F.BUS_ARB_CNT.COUNT ∧
        (c.arbLosses < 8 → (busAt t m).phase = .backoff ∧ (busAt t m).free = false ∧ (busAt t m).arbLosses = c.arbLosses + 1 ∧
          (busAt t m).addrRetries = c.addrRetries ∧ BusOnly s t m) ∧
        (8 ≤ c.arbLosses → TransferEnds s t m 3 false))) ∧
      (r.lost = false → r.addrAck = false → Completes (row.1 m r) s (fun t =>
        CountedAt s t (R.BUS_NACK_CNT m.val) F.BUS_NACK_CNT.COUNT ∧ (busAt t m).wire = [firstByte x c] ∧
        (c.addrRetries < 3 → (busAt t m).phase = .addrRetry ∧ (busAt t m).addrRetries = c.addrRetries + 1 ∧
          (busAt t m).arbLosses = c.arbLosses ∧ BusOnly s t m) ∧
        (3 ≤ c.addrRetries → TransferEnds s t m 1 true))) ∧
      (r.lost = false → r.addrAck = true → r.dataAck = false → written x c ≠ [] →
        Completes (row.1 m r) s (fun t => TransferEnds s t m 2 true)) ∧
      (r.lost = false → r.addrAck = true → (r.dataAck = true ∨ written x c = []) →
        (x.again = true → r.restartAck = false → Completes (row.1 m r) s (fun t => TransferEnds s t m 1 true ∧
          (busAt t m).wire = sent ∧ CountedAt s t (R.BUS_NACK_CNT m.val) F.BUS_NACK_CNT.COUNT)) ∧
        (x.again = false ∨ r.restartAck = true →
          (x.reads = .none → Completes (row.1 m r) s (fun t => TransferEnds s t m 0 true ∧
            (busAt t m).wire = (if xferPec c then sent ++ [pec sent] else sent) ∧ (busAt t m).buf = c.buf)) ∧
          (x.reads ≠ .none → Completes (row.1 m r) s (fun t => (busAt t m).wire = sent ∧ (busAt t m).rcount = got.length ∧
            (∀ i (h : i < got.length), memByte (busAt t m).buf i = got[i]) ∧
            (∀ i, got.length ≤ i → memByte (busAt t m).buf i = memByte c.buf i) ∧
            (xferPec c = false ∨ pec (sent ++ countRead x r ++ got) = r.pec → TransferEnds s t m 0 true) ∧
            (x.reads = .block → got = [] → TransferEnds s t m 0 true) ∧
            (xferPec c = true → pec (sent ++ countRead x r ++ got) ≠ r.pec → (x.reads = .block → got ≠ []) →
              TransferEnds s t m 4 true ∧ busEvent t m F.BUS_EVENT.PEC_ERR = 1 ∧
              CountedAt s t (R.BUS_PEC_CNT m.val) F.BUS_PEC_CNT.COUNT))))))) ∧
  (∀ (s : State) (m : Fin 12), let c := busAt s m
    let begins := onBus s m (fun c => { c with phase := if c.free then .running else .waitFree })
    (c.phase = .addrRetry → exec (.addrNackRetry m) s = .next begins) ∧
    (c.phase ≠ .addrRetry → exec (.addrNackRetry m) s = .next s) ∧
    (c.phase = .backoff → c.free = true → exec (.arbBackoffEnd m) s = .next begins) ∧
    (c.phase ≠ .backoff ∨ c.free = false → exec (.arbBackoffEnd m) s = .next s) ∧
    (busStat s m F.BUS_STAT.STUCK = 1 → exec (.busFree m) s = .next s) ∧
    (busStat s m F.BUS_STAT.STUCK = 0 → Completes (.busFree m) s (fun t => (busAt t m).free = true ∧
      (c.phase = .waitFree → ¬ SegDead s m → (busAt t m).phase = .running) ∧
      (c.phase ≠ .waitFree ∨ SegDead s m → (busAt t m).phase = c.phase) ∧
      (c.phase ≠ .running → (busAt t m).cfgNow = s.sys.dev.reg (R.BUS_CFG m.val)) ∧ BusOnly s t m)) ∧
    (c.phase ≠ .running → exec (.clkTimeout m) s = .next s) ∧
    (c.phase = .running → Completes (.clkTimeout m) s (fun t => TransferEnds s t m 5 false ∧
      busEvent t m F.BUS_EVENT.CLK_TIMEOUT = 1)))

/-- R416–R428: the device as a target, asleep and awake; Host Notify and the alert response; a bus stuck and clear again, its
transfers ended; an unpowered segment; the outcome of a segment power cycle and a new episode. Model's own readings: log
entries 1, 27. Model's own readings: log entries 1, 27. -/
def Obligations.BusTargetAndHealthResult : Prop :=
  ∀ (s : State) (m : Fin 12), let c := busAt s m
    let stuck := busStat s m F.BUS_STAT.STUCK
    let answers := F.BUS_CFG.TGT_EN.get c.cfgNow = 1 ∧ stuck = 0
    let awake := answers ∧ busStat s m F.BUS_STAT.ASLEEP = 0
    let tgtAddr := F.BUS_CFG.TGT_ADDR.get c.cfgNow
    let ofAddr (rw : Nat) : BitVec 8 := BitVec.ofNat 8 (2 * tgtAddr + rw)
    (∀ run : TgtRun, (¬ answers → exec (.tgtTransaction m run) s = .next s) ∧
      (answers → busStat s m F.BUS_STAT.ASLEEP = 1 →
        exec (.tgtTransaction m run) s = .next (put s (R.BUS_STAT m.val) F.BUS_STAT.ASLEEP 0)) ∧
      (awake → Completes (.tgtTransaction m run) s (fun t =>
        CountedAt s t (R.BUS_TGT_CNT m.val) F.BUS_TGT_CNT.COUNT))) ∧
    (awake → (∀ v ∈ targetValues s, ∀ n,
        exec (.tgtTransaction m ⟨some v.1, 0, some n⟩) s = .next (onBus (bump s (R.BUS_TGT_CNT m.val) F.BUS_TGT_CNT.COUNT) m
          (fun c => { c with
            tgtSel := some v.1
            tgtOut := targetSends (ofAddr 0 :: BitVec.ofNat 8 v.1 :: ofAddr 1 :: []) v.2 n })) ∧
        exec (.tgtTransaction m ⟨some v.1, 0, none⟩) s = .next (onBus (bump s (R.BUS_TGT_CNT m.val) F.BUS_TGT_CNT.COUNT) m
          (fun c => { c with tgtSel := some v.1, tgtOut := [] })) ∧
        (c.tgtSel = some v.1 ∨ (c.tgtSel = none ∧ v.1 = 1) → exec (.tgtTransaction m ⟨none, 0, some n⟩) s =
          .next (onBus (bump s (R.BUS_TGT_CNT m.val) F.BUS_TGT_CNT.COUNT) m
            (fun c => { c with tgtOut := targetSends (ofAddr 1 :: []) v.2 n })))) ∧
      (∀ code wlen n, 0x0A ≤ code → exec (.tgtTransaction m ⟨some code, wlen, n⟩) s =
        .next (onBus (bump s (R.BUS_TGT_CNT m.val) F.BUS_TGT_CNT.COUNT) m (fun c => { c with tgtOut := [] })))) ∧
    (fldOf s (R.BUS_TGT m.val) F.BUS_TGT.T_SLEEP = 0 → exec (.tgtSleep m) s = .next s) ∧
    (fldOf s (R.BUS_TGT m.val) F.BUS_TGT.T_SLEEP ≠ 0 →
      exec (.tgtSleep m) s = .next (put s (R.BUS_STAT m.val) F.BUS_STAT.ASLEEP 1)) ∧
    exec (.tgtSclTimeout m) s = .next (put s (R.BUS_EVENT m.val) F.BUS_EVENT.TGT_TIMEOUT 1) ∧
    (∀ (addr : BitVec 7) (data : BitVec 16),
      (stuck = 1 → exec (.hostNotify m addr data) s = .next s) ∧
      (stuck = 0 → 8 ≤ c.hn.length →
        exec (.hostNotify m addr data) s = .next (put s (R.BUS_EVENT m.val) F.BUS_EVENT.HN_DROP 1)) ∧
      (stuck = 0 → c.hn.length < 8 → exec (.hostNotify m addr data) s =
        .next (onBus (bump s (R.BUS_TGT_CNT m.val) F.BUS_TGT_CNT.COUNT) m
          (fun c => { c with hn := c.hn ++ [(addr.toNat, data.toNat)] })))) ∧
    (∀ won : Bool, (c.alert = false ∨ stuck = 1 → exec (.alertResponse m won) s = .next s) ∧
      (c.alert = true → stuck = 0 → exec (.alertResponse m won) s =
        .next (onBus (bump s (R.BUS_TGT_CNT m.val) F.BUS_TGT_CNT.COUNT) m
          (fun c => { c with tgtOut := if won then [ofAddr 0] else [], alert := !won })))) ∧
    (SegDead s m ∨ stuck = 1 → exec (.busStuck m) s = .next s) ∧
    (¬ SegDead s m → stuck = 0 → Completes (.busStuck m) s (fun t => busStat t m F.BUS_STAT.STUCK = 1 ∧
      busEvent t m F.BUS_EVENT.STUCK = 1 ∧ CountedAt s t (R.BUS_STUCK_CNT m.val) F.BUS_STUCK_CNT.STUCK ∧
      (busAt t m).free = false ∧ (busAt t m).phase = .idle ∧
      (c.phase ≠ .idle → (busAt t m).result = 6 ∧ CountedAt s t (R.BUS_XFER_CNT m.val) F.BUS_XFER_CNT.COUNT) ∧
      (busCfg s m F.BUS_CFG.SEG_EN = 1 → busStat s m F.BUS_STAT.SEG_PENDING = 0 → SegRequested s t m) ∧
      (busCfg s m F.BUS_CFG.SEG_EN = 0 → t.sys.dev.tray.segReq = s.sys.dev.tray.segReq))) ∧
    (stuck = 0 → exec (.busStuckClear m) s = .next s) ∧
    (stuck = 1 → Completes (.busStuckClear m) s (fun t => busStat t m F.BUS_STAT.STUCK = 0 ∧
      busEvent t m F.BUS_EVENT.STUCK_CLEAR = 1 ∧ busStat t m F.BUS_STAT.SEG_CYCLES = 0 ∧ (busAt t m).free = true ∧
      BusOnly s t m)) ∧
    (¬ SegDead s m → exec (.busUnpowered m) s = .next s) ∧
    (SegDead s m → c.phase = .idle → exec (.busUnpowered m) s = .next (onBus s m (fun c => { c with free := false }))) ∧
    (SegDead s m → c.phase ≠ .idle → Completes (.busUnpowered m) s (fun t => TransferEnds s t m 7 false)) ∧
    (c.judging = false → exec (.segOutcome m) s = .next s) ∧
    (c.judging = true → let s' := onBus s m (fun c => { c with judging := false })
      (stuck = 0 → exec (.segOutcome m) s = .next s') ∧
      (stuck = 1 → 3 ≤ busStat s m F.BUS_STAT.SEG_CYCLES →
        exec (.segOutcome m) s = .next (put s' (R.BUS_EVENT m.val) F.BUS_EVENT.SEG_FAILED 1)) ∧
      (stuck = 1 → busStat s m F.BUS_STAT.SEG_CYCLES < 3 → busCfg s m F.BUS_CFG.SEG_EN = 0 →
        exec (.segOutcome m) s = .next s') ∧
      (stuck = 1 → busStat s m F.BUS_STAT.SEG_CYCLES < 3 → busCfg s m F.BUS_CFG.SEG_EN = 1 →
        busStat s m F.BUS_STAT.SEG_PENDING = 0 → Completes (.segOutcome m) s (fun t => SegRequested s t m ∧
          busStat t m F.BUS_STAT.SEG_CYCLES = busStat s m F.BUS_STAT.SEG_CYCLES + 1))) ∧
    (busCfg s m F.BUS_CFG.SEG_EN = 0 ∨ stuck = 0 ∨ busStat s m F.BUS_STAT.SEG_PENDING = 1 →
      exec (.segRetry m) s = .next (put s (R.BUS_STAT m.val) F.BUS_STAT.SEG_CYCLES 0)) ∧
    (busCfg s m F.BUS_CFG.SEG_EN = 1 → stuck = 1 → busStat s m F.BUS_STAT.SEG_PENDING = 0 →
      Completes (.segRetry m) s (fun t => SegRequested s t m ∧ busStat t m F.BUS_STAT.SEG_CYCLES = 1))

/-- R440, R458, R462–R466, R475, R477: how each request to the security core is taken, refused and answered: INSTALL, VERIFY,
SIGN_MMP, SPDM, STAGE, REVOKE, OWNER_KEY and CERT_WRITE. Model's own readings: log entries 1, 11, 54. -/
def Obligations.SecurityRequestResult : Prop :=
  ∀ s : State,
    (∀ c op, IsRequest c op → (¬ Reaches s op → exec c s = .next s) ∧
      (Reaches s op → Refuses s op → exec c s = .next (answered s s 0x20)) ∧
      (Reaches s op → ¬ Refuses s op → s.sys.dev.poisonedRange (blockAt s) 64 = true →
        exec c s = .next (answered s s 0x09))) ∧
    (Serves s 1 → ∀ flash, let p := (s.sys.nv.slots[s.sys.dev.boot.slot]).pack
      let entry := blockArg0 s % 256
      let es := enginesOf (blockArg0 s / 256 % 256) (blockArg1 s % 4096)
      let bad := bytesNat ((p.drop 6).take 2) ≤ entry ∨ blockArg1 s % 4096 = 0 ∨
        es.length ≠ ((List.range 12).filter (bit (blockArg1 s % 4096))).length
      let same := imgDigest p = s.sys.dev.boot.image.packDigest
      (bad → exec (.secInstall flash) s = .next (answered s s 0x21)) ∧
      (¬ bad → flash = true ∨ ¬ same → exec (.secInstall flash) s = .next (answered s s 0x09)) ∧
      (∀ e, ¬ bad → same → es = [e] → let r := s.sys.dev.install e p (packEntry p entry)
        exec (.secInstall false) s = .next (answered s (stores (s.onDev (fun _ => r.2)) (blockAt s + 32)
          ((List.range 32).map (fun j => BitVec.ofNat 8 (if e.index = j then r.1 else 0)))) 0))) ∧
    (Serves s 2 → let kind := blockArg0 s / 16 % 16
      let first := (blockArg0 s).testBit 0
      let last := (blockArg0 s).testBit 1
      let bytes := memBytes s.sys.dev.mem (blockAddr0 s) (blockLen s)
      let bad := kind = 0 ∨ 5 < kind ∨ ¬ InSram (blockAddr0 s) (blockLen s) ∨
        (first = true ∧ blockLen s < if kind = 5 then 96 else 64) ∨ (last = true ∧ blockLen s < 132)
      let held : State := s.onDev (fun d => { d with boot := { d.boot with chunk := some ⟨false, kind, bytes, 0⟩ } })
      let ended : State := s.onDev (fun d => { d with boot := { d.boot with chunk := none } })
      (bad → exec .secVerify s = .next (answered s s 0x21)) ∧
      (¬ bad → s.sys.dev.poisonedRange (blockAddr0 s) (blockLen s) = true → exec .secVerify s = .next (answered s s 0x09)) ∧
      (¬ bad → s.sys.dev.poisonedRange (blockAddr0 s) (blockLen s) = false →
        (first = false → s.sys.dev.boot.chunk = none → exec .secVerify s = .next (answered s s 0x20)) ∧
        (first = true → last = false → exec .secVerify s = .next (answered s held 0)) ∧
        (first = true → last = true → exec .secVerify s = .next (answered s
          (stores ended (blockAt s + 32) (sha256 (bytes.take (verifyTrailer kind bytes))))
          (verifyCheck s.sys.dev.shadow kind bytes))))) ∧
    (Serves s 3 → (¬ InSram (blockAddr0 s) 64 → exec .secSignMmp s = .next (answered s s 0x21)) ∧
      (InSram (blockAddr0 s) 64 → ∃ k n, exec .secSignMmp s = .next (answered s (stores (drew s n) (blockAddr0 s)
        (s.sys.nv.fuses.signWith k (bytesNatBe (sha256 (ascii "MIRYS-MMP-HS-1" ++ blockData s))))) 0))) ∧
    (Serves s 4 → let ok := InSram (blockAddr0 s) (blockLen s) ∧ InSram (blockAddr1 s) 4096
      let r := spdmAnswer (memBytes s.sys.dev.mem (blockAddr0 s) (blockLen s)) s.sys
      (¬ ok → exec .secSpdm s = .next (answered s s 0x21)) ∧
      (ok → s.sys.dev.poisonedRange (blockAddr0 s) (blockLen s) = true → exec .secSpdm s = .next (answered s s 0x09)) ∧
      (ok → s.sys.dev.poisonedRange (blockAddr0 s) (blockLen s) = false → exec .secSpdm s = .next (answered s
        (stores (stores { s with sys := r.2 } (blockAddr1 s) r.1) (blockAt s + 28) (natBytes 4 r.1.length)) 0))) ∧
    (Serves s 5 → ∀ flash, let t := if blockArg0 s / 65536 = 0 then 120 else blockArg0 s / 65536
      let first := (blockArg0 s).testBit 0
      let comp := componentOf (blockArg0 s / 4 % 4)
      let bytes := memBytes s.sys.dev.mem (blockAddr0 s) (blockLen s)
      let target := otherSlot s.sys.dev.boot.slot
      let bad := comp = none ∨ ¬ InSram (blockAddr0 s) (blockLen s) ∨ (first = true ∧ (t < 30 ∨ 900 < t))
      (s.sys.updBlock ≠ 0 → exec (.secStage flash) s = .next (answered s s 0x20)) ∧
      (s.sys.updBlock = 0 → bad → exec (.secStage flash) s = .next (answered s s 0x21)) ∧
      (s.sys.updBlock = 0 → ¬ bad → s.sys.dev.poisonedRange (blockAddr0 s) (blockLen s) = true →
        exec (.secStage flash) s = .next (answered s s 0x09)) ∧
      (∀ c, s.sys.updBlock = 0 → ¬ bad → s.sys.dev.poisonedRange (blockAddr0 s) (blockLen s) = false → comp = some c →
        (first = false → s.sys.dev.boot.chunk = none → exec (.secStage flash) s = .next (answered s s 0x20)) ∧
        (first = true → c.maxLen < bytes.length → Completes (.secStage flash) s (fun u => AnsweredWith s u 0x03 ∧
          u.sys.nv = s.sys.nv)) ∧
        (first = true → bytes.length ≤ c.maxLen → Completes (.secStage flash) s (fun u =>
          let slot := ((s.sys.nv.slots[s.sys.dev.boot.slot]).putPart c []).putPart c bytes
          u.sys.nv.slots[target] = slot ∧
          u.sys.nv.slots[s.sys.dev.boot.slot] = s.sys.nv.slots[s.sys.dev.boot.slot] ∧ u.sys.nv.fuses = s.sys.nv.fuses ∧
          ((blockArg0 s).testBit 1 = false → AnsweredWith s u 0 ∧ u.sys.nv.dirs = s.sys.nv.dirs ∧
            u.sys.dev.boot.chunk = some ⟨true, c.code, bytes, t⟩) ∧
          ((blockArg0 s).testBit 1 = true → let code := slotCheck s.sys.dev.shadow slot (fun c => flash.getLsbD c.code)
            AnsweredWith s u code ∧ u.sys.dev.boot.chunk = none ∧
            (code ≠ 0 → u.sys.nv.dirs = s.sys.nv.dirs) ∧
            (code = 0 → u.sys.nv.dir.trial = 1 ∧ u.sys.nv.dir.trialSlot = target ∧ u.sys.nv.dir.tTrial = t ∧
              u.sys.nv.dir.active = s.sys.nv.dir.active)))))) ∧
    (Serves s 6 → let f := s.sys.dev.shadow
      (∀ k : Fin 8, k.val = 4 * (blockArg0 s % 2) + blockArg0 s / 2 % 4 →
        (f.usable k = false → exec .secRevoke s = .next (answered s s 0x21)) ∧
        (f.usable k = true → (∃ i : Fin 2, slotSurvives (f.revoked k) s.sys.nv.slots[i] = false) ∨
            (∀ j : Fin 8, j.val < 4 → j ≠ k → f.usable j = false) → exec .secRevoke s = .next (answered s s 0x23)) ∧
        (f.usable k = true → (∀ i : Fin 2, slotSurvives (f.revoked k) s.sys.nv.slots[i] = true) →
          (∃ j : Fin 8, j.val < 4 ∧ j ≠ k ∧ f.usable j = true) →
          (fldOf s R.TR_STAT F.TR_STAT.HOLD_OK = 0 → exec .secRevoke s = .next (answered s s 0x22)) ∧
          (fldOf s R.TR_STAT F.TR_STAT.HOLD_OK = 1 → s.sys.nv.fuses.fields = f → Completes .secRevoke s (fun u =>
            AnsweredWith s u 0 ∧ FusesAre u { f with revoke := f.revoke ||| BitVec.ofNat 8 (2 ^ k.val) } ∧
            fldOf u R.SEC_EVENT F.SEC_EVENT.REVOKED = 1 ∧ u.sys.nv.slots = s.sys.nv.slots))))) ∧
    (Serves s 7 → let f := s.sys.dev.shadow
      ∀ k : Fin 8, k.val = 4 + blockArg0 s % 4 →
        (f.isSet k = true ∨ f.keyHash[k] ≠ 0#256 → exec .secOwnerKey s = .next (answered s s 0x24)) ∧
        (f.isSet k = false → f.keyHash[k] = 0#256 →
          (fldOf s R.TR_STAT F.TR_STAT.HOLD_OK = 0 → exec .secOwnerKey s = .next (answered s s 0x22)) ∧
          (fldOf s R.TR_STAT F.TR_STAT.HOLD_OK = 1 → s.sys.nv.fuses.fields = f → Completes .secOwnerKey s (fun u =>
            AnsweredWith s u 0 ∧ FusesAre u { f with
              keyHash := vset f.keyHash k (BitVec.ofNat 256 (bytesNatBe (blockData s)))
              keySet := f.keySet ||| BitVec.ofNat 8 (2 ^ k.val) })))) ∧
    (Serves s 8 → ∀ leafOk, let p := memBytes s.sys.dev.mem (blockAddr0 s) (blockLen s)
      let ok := InSram (blockAddr0 s) (blockLen s) ∧ blockLen s ≤ 65536
      let poison := s.sys.dev.poisonedRange (blockAddr0 s) (blockLen s)
      (¬ ok → exec (.secCertWrite leafOk) s = .next (answered s s 0x21)) ∧
      (ok → poison = true → exec (.secCertWrite leafOk) s = .next (answered s s 0x09)) ∧
      (ok → poison = false → leafOk = false ∨ certWrapperOk p = false →
        exec (.secCertWrite leafOk) s = .next (answered s s 0x21)) ∧
      (ok → poison = false → leafOk = true → certWrapperOk p = true → exec (.secCertWrite leafOk) s =
        .next (answered s { s with sys := { s.sys with nv := { s.sys.nv with cert := p } } } 0)))

/-- R466, R468, R469: the SPDM 1.2 responder: the answer to each request in order, the errors of the others, and what a
signature covers. Model's own readings: log entries 32, 54. -/
def Obligations.SpdmResult : Prop :=
  ∀ (s : State) (req : List (BitVec 8)), let stage := s.sys.dev.boot.spdm.stage
    let ctx := s.sys.dev.boot.spdm
    let head (code p1 p2 : Nat) : List (BitVec 8) := [0x12#8, BitVec.ofNat 8 code, BitVec.ofNat 8 p1, BitVec.ofNat 8 p2]
    let error (code : Nat) : State := onSpdm s (fun c => { c with last := head 0x7F code 0 })
    let asked (code : Nat) := SpdmServed s ∧ 4 ≤ req.length ∧ wordAt req 1 1 = code
    (∀ c code need, IsSpdm c req code need →
      (¬ SpdmServed s ∨ wordAt req 1 1 ≠ code → exec c s = .next s) ∧
      (SpdmServed s → wordAt req 1 1 = code → req.length < 4 → exec c s = .next (error 0x01)) ∧
      (asked code → need ≠ 0 → stage ≠ need → exec c s = .next (error 0x04)) ∧
      (asked code → need ≠ 0 → stage = need → wordAt req 0 1 ≠ 0x12 → exec c s = .next (error 0x41))) ∧
    (asked 0x84 → let r := [0x10#8, 0x04#8, 0#8, 0#8, 0#8, 1#8, 0#8, 0x12#8]
      exec (.getVersion req) s = .next (onSpdm s (fun _ => ⟨1, req ++ r, [], [], r⟩))) ∧
    (asked 0xE1 → stage = 1 → wordAt req 0 1 = 0x12 →
      let r := head 0x61 0 0 ++ [0#8, 13#8, 0#8, 0#8, 0x16#8, 0#8, 0#8, 0#8, 0#8, 0x10#8, 0#8, 0#8, 0#8, 0x10#8, 0#8, 0#8]
      exec (.getCapabilities req) s = .next (onSpdm s (fun c => { c with stage := 2, vca := c.vca ++ req ++ r, last := r }))) ∧
    (asked 0xE3 → stage = 2 → wordAt req 0 1 = 0x12 →
      let r := head 0x63 0 0 ++ [36#8, 0#8, 1#8, 0#8, 2#8, 0#8, 0#8, 0#8, 0x10#8, 0#8, 0#8, 0#8, 1#8, 0#8, 0#8, 0#8] ++ zeros 16
      exec (.negotiateAlgorithms req) s =
        .next (onSpdm s (fun c => { c with stage := 3, vca := c.vca ++ req ++ r, last := r }))) ∧
    (asked 0x82 → stage = 3 → wordAt req 0 1 = 0x12 → let off := wordAt req 4 2
      let chain := (s.sys.nv.cert.drop 16).take (wordAt s.sys.nv.cert 4 4)
      let part := (chain.drop off).take (min (wordAt req 6 2) 4000)
      let r := head 0x02 0 0 ++ natBytes 2 part.length ++ natBytes 2 (chain.length - off - part.length) ++ part
      let good := 8 ≤ req.length ∧ wordAt req 2 1 % 16 = 0 ∧ off < chain.length
      (¬ good → exec (.getCertificate req) s = .next (error 0x01)) ∧
      (good → exec (.getCertificate req) s =
        .next (onSpdm s (fun c => { c with certs := c.certs ++ req ++ r, meas := [], last := r })))) ∧
    (asked 0x83 → stage = 3 → wordAt req 0 1 = 0x12 → let type := wordAt req 3 1
      let chain := (s.sys.nv.cert.drop 16).take (wordAt s.sys.nv.cert 4 4)
      let good := 36 ≤ req.length ∧ wordAt req 2 1 % 16 = 0 ∧ (type = 0 ∨ type = 1 ∨ type = 0xFF)
      (¬ good → exec (.challenge req) s = .next (error 0x01)) ∧
      (good → Completes (.challenge req) s (fun t => ∃ nonce sig,
        let r := head 0x03 0 1 ++ sha256 chain ++ nonce ++ s.sys.dev.boot.meas.summary type ++ [0#8, 0#8]
        nonce.length = 32 ∧ t.sys.dev.boot.spdm = ⟨3, ctx.vca, [], [], r ++ sig⟩ ∧
        SpdmSigned s (ascii "responder-challenge_auth signing") (ctx.vca ++ ctx.certs ++ req ++ r) sig ∧ RestKept s t))) ∧
    (asked 0xE0 → stage = 3 → wordAt req 0 1 = 0x12 → let signed := (wordAt req 2 1).testBit 0
      let i := wordAt req 3 1
      let good := (signed = true → 37 ≤ req.length ∧ wordAt req 36 1 % 16 = 0) ∧ (i ≤ 6 ∨ i = 0xFF)
      (¬ good → exec (.getMeasurements req) s = .next (error 0x01)) ∧
      (good → Completes (.getMeasurements req) s (fun t => ∃ nonce sig,
        let blocks := if i = 0 then [] else if i = 0xFF then [1, 2, 3, 4, 5, 6] else [i]
        let record := blocks.flatMap s.sys.dev.boot.meas.block
        let r := head 0x60 (if i = 0 then 6 else 0) 0 ++ [BitVec.ofNat 8 blocks.length] ++ natBytes 3 record.length ++ record ++
          nonce ++ [0#8, 0#8]
        let covered := ctx.meas ++ req ++ r
        nonce.length = 32 ∧ RestKept s t ∧
        (signed = false → t.sys.dev.boot.spdm = ⟨3, ctx.vca, ctx.certs, covered, r⟩) ∧
        (signed = true → t.sys.dev.boot.spdm = ⟨3, ctx.vca, ctx.certs, [], r ++ sig⟩ ∧
          SpdmSigned s (ascii "responder-measurements signing") (ctx.vca ++ covered) sig))))

/-- R480–R488: each GO taken or refused with its code; PREVERIFY, QUIESCE and its timeout, PAUSE and the copy; the records of
a pair's activation and its timeout. R493–R497: a bay's golden check, its re-flash and its end. Model's own readings: log
entries 1, 33, 34. Model's own readings: log entries 1, 33, 34. -/
def Obligations.ActivationAndGoldenResult : Prop :=
  ∀ s : State,
    (∀ c method who key pair, IsGo c method who key pair →
      let s' := puts s [(R.SEC_ACT_CTL, F.SEC_ACT_CTL.METHOD, method), (R.SEC_ACT_CTL, F.SEC_ACT_CTL.PAIR, pair.toNat)]
      let mayWrite := s.sys.dev.answers 39 = true ∧
        ((∃ k, who = .core k) → fldOf s R.SEC_BOOT_STATUS F.SEC_BOOT_STATUS.GATE = 1)
      let open_ := fldOf s R.SEC_BOOT_STATUS F.SEC_BOOT_STATUS.GATE = 1 ∧ s.sys.dev.sec.stopped = false ∧
        ¬ (1 ≤ actState s ∧ actState s ≤ 3)
      let ready := s.sys.nv.dir.trial = 1 ∧ fldOf s R.SEC_REQ_STAT F.SEC_REQ_STAT.BUSY = 0 ∧ s.sys.updBlock % 64 = 0
      let refused (code : Nat) := exec c s = .next (puts s' [(R.SEC_ACT_STAT, F.SEC_ACT_STAT.STATE, 5),
        (R.SEC_ACT_STAT, F.SEC_ACT_STAT.REJECT, code)])
      let begun := onAct (puts s' [(R.SEC_ACT_STAT, F.SEC_ACT_STAT.STATE, 1), (R.SEC_ACT_STAT, F.SEC_ACT_STAT.REJECT, 0)])
        (fun _ => ⟨method, pair, imageInfo s.sys.nv.slots[s.sys.nv.dir.trialSlot], false, false, false, false⟩)
      (¬ mayWrite ∨ key ≠ 0xAC71#16 → exec c s = .next s) ∧
      (mayWrite → key = 0xAC71#16 →
        (¬ open_ → exec c s = .next s') ∧
        (open_ → ¬ ready → refused 0x20) ∧
        (open_ → ready → ¬ PairRules s method pair → refused 0x21) ∧
        (open_ → ready → PairRules s method pair → method < s.sys.lightest → refused 0x30) ∧
        (open_ → ready → PairRules s method pair → s.sys.lightest ≤ method → method = 2 → pwrOf s 8 ≠ 0 → refused 0x20) ∧
        (open_ → ready → PairRules s method pair → s.sys.lightest ≤ method → (method = 2 → pwrOf s 8 = 0) →
          exec c s = .next (if pair then tells begun 0 else begun)))) ∧
    (∀ flash, (actState s ≠ 1 ∨ ¬ SecAnswers s → exec (.preverifyDone flash) s = .next s) ∧
      (actState s = 1 → SecAnswers s →
        (s.sys.preverify flash = 0 → exec (.preverifyDone flash) s = .next (puts s
          [(R.SEC_ACT_STAT, F.SEC_ACT_STAT.STATE, 2), (R.SEC_ACT_STAT, F.SEC_ACT_STAT.QUIESCE_REQ, 1)])) ∧
        (s.sys.preverify flash ≠ 0 →
          exec (.preverifyDone flash) s = .next (actRefuses s (s.sys.preverify flash))))) ∧
    (∀ c : Fin 4, let a := s.sys.dev.boot.act
      let reaches := s.sys.dev.answers (42 + c.val) = true ∧ SecAnswers s ∧
        fldOf s R.SEC_BOOT_STATUS F.SEC_BOOT_STATUS.GATE = 1 ∧ actState s = 2 ∧ a.mine = false
      let s' := onAct s (fun a => { a with mine := true })
      (¬ reaches → exec (.quiesced c) s = .next s) ∧
      (reaches → s.sys.dev.hobOk = false → exec (.quiesced c) s = .next (actRefuses s 0x21)) ∧
      (reaches → s.sys.dev.hobOk = true →
        (a.pair = false → a.method = 0 → Completes (.quiesced c) s (fun t => Paused s t)) ∧
        (a.pair = false → a.method = 1 → exec (.quiesced c) s = .next (s'.onSys (·.commonsRestart 3))) ∧
        (a.pair = false → 2 ≤ a.method → exec (.quiesced c) s = .next (s'.onSys (·.fullReset 3))) ∧
        (a.pair = true → fldOf s R.TWIN_STATUS F.TWIN_STATUS.ROLE ≠ 1 ∨ a.partner = false →
          exec (.quiesced c) s = .next (tells s' 2)) ∧
        (a.pair = true → fldOf s R.TWIN_STATUS F.TWIN_STATUS.ROLE = 1 → a.partner = true →
          Completes (.quiesced c) s (fun t => Paused s t ∧ fldOf t R.TWIN_STATUS F.TWIN_STATUS.SUSPENDED = 1)))) ∧
    (actState s = 2 → s.sys.dev.boot.act.mine = false → exec .quiesceTimeout s = .next (actRefuses s 0x31)) ∧
    (actState s ≠ 2 ∨ s.sys.dev.boot.act.mine = true → exec .quiesceTimeout s = .next s) ∧
    (∀ flash, (actState s ≠ 3 ∨ ¬ SecAnswers s → exec (.pauseCopyDone flash) s = .next s) ∧
      (actState s = 3 → SecAnswers s → s.sys.dev.boot.act.pair = false →
        Completes (.pauseCopyDone false) s (fun t => let i := s.sys.dev.boot.act.staged
          let slot := s.sys.nv.slots[s.sys.nv.dir.trialSlot]
          actState t = 4 ∧ t.sys.dev.boot.trialOn = true ∧ t.sys.dev.boot.slot = s.sys.nv.dir.trialSlot ∧
          t.sys.dev.boot.image = i ∧ fldOf t R.SEC_BOOT_STATUS F.SEC_BOOT_STATUS.MODE = 1 ∧
          fldOf t R.SEC_BOOT_STATUS F.SEC_BOOT_STATUS.SLOT = s.sys.nv.dir.trialSlot.val ∧
          (∀ c : Fin 4, t.sys.dev.cores[c].pc = BitVec.ofNat 64 (0x10000000 + i.entry)) ∧
          (∀ k, k < min (i.mgmtLen + 132) slot.mgmt.length →
            memByte t.sys.dev.mem (0x10000000 + k) = slot.mgmt.getD k 0#8) ∧ t.sys.nv = s.sys.nv)) ∧
      (actState s = 3 → SecAnswers s → s.sys.dev.restart ≠ 2 → Completes (.pauseCopyDone true) s (fun t =>
        actState t = 6 ∧ actReject t = 0x33 ∧ t.sys.dev.restart = 2 ∧
        fldOf t R.UCR_RST_CAUSE F.UCR_RST_CAUSE.CAUSE = 8 ∧ t.sys.nv.dirs = s.sys.nv.dirs))) ∧
    (∀ what : Fin 7, let a := s.sys.dev.boot.act
      let role := fldOf s R.TWIN_STATUS F.TWIN_STATUS.ROLE
      let lead := role = 1 ∧ fldOf s R.TWIN_STATUS F.TWIN_STATUS.SUSPENDED = 1
      (what.val ≠ 0 → a.pair = false → exec (.actRecord what) s = .next s) ∧
      (role ≠ 2 ∨ (1 ≤ actState s ∧ actState s ≤ 3) → exec (.actRecord 0) s = .next s) ∧
      (role = 2 → ¬ (1 ≤ actState s ∧ actState s ≤ 3) → SecAnswers s →
        fldOf s R.SEC_BOOT_STATUS F.SEC_BOOT_STATUS.GATE = 1 → s.sys.nv.dir.trial = 1 →
        fldOf s R.SEC_REQ_STAT F.SEC_REQ_STAT.BUSY = 0 → s.sys.updBlock % 64 = 0 →
        (s.sys.lightest = 0 → exec (.actRecord 0) s = .next (onAct (puts s [(R.SEC_ACT_STAT, F.SEC_ACT_STAT.STATE, 1),
          (R.SEC_ACT_STAT, F.SEC_ACT_STAT.REJECT, 0)])
          (fun _ => ⟨0, true, imageInfo s.sys.nv.slots[s.sys.nv.dir.trialSlot], false, false, false, false⟩))) ∧
        (0 < s.sys.lightest → exec (.actRecord 0) s = .next (tells (puts s [(R.SEC_ACT_STAT, F.SEC_ACT_STAT.STATE, 5),
          (R.SEC_ACT_STAT, F.SEC_ACT_STAT.REJECT, 0x30)]) 1))) ∧
      (a.pair = true →
        (actState s = 1 ∨ actState s = 2 → exec (.actRecord 1) s = .next (puts s [(R.SEC_ACT_STAT, F.SEC_ACT_STAT.STATE, 5),
          (R.SEC_ACT_STAT, F.SEC_ACT_STAT.REJECT, 0x32), (R.SEC_ACT_STAT, F.SEC_ACT_STAT.QUIESCE_REQ, 0)])) ∧
        (actState s ≠ 2 ∨ role ≠ 1 ∨ a.mine = false →
          exec (.actRecord 2) s = .next (onAct s (fun a => { a with partner := true }))) ∧
        (actState s = 2 → role = 1 → a.mine = true → Completes (.actRecord 2) s (fun t => Paused s t ∧
          fldOf t R.TWIN_STATUS F.TWIN_STATUS.SUSPENDED = 1)) ∧
        (actState s ≠ 2 ∨ role ≠ 2 ∨ a.mine = false → exec (.actRecord 3) s = .next s) ∧
        (actState s = 2 → role = 2 → a.mine = true → Completes (.actRecord 3) s (fun t => Paused s t ∧
          fldOf t R.TWIN_STATUS F.TWIN_STATUS.SUSPENDED = 1)) ∧
        (∀ s', s' = onAct s (fun a => { a with partnerDone := true }) →
          (¬ lead ∨ a.mineDone = false → exec (.actRecord 4) s = .next s') ∧
          (lead → a.mineDone = true → exec (.actRecord 4) s = .next ((tells s' 6).onDev (·.unsuspend)))) ∧
        (lead → exec (.actRecord 5) s = .next ((tells s 6).onDev (·.unsuspend))) ∧
        (¬ lead → exec (.actRecord 5) s = .next s) ∧
        (role = 2 → exec (.actRecord 6) s = .next (s.onDev (·.unsuspend))) ∧
        (role ≠ 2 → exec (.actRecord 6) s = .next s)) ∧
      (lead → exec .pairPauseTimeout s = .next ((tells s 6).onDev (·.unsuspend))) ∧
      (¬ lead → exec .pairPauseTimeout s = .next s)) ∧
    (∀ (b : Bay) (digest : BitVec 256) (flash : Bool), let p := goldImage s b
      let at_ (n : Nat) := s.sys.dev.answers 47 = true ∧ goldState s b = n
      (¬ at_ 1 → exec (.goldReadDone b digest flash) s = .next s) ∧
      (at_ 1 → p = [] → Completes (.goldReadDone b digest flash) s (fun t => GoldEnds s t b 4)) ∧
      (at_ 1 → p ≠ [] → digest = goldDigest p → Completes (.goldReadDone b digest flash) s (fun t => GoldEnds s t b 1)) ∧
      (at_ 1 → p ≠ [] → digest ≠ goldDigest p → flash = true ∨ goldBlocksOk p = false →
        Completes (.goldReadDone b digest flash) s (fun t => GoldEnds s t b 4)) ∧
      (at_ 1 → p ≠ [] → digest ≠ goldDigest p → flash = false → goldBlocksOk p = true →
        exec (.goldReadDone b digest flash) s = .next (puts s [(R.GOLD_BAY_STAT b.val, F.GOLD_BAY_STAT.STATE, 2),
          (R.GOLD_BAY_STAT b.val, F.GOLD_BAY_STAT.ATTEMPTS, 1)])) ∧
      (∀ (sectors : Nat) (ok : Bool), let tries := fldOf s (R.GOLD_BAY_STAT b.val) F.GOLD_BAY_STAT.ATTEMPTS
        let c : Instr := .goldReadbackDone b digest sectors ok flash
        (¬ at_ 2 → exec c s = .next s) ∧
        (at_ 2 → flash = true → Completes c s (fun t => GoldEnds s t b 4)) ∧
        (at_ 2 → flash = false → ok = false → Completes c s (fun t => GoldEnds s t b 3)) ∧
        (at_ 2 → flash = false → ok = true → digest = goldDigest p → Completes c s (fun t => GoldEnds s t b 2 ∧
          fldOf t (R.GOLD_BAY_STAT b.val) F.GOLD_BAY_STAT.SECTORS = min sectors 0xFFFF)) ∧
        (at_ 2 → flash = false → ok = true → digest ≠ goldDigest p → 2 ≤ tries → Completes c s (fun t => GoldEnds s t b 3)) ∧
        (at_ 2 → flash = false → ok = true → digest ≠ goldDigest p → tries < 2 → exec c s = .next (puts s
          [(R.GOLD_BAY_STAT b.val, F.GOLD_BAY_STAT.SECTORS, min sectors 0xFFFF),
           (R.GOLD_BAY_STAT b.val, F.GOLD_BAY_STAT.STATE, 2),
           (R.GOLD_BAY_STAT b.val, F.GOLD_BAY_STAT.ATTEMPTS, tries + 1)]))) ∧
      (goldState s b ≠ 0 → Completes (.tGoldMaxExpiry b) s (fun t => GoldEnds s t b 3)) ∧
      (goldState s b = 0 → exec (.tGoldMaxExpiry b) s = .next s))

/-- R141–R152, R170, R504, R505, R544: a lane's way from QUIET to RUN and back, what a session's start sends, flits taken and
discarded, resends and their timers, and the end of a session. Model's own readings: log entries 1, 18, 28. -/
def Obligations.LinkResult : Prop :=
  ∀ (s : State) (x : Lane), let l := laneAt s x
    let cr := laneCredit s x
    let lit := fldOf s R.ISLE_REFCLK F.ISLE_REFCLK.PRESENT = 1
    let up := lit ∧ s.sys.dev.answers (laneIsland x) = true
    let leaves := l.phase = .detect ∨ (l.phase = .quiet ∧ LaneGate s x)
    (up → leaves → exec (.laneDetectDone x) s = .next (laneTo s x { l with phase := .train })) ∧
    (¬ up ∨ ¬ leaves → exec (.laneDetectDone x) s = .next s) ∧
    (lit → l.phase = .train → exec (.laneTrainDone x) s = .next (laneTo s x { l with phase := .align })) ∧
    (¬ lit ∨ l.phase ≠ .train → exec (.laneTrainDone x) s = .next s) ∧
    (l.phase ≠ .align → exec (.alignLock x) s = .next s) ∧
    (l.phase = .align → ∀ b, x = .wit b → fldOf s (R.WITL_STATUS b.val) F.WITL_STATUS.STATE = 0 →
      ∀ hello, hello = TxRec.hello (decide (s.sys.dev.role ≠ 0)) (fldOf s R.TWIN_STATUS F.TWIN_STATUS.PAIR_ID != 0) →
      ∀ out, out = hello.bytes b ++ List.replicate 176 0#8 →
      exec (.alignLock x) s = .next ((puts s [(R.WITL_STATUS b.val, F.WITL_STATUS.ALIGNED, 1),
        (R.WITL_STATUS b.val, F.WITL_STATUS.STATE, 1)]).onDev (fun d => { d with
          links := d.links.set b { LinkCtx.reset with lane := { LaneCtx.reset with
            phase := .run
            buf := [⟨0, 0, out⟩]
            nextSeq := 1
            sent := [⟨1, 0, false, false, 255, 0, (0, 0, 0), out⟩] } }
          txRecs := d.txRecs.set b (d.txRecs[b] ++ [hello]) }))) ∧
    (l.phase = .align → (∀ b, x = .wit b → fldOf s (R.WITL_STATUS b.val) F.WITL_STATUS.STATE ≠ 0) → IsRetryLane x →
      ∃ l', Pumped cr (resent { l with phase := .run } cr) l' ∧ exec (.alignLock x) s = .next (laneTo s x l')) ∧
    (l.phase = .align → ¬ IsRetryLane x → exec (.alignLock x) s = .next (laneTo s x { l with phase := .run })) ∧
    (l.phase ≠ .run → exec (.alignLoss x) s = .next s) ∧
    (l.phase = .run → exec (.alignLoss x) s = .next (retrained s x l)) ∧
    (l.phase = .run → l.naked = true → exec (.nakRepeatTimer x) s = .next (bumpWit
      (laneSet s x { l with sent := l.sent ++ [nakFlit l cr] }) x (fun b => R.WITL_RETRY_REQ b.val) F.WITL_RETRY_REQ.COUNT)) ∧
    (l.phase ≠ .run ∨ l.naked = false → exec (.nakRepeatTimer x) s = .next s) ∧
    (l.phase ≠ .run ∨ l.buf = [] → exec (.resendTimeout x) s = .next s) ∧
    (l.phase = .run → l.buf ≠ [] → l.resends = 16 →
      exec (.resendTimeout x) s = .next (retrained s x { l with resends := 0 })) ∧
    (l.phase = .run → l.buf ≠ [] → l.resends ≠ 16 → exec (.resendTimeout x) s = .next (bumpWit
      (laneSet s x { resent l cr with resends := l.resends + 1 }) x (fun b => R.WITL_RETRY_TX b.val) F.WITL_RETRY_TX.COUNT)) ∧
    (∀ b, x = .wit b → l.phase = .run ∨ fldOf s (R.WITL_STATUS b.val) F.WITL_STATUS.STATE = 0 →
      exec (.tLinkExpiry x) s = .next s) ∧
    (∀ b, x = .wit b → l.phase ≠ .run → fldOf s (R.WITL_STATUS b.val) F.WITL_STATUS.STATE ≠ 0 →
      Completes (.tLinkExpiry x) s (fun t => fldOf t (R.WITL_STATUS b.val) F.WITL_STATUS.STATE = 0 ∧
        CountedAt s t (R.WITL_LANE b.val) F.WITL_LANE.LINK_LOST ∧ Raises s t 0x0304 b.val [] ∧
        (let k := t.sys.dev.links[b]; k.inbox = [] ∧ k.stream = [] ∧ k.fenceWait = [] ∧ k.devWait = [] ∧ k.tags = []) ∧
        fldOf t (R.WITL_MAINT_TXCTL b.val) F.WITL_MAINT_TXCTL.GO = 0 ∧
        fldOf t (R.WITL_MAINT_RXSTAT b.val) F.WITL_MAINT_RXSTAT.FULL = 0 ∧
        (fldOf s (R.WITL_MAINT_TXCTL b.val) F.WITL_MAINT_TXCTL.GO = 1 →
          fldOf t (R.WITL_MAINT_RXSTAT b.val) F.WITL_MAINT_RXSTAT.TX_LOST = 1) ∧
        (∀ c : Bay, c ≠ b → t.sys.dev.links[c] = s.sys.dev.links[c]) ∧ t.sys.nv = s.sys.nv)) ∧
    (∀ j, x = .twin j → l.phase = .run → exec (.tLinkExpiry x) s = .next s) ∧
    (∀ j, x = .twin j → l.phase ≠ .run → exec (.tLinkExpiry x) s = .next ((laneSet s x { LaneCtx.reset with
      phase := l.phase }).onDev (fun d => { d with twin := { d.twin with rx := d.twin.rx.set j ⟨[], false⟩ } }))) ∧
    (¬ IsRetryLane x → exec (.tLinkExpiry x) s = .next s) ∧
    (∀ bs fec, l.phase ≠ .run → ¬ IsRetryLane x → exec (.flitReceive x bs fec) s = .next s) ∧
    (∀ bs fec, l.phase = .run → ¬ IsRetryLane x → exec (.flitReceive x bs fec) s = .next (puts s
      [(R.ETH_FEC_CORR, F.ETH_FEC_CORR.COUNT, min (fldOf s R.ETH_FEC_CORR F.ETH_FEC_CORR.COUNT + fec.corrected)
        (2 ^ F.ETH_FEC_CORR.COUNT.width - 1)),
       (R.ETH_FEC_UNCORR, F.ETH_FEC_UNCORR.COUNT, min (fldOf s R.ETH_FEC_UNCORR F.ETH_FEC_UNCORR.COUNT + fec.uncorrected)
        (2 ^ F.ETH_FEC_UNCORR.COUNT.width - 1))])) ∧
    (∀ bs fec, l.phase = .run → IsRetryLane x → (∀ b, x = .wit b →
        Completes (.flitReceive x bs fec) s (fun t => FecCounted s t b fec)) ∧
      (FlitBad bs fec → Completes (.flitReceive x bs fec) s (fun t => Discarded s t x ∧
        (fec.hit = false → bs.length ≠ 256 ∨ natBytes 4 (crc32c (bs.take 252)).toNat ≠ bs.drop 252 →
          LaneCounted s t x (fun b => R.WITL_CRC_ERR b.val) F.WITL_CRC_ERR.COUNT)))) ∧
    (∀ (seq ackSeq firstRec : BitVec 8) (data nak ackOn : Bool) (cr0 cr1 cr2 : BitVec 16) (payload : List (BitVec 8))
        (fec : FlitFec), l.phase = .run → IsRetryLane x → fec.hit = false → payload.length = 240 →
      let bs := flitBytes seq.toNat data.toNat nak ackOn ackSeq.toNat firstRec.toNat cr0.toNat cr1.toNat cr2.toNat payload
      let buf := if ackOn then ackedBuf l ackSeq.toNat else l.buf
      let tries := if ackOn = true ∧ buf.length < l.buf.length then 0 else l.resends
      let again := nak = true ∧ buf ≠ []
      Completes (.flitReceive x bs fec) s (fun t => let m := laneAt t x
        buf <+: m.buf ∧
        (∀ b, x = .wit b → t.sys.dev.links[b].devTotal % 65536 = cr0.toNat ∧
          s.sys.dev.links[b].devTotal ≤ t.sys.dev.links[b].devTotal ∧
          t.sys.dev.links[b].devTotal < s.sys.dev.links[b].devTotal + 65536) ∧
        (¬ again → m.phase = .run ∧ m.resends = tries) ∧
        (again → tries = 16 → m.phase = .train ∧ m.resends = 0 ∧
          LaneCounted s t x (fun b => R.WITL_LANE b.val) F.WITL_LANE.RETRAINS) ∧
        (again → tries ≠ 16 → m.phase = .run ∧ m.resends = tries + 1 ∧
          LaneCounted s t x (fun b => R.WITL_RETRY_TX b.val) F.WITL_RETRY_TX.COUNT) ∧
        (data = false → m.rxNext = l.rxNext ∧ m.rxAny = l.rxAny ∧ m.naked = l.naked) ∧
        (data = true → seq.toNat = l.rxNext → m.rxNext = (l.rxNext + 1) % 256 ∧ m.rxAny = true ∧ m.naked = false) ∧
        (data = true → seq.toNat ≠ l.rxNext → m.rxNext = l.rxNext ∧ m.naked = true ∧
          (l.naked = false → LaneCounted s t x (fun b => R.WITL_RETRY_REQ b.val) F.WITL_RETRY_REQ.COUNT)))) ∧
    (∀ (b : Bay) (len ty : Nat) (r : List (BitVec 8)) (credits : BitVec 16) (fec : FlitFec), let k := s.sys.dev.links[b]
      x = .wit b → l.phase = .run → l.rxNext < 256 → fec.hit = false → k.stream = [] → k.skipping = false → r.length = len →
      len ≤ 240 →
      r.headD 0#8 = BitVec.ofNat 8 (1 + 16 * (if ty = 1 then 15 else b.val)) → r.getD 1 0#8 = BitVec.ofNat 8 ty →
      (r.drop 2).take 2 ≠ [0#8, 0#8] → (r.drop 10).take 6 = natBytes 2 len ++ List.replicate 4 0#8 →
      lengthOk ty len = true → ty ∈ [0x01, 0x02, 0x03, 0x10, 0x11, 0x12, 0x13, 0x14, 0x20, 0x30] →
      Completes (.flitReceive x (flitBytes l.rxNext 1 false false 0 0 credits.toNat 0 0 (r ++ List.replicate (240 - len) 0#8)) fec)
        s (fun t => ∃ p ∈ t.sys.dev.links[b].inbox, p.bytes = r ∧ p.badLength = false))

/-- R157–R177, R617: when a record waits, is stale or is refused; HELLO, CAPS, UNIT_MAP, STEP_OPEN, CSUM, SAMPLE and
STEP_CLOSE refused for their own causes and taken. Model's own readings: log entries 1, 30, 42, 47. -/
def Obligations.RecordResult : Prop :=
  ∀ (s : State) (b : Bay),
    (∀ c ty, IsRec c b ty → ((∀ r, ¬ Comes s b ty r) → exec c s = .next s) ∧
      (∀ r, Comes s b ty r →
        (r.beyond = true → Completes c s (fun t => Refused s t b r 0x04 0 ∧ BayOnly s t b)) ∧
        (r.beyond = false → ¬ SessionTakes s b ty → Completes c s (fun t => Refused s t b r 0x05 0 ∧ BayOnly s t b)) ∧
        (r.beyond = false → SessionTakes s b ty → HasEpoch ty → AheadOf r.epoch (epochAt s b) →
          Completes c s (fun t => Refused s t b r 0x06 0 ∧ BayOnly s t b)) ∧
        (r.beyond = false → SessionTakes s b ty → HasEpoch ty → r.epoch ≠ epochAt s b → ¬ AheadOf r.epoch (epochAt s b) →
          Completes c s (fun t => CountedAt s t (R.WITL_STALE_CNT b.val) F.WITL_STALE_CNT.COUNT ∧ Gone s t b r ∧
            witAt t b = witAt s b ∧ BayOnly s t b)))) ∧
    (∀ r, Passes s b 0x01 r →
      let ok := r.u 16 4 = 0x4E524D41 ∧ r.u 21 1 = 2 ∧ 1 ≤ r.u 20 1 ∧ 64 ≤ r.u 24 2 ∧ r.u 24 2 ≤ 4096
      (¬ ok → Completes (.hello b) s (fun t => Refused s t b r 0x0F 0 ∧ Raises s t 0x0302 b.val [] ∧
        sessionAt t b = sessionAt s b ∧ BayOnly s t b)) ∧
      (ok → Completes (.hello b) s (fun t => let k := linkAt t b
        let slot := fldOf s (R.GOLD_BAY_CFG b.val) F.GOLD_BAY_CFG.SLOT
        let differs := slot ≠ 7 ∧ peerModelOf r ≠ goldModelAt s slot
        sessionAt t b = 2 ∧ fldOf t (R.WITL_STATUS b.val) F.WITL_STATUS.OP_GEN = 1 ∧
        (∀ i ∈ List.range 2, t.sys.dev.reg (R.WITL_PEER_MODEL b.val i) = BitVec.ofNat 32 (r.u (32 + 4 * i) 4)) ∧
        (∀ i ∈ List.range 4, t.sys.dev.reg (R.WITL_PEER_SERIAL b.val i) = BitVec.ofNat 32 (r.u (40 + 4 * i) 4)) ∧
        fldOf t (R.WITL_PEER_INFO b.val) F.WITL_PEER_INFO.GEN_MAX = r.u 20 1 ∧
        fldOf t (R.WITL_PEER_INFO b.val) F.WITL_PEER_INFO.DEV_GRANT = r.u 24 2 ∧
        k.devGrant = r.u 24 2 ∧ k.capsSeen = false ∧ k.mapSeq = none ∧ k.fenceWait = [] ∧ Gone s t b r ∧
        Sends s t b ((if sessionAt s b = 1 then [] else
          [.hello (decide (s.sys.dev.role ≠ 0)) (fldOf s R.TWIN_STATUS F.TWIN_STATUS.PAIR_ID != 0)]) ++ [.caps 0x3FFF]) ∧
        (sessionAt s b ≠ 1 → Raises s t 0x0303 b.val [] ∧ t.sys.dev.stns[b].visit = none) ∧
        (differs → fldOf t (R.GOLD_BAY_STAT b.val) F.GOLD_BAY_STAT.MODEL_MISMATCH = 1 ∧
          chanOn t R.GOLD_EVENT F.GOLD_EVENT.MISMATCH b.val = true) ∧
        (¬ differs → fldOf t (R.GOLD_BAY_STAT b.val) F.GOLD_BAY_STAT.MODEL_MISMATCH =
          fldOf s (R.GOLD_BAY_STAT b.val) F.GOLD_BAY_STAT.MODEL_MISMATCH) ∧ witAt t b = witAt s b ∧ BayOnly s t b))) ∧
    (∀ r, Passes s b 0x02 r →
      (r.u 16 1 ≠ 1 → Completes (.caps b) s (fun t => Refused s t b r 0x0F 0 ∧ BayOnly s t b)) ∧
      (r.u 16 1 = 1 → r.u 17 1 < 1 ∨ 4 < r.u 17 1 →
        Completes (.caps b) s (fun t => Refused s t b r 0x0A 0 ∧ BayOnly s t b)) ∧
      (r.u 16 1 = 1 → 1 ≤ r.u 17 1 → r.u 17 1 ≤ 4 → Completes (.caps b) s (fun t => let k := linkAt t b
        k.capsSeen = true ∧ k.maxL = r.u 17 1 ∧ k.origOut = (r.u 18 1).testBit 0 ∧ k.fmtMask = r.u 20 4 ∧
        fldOf t (R.WITL_PEER_INFO b.val) F.WITL_PEER_INFO.MAX_L = r.u 17 1 ∧ Gone s t b r ∧ witAt t b = witAt s b ∧
        sessionAt t b = sessionAt s b ∧ BayOnly s t b))) ∧
    (∀ r, Passes s b 0x03 r →
      (¬ MapOk s b r → Completes (.unitMap b) s (fun t => Refused s t b r 0x0A 0 ∧ BayOnly s t b ∧
        (linkAt t b).slices = (linkAt s b).slices)) ∧
      (MapOk s b r → Completes (.unitMap b) s (fun t => let k := linkAt t b
        let es := mapSlices r
        k.slices = es ∧ k.slicesMin = r.u 17 1 ∧ k.mapSeq = some (r.u 20 4) ∧ Gone s t b r ∧ BayOnly s t b ∧
        sessionAt t b = (if sessionAt s b = 2 then 3 else sessionAt s b) ∧
        (sessionAt s b ≠ 2 → ∀ p, p ∈ k.fenceWait ↔ p ∈ (linkAt s b).fenceWait ∧
          ¬ (∃ e ∈ es[p.1]?, (p.2 = true → e.state = 1) ∧ (p.2 = false → e.state ≠ 1)) ∧ (es[p.1]? = none → p.2 = false)) ∧
        (sessionAt s b = 2 → s.sys.dev.role ≠ 2 → ∀ p ∈ es.zipIdx, let u := s.sys.dev.unit p.1.unitId
          (2 ≤ u.state → p.1.state = 0 → (p.2, true) ∈ k.fenceWait ∧
            TxRec.fence p.2 u.reason ∈ t.sys.dev.txRecs[b].drop s.sys.dev.txRecs[b].length)) ∧
        (sessionAt s b = 2 → s.sys.dev.thrSources b ≠ [] →
          throttleOf [] (s.sys.dev.thrSources b) ∈ t.sys.dev.txRecs[b].drop s.sys.dev.txRecs[b].length)))) ∧
    (∀ r, Passes s b 0x10 r → let w := witAt s b
      let k := linkAt s b
      let mode := w.sent.1
      let lag := w.sent.2.1
      let act := r.u 16 8
      let early := mode = 2 ∧ w.firstStep + lag + 1 ≤ r.step ∧ ¬ SealSent s b (r.step - lag - 1)
      let fits := openAt s b = none ∧ r.step = nextStepOf s b ∧ ¬ early
      (¬ fits → Completes (.stepOpen b) s (fun t => Refused s t b r 0x07 0 ∧ BayOnly s t b ∧ (witAt t b).steps = w.steps)) ∧
      (fits → 2 ^ k.slices.length ≤ act → Completes (.stepOpen b) s (fun t => Refused s t b r 0x0A 0 ∧ BayOnly s t b ∧
        (witAt t b).steps = w.steps)) ∧
      (∀ i ∈ List.range 64, fits → act < 2 ^ k.slices.length → (k.slices[i]?).any (fun e => e.state == 1) = true →
        act.testBit i = true → (∀ j ∈ List.range i, ¬ ((k.slices[j]?).any (fun e => e.state == 1) = true ∧ act.testBit j = true)) →
        Completes (.stepOpen b) s (fun t => Refused s t b r 0x0B i ∧ BayOnly s t b ∧ (witAt t b).steps = w.steps)) ∧
      (fits → act < 2 ^ k.slices.length → (∀ p ∈ k.slices.zipIdx, p.1.state = 1 → act.testBit p.2 = false) →
        Completes (.stepOpen b) s (fun t => ∃ c ∈ (witAt t b).steps.getLast?, (witAt t b).steps = w.steps ++ [c] ∧
          c.step = r.step ∧ c.epoch = epochAt s b ∧ c.active = act ∧ c.mode = mode ∧ c.lag = lag ∧ c.shift = w.sent.2.2 ∧
          c.seed = seedOf s b mode lag r.step ∧ c.closed = false ∧ c.csums = [] ∧ c.samples = [] ∧ c.suspects = [] ∧
          openedAt t b = r.step ∧ (witAt t b).opened = true ∧
          fldOf t (R.WIT_STAT b.val) F.WIT_STAT.MODE_NOW = mode % 4 ∧ fldOf t (R.WIT_STAT b.val) F.WIT_STAT.LAG_NOW = lag % 8 ∧
          fldOf t (R.WIT_STAT b.val) F.WIT_STAT.SHIFT_NOW = w.sent.2.2 % 16 ∧ Gone s t b r ∧ BayOnly s t b))) ∧
    (∀ r, Passes s b 0x11 r → let es := r.csumEntries
      let replay := es.any (·.replay)
      let n := (linkAt s b).slices.length
      let bad := ∃ e ∈ es, e.replay ≠ replay ∨ fmtDefined e.fmt = false ∨ e.fmt = 0x0D ∨ n ≤ e.slice
      let mine := ∃ x ∈ openAt s b, x.step = r.step
      let off := ∃ x ∈ openAt s b, x.mode = 0
      let unasked (e : CsumIn) : Prop := ∀ p ∈ replayAt s b r.step e.tile, p.2.csum = true ∨ p.2.runSlice ≠ e.slice
      (replay = false → ¬ mine → Completes (.csum b) s (fun t => Refused s t b r 0x07 0 ∧ BayOnly s t b)) ∧
      (replay = false → mine → off → Completes (.csum b) s (fun t => Gone s t b r ∧ witAt t b = witAt s b ∧ BayOnly s t b)) ∧
      (replay = true ∨ (mine ∧ ¬ off) → bad → Completes (.csum b) s (fun t => Refused s t b r 0x0A 0 ∧ BayOnly s t b)) ∧
      (replay = true → ¬ bad → (∃ e ∈ es, unasked e) → Completes (.csum b) s (fun t => BayOnly s t b ∧
        ∃ e ∈ es, unasked e ∧ Refused s t b r 0x0C e.tile)) ∧
      (replay = true → ¬ bad → (∀ e ∈ es, ¬ unasked e) → Completes (.csum b) s (fun t => Gone s t b r ∧ BayOnly s t b ∧
        fldOf t (R.WIT_CSUM_CNT b.val) F.WIT_CSUM_CNT.COUNT = min (fldOf s (R.WIT_CSUM_CNT b.val) F.WIT_CSUM_CNT.COUNT + es.length)
          (2 ^ F.WIT_CSUM_CNT.COUNT.width - 1) ∧
        fldOf t (R.WIT_REPLAY_CSUM_FAIL b.val) F.WIT_REPLAY_CSUM_FAIL.COUNT =
          min (fldOf s (R.WIT_REPLAY_CSUM_FAIL b.val) F.WIT_REPLAY_CSUM_FAIL.COUNT + (es.filter (fun e => !passesCompare s b e)).length)
            (2 ^ F.WIT_REPLAY_CSUM_FAIL.COUNT.width - 1) ∧
        ∀ e ∈ es, ∃ y ∈ stepAt t b r.step, ∃ q ∈ y.suspects, q.tile = e.tile ∧ ∃ p ∈ q.replay, p.csum = true)) ∧
      (replay = false → mine → ¬ off → ¬ bad → (∃ e ∈ es, ∃ x ∈ openAt s b, x.active.testBit e.slice = false) →
        Completes (.csum b) s (fun t => BayOnly s t b ∧ ∃ e ∈ es, (∀ x ∈ openAt s b, x.active.testBit e.slice = false) ∧
          Refused s t b r 0x0B e.slice)) ∧
      (∀ c ∈ stepAt s b r.step, replay = false → mine → ¬ off → ¬ bad →
        (∀ e ∈ es, ∀ x ∈ openAt s b, x.active.testBit e.slice = true) →
        let fresh := newEntries (c.csums.map (·.tile)) es
        let failing := fresh.filter (fun e => !passesCompare s b e)
        Completes (.csum b) s (fun t => Gone s t b r ∧ t.sys.nv = s.sys.nv ∧
          fldOf t (R.WIT_CSUM_CNT b.val) F.WIT_CSUM_CNT.COUNT =
            min (fldOf s (R.WIT_CSUM_CNT b.val) F.WIT_CSUM_CNT.COUNT + fresh.length) (2 ^ F.WIT_CSUM_CNT.COUNT.width - 1) ∧
          fldOf t (R.WIT_CSUM_FAIL b.val) F.WIT_CSUM_FAIL.COUNT =
            min (fldOf s (R.WIT_CSUM_FAIL b.val) F.WIT_CSUM_FAIL.COUNT + failing.length) (2 ^ F.WIT_CSUM_FAIL.COUNT.width - 1) ∧
          fldOf t (R.WITL_NAK_CNT b.val 9) F.WITL_NAK_CNT.COUNT =
            min (fldOf s (R.WITL_NAK_CNT b.val 9) F.WITL_NAK_CNT.COUNT + (es.length - fresh.length)) (2 ^ F.WITL_NAK_CNT.COUNT.width - 1) ∧
          ∃ y ∈ stepAt t b r.step, y.csums.map (fun x => (x.tile, x.fmt, x.slice, x.sOut, x.sPred, x.mag, x.failed)) =
              c.csums.map (fun x => (x.tile, x.fmt, x.slice, x.sOut, x.sPred, x.mag, x.failed)) ++
                fresh.map (fun e => (e.tile, e.fmt, e.slice, e.sOut, e.sPred, e.mag, !passesCompare s b e)) ∧
            (∀ e ∈ failing, e.tile ∈ y.suspects.map (·.tile)) ∧ ((∃ e ∈ failing, e.tile ∉ c.suspects.map (·.tile)) → 64 < y.openSuspects.length → y.massFail = true)))) ∧
    (∀ r parity, Passes s b 0x12 r → let c := r.sampleIn
      let n := (linkAt s b).slices.length
      let p := partAt s b r.step c
      let bad := c.bad n (partsAt s b r.step c)
      let run := Instr.sample b parity
      let answer := c.replay = true
      (¬ answer → (∀ x ∈ openAt s b, x.step ≠ r.step) → Completes run s (fun t => Refused s t b r 0x07 0 ∧ BayOnly s t b)) ∧
      (¬ answer → ∀ x ∈ openAt s b, x.step = r.step → stepAt s b r.step = some x →
        (x.mode = 0 → Completes run s (fun t => Gone s t b r ∧ witAt t b = witAt s b ∧ t.sys.dev.mem = s.sys.dev.mem ∧
          BayOnly s t b)) ∧
        (x.mode ≠ 0 → bad = true → Completes run s (fun t => Refused s t b r 0x0A 0 ∧ BayOnly s t b)) ∧
        (x.mode ≠ 0 → bad = false → x.active.testBit c.slice = false →
          Completes run s (fun t => Refused s t b r 0x0B c.slice ∧ BayOnly s t b)) ∧
        (x.mode ≠ 0 → bad = false → x.active.testBit c.slice = true → c.clash p = true →
          Completes run s (fun t => Refused s t b r 0x0A 0 ∧ BayOnly s t b)) ∧
        (x.mode ≠ 0 → bad = false → x.active.testBit c.slice = true → c.clash p = false →
          Completes run s (fun t => Gone s t b r ∧ ChunkLanded s t b r.step c parity ∧ BayOnly s t b))) ∧
      (answer → bad = true → (replayAt s b r.step c.tile = none → c.bad n [] = true) →
        Completes run s (fun t => Refused s t b r 0x0A 0 ∧ BayOnly s t b)) ∧
      (answer → replayAt s b r.step c.tile = none → c.bad n [] = false →
        Completes run s (fun t => Refused s t b r 0x0C c.tile ∧ BayOnly s t b)) ∧
      (answer → ∀ q ∈ replayAt s b r.step c.tile, bad = false →
        (¬ AnswersFrom q.1 q.2 c → Completes run s (fun t => Refused s t b r 0x0C c.tile ∧ BayOnly s t b)) ∧
        (AnswersFrom q.1 q.2 c → c.clash p = true → Completes run s (fun t => Refused s t b r 0x0A 0 ∧ BayOnly s t b)) ∧
        (AnswersFrom q.1 q.2 c → c.clash p = false →
          Completes run s (fun t => Gone s t b r ∧ ChunkLanded s t b r.step c parity ∧ BayOnly s t b)))) ∧
    (∀ r, Passes s b 0x13 r →
      ((∀ x ∈ openAt s b, x.step ≠ r.step) → Completes (.stepClose b) s (fun t => Refused s t b r 0x07 0 ∧ BayOnly s t b)) ∧
      (∀ x ∈ openAt s b, x.step = r.step → stepAt s b r.step = some x →
        let counts := r.u 16 4 = x.csums.length ∧ r.u 20 2 = (x.samples.filter (fun y => !y.replay)).length
        let late := x.mode = 2 ∧ (witAt s b).firstStep + x.lag ≤ x.step ∧ ¬ SealSent s b (x.step - x.lag)
        let closes (t : State) (bad : Bool) : Prop := stepAt t b r.step = some { x with closed := true, bad := bad }
        (x.mode = 0 → Completes (.stepClose b) s (fun t => Gone s t b r ∧ closes t x.bad ∧ BayOnly s t b)) ∧
        (x.mode ≠ 0 → ¬ counts → Completes (.stepClose b) s (fun t => Refused s t b r 0x08 0 ∧ closes t true ∧ BayOnly s t b)) ∧
        (∀ tile ∈ x.sampleFault b, x.mode ≠ 0 → counts →
          Completes (.stepClose b) s (fun t => Refused s t b r 0x0D tile ∧ closes t true ∧ BayOnly s t b)) ∧
        (x.mode ≠ 0 → counts → x.sampleFault b = none → Completes (.stepClose b) s (fun t => Gone s t b r ∧ closes t x.bad ∧
          BayOnly s t b ∧
          (late → CountedAt s t (R.WIT_LAG_HOLD_CNT b.val) F.WIT_LAG_HOLD_CNT.COUNT ∧
            chanOn t (R.WITL_STATUS b.val) F.WITL_STATUS.HOLD_MASK 0 = true) ∧
          (¬ late → fldOf t (R.WITL_STATUS b.val) F.WITL_STATUS.HOLD_MASK = fldOf s (R.WITL_STATUS b.val) F.WITL_STATUS.HOLD_MASK)))))

/-- R166, R167, R175, R180–R186, R373: HEALTH and MAINT_REPLY refused and taken; FENCE_TIMEOUT; the maintenance buffers.
R191–R194, R213, R216, R217, R220–R228: WIT_CTL, quiet points, epochs, seals, REPLAY_TIMEOUT, and the pops. Model's own
readings: log entries 1, 29, 30, 42, 47. Model's own readings: log entries 1, 29, 30, 42, 47. -/
def Obligations.EpochAndSealResult : Prop :=
  ∀ (s : State) (b : Bay),
    (∀ r, Passes s b 0x20 r → let n := r.u 16 1
      let temps := (List.range n).map (fun i => r.u (32 + 2 * i) 2)
      let good := temps.filter (fun x => x != 0x8000)
      let bad := n < 1 ∨ 16 < n ∨ r.len ≠ 32 + (2 * n + 3) / 4 * 4
      (bad → Completes (.health b) s (fun t => Refused s t b r 0x0A 0 ∧ BayOnly s t b)) ∧
      (¬ bad → Completes (.health b) s (fun t => Gone s t b r ∧ BayOnly s t b ∧ witAt t b = witAt s b ∧
        SlotFault t (48 + b.val) 0 0 (temps.contains 0x8000).toNat 1 ∧
        (∀ x ∈ good, (∀ y ∈ good, signed16 y ≤ signed16 x) →
          slotReads t (48 + b.val) = signed16 (((10 * signed16 x + 15) / 16 % 65536).toNat))))) ∧
    (∀ r, Passes s b 0x30 r → let tag := r.u 16 2
      let asked := tag = 0 ∨ tag ∈ (linkAt s b).tags
      (2 < r.u 18 1 → Completes (.maintReply b) s (fun t => Refused s t b r 0x0A 0 ∧ BayOnly s t b)) ∧
      (r.u 18 1 ≤ 2 → ¬ asked → Completes (.maintReply b) s (fun t => Refused s t b r 0x0C tag ∧ BayOnly s t b)) ∧
      (r.u 18 1 ≤ 2 → asked → Completes (.maintReply b) s (fun t => Gone s t b r ∧ BayOnly s t b ∧
        (∀ i ∈ List.range ((r.len - 20) / 4), maintRx t b i = BitVec.ofNat 32 (r.u (20 + 4 * i) 4)) ∧
        bayFld t R.WITL_MAINT_RXSTAT b F.WITL_MAINT_RXSTAT.LEN = (r.len - 20) % 2 ^ F.WITL_MAINT_RXSTAT.LEN.width ∧
        bayFld t R.WITL_MAINT_RXSTAT b F.WITL_MAINT_RXSTAT.TAG = tag ∧
        bayFld t R.WITL_MAINT_RXSTAT b F.WITL_MAINT_RXSTAT.FULL = 1 ∧
        bayFld t R.WITL_MAINT_RXINFO b F.WITL_MAINT_RXINFO.STATUS = r.u 18 1 ∧ (linkAt t b).tags = (linkAt s b).tags.erase tag))) ∧
    (∀ slice : BitVec 6, let wait := (linkAt s b).fenceWait
      ((∀ p ∈ wait, p.1 ≠ slice.toNat) → exec (.fenceTimeout b slice) s = .next s) ∧
      ((∃ p ∈ wait, p.1 = slice.toNat) → Completes (.fenceTimeout b slice) s (fun t =>
        CountedAt s t (R.WITL_NAK_CNT b.val 0x0E) F.WITL_NAK_CNT.COUNT ∧ (holdsAt t b).testBit 2 = true ∧
        (linkAt t b).fenceWait = wait.filter (fun p => p.1 != slice.toNat) ∧ BayOnly s t b))) ∧
    (∀ v : BitVec 32, let a := R.WITL_MAINT_TXCTL b.val
      let len := F.WITL_MAINT_TXCTL.LEN.get v
      let tag := F.WITL_MAINT_TXCTL.TAG.get v
      let go := F.WITL_MAINT_TXCTL.GO.get v = 1
      let waits := fldOf s a F.WITL_MAINT_TXCTL.GO = 1
      (go → waits → exec (.witlMaintGo b v) s = .next (put s (R.WITL_MAINT_RXSTAT b.val) F.WITL_MAINT_RXSTAT.TX_LOST 1)) ∧
      (¬ (go ∧ waits) → ∀ s' s'' s''' : State,
        s' = (if MaintLen len then put s a F.WITL_MAINT_TXCTL.LEN len else s) →
        s'' = (if tag ≠ 0 then put s' a F.WITL_MAINT_TXCTL.TAG tag else s') →
        s''' = (if go ∧ MaintLen len ∧ tag ≠ 0 then put s'' a F.WITL_MAINT_TXCTL.GO 1 else s'') →
        let rejects := (¬ MaintLen len ∧ (go ∨ len ≠ fldOf s a F.WITL_MAINT_TXCTL.LEN)) ∨
          (tag = 0 ∧ (go ∨ fldOf s a F.WITL_MAINT_TXCTL.TAG ≠ 0))
        exec (.witlMaintGo b v) s = .next (if rejects then event s''' 0x0102 0xFF [a] else s'''))) ∧
    (let a := R.WITL_MAINT_TXCTL b.val
      let len := fldOf s a F.WITL_MAINT_TXCTL.LEN
      let tag := fldOf s a F.WITL_MAINT_TXCTL.TAG
      let leaves := fldOf s a F.WITL_MAINT_TXCTL.GO = 1 ∧ SessionReady s b ∧ (20 + len + 63) / 64 ≤ devCredit s b
      (¬ leaves → exec (.maint b) s = .next s) ∧
      (leaves → Completes (.maint b) s (fun t => fldOf t a F.WITL_MAINT_TXCTL.GO = 0 ∧ (linkAt t b).tags = (linkAt s b).tags ++ [tag] ∧
        devCredit s b = devCredit t b + (20 + len + 63) / 64 ∧
        t.sys.dev.txRecs[b] = s.sys.dev.txRecs[b] ++
          [.maint tag ((List.range (len / 4)).flatMap (fun i => natBytes 4 (maintTx s b i).toNat))] ∧ witAt t b = witAt s b ∧
        t.sys.dev.mem = s.sys.dev.mem ∧ BayOnly s t b))) ∧
    (bayFld s R.WITL_MAINT_RXSTAT b F.WITL_MAINT_RXSTAT.FULL = 0 → exec (.witlMaintRxdone b) s = .next s) ∧
    (bayFld s R.WITL_MAINT_RXSTAT b F.WITL_MAINT_RXSTAT.FULL ≠ 0 → Completes (.witlMaintRxdone b) s (fun t =>
      bayFld t R.WITL_MAINT_RXSTAT b F.WITL_MAINT_RXSTAT.FULL = 0 ∧ witAt t b = witAt s b ∧ BayOnly s t b ∧
      (linkAt s b).returned.2.2 + (20 + bayFld s R.WITL_MAINT_RXSTAT b F.WITL_MAINT_RXSTAT.LEN + 63) / 64 ≤
        (linkAt t b).returned.2.2)) ∧
    (∀ v : BitVec 32, let a := R.WIT_CTL b.val
      let mode := F.WIT_CTL.MODE.get v
      let lag := F.WIT_CTL.LAG.get v
      let shift := F.WIT_CTL.SAMPLE_SHIFT.get v
      let scale := F.WIT_CTL.TOL_SCALE.get v
      let host := F.WIT_CTL.HOST_HOLD.get v
      let most := (linkAt s b).maxL
      let lagOk := lag = fldOf s a F.WIT_CTL.LAG ∨ (1 ≤ lag ∧ lag ≤ 4 ∧ (most = 0 ∨ lag ≤ most))
      let shiftOk := shift = 0 ∨ (4 ≤ shift ∧ shift ≤ 12)
      let scaleOk := 1 ≤ scale ∧ scale ≤ 64
      (s.sys.dev.role = 2 → exec (.witCtlWrite b v) s = .next (event s 0x0102 0xFF [a])) ∧
      (s.sys.dev.role ≠ 2 → Completes (.witCtlWrite b v) s (fun t =>
        fldOf t a F.WIT_CTL.MODE = (if mode ≠ 3 then mode else fldOf s a F.WIT_CTL.MODE) ∧
        fldOf t a F.WIT_CTL.LAG = (if lagOk then lag else fldOf s a F.WIT_CTL.LAG) ∧
        fldOf t a F.WIT_CTL.SAMPLE_SHIFT = (if shiftOk then shift else fldOf s a F.WIT_CTL.SAMPLE_SHIFT) ∧
        fldOf t a F.WIT_CTL.TOL_SCALE = (if scaleOk then scale else fldOf s a F.WIT_CTL.TOL_SCALE) ∧
        fldOf t a F.WIT_CTL.HOST_HOLD = host ∧
        (¬ (mode ≠ 3 ∧ lagOk ∧ shiftOk ∧ scaleOk) → Raises s t 0x0102 0xFF [a]) ∧
        (mode ≠ 3 → lagOk → shiftOk → scaleOk → t.sys.dev.eth.events = s.sys.dev.eth.events) ∧
        (holdsAt t b).testBit 3 = (host == 1) ∧ holdsAt t b % 8 = holdsAt s b % 8 ∧
        (¬ SessionReady s b ∨ holdsAt t b = holdsAt s b → t.sys.dev.txRecs[b] = s.sys.dev.txRecs[b]) ∧
        (SessionReady s b → holdsAt t b ≠ holdsAt s b → t.sys.dev.txRecs[b] = s.sys.dev.txRecs[b] ++
          [.hold (epochAt s b) (oldestAt s b) (holdsAt t b)]) ∧
        (bayFld t R.WIT_STAT b F.WIT_STAT.CHANGE_PENDING = 1 ↔ ChangeWaits t b) ∧
        (witAt t b).steps = (witAt s b).steps ∧ BayOnly s t b))) ∧
    (¬ GoesOut s b → exec (.quietPoint b) s = .next s) ∧
    (GoesOut s b → let w := witAt s b
      let ask := askedAt s b
      let again := ask.2 ≠ w.sent.2 ∨ bayFld s R.WIT_EPOCH_GO b F.WIT_EPOCH_GO.RESEND = 1
      let next := if w.opened then (openedAt s b + 1) % 2 ^ 48 else w.firstStep
      Completes (.quietPoint b) s (fun t => (witAt t b).sent = ask ∧ ¬ ChangeWaits t b ∧
        bayFld t R.WIT_STAT b F.WIT_STAT.CHANGE_PENDING = 0 ∧
        t.sys.dev.txRecs[b] = s.sys.dev.txRecs[b] ++
          (if ask.1 ≠ w.sent.1 then [.observe (epochAt s b) next ask.1] else []) ++
          (if again then [.epoch (epochAt s b) w.firstStep ask.2.1 ask.2.2 w.epochSeed.toNat] else []) ∧
        (again → (holdsAt t b).testBit 2 = false ∧ bayFld t R.WIT_EPOCH_GO b F.WIT_EPOCH_GO.RESEND = 0) ∧
        (¬ again → holdsAt t b = holdsAt s b) ∧ (witAt t b).steps = w.steps ∧ BayOnly s t b)) ∧
    (NewRefused s b → exec (.witEpochNew b) s = .next (event s 0x0102 0xFF [R.WIT_EPOCH_GO b.val])) ∧
    (¬ NewRefused s b → s.sys.dev.answers 40 = false →
      exec (.witEpochNew b) s = .next (put s (R.WIT_EPOCH_GO b.val) F.WIT_EPOCH_GO.NEW 1)) ∧
    (¬ NewRefused s b → s.sys.dev.answers 40 = true → let w := witAt s b
      let e := bayFld s R.WIT_EPOCH_NEXT b F.WIT_EPOCH_NEXT.EPOCH
      let first := (s.sys.dev.reg (R.WIT_FIRST_STEP_LO b.val)).toNat +
        (s.sys.dev.reg (R.WIT_FIRST_STEP_HI b.val)).toNat % 65536 * 2 ^ 32
      let ask := askedAt s b
      Completes (.witEpochNew b) s (fun t => epochAt t b = e ∧ sessionAt t b = 4 ∧ (witAt t b).firstStep = first ∧
        (witAt t b).steps = [] ∧ (witAt t b).seals = [] ∧ (witAt t b).opened = false ∧ sealedAt t b = none ∧
        (witAt t b).job = bayFld s R.WIT_JOB b F.WIT_JOB.JOB_ID ∧ (witAt t b).sent = ask ∧
        bayFld t R.WIT_STAT b F.WIT_STAT.FAULTED = 0 ∧ bayFld t R.WIT_STAT b F.WIT_STAT.CHANGE_PENDING = 0 ∧
        holdsAt t b = 8 * bayFld s R.WIT_CTL b F.WIT_CTL.HOST_HOLD ∧
        bayFld t R.WIT_EPOCH_GO b F.WIT_EPOCH_GO.NEW = 0 ∧ bayFld t R.WIT_EPOCH_GO b F.WIT_EPOCH_GO.RESEND = 0 ∧
        Sends s t b [.epoch e first ask.2.1 ask.2.2 (witAt t b).epochSeed.toNat, .observe e first ask.1] ∧
        (witAt t b).items = w.items ++ w.steps.map (fun x => ⟨6, 0xFF, 0xFF, 0, x.step, x.epoch, []⟩) ∧
        fldOf t (R.WIT_VOID_CNT b.val) F.WIT_VOID_CNT.COUNT =
          min (fldOf s (R.WIT_VOID_CNT b.val) F.WIT_VOID_CNT.COUNT + w.steps.length) (2 ^ F.WIT_VOID_CNT.COUNT.width - 1) ∧
        (w.steps ≠ [] → (witAt t b).ledger.length = w.ledger.length + 1) ∧ BayOnly s t b)) ∧
    (s.sys.dev.role = 2 → exec (.witEpochResend b) s = .next (event s 0x0102 0xFF [R.WIT_EPOCH_GO b.val])) ∧
    (s.sys.dev.role ≠ 2 → exec (.witEpochResend b) s = .next (put s (R.WIT_EPOCH_GO b.val) F.WIT_EPOCH_GO.RESEND 1)) ∧
    (s.sys.dev.role = 2 → fldOf s R.TWIN_STATUS F.TWIN_STATUS.JOINED = 0 → exec (.sealJob b) s = .next s) ∧
    (s.sys.dev.role = 2 → fldOf s R.TWIN_STATUS F.TWIN_STATUS.JOINED = 1 →
      let told := (witAt s b).steps.filter (fun x => x.pair.isNone && x.clear b)
      (witAt s b).steps.Pairwise (fun x y => x.step ≠ y.step) →
      Completes (.sealJob b) s (fun t =>
        t.sys.dev.twin.tx = s.sys.dev.twin.tx ++ told.map (fun x => .verdict b.val 1 0 0xFF x.epoch x.step 0) ∧
        (witAt t b).steps = (witAt s b).steps.map (fun x => if x ∈ told then { x with pair := some 1 } else x) ∧
        t.sys.dev.regs = s.sys.dev.regs ∧ BayOnly s t b)) ∧
    (let paused := fldOf s R.TWIN_STATUS F.TWIN_STATUS.SUSPENDED = 1 ∧ pwrOf s 8 ≠ 4
      let quiet := ∀ c ∈ jobBays s b, ¬ PairDisagrees s c
      (s.sys.dev.role ≠ 2 → paused → exec (.sealJob b) s = .next s) ∧
      (∀ q, s.sys.dev.role ≠ 2 → ¬ paused → quiet → IsLowest s b q →
        ¬ (s.sys.dev.answers 40 = true ∧ ∀ c ∈ jobBays s b, SealReady s q c) → exec (.sealJob b) s = .next s) ∧
      (∀ q, s.sys.dev.role ≠ 2 → ¬ paused → quiet → IsLowest s b q → s.sys.dev.answers 40 = true →
        (∀ c ∈ jobBays s b, SealReady s q c) → q + (witAt s b).steps.length < 2 ^ 48 → Completes (.sealJob b) s (fun t =>
          (∀ c ∈ jobBays s b, (∃ y ∈ sealedAt t c, q ≤ y) ∧ stepAt t c q = none ∧
            ((t.sys.dev.txRecs[c].drop s.sys.dev.txRecs[c].length).head?.any (fun r => match r with
              | .sealRec e y _ => e == epochAt s c && y == q
              | _ => false)) = true ∧
            (holdsAt t c).testBit 0 = false ∧
            ((witAt t c).ledger.drop (witAt s c).ledger.length).head?.any (fun e => e.getD 8 0#8 == 1#8) = true ∧
            (fldOf s (R.WIT_SEAL_CNT c.val) F.WIT_SEAL_CNT.COUNT < 2 ^ 32 - 1 →
              fldOf s (R.WIT_SEAL_CNT c.val) F.WIT_SEAL_CNT.COUNT < fldOf t (R.WIT_SEAL_CNT c.val) F.WIT_SEAL_CNT.COUNT)) ∧
          t.sys.nv = s.sys.nv ∧ ∀ c : Bay, c ∉ jobBays s b → witAt t c = witAt s c ∧ linkAt t c = linkAt s c)) ∧
      (∀ c ∈ jobBays s b, s.sys.dev.role ≠ 2 → ¬ paused → PairDisagrees s c →
        Completes (.sealJob b) s (fun t => fldOf t R.TWIN_EVENT F.TWIN_EVENT.DISAGREE = 1 ∧
          (∀ x ∈ jobBays s b, bayFld t R.WIT_STAT x F.WIT_STAT.FAULTED = 1 ∧ sealedAt t x = sealedAt s x) ∧ t.sys.nv = s.sys.nv))) ∧
    (∀ (step : BitVec 48) (tile : BitVec 32), let c := Instr.replayTimeout b step tile
      (¬ ReplayRuns s ∨ replayAt s b step.toNat tile.toNat = none → exec c s = .next s) ∧
      (∀ p ∈ replayAt s b step.toNat tile.toNat, ReplayRuns s → Completes c s (fun t => let v := R.WIT_VERDICT0 b.val
        fldOf t v F.WIT_VERDICT0.VERDICT = 6 ∧ fldOf t v F.WIT_VERDICT0.ORIG_SLICE = p.1.slice % 2 ^ F.WIT_VERDICT0.ORIG_SLICE.width ∧
        fldOf t v F.WIT_VERDICT0.RUN_SLICE = p.2.runSlice % 2 ^ F.WIT_VERDICT0.RUN_SLICE.width ∧
        fldOf t v F.WIT_VERDICT0.CLUSTER = 0x7F ∧ fldOf t v F.WIT_VERDICT0.SAME_SLICE = (decide (p.2.runSlice = p.1.slice)).toNat ∧
        t.sys.dev.reg (R.WIT_VERDICT1 b.val) = tile ∧ t.sys.dev.reg (R.WIT_VERDICT2 b.val) = step.setWidth 32 ∧
        fldOf t (R.WIT_VERDICT3 b.val) F.WIT_VERDICT3.EPOCH = epochAt s b ∧
        (∃ y ∈ stepAt t b step.toNat, y.faulted = true ∧ ∀ q ∈ y.suspects, q.tile = tile.toNat → q.done = true) ∧
        (witAt s b).items ++ [⟨7, p.1.slice, 0xFF, tile.toNat, step.toNat, epochAt s b, []⟩] <+: (witAt t b).items ∧
        CountedAt s t (R.WIT_JOB_FAULT_CNT b.val) F.WIT_JOB_FAULT_CNT.COUNT ∧
        (∀ x ∈ jobBays s b, bayFld t R.WIT_STAT x F.WIT_STAT.FAULTED = 1 ∧
          (bayFld s R.WIT_STAT x F.WIT_STAT.MODE_NOW = 2 → (holdsAt t x).testBit 1 = true)) ∧ t.sys.nv = s.sys.nv))) ∧
    ((witAt s b).ledger = [] → exec (.witLedgerPop b) s = .next s) ∧
    (∀ e ∈ (witAt s b).ledger.head?, Completes (.witLedgerPop b) s (fun t =>
      (witAt t b).ledger = (witAt s b).ledger.tail ∧
      (∃ wall, t.sys.dev.ledgers[b] = s.sys.dev.ledgers[b] ++ [e.take 24 ++ natBytes 8 wall] ∧
        (s.sys.dev.reg R.MMP_WALL_LO = 0 → s.sys.dev.reg R.MMP_WALL_HI = 0 → wall = 0)) ∧
      t.sys.dev.regs = s.sys.dev.regs ∧ RestKept s t ∧ ∀ c : Bay, c ≠ b → witAt t c = witAt s c ∧
        t.sys.dev.ledgers[c] = s.sys.dev.ledgers[c])) ∧
    exec (.witEventPop b) s = .next (s.onDev (fun d => { d with
      wits := d.wits.set b { d.wits[b] with events := d.wits[b].events.tail } }))

/-- R204, R217, R218, R245–R260: GALLERY_LAG; a dispatch handed over; a copy of the loader done; completions accepted; a
dispatch's time run out; known-answer runs; fences. Model's own readings: log entries 1, 2, 49. -/
def Obligations.GalleryResult : Prop :=
  ∀ s : State,
    (∀ b : Bay, let w := witAt s b
      let item := w.items.find? (fun i => i.kind == 1)
      let disp := w.pend.head?.bind (fun p => w.tags.find? (fun y => y.tag == p))
      (item = none → disp = none → exec (.galleryLag b) s = .next s) ∧
      (item ≠ none ∨ disp ≠ none → Completes (.galleryLag b) s (fun t =>
        CountedAt s t (R.WIT_GLAG_CNT b.val) F.WIT_GLAG_CNT.COUNT ∧ GalOnly s t ∧ t.sys.dev.gcs = s.sys.dev.gcs ∧
        (let v := witAt t b; v.items = w.items ∧ v.steps = w.steps ∧ v.tags = w.tags ∧ v.pend = w.pend ∧ v.ledger = w.ledger) ∧
        (w.glagTime = none → w.events.length < 256 → ∃ e ∈ (witAt t b).events.getLast?, (witAt t b).events = w.events ++ [e] ∧
          fieldOf e 0 1 = 5 ∧ ∀ i ∈ item, fieldOf e 4 4 = i.tile % 2 ^ 32)))) ∧
    (∀ g : Fin 12,
      (¬ GcIdle s g ∨ (∀ b, s.sys.dev.pickFor g b = none) → exec (.arbiterHandover g) s = .next s) ∧
      (∀ b, GcIdle s g → ∀ y ∈ s.sys.dev.pickFor g b, (∀ c, turnOf s c < turnOf s b → s.sys.dev.pickFor g c = none) →
        exec (.arbiterHandover g) s = .next ((onGc (onWit s b (fun w =>
          { w.setTag { y with cluster := some g.val } with pend := w.pend.erase y.tag })) g
          (fun c => { c with waiting := some ⟨b, y.gen, y.desc⟩ })).onDev (fun d => { d with arbLast := b })))) ∧
    (∀ (g : Fin 12) (path : PathErr), let c := gcAt s g
      let goes := c.ldBusy = true ∧ s.sys.dev.answers (88 + g.val) = true ∧
        ∀ j ∈ List.range 16, s.sys.dev.mcReady j = true ∧ s.sys.dev.answers (72 + j) = true
      (¬ goes → exec (.loaderCopyDone g path) s = .next s) ∧
      (goes → Completes (.loaderCopyDone g path) s (fun t => let c' := gcAt t g
        let bad := (List.range (c.ldLen / 64)).any (fun i => t.sys.dev.poisoned (c.ldSrc + 64 * i))
        c'.ldBusy = false ∧ c'.ldPoison = bad ∧ c'.loads.head? = some (c.ldDst, c.ldLen, some c.ldSrc) ∧
        (∀ i ∈ List.range c.ldLen, memByte c'.store (c.ldDst + i) = memByte s.sys.dev.mem (c.ldSrc + i)) ∧
        (∀ x ∈ c.cur, ∀ p ∈ x.parts.find? (fun p => p.2.2 && decide (p.1 ≤ c.ldSrc ∧ c.ldSrc < p.1 + p.2.1)),
          let vs := (List.range (min c.ldLen (p.1 + p.2.1 - c.ldSrc))).map (fun i => (memByte s.sys.dev.mem (c.ldSrc + i)).toNat)
          (∀ v ∈ vs, c'.sMin ≤ v ∧ v ≤ c'.sMax) ∧ (vs ≠ [] → c'.sMin ∈ 255 :: vs ∧ c'.sMax ∈ 0 :: vs)) ∧
        (path = .clean → t.sys.dev.regs = s.sys.dev.regs) ∧ c'.cur = c.cur ∧ c'.waiting = c.waiting ∧ c'.queue = c.queue ∧
        t.sys.nv = s.sys.nv ∧ t.sys.dev.mem = s.sys.dev.mem ∧ ∀ h : Fin 12, h ≠ g → gcAt t h = gcAt s h))) ∧
    (s.sys.dev.gdone = [] → exec .completionAccept s = .next s) ∧
    (∀ p ∈ s.sys.dev.gdone.head?, let b := p.1
      let f (off n : Nat) := fieldOf p.2 off n
      let w := witAt s b
      let s' := s.onDev (fun d => { d with gdone := d.gdone.tail })
      ((∀ y ∈ w.tags.find? (fun y => y.tag == f 0 2), y.isOpen = false ∨ y.gen ≠ f 6 2) →
        exec .completionAccept s = .next (bump s' R.GAL_LATE_CNT F.GAL_LATE_CNT.COUNT)) ∧
      (∀ y ∈ w.tags.find? (fun y => y.tag == f 0 2), y.isOpen = true → y.gen = f 6 2 →
        let x : GDisp := ⟨b, y.gen, y.desc⟩
        let lanes := ∃ g : Fin 12, g.val = f 3 1 ∧ lanesOf s g ≠ []
        let again := f 2 1 = 0 ∧ x.kind = 1 ∧ f 4 1 = 1 ∧ lanes ∧ y.confirm = false
        let held := stepAt s b x.step
        (again → exec .completionAccept s = .next (onWit s' b (fun w =>
          { w.setTag { y with confirm := true, cluster := none } with pend := w.pend ++ [y.tag] }))) ∧
        (¬ again → Completes .completionAccept s (fun t =>
          t.sys.dev.gdone = s.sys.dev.gdone.tail ∧
          (∃ z ∈ (witAt t b).tags.find? (fun z => z.tag == y.tag), z.isOpen = false) ∧
          w.items ++ [⟨if f 2 1 = 2 then 5 else 8, sliceOf s b x.step x.tile, f 3 1, x.tile, x.step, epochAt s b, p.2⟩] <+:
            (witAt t b).items ∧ t.sys.nv = s.sys.nv ∧
          (held = none ∨ f 2 1 = 2 → (witAt t b).steps = w.steps ∧ t.sys.dev.regs = s.sys.dev.regs) ∧
          (held ≠ none → f 2 1 = 1 → VerdictIs t b 8 x.tile x.step ∧ bayFld t R.WIT_STAT b F.WIT_STAT.FAULTED = 1) ∧
          (∀ c ∈ held, f 2 1 ≠ 1 → f 2 1 ≠ 2 → x.kind = 1 → CountedAt s t (R.WIT_SAMPLE_CNT b.val) F.WIT_SAMPLE_CNT.COUNT ∧
            (f 4 1 = 1 → ∃ c' ∈ stepAt t b x.step, c'.suspects = c.suspects ∧
              ∀ q ∈ c'.samples, q.tile = x.tile → q.replay = false → q.passed = true) ∧
            (f 4 1 ≠ 1 → CountedAt s t (R.WIT_SAMPLE_FAIL b.val) F.WIT_SAMPLE_FAIL.COUNT ∧
              ∃ c' ∈ stepAt t b x.step, ∃ q ∈ c'.suspects, q.tile = x.tile)) ∧
          (∀ c ∈ held, f 2 1 ≠ 1 → f 2 1 ≠ 2 → x.kind ≠ 1 → ∀ q ∈ c.suspects.find? (fun q => q.tile == x.tile && !q.done),
            ∀ rp ∈ q.replay,
            let orig := (f 5 1 = 1) ∨ (f 5 1 = 0 ∧ ∃ e ∈ c.csums.find? (fun e => e.tile == x.tile), origBySum e (f 16 8) = true)
            let key := [f 16 8, f 24 4, f 8 4, f 12 4]
            let second := ∃ r ∈ rp.reference, r.1 ≠ f 3 1 ∧ r.2 = key
            (f 4 1 = 0 → (witAt t b).steps = w.steps) ∧
            (f 4 1 = 1 → ¬ orig → VerdictIs t b 1 x.tile x.step) ∧
            (f 4 1 = 1 → orig → VerdictIs t b (if q.csum then 2 else 3) x.tile x.step) ∧
            (2 ≤ f 4 1 → orig → VerdictIs t b 4 x.tile x.step) ∧
            (2 ≤ f 4 1 → ¬ orig → second → VerdictIs t b 5 x.tile x.step) ∧
            (2 ≤ f 4 1 → ¬ orig → ¬ second → ∃ c' ∈ stepAt t b x.step, ∀ z ∈ c'.suspects, z.tile = x.tile →
              z.replay = some { rp with reference := some (f 3 1, key) })))))) ∧
    (∀ g : Fin 12, ((gcAt s g).cur = none → exec (.tGdispExpiry g) s = .next s) ∧
      (∀ x ∈ (gcAt s g).cur, Completes (.tGdispExpiry g) s (fun t => (gcAt t g).cur = none ∧ Aborted s t x ∧ Recalled s t x g ∧
        CountedAt s t (R.GC_BLAME_CNT g.val) F.GC_BLAME_CNT.COUNT ∧ (gcAt t g).katDue = true ∧
        ((gcAt s g).blames = [] → gcFld t g F.GC_STATUS.BLAMES = 1 ∧
          gcFld t g F.GC_STATUS.HEALTH = gcFld s g F.GC_STATUS.HEALTH) ∧
        GalOnly s t ∧ ∀ h : Fin 12, h ≠ g → gcAt t h = gcAt s h))) ∧
    (∀ g : Fin 12, let starts := s.sys.dev.answers (88 + g.val) = true ∧ (gcAt s g).cur = none ∧ gcFld s g F.GC_STATUS.CHECKING = 0
      (¬ starts → exec (.katRun g) s = .next s) ∧
      (starts → exec (.katRun g) s = .next (put (onGc s g (fun c => { c with katDue := false })) (R.GC_STATUS g.val)
        F.GC_STATUS.CHECKING 1))) ∧
    (∀ (g : Fin 12) (failing : List (Fin 512 × AccClass)), let ends := s.sys.dev.answers (88 + g.val) = true ∧ gcFld s g F.GC_STATUS.CHECKING = 1
      let health := gcFld s g F.GC_STATUS.HEALTH
      let asked := chanOn s R.GAL_UNFENCE F.GAL_UNFENCE.UNFENCE g.val = true
      let passes := gcFld s g F.GC_STATUS.OBS_PASSES + 1
      let lanes := failing.map (fun p => p.1.val)
      let both := (lanesOf s g ++ lanes).eraseDups
      let fences := (health = 1 ∧ ∃ l ∈ lanes, l ∈ lanesOf s g) ∨ 8 < both.length
      (¬ ends → exec (.katDone g failing) s = .next s) ∧
      (ends → Completes (.katDone g failing) s (fun t => gcFld t g F.GC_STATUS.CHECKING = 0 ∧ (gcAt t g).katMade = true ∧
        CountedAt s t (R.GC_KAT_CNT g.val) F.GC_KAT_CNT.COUNT ∧ chanOn t R.GAL_UNFENCE F.GAL_UNFENCE.UNFENCE g.val = false ∧
        GalOnly s t ∧
        (failing = [] → (gcAt t g).passes = []) ∧
        (failing = [] → health = 1 → passes < fldOf s R.GAL_CFG F.GAL_CFG.OBS_CLEAR →
          HealthKept s t g ∧ gcFld t g F.GC_STATUS.OBS_PASSES = passes % 2 ^ F.GC_STATUS.OBS_PASSES.width) ∧
        (failing = [] → (health = 1 ∧ fldOf s R.GAL_CFG F.GAL_CFG.OBS_CLEAR ≤ passes) ∨ (health = 2 ∧ asked) →
          gcFld t g F.GC_STATUS.HEALTH = 0 ∧ lanesOf t g = [] ∧ gcFld t g F.GC_STATUS.OBS_PASSES = 0 ∧
          chanOn t R.GAL_FENCED F.GAL_FENCED.FENCED g.val = false ∧ chanOn t R.GAL_CHANGE F.GAL_CHANGE.CHANGED g.val = true ∧
          (health = 2 → gcFld t g F.GC_STATUS.BLAMES = 0 ∧ (gcAt t g).blames = [])) ∧
        (failing = [] → health = 0 ∨ (health = 2 ∧ ¬ asked) → HealthKept s t g) ∧
        (∀ p ∈ failing.getLast?, CountedAt s t (R.GC_KAT_FAIL g.val) F.GC_KAT_FAIL.COUNT ∧
          fldOf t (R.GC_LANE_LAST g.val) F.GC_LANE_LAST.LANE = p.1.val ∧
          fldOf t (R.GC_LANE_LAST g.val) F.GC_LANE_LAST.CLASS = classCode p.2 ∧
          (health = 2 → HealthKept s t g ∧ (asked → fldOf t R.GAL_CHANGE F.GAL_CHANGE.UNFENCE_REJ = 1)) ∧
          (health < 2 → (∀ l ∈ List.range 512, l ∈ lanesOf t g ↔ l ∈ both) ∧ gcFld t g F.GC_STATUS.OBS_PASSES = 0 ∧
            (gcAt t g).passes = []) ∧
          (health < 2 → ¬ fences → gcFld t g F.GC_STATUS.HEALTH = 1) ∧
          (health < 2 → fences → GcFenced s t g))))) ∧
    (∀ g : Fin 12, (gcFld s g F.GC_STATUS.HEALTH = 2 → exec (.galFence g) s = .next s) ∧
      (gcFld s g F.GC_STATUS.HEALTH ≠ 2 → Completes (.galFence g) s (fun t => GcFenced s t g ∧ GalOnly s t ∧
        ((gcAt s g).passes = [] → ∀ x ∈ (gcAt s g).cur.toList ++ (gcAt s g).waiting.toList,
          ((gcAt s g).cur = none ∨ (gcAt s g).waiting = none) → Recalled s t x g) ∧
        ∀ h : Fin 12, h ≠ g → gcAt t h = gcAt s h))) ∧
    (∀ g : Fin 12, (gcFld s g F.GC_STATUS.HEALTH ≠ 2 → exec (.galUnfence g) s = .next s) ∧
      (gcFld s g F.GC_STATUS.HEALTH = 2 → exec (.galUnfence g) s = .next (onGc
        (putBit s R.GAL_UNFENCE F.GAL_UNFENCE.UNFENCE g.val true) g (fun c => { c with katDue := true }))))

/-- R273–R281, R290: RESULT refused and taken, and how a run and a visit end; a visit due; a run's deadline; a pack removed.
R272, R276, R286: the scan of the log. Model's own readings: log entries 1, 50, 51. -/
def Obligations.StencilResult : Prop :=
  ∀ (s : State) (b : Bay),
    (∀ parity, (∀ x, ¬ Comes s b 0x14 x) → (∀ e ∈ s.sys.dev.fs.queue.head?, GetsRecord s e) →
      exec (.result b parity) s = .next s) ∧
    (∀ parity x, Comes s b 0x14 x →
      (x.beyond = true → Completes (.result b parity) s (fun t => Refused s t b x 0x04 0)) ∧
      (x.beyond = false → ¬ SessionTakes s b 0x14 → Completes (.result b parity) s (fun t => Refused s t b x 0x05 0))) ∧
    (∀ parity x, Passes s b 0x14 x → let run := (stnAt s b).visit.bind (·.run)
      let c := Instr.result b parity
      let n := (linkAt s b).slices.length
      ((∀ r ∈ run, x.u 16 4 ≠ r.runId) → Completes c s (fun t => Refused s t b x 0x0C 0)) ∧
      (∀ v ∈ (stnAt s b).visit, ∀ r ∈ v.run, x.u 16 4 = r.runId →
        (3 < x.u 21 1 ∨ n ≤ x.u 20 1 → Completes c s (fun t => Refused s t b x 0x0A 0)) ∧
        (x.u 21 1 ≤ 3 → x.u 20 1 < n → let r' := withChunk r x
          let judged := (resultLanded s b x parity).sys.dev.judgeDone b r' (x.u 28 4)
          (x.u 21 1 = 0 → Completes c s (fun t => Gone s t b x ∧ t.sys.dev.mem = (resultLanded s b x parity).sys.dev.mem ∧
            (∃ v' ∈ (stnAt t b).visit, v' = { v with run := some r' }) ∧ t.sys.nv = s.sys.nv)) ∧
          (x.u 21 1 = 2 → Completes c s (fun t => Gone s t b x ∧ RunEnds s t b v r 4)) ∧
          (x.u 21 1 = 3 → Completes c s (fun t => Gone s t b x ∧ RunEnds s t b v r 3)) ∧
          (x.u 21 1 = 1 → judged.1 ≠ 1 ∨ v.left = [] → Completes c s (fun t => Gone s t b x ∧ RunEnds s t b v r judged.1 ∧
            (judged.1 = 2 → fldOf t (R.WIT_STN_MISMATCH b.val) F.WIT_STN_MISMATCH.COUNT = judged.2 % 2 ^ F.WIT_STN_MISMATCH.COUNT.width))) ∧
          (x.u 21 1 = 1 → judged.1 = 1 → ∀ q ∈ v.left.head?, Completes c s (fun t => Gone s t b x ∧
            CountedAt s t (R.WIT_STN_PASS_CNT b.val) F.WIT_STN_PASS_CNT.COUNT ∧
            t.sys.dev.reg (R.WIT_STN_RUN_ID b.val) = s.sys.dev.reg (R.WIT_STN_RUN_ID b.val) + 1#32 ∧
            stnFld t b F.WIT_STN_STAT.SLOT = q.1 % 16 ∧
            ∀ w ∈ (stnAt t b).visit, w.slice = v.slice ∧ w.unitId = v.unitId ∧ w.left = v.left.tail ∧ w.runs = v.runs + 1 ∧
              ∃ y ∈ w.run, y.slot = q.1 ∧ y.test = q.2 ∧ y.chunks = []))))) ∧
    (¬ VisitMay s b → exec (.visitDue b) s = .next s) ∧
    (VisitMay s b → Completes (.visitDue b) s (fun t => let ft := t.sys.dev.ft
      let due := s.sys.dev.dueSlice b ft
      let left (x : Nat × Nat) := visitRuns s b x.2
      t.sys.nv = s.sys.nv ∧ t.sys.dev.cores = s.sys.dev.cores ∧ t.sys.dev.engs = s.sys.dev.engs ∧ t.pending = s.pending ∧
        (due = none → t.sys.dev.regs = s.sys.dev.regs ∧ t.sys.dev.stns = s.sys.dev.stns ∧ t.sys.dev.mem = s.sys.dev.mem) ∧
        (∀ x ∈ due, packsFor s b ≠ [] → left x = [] → t.sys.dev.regs = s.sys.dev.regs ∧ t.sys.dev.stns = s.sys.dev.stns) ∧
        (∀ x ∈ due, packsFor s b ≠ [] → ∀ q ∈ (left x).head?, RunBegins s t b q.1 q.2 x.1 x.2 0 (left x).tail))) ∧
    (VisitMay s b → packsFor s b = [] → Completes (.visitDue b) s (fun t => (stnAt t b).visit = none ∧ t.sys.nv = s.sys.nv ∧
      t.sys.dev.mem = s.sys.dev.mem ∧
      ((stnAt s b).noPack = true → t.sys.dev.stns = s.sys.dev.stns ∧ t.sys.dev.regs = s.sys.dev.regs) ∧
      ((stnAt s b).noPack = false → (stnAt t b).noPack = true →
        ∃ slice ∈ List.range (linkAt s b).slices.length, Raises s t 0x0505 b.val [slice]))) ∧
    ((stnAt s b).visit.bind (·.run) = none → exec (.stencilDeadline b) s = .next s) ∧
    (∀ v ∈ (stnAt s b).visit, ∀ r ∈ v.run, Completes (.stencilDeadline b) s (fun t => RunEnds s t b v r 5 ∧
      stencilsSent s t b ++ (linkAt t b).devWait = (linkAt s b).devWait ++ [.stencil r.runId v.slice 3 false 0 0 []] ∧
      t.sys.nv = s.sys.nv ∧ t.sys.dev.mem = s.sys.dev.mem)) ∧
    (∀ slot : BitVec 6, slot.toNat < 16 → let p := packAt s slot.toNat
      let free := p ≠ [] ∧ s.sys.dev.packBusy slot.toNat = false
      (CmdOpen s → free → Completes (.fsRemovePack slot) s (fun t => (∀ k ∈ List.range 16, packAt t k = if k = slot.toNat then [] else packAt s k) ∧
        fldOf t (R.STN_INFO slot.toNat) F.STN_INFO.VALID = 0 ∧ fldOf t R.FS_CMD_STAT F.FS_CMD_STAT.RESULT = 0 ∧
        t.sys.dev.fs.queue = s.sys.dev.fs.queue ++ [.pack 2 (ownerSigned p (packTrailer p)) (packTests p).length (packId p) (packVersion p)] ∧
        t.sys.nv.fsLog = s.sys.nv.fsLog ∧ t.sys.nv.fuses = s.sys.nv.fuses)) ∧
      (CmdOpen s → ¬ free → exec (.fsRemovePack slot) s = .next (cmdResult s 4)) ∧
      (s.sys.dev.answers 47 = false → exec (.fsRemovePack slot) s = .next s) ∧
      (s.sys.dev.answers 47 = true → s.sys.dev.role = 2 → exec (.fsRemovePack slot) s = .next (event s 0x0102 0xFF [R.FS_CMD])) ∧
      (s.sys.dev.answers 47 = true → s.sys.dev.role ≠ 2 → fldOf s R.FS_CMD_STAT F.FS_CMD_STAT.BUSY = 1 →
        exec (.fsRemovePack slot) s = .next (cmdResult s 1)) ∧
      (s.sys.dev.answers 47 = true → s.sys.dev.role ≠ 2 → fldOf s R.FS_CMD_STAT F.FS_CMD_STAT.BUSY = 0 →
        fldOf s R.FS_STATUS F.FS_STATUS.READY = 0 → exec (.fsRemovePack slot) s = .next (cmdResult s 4))) ∧
    (¬ (s.sys.dev.answers 47 = true ∧ fldOf s R.FS_STATUS F.FS_STATUS.READY = 0) → exec .logScan s = .next s) ∧
    (s.sys.dev.answers 47 = true → fldOf s R.FS_STATUS F.FS_STATUS.READY = 0 → ( Completes .logScan s (fun t =>
        let seqs := (s.sys.nv.fsLog.filterMap (·.record) ++ s.sys.dev.fs.journal.map (·.2)).map (·.seq)
        fldOf t R.FS_STATUS F.FS_STATUS.READY = 1 ∧ t.sys.nv.fsLog = s.sys.nv.fsLog ∧ t.sys.nv.fuses = s.sys.nv.fuses ∧
        t.sys.dev.fs.journal = s.sys.dev.fs.journal ∧ t.sys.dev.fs.scanned = true ∧
        (seqs = [] → t.sys.dev.fs.nextSeq = 1) ∧ (∀ x ∈ seqs, x < t.sys.dev.fs.nextSeq) ∧
        (seqs ≠ [] → t.sys.dev.fs.nextSeq - 1 ∈ seqs) ∧
        (∀ x ∈ s.sys.nv.fsLog, x.place < 2048 * t.sys.dev.fs.block + t.sys.dev.fs.slot) ∧
        fldOf t R.FS_TORN_CNT F.FS_TORN_CNT.COUNT =
          (s.sys.nv.fsLog.filter (fun x => x.record.isNone)).length % 2 ^ F.FS_TORN_CNT.COUNT.width ∧
        (¬ LogRoom t → fldOf t R.FS_STATUS F.FS_STATUS.LEDGER_FULL = 1 ∧
          (s.sys.dev.fs.scanned = false → fldOf t R.FS_STATUS F.FS_STATUS.RESUME_WAIT = 1)) ∧
        (∀ x ∈ s.sys.nv.fsLog, ∀ r ∈ x.record, r.ft ≤ t.sys.dev.ft) ∧ s.sys.dev.ft ≤ t.sys.dev.ft ∧
        (∀ id, id ≠ 0 → unitState t id = (((recordsOf s id).filter (fun r => r.after != 0xFF)).getLast?.elim 0 (·.after))) ∧
        (∀ k ∈ List.range 16, packAt t k = if packAt s k ≠ [] ∧
          signerRevoked s.sys.dev.shadow (packAt s k) (packTrailer (packAt s k)) = true then [] else packAt s k))))

/-- R262–R272, R282–R289: the host's commands of Flowstone refused and accepted; windows, ticks and marks; the next record
made durable, in the log, in the journal or from the override table; the journal acknowledged. Model's own readings: log
entries 1, 4, 51. Model's own readings: log entries 1, 4, 51. -/
def Obligations.FlowstoneResult : Prop :=
  ∀ s : State,
    (∀ c, IsFsCmd c → (s.sys.dev.answers 47 = false → exec c s = .next s) ∧
      (s.sys.dev.answers 47 = true → s.sys.dev.role = 2 → exec c s = .next (event s 0x0102 0xFF [R.FS_CMD])) ∧
      (s.sys.dev.answers 47 = true → s.sys.dev.role ≠ 2 → fldOf s R.FS_CMD_STAT F.FS_CMD_STAT.BUSY = 1 →
        exec c s = .next (cmdResult s 1)) ∧
      (s.sys.dev.answers 47 = true → s.sys.dev.role ≠ 2 → fldOf s R.FS_CMD_STAT F.FS_CMD_STAT.BUSY = 0 →
        fldOf s R.FS_STATUS F.FS_STATUS.READY = 0 → exec c s = .next (cmdResult s 4))) ∧
    (CmdOpen s →
      (∀ slot : BitVec 6, 16 ≤ slot.toNat → exec (.fsRemovePack slot) s = .next (cmdResult s 2)) ∧
      (∀ (b : Bay) (x : BitVec 6), let slice := x.toNat
        (unitIn s b slice = none → exec (.fsFence b x) s = .next (cmdResult s 2) ∧ exec (.fsUnfence b x) s = .next (cmdResult s 2) ∧
          exec (.fsClear b x) s = .next (cmdResult s 2)) ∧
        (∀ id ∈ unitIn s b slice, let st := unitState s id
          let few := othersActive s b slice < (linkAt s b).slicesMin
          (2 ≤ st → exec (.fsFence b x) s = .next (cmdResult s 4)) ∧
          (st < 2 → few → exec (.fsFence b x) s = .next (cmdResult s 3)) ∧
          (st < 2 → ¬ few → exec (.fsFence b x) s = .next (cmdTaken s [.host 1 b slice id])) ∧
          (st ≠ 2 ∨ BayRetired s b → exec (.fsUnfence b x) s = .next (cmdResult s 4)) ∧
          (st = 2 → ¬ BayRetired s b → exec (.fsUnfence b x) s = .next (cmdTaken s [.host 2 b slice id])) ∧
          (st ≠ 1 → exec (.fsClear b x) s = .next (cmdResult s 4)) ∧
          (st = 1 → exec (.fsClear b x) s = .next (cmdTaken s [.host 5 b slice id])))) ∧
      (∀ b : Bay, let es := (linkAt s b).slices.zipIdx
        let back := ((linkAt s b).slices.filter (fun x => x.state != 2 && (s.sys.dev.unit x.unitId).before != 2)).length
        (BayRetired s b ∨ es = [] → exec (.fsRetire b) s = .next (cmdResult s 4)) ∧
        (¬ BayRetired s b → es ≠ [] → exec (.fsRetire b) s =
          .next (cmdTaken s (es.map (fun p => .retireUnit b p.2 p.1.unitId) ++ [.retireBay b true]))) ∧
        (¬ BayRetired s b → exec (.fsUnretire b) s = .next (cmdResult s 4)) ∧
        (BayRetired s b → back < (linkAt s b).slicesMin → exec (.fsUnretire b) s = .next (cmdResult s 3)) ∧
        (BayRetired s b → (linkAt s b).slicesMin ≤ back → exec (.fsUnretire b) s =
          .next (cmdTaken s (es.map (fun p => .unretireUnit b p.2 p.1.unitId) ++ [.unretireBay b])))) ∧
      (∀ (st : BitVec 2) (age : BitVec 8), let id := (s.sys.dev.reg R.FS_CMD_UNIT_LO).toNat + 2 ^ 32 * (s.sys.dev.reg R.FS_CMD_UNIT_HI).toNat
        (st = 3 ∨ id = 0 → exec (.fsCarry st age) s = .next (cmdResult s 2)) ∧
        (st ≠ 3 → id ≠ 0 → exec (.fsCarry st age) s = .next (cmdTaken s [.carry id st.toNat age.toNat]))) ∧
      (fldOf s R.FS_STATUS F.FS_STATUS.RESUME_WAIT = 0 → exec .fsResume s = .next (cmdResult s 4)) ∧
      (fldOf s R.FS_STATUS F.FS_STATUS.RESUME_WAIT = 1 → exec .fsResume s = .next ((puts s
        [(R.FS_STATUS, F.FS_STATUS.RESUME_WAIT, 0), (R.FS_CMD_STAT, F.FS_CMD_STAT.BUSY, 0), (R.FS_CMD_STAT, F.FS_CMD_STAT.RESULT, 0)]).onDev
          (fun d => { d with fs := { d.fs with journalFull := false } })))) ∧
    (∀ id : BitVec 64, let u := s.sys.dev.unit id.toNat
      Completes (.obsWindowClose id) s (fun t =>
        let closes := s.sys.dev.role ≠ 2 ∧ u.state = 1 ∧ u.winStart + u.win ≤ t.sys.dev.ft ∧ u.req ≤ u.passes ∧ FsEvent.window id.toNat ∉ s.sys.dev.fs.queue
        (closes → t.sys.dev.fs = { s.sys.dev.fs with queue := s.sys.dev.fs.queue ++ [.window id.toNat] }) ∧
        (¬ closes → t.sys.dev.fs = s.sys.dev.fs) ∧ t.sys.dev.regs = s.sys.dev.regs ∧ t.sys.dev.links = s.sys.dev.links ∧ RestKept s t)) ∧
    Completes .flowstoneTick s (fun t => (∃ x, t.sys.dev.ft = max x (s.sys.dev.fs.lastTick + 3600) % 2 ^ 48) ∧
      t.sys.dev.fs = { s.sys.dev.fs with lastTick := t.sys.dev.ft, firstTick := false, queue := s.sys.dev.fs.queue ++ [.tick s.sys.dev.fs.firstTick] } ∧
      t.sys.dev.regs = s.sys.dev.regs ∧ RestKept s t) ∧
    (fldOf s R.FS_STATUS F.FS_STATUS.LEDGER_FULL = 0 → exec .ftMark s = .next s) ∧
    (fldOf s R.FS_STATUS F.FS_STATUS.LEDGER_FULL = 1 → Completes .ftMark s (fun t =>
      (∃ x, t.sys.dev.fs.lastMark = max x (s.sys.dev.fs.lastMark + 3600) % 2 ^ 48) ∧
      (∃ r, t.sys.dev.tray.holdup = s.sys.dev.tray.holdup ++ [r] ∧ r.cause = 4 ∧ r.trayPwr = pwrOf s 8 ∧ r.ft = t.sys.dev.ft) ∧
      t.sys.dev.fs.queue = s.sys.dev.fs.queue ∧ t.sys.dev.regs = s.sys.dev.regs ∧ RestKept s t)) ∧
    (∀ v : BitVec 32, (s.sys.dev.answers 47 = false → exec (.fsJournalAck v) s = .next s) ∧
      (s.sys.dev.answers 47 = true → Completes (.fsJournalAck v) s (fun t =>
        let ack := max s.sys.dev.fs.journalAck ((s.sys.dev.reg R.FS_JOURNAL_ACK_LO).toNat + 2 ^ 32 * v.toNat)
        let left := (s.sys.dev.fs.journal.filter (fun p => decide (ack < p.2.seq))).length
        t.sys.dev.fs = { s.sys.dev.fs with journalAck := ack } ∧ t.sys.dev.reg R.FS_JOURNAL_ACK_HI = v ∧
        fldOf t R.FS_JOURNAL_CNT F.FS_JOURNAL_CNT.COUNT = left % 2 ^ F.FS_JOURNAL_CNT.COUNT.width ∧
        (s.sys.dev.fs.journal.length < 4194304 → fldOf t R.FS_STATUS F.FS_STATUS.JOURNAL_FULL = 0) ∧ RestKept s t))) ∧
    (∀ ok : Bool, let c := Instr.fsAppendDone ok
      let open_ := s.sys.dev.answers 47 = true ∧ fldOf s R.FS_STATUS F.FS_STATUS.READY = 1
      let memoryUp := ∀ j ∈ List.range 16, s.sys.dev.mcReady j = true ∧ s.sys.dev.answers (72 + j) = true
      let back := s.sys.dev.fs.overrides ≠ [] ∧ s.sys.dev.fs.journalRoom = true ∧ memoryUp
      let fs := s.sys.dev.fs
      (¬ open_ → exec c s = .next s) ∧
      (open_ → ¬ back → fs.queue = [] → exec c s = .next s) ∧
      (open_ → back → ∀ o ∈ fs.overrides.head?, Completes c s (fun t =>
        (∃ k, t.sys.dev.fs.journal.getLast? = some (k, { o with seq := fs.nextSeq, journal := true }) ∧
          memBytes t.sys.dev.mem (0xFF0000000 + 64 * k) 64 = ({ o with seq := fs.nextSeq, journal := true } : FsRecord).bytes) ∧
        t.sys.dev.fs.overrides = fs.overrides.tail ∧ t.sys.dev.fs.nextSeq = fs.nextSeq + 1 ∧ t.sys.nv = s.sys.nv)) ∧
      (open_ → ¬ back → ∀ e ∈ fs.queue.head?, GetsRecord s e →
        (LogRoom s → ok = false → Completes c s (fun t => t.sys.nv.fuses = s.sys.nv.fuses ∧ t.sys.nv.packs = s.sys.nv.packs ∧
          ((t.sys.nv.fsLog = s.sys.nv.fsLog ++ [⟨2048 * fs.block + fs.slot, none⟩] ∧ t.sys.dev.fs.block = fs.block + 1 ∧
            t.sys.dev.fs.slot = 0 ∧ t.sys.dev.fs.abandoned = fs.abandoned + 1 ∧ t.sys.dev.fs.nextSeq = fs.nextSeq ∧
            t.sys.dev.fs.queue = fs.queue) ∨ (t.sys.nv.fsLog = s.sys.nv.fsLog ∧ ∃ ft, ¬ StillActs s ft e)))) ∧
        (LogRoom s → ok = true → Completes c s (fun t => t.sys.nv.fuses = s.sys.nv.fuses ∧ t.sys.nv.packs = s.sys.nv.packs ∧
          ((t.sys.nv.fsLog = s.sys.nv.fsLog ∧ ∃ ft, ¬ StillActs s ft e) ∨ ∃ r ft, FormsRecord s e ft r ∧
            t.sys.nv.fsLog = s.sys.nv.fsLog ++ [⟨2048 * fs.block + fs.slot, some r⟩] ∧ ((∀ x, e ≠ .mirror x) → r.ft = ft) ∧
            r.seq = fs.nextSeq ∧ t.sys.dev.fs.nextSeq = fs.nextSeq + 1 ∧
            (r.unitId ≠ 0 → r.after ≠ 0xFF → unitState t r.unitId = r.after) ∧
            (r.unitId ≠ 0 → r.after ≠ 0xFF → r.after ≠ unitState s r.unitId →
              Raises s t 0x0501 r.bay [r.unitId, unitState s r.unitId, r.after]) ∧
            ((∃ op b sl u, e = .host op b sl u) ∨ (∃ u st age, e = .carry u st age) →
              fldOf t R.FS_CMD_STAT F.FS_CMD_STAT.BUSY = 0 ∧ fldOf t R.FS_CMD_STAT F.FS_CMD_STAT.RESULT = 0)))) ∧
        (¬ LogRoom s → ¬ memoryUp → Completes c s (fun t => t.sys.nv = s.sys.nv ∧ t.sys.dev.fs.journal = fs.journal ∧
          t.sys.dev.fs.nextSeq = fs.nextSeq)) ∧
        (¬ LogRoom s → memoryUp → fs.journal.length < 4194304 → Completes c s (fun t => t.sys.nv = s.sys.nv ∧
          ((t.sys.dev.fs.journal = fs.journal ∧ ∃ ft, ¬ StillActs s ft e) ∨ ∃ r k ft, FormsRecord s e ft r ∧
            t.sys.dev.fs.journal = fs.journal ++ [(k, r)] ∧ r.seq = fs.nextSeq ∧ r.journal = true ∧
            t.sys.dev.fs.nextSeq = fs.nextSeq + 1)))))

/-- R293–R325: controllers READY, patrol scrub, windows armed, refused, counted, completed and closed; descriptors queued,
run and ended. What a scrub does when a read is clean or corrected, and the free values of R311 and R315, are as the log
says. Model's own readings: log entries 1, 10, 14. -/
def Obligations.MemoryResult : Prop :=
  ∀ s : State,
    (∀ j : Fin 16, let st := mcFld s j R.MC_STATUS F.MC_STATUS.STATE
      let goes := s.sys.dev.answers (72 + j.val) = true ∧ st ≠ 1
      let last := ∀ i ∈ List.range 16, i ≠ j.val → MemUp s i
      (¬ goes → exec (.mcReady j) s = .next s) ∧
      (goes → ¬ last → exec (.mcReady j) s = .next (put s (R.MC_STATUS j.val) F.MC_STATUS.STATE 1)) ∧
      (goes → last → Completes (.mcReady j) s (fun t => (∀ i ∈ List.range 16, MemUp t i) ∧ t.sys.nv = s.sys.nv ∧
        t.sys.dev.engs = s.sys.dev.engs ∧ t.sys.dev.cores = s.sys.dev.cores ∧ t.pending = s.pending ∧
        ∀ b : Bay, let k := linkAt s b
          let k' := linkAt t b
          k'.inbox = k.inbox ∧ (1024 ≤ (witAt s b).items.length → k' = k) ∧
          ((witAt s b).items.length < 1024 → k'.returned.1 = k.returned.1 + k.owed.1 ∧ k'.owed.1 = 0 ∧
            k'.returned.2.1 + k'.owed.2 = k.returned.2.1 + k.owed.2 ∧
            ((witAt s b).parts = [] → k'.owed.2 = 0))))) ∧
    (∀ (j : Fin 16) (ch : Fin 2) (off : Nat) (found : PathErr) (raced : Bool), let c := Instr.scrubRead j ch off found raced
      let goes := MemUp s j ∧ off < 1920 * 1024 * 1024
      let a := scrubLine j ch off
      (¬ goes → exec c s = .next s) ∧
      (goes → Completes c s (fun t => ScrubMoves s t j ∧ RestKept s t ∧
        PoisonAdds s t a (found = .uncorrectable ∧ raced = false) ∧
        (found = .uncorrectable → CountedAt s t (R.MC_UE_CNT j ch) F.MC_UE_CNT.COUNT ∧ ErrorRecorded t j a 1 1 ∧
          mcFld t j R.MC_EVENT F.MC_EVENT.UE = 1) ∧
        (found = .corrected → CountedAt s t (R.MC_CE_CNT j ch) F.MC_CE_CNT.COUNT ∧
          ∃ x : Nat, let now := s.sys.dev.mcs[j].timer + x
            let near := (now :: s.sys.dev.mcs[j].ceTimes).filter (fun y => decide (now < y + 3600000000))
            t.sys.dev.mcs[j].ceTimes = near ∧
            mcFld t j R.MC_EVENT F.MC_EVENT.CE_RATE = (if mcFld s j R.MC_CE_THRESH F.MC_CE_THRESH.LIMIT < near.length then 1
              else mcFld s j R.MC_EVENT F.MC_EVENT.CE_RATE)) ∧
        (found = .clean ∨ found = .transit → t.sys.dev.mcs = s.sys.dev.mcs ∧
          ∀ r, r ≠ R.MC_SCRUB_POS j → r ≠ R.MC_SCRUB_PASSES j → t.sys.dev.reg r = s.sys.dev.reg r)))) ∧
    (∀ j : Fin 16, exec (.scrubLate j) s = .next (if s.sys.dev.answers (72 + j.val) = true
      then put s (R.MC_EVENT j.val) F.MC_EVENT.SCRUB_LATE 1 else s)) ∧
    (∀ (i : Initiator) (w : Fin 64) (v : BitVec 32),
      let may := (16 ≤ w.val ∨ ∃ b : Bay, b.val = w.val % 8 ∧ i = .eng (.wit b)) ∧ s.sys.dev.answers (72 + w.val / 4) = true
      (¬ may → exec (.twArm i w v) s = .next s ∧ exec (.twClose i w v) s = .next s) ∧
      (may → Completes (.twArm i w v) s (fun t => TwWritten s t w (v ||| 0x10#32))) ∧
      (may → Completes (.twClose i w v) s (fun t => TwWritten s t w (v ||| 0x20#32)))) ∧
    (∀ (a : Nat) (bs : List (BitVec 8)) (path : PathErr), let c := Instr.windowLanding a bs path
      let n := bs.length
      let bad := path = .transit
      let lands := 0x100000000 ≤ a ∧ a < 0xFB0000000 ∧ a + n ≤ 0xFB0000000
      let j := (a - 0x100000000) / 256 % 32 / 2
      (¬ lands → exec c s = .next s) ∧
      (lands → NoWindow s a n → ¬ bad → exec c s = .next (stores s a bs)) ∧
      (lands → bad → Completes c s (fun t => CountedAt s t (R.MC_PAR_CNT j) F.MC_PAR_CNT.COUNT ∧ ErrorRecorded t j a 2 0 ∧
        mcFld t j R.MC_EVENT F.MC_EVENT.PARITY = 1 ∧ t.sys.dev.poisoned a = true ∧ t.sys.nv = s.sys.nv ∧
        (NoWindow s a n → t.sys.dev.mem = (stores s a bs).sys.dev.mem ∧
          ∀ x, x / 64 ≠ a / 64 → t.sys.dev.poisoned x = (storesBad s a bs true).sys.dev.poisoned x))) ∧
      (∀ w : Fin 64, let o := s.sys.dev.windowOp w
        let mine := countedOf o a bs
        let was := coveredAt s w
        let got := was + mine.length
        let st (t : State) (f : Fld) := winFld t w R.TW_STATUS f
        let result (t : State) := t.sys.dev.reg (R.TW_RESULT (w / 4) (w % 4))
        lands → s.sys.dev.armed w = true → mine ≠ [] →
        Completes c s (fun t => coveredAt t w = got % 2 ^ 36 ∧ st t F.TW_STATUS.ARMED = 1 ∧ t.sys.nv = s.sys.nv ∧
          (bad → st t F.TW_STATUS.POISON = 1) ∧
          (w.val < 8 → st t F.TW_STATUS.COMPLETE = st s F.TW_STATUS.COMPLETE ∧ st t F.TW_STATUS.OVER = st s F.TW_STATUS.OVER ∧
            result t = result s) ∧
          (8 ≤ w.val → st s F.TW_STATUS.COMPLETE = 1 → st t F.TW_STATUS.COMPLETE = 1 ∧ st t F.TW_STATUS.OVER = 1) ∧
          (8 ≤ w.val → st s F.TW_STATUS.COMPLETE = 0 → got < o.len → st t F.TW_STATUS.COMPLETE = 0 ∧
            st t F.TW_STATUS.OVER = st s F.TW_STATUS.OVER ∧ result t = result s ∧
            t.sys.dev.landed[w] = s.sys.dev.landed[w] ++ mine) ∧
          (8 ≤ w.val → st s F.TW_STATUS.COMPLETE = 0 → o.len ≤ got → st t F.TW_STATUS.COMPLETE = 1 ∧
            (winFld s w R.TW_CTL F.TW_CTL.IRQ = 1 → mcFld t (w / 4) R.MC_EVENT F.MC_EVENT.WIN_DONE = 1) ∧
            (o.len < got → st t F.TW_STATUS.OVER = 1)) ∧
          (8 ≤ w.val → st s F.TW_STATUS.COMPLETE = 0 → o.op = 6 → got ≤ o.len → OnlyWindow s w a n →
            (o.param + o.len ≤ a ∨ a + n ≤ o.param) → ∀ p ∈ mine, memByte t.sys.dev.mem (o.param + p.1) = p.2) ∧
          (8 ≤ w.val → st s F.TW_STATUS.COMPLETE = 0 → got = o.len → OnlyWindow s w a n → o.op ≠ 6 →
            (bad ∨ st s F.TW_STATUS.POISON = 1 → t.sys.dev.mem = (stores s a bs).sys.dev.mem) ∧
            (¬ bad → st s F.TW_STATUS.POISON = 0 → (o.op = 3 → (stores s a bs).sys.dev.poisonedRange o.param o.len = false) →
              ∀ all, CountedOnce (s.sys.dev.landed[w] ++ mine) all → all.length = o.len →
              ∃ u v, ResultOf (stores s a bs) u o all v ∧ t.sys.dev.mem = u.sys.dev.mem ∧
                (o.op = 2 ∨ o.op = 3 → result t = v)))))) ∧
    (∀ j : Fin 16, let a := (s.sys.dev.reg (R.TRW_DQ_ADDR_LO j)).toNat + 2 ^ 32 * ((s.sys.dev.reg (R.TRW_DQ_ADDR_HI j)).toNat % 2 ^ 16)
      let c := s.sys.dev.mcs[j]
      let takes := s.sys.dev.answers (72 + j.val) = true ∧
        (0x10000000 ≤ a ∧ a < 0x11000000 ∨ 0x100000000 ≤ a ∧ a < 0x1000000000)
      (¬ takes → exec (.trwDqGo j) s = .next s) ∧
      (takes → c.queue.length = 8 → exec (.trwDqGo j) s = .next (put s (R.MC_EVENT j.val) F.MC_EVENT.QFULL 1)) ∧
      (takes → c.queue.length ≠ 8 → c.running ≠ none → exec (.trwDqGo j) s =
        .next (trowelHolds s j c.running (c.queue ++ [a]))) ∧
      (takes → c.queue.length ≠ 8 → c.running = none → Completes (.trwDqGo j) s (DescStarts j (c.queue ++ [a]) s))) ∧
    (∀ (j : Fin 16) (c : Instr) (op : Nat), (c, op) ∈ [(Instr.trowelCsumAcc j, 1), (.trowelCrc32c j, 2), (.trowelCmpExp j, 3),
        (.trowelXfold j, 4), (.trowelFill j, 5), (.trowelCopy j, 6)] →
      let up := s.sys.dev.answers (72 + j.val) = true ∧ ∀ i ∈ List.range 16, MemUp s i
      let q := s.sys.dev.mcs[j].queue
      ((∀ a ∈ s.sys.dev.mcs[j].running, (descOp s.sys.dev.mem a).op ≠ op) ∨ ¬ up → exec c s = .next s) ∧
      (∀ a ∈ s.sys.dev.mcs[j].running, up → let o := descOp s.sys.dev.mem a
        o.op = op →
        let bs := memBytes s.sys.dev.mem o.src o.len
        let bad := (op ≠ 5 ∧ op ≠ 6 ∧ s.sys.dev.poisonedRange o.src o.len = true) ∨
          (op = 3 ∧ s.sys.dev.poisonedRange o.param o.len = true)
        (bad → Completes c s (DescStarts j q (descEnded s j a 2 0 none))) ∧
        (¬ bad → op ≤ 4 → Completes c s (fun t => ∃ u v, ResultOf s u o bs v ∧
          DescStarts j q (descEnded u j a 1 0 (if op = 2 ∨ op = 3 then some v else none)) t)) ∧
        (op = 5 → ∃ out : List (BitVec 8), out.length = o.len ∧
          (∀ i ∈ List.range o.len, out.getD i 0#8 = memByte s.sys.dev.mem (a + 40 + i % 8)) ∧
          Completes c s (DescStarts j q (descEnded (stores s o.src out) j a 1 0 none))) ∧
        (op = 6 → o.src + o.len ≤ o.param ∨ o.param + o.len ≤ o.src → o.param % 64 = 0 →
          Completes c s (fun t => ∃ u, u.sys.nv = s.sys.nv ∧ u.sys.dev.regs = s.sys.dev.regs ∧ u.sys.dev.mcs = s.sys.dev.mcs ∧
            (∀ x, memByte u.sys.dev.mem x = if o.param ≤ x ∧ x < o.param + o.len then memByte s.sys.dev.mem (o.src + (x - o.param))
              else memByte s.sys.dev.mem x) ∧
            (∀ l, l < o.lines → u.sys.dev.poisoned (o.param + 64 * l) = s.sys.dev.poisoned (o.src + 64 * l)) ∧
            DescStarts j q (descEnded u j a 1 0 none) t))))

/-- R503, R505–R509, R536: frames accepted, dropped and relayed; ARP, neighbour and echo requests answered; DHCP; LLDP; a
write of RATE. Model's own readings: log entries 1, 57, 58. -/
def Obligations.EthernetResult : Prop :=
  ∀ s : State,
    (∀ f : EthFrame, let taken := bump s R.ETH_RX_FRAMES F.ETH_RX_FRAMES.COUNT
      let passes := f.forPartner = true ∧ ethFld s F.ETH_STAT.RELAY_IN = 1 ∧ (f.proto = .mmp ∨ f.proto = .dhcp)
      (¬ PortUp s → exec (.ethFrameReceive f) s = .next s) ∧
      (PortUp s → ¬ TakesFrame s f → exec (.ethFrameReceive f) s = .next (bump taken R.ETH_RX_DROP F.ETH_RX_DROP.COUNT)) ∧
      (PortUp s → TakesFrame s f → ¬ passes → exec (.ethFrameReceive f) s = .next taken) ∧
      (PortUp s → TakesFrame s f → passes → exec (.ethFrameReceive f) s = .next (twinSent taken (.relay (.relayed f.packet))))) ∧
    (∀ ip partner src, let mine := Holds4 s ip ∨ (partner = true ∧ ethFld s F.ETH_STAT.RELAY_IN = 1)
      (PortUp s → mine → exec (.arpRequest ip partner src) s = .next (frameOut s (.arp ip src))) ∧
      (¬ PortUp s ∨ ¬ mine → exec (.arpRequest ip partner src) s = .next s)) ∧
    (∀ ip partner src, let mine := ip = linkLocalOf s ∨ Holds6 s ip ∨ (partner = true ∧ ethFld s F.ETH_STAT.RELAY_IN = 1)
      (PortUp s → mine → exec (.ndSolicit ip partner src) s = .next (frameOut s (.neighbour ip src))) ∧
      (¬ PortUp s ∨ ¬ mine → exec (.ndSolicit ip partner src) s = .next s)) ∧
    (∀ v6 dst data src, let mine := (v6 = true ∧ (dst = linkLocalOf s ∨ Holds6 s dst)) ∨ (v6 = false ∧ Holds4 s (dst.setWidth 32))
      let c := Instr.icmpEcho v6 dst data src
      (¬ PortUp s ∨ ¬ mine → exec c s = .next s) ∧
      (PortUp s → mine → Completes c s (fun t => ∃ now, s.sys.dev.clock ≤ now ∧
        let near := lastSecond s.sys.dev.eth.echoTimes now
        (100 ≤ near.length → t = timeRead s now) ∧
        (near.length < 100 → t = frameOut (onEth (timeRead s now) (fun e => { e with echoTimes := now :: near })) (.echo v6 data src))))) ∧
    (∀ v6 m, let on := (v6 = true ∧ fldOf s R.ETH_IP6_CFG F.ETH_IP6_CFG.DHCP = 1) ∨ (v6 = false ∧ fldOf s R.ETH_IP4_CFG F.ETH_IP4_CFG.DHCP = 1)
      let c := Instr.dhcpReceive v6 m
      (¬ HostReaches s ∨ ¬ on → exec c s = .next s) ∧
      (HostReaches s → on → (∀ a, m = .offer a → exec c s = .next (frameOut s (.dhcp v6 a))) ∧
        (∀ a, m = .ack a → exec c s = .next (bound s v6 (some a))) ∧
        (m = .nak → exec c s = .next (frameOut (bound s v6 none) (.dhcp v6 0#128))))) ∧
    (¬ PortUp s → exec .lldpTransmit s = .next s) ∧
    (PortUp s → ∃ addrs : List (BitVec 128), (∀ a, a ∈ addrs ↔ a = linkLocalOf s ∨ Holds6 s a ∨ (∃ ip, Holds4 s ip ∧ a = ip.setWidth 128)) ∧
      exec .lldpTransmit s = .next (frameOut s (.lldp (BitVec.ofNat 48 (macOf s)) (4 * fldOf s R.ETH_CFG F.ETH_CFG.LLDP_INT) addrs))) ∧
    (∀ rate : BitVec 2, let c := Instr.ethRateWrite rate
      (s.sys.dev.answers 48 = false → exec c s = .next s) ∧
      (s.sys.dev.answers 48 = true → rate = 3 → exec c s = .next (event s 0x0102 0xFF [R.ETH_CFG])) ∧
      (s.sys.dev.answers 48 = true → rate ≠ 3 → rate.toNat = fldOf s R.ETH_CFG F.ETH_CFG.RATE → exec c s = .next s) ∧
      (s.sys.dev.answers 48 = true → rate ≠ 3 → rate.toNat ≠ fldOf s R.ETH_CFG F.ETH_CFG.RATE →
        exec c s = .next ((List.finRange 4).foldl (fun u l => let k := laneAt u (.host l)
            if k.phase = .quiet then u else laneTo u (.host l) { k with phase := .detect })
          (puts s [(R.ETH_CFG, F.ETH_CFG.RATE, rate.toNat), (R.ETH_STAT, F.ETH_STAT.RATE_NOW, rate.toNat)]))))

/-- R509–R519, R530: handshakes answered, refused and completed; DATA, ACK and CLOSE packets; resends, keepalives and the end
of a session. The numbers a handshake draws are free values (the log's entry 2). Model's own readings: log entries 1, 2, 57.
-/
def Obligations.SessionResult : Prop :=
  ∀ s : State,
    (∀ p src, let c := Instr.hsInit p src
      let reach := HostReaches s ∧ s.sys.dev.answers 39 = true ∧ s.sys.dev.sec.stopped = false
      let used := s.sys.dev.eth.hs.map (·.id) ++ (sessOf s).toList.map (·.id)
      (¬ reach → exec c s = .next s) ∧
      (reach → ¬ HelloOk p → exec c s = .next (bump s R.MMP_AUTH_FAIL F.MMP_AUTH_FAIL.COUNT)) ∧
      (reach → HelloOk p → Completes c s (fun t => ∃ now, s.sys.dev.clock ≤ now ∧
        let near := lastSecond s.sys.dev.eth.hsTimes now
        (100 ≤ near.length → t = timeRead s now) ∧
        (near.length < 100 → ∃ (h : Handshake) (nonce : List (BitVec 8)) (k n : Nat), let f := s.sys.nv.fuses
          let q := p256Mul 256 h.ephPriv (some (p256gx, p256gy))
          let r := [1#8, BitVec.ofNat 8 h.maxp, 0#8, 0#8] ++ natBytes 4 h.id ++ nonce ++ beBytes 32 (q.getD (0, 0)).1 ++
            beBytes 32 (q.getD (0, 0)).2 ++ beBytes 32 f.idPub.1 ++ beBytes 32 f.idPub.2
          h.id ≠ 0 ∧ h.id < 2 ^ 32 ∧ (used.length < 7 → h.id ∉ used) ∧ nonce.length = 32 ∧ 1 ≤ h.ephPriv ∧ h.ephPriv < p256n ∧
          h.maxp = min (fieldOf p 1 1) (fldOf s R.MMP_CFG F.MMP_CFG.MAXP) ∧ h.th1 = sha256 (p ++ r) ∧
          h.nonces = (p.drop 4).take 32 ++ nonce ∧ h.ephHost = (p.drop 36).take 64 ∧ h.hostKey = (p.drop 100).take 64 ∧
          h.window = windowOf s ∧
          t = frameOut (onEth (drew (timeRead s now) n) (fun e => { e with
              hs := e.hs.drop (e.hs.length - 3) ++ [h], hsTimes := now :: near }))
            (.hello 2 h.id (r ++ f.signWith k (bytesNatBe (sha256 (ascii "MIRYS-MMP-HS-1" ++ h.th1)))) src))))) ∧
    (∀ (id : BitVec 32) sig (window : BitVec 16) late src, let c := Instr.hsFin id sig window late src
      let fails := bump s R.MMP_AUTH_FAIL F.MMP_AUTH_FAIL.COUNT
      let drops (u : State) := onEth u (fun e => { e with hs := e.hs.filter (fun x => x.id != id.toNat) })
      (¬ HostReaches s → exec c s = .next s) ∧
      (HostReaches s → (∀ h ∈ s.sys.dev.eth.hs, h.id ≠ id.toNat) → exec c s = .next fails) ∧
      (∀ h ∈ s.sys.dev.eth.hs.find? (fun h => h.id == id.toNat), HostReaches s →
        let vouched := HostKeyKnown s.sys.dev.shadow h.hostKey ∧
          ecdsaVerify (bytesNatBe (sha256 (ascii "MIRYS-MMP-HF-1" ++ sha256 (h.th1 ++ natBytes 4 h.id))))
            (be32 h.hostKey 0) (be32 h.hostKey 32) (be32 sig 0) (be32 sig 32) = true
        (late = true → exec c s = .next (bump (drops s) R.MMP_AUTH_FAIL F.MMP_AUTH_FAIL.COUNT)) ∧
        (late = false → ¬ vouched → exec c s = .next fails) ∧
        (late = false → vouched → s.sys.dev.eth.events.length ≤ 4096 → Completes c s (fun t => let e := t.sys.dev.eth
          (∃ σ ∈ e.sess, σ.id = h.id ∧ σ.maxp = h.maxp ∧ σ.keys = h.keys ∧ σ.peer = src ∧ σ.rxAck = 0 ∧ σ.rxWindow = h.window ∧
            σ.rxHeld = [] ∧ σ.txTop = window.toNat ∧ σ.asnTx = 0 ∧ σ.asnRx = 0 ∧ σ.expiries = 0 ∧
            σ.txNext = 1 + σ.unacked.length ∧ ∀ m ∈ msgsOf σ, m.kind = 7) ∧
          e.hs = (drops s).sys.dev.eth.hs ∧ e.streams = [] ∧ ethFld t F.ETH_STAT.HOST = 1 ∧
          CountedAt s t R.MMP_SESSIONS F.MMP_SESSIONS.COUNT ∧ recordsRaised t = recordsRaised s ∧
          e.events.map (·.again) = s.sys.dev.eth.events.map (fun x => x.again || x.sent) ∧
          (1 ≤ h.maxp → EventsOut t) ∧ RestKept s t)))) ∧
    (∀ p c, IsPacket c p →
      (¬ HostReaches s ∨ sessOf s = none → exec c s = .next s) ∧
      (∀ σ ∈ sessOf s, HostReaches s → (σ.id ≠ p.session.toNat → exec c s = .next s) ∧
        (σ.id = p.session.toNat → p.tagOk = false → exec c s = .next (bump s R.MMP_AUTH_FAIL F.MMP_AUTH_FAIL.COUNT)))) ∧
    (∀ p σ, OfSession s p σ → exec (.closePacket p) s = .next (sessionEnded s)) ∧
    (∀ p σ, OfSession s p σ → let c := Instr.ackPacket p
      let n := s.sys.dev.eth.events.length
      (p.psn.toNat ≤ σ.asnRx → exec c s = .next s) ∧
      (σ.asnRx < p.psn.toNat → ∀ σ1, AckTaken { σ with asnRx := p.psn.toNat } p σ1 → Completes c s (fun t =>
        Goes s t σ n (fun σ' => FlowsFrom σ1 [] σ' ∧ σ'.asnRx = p.psn.toNat ∧ σ'.rxAck = σ.rxAck ∧ σ'.rxHeld = σ.rxHeld ∧ σ'.asnTx = σ.asnTx) ∧
        recordsRaised t = recordsRaised s ∧ RestKept s t))) ∧
    (∀ p σ, OfSession s p σ → let c := Instr.dataPacket p
      let psn := p.psn.toNat
      let again := psn ≤ σ.rxAck ∨ ∃ h ∈ σ.rxHeld, h.1 = psn
      let n := s.sys.dev.eth.events.length + σ.rxHeld.length + 1
      (σ.rxAck + σ.rxWindow < psn → exec c s = .next s) ∧
      (psn ≤ σ.rxAck + σ.rxWindow → again → ∀ σ1, AckTaken σ p σ1 → Completes c s (fun t => Goes s t σ n (fun σ' =>
        FlowsFrom σ1 [] σ' ∧ σ'.rxAck = σ.rxAck ∧ σ'.rxHeld = σ.rxHeld ∧ σ'.asnTx = σ.asnTx + 1 ∧ σ'.rxWindow = windowOf s) ∧
        t.sys.dev.eth.inbox = s.sys.dev.eth.inbox ∧ t.sys.dev.eth.fwReqs = s.sys.dev.eth.fwReqs ∧
        (ethFld s F.ETH_STAT.LINK = 1 → EthOut.ack σ.id (σ.asnTx + 1) σ.rxAck (windowOf s) p.src ∈
          t.sys.dev.eth.out.drop s.sys.dev.eth.out.length) ∧ RestKept s t)) ∧
      (psn ≤ σ.rxAck + σ.rxWindow → ¬ again → ∀ σ1, AckTaken σ p σ1 → Completes c s (fun t =>
        t.sys.nv = s.sys.nv ∧ t.sys.dev.cores = s.sys.dev.cores ∧ t.sys.dev.engs = s.sys.dev.engs ∧ t.pending = s.pending ∧
        recordsRaised t = recordsRaised s ∧ Goes s t σ n (fun σ' => let all := σ.rxHeld ++ [(psn, p.payload)]
          FlowsFrom σ1 [] σ' ∧ σ.rxAck ≤ σ'.rxAck ∧ (∀ k, σ.rxAck < k → k ≤ σ'.rxAck → ∃ h ∈ all, h.1 = k) ∧
          (∀ h ∈ all, h.1 ≠ σ'.rxAck + 1) ∧
          σ'.rxHeld = all.filter (fun h => !decide (σ.rxAck < h.1 ∧ h.1 ≤ σ'.rxAck)) ∧ σ.asnTx < σ'.asnTx ∧
          (ethFld s F.ETH_STAT.LINK = 1 → EthOut.ack σ.id σ'.asnTx σ'.rxAck σ'.rxWindow p.src ∈
            t.sys.dev.eth.out.drop s.sys.dev.eth.out.length)) ∧
        (psn ≠ σ.rxAck + 1 → (∀ h ∈ σ.rxHeld, h.1 ≠ σ.rxAck + 1) → t.sys.dev.eth.inbox = s.sys.dev.eth.inbox ∧ t.sys.dev.eth.fwReqs = s.sys.dev.eth.fwReqs ∧
          t.sys.dev.mem = s.sys.dev.mem) ∧
        (psn = σ.rxAck + 1 → σ.rxHeld = [] → psn + 1 < 2 ^ 40 → Arrives s t σ1 p.payload)))) ∧
    (sessOf s = none → exec .rtoExpiry s = .next s ∧ exec .ackKeepalive s = .next s ∧ exec .tSessionExpiry s = .next s) ∧
    (∀ σ ∈ sessOf s, let ack := onEth s (fun e => { e with sess := some { σ with asnTx := σ.asnTx + 1, rxWindow := windowOf s } })
      exec .tSessionExpiry s = .next (sessionEnded s) ∧
      exec .ackKeepalive s = .next (frameOut ack (.ack σ.id (σ.asnTx + 1) σ.rxAck (windowOf s) σ.peer)) ∧
      (σ.unacked = [] → exec .rtoExpiry s = .next s) ∧
      (σ.unacked ≠ [] → 9 ≤ σ.expiries → exec .rtoExpiry s = .next (sessionEnded s)) ∧
      (σ.expiries < 9 → ∀ x ∈ σ.unacked.head?, exec .rtoExpiry s = .next (bump (frameOut
          (onEth s (fun e => { e with sess := some { σ with expiries := σ.expiries + 1 } }))
          (.data σ.id x.1 σ.rxAck σ.rxWindow x.2 σ.peer)) R.MMP_RETX F.MMP_RETX.COUNT)))

/-- R521, R531–R533, R536, R537: event records queued, lost, acknowledged and sent again; the inbound and outbound rings;
relay for the partner. Model's own readings: log entries 1, 4, 57, 58. -/
def Obligations.EventsAndRingsResult : Prop :=
  ∀ s : State, let e := s.sys.dev.eth
    let up := s.sys.dev.answers 48 = true
    (¬ up → exec .ethEvtGo s = .next s) ∧
    (up → let w (i : Nat) := (s.sys.dev.reg (R.ETH_EVT i)).toNat
      let code := w 0 % 65536
      let source := w 0 / 65536 % 256
      let detail := [w 8, w 9, w 10, w 11]
      (sessOf s = none → exec .ethEvtGo s = .next (event s code source detail)) ∧
      Completes .ethEvtGo s (fun t => RestKept s t ∧ Raises s t code source detail ∧
        (4096 ≤ e.events.length → recordsRaised t = recordsRaised s ∧ t.sys.dev.eth.lostDue = e.lostDue + 1 ∧
          CountedAt s t R.ETH_EVT_STAT F.ETH_EVT_STAT.LOST) ∧
        (e.events.length < 4096 → ∃ ft wall, recordsRaised t = recordsRaised s ++ [(e.evSeq, code, source, ft, wall, detail)] ∧
          t.sys.dev.eth.evSeq = e.evSeq + 1 ∧ fldOf t R.ETH_EVT_STAT F.ETH_EVT_STAT.COUNT = (e.events.length + 1) % 2 ^ F.ETH_EVT_STAT.COUNT.width) ∧
        (∀ σ ∈ sessOf s, 1 ≤ σ.maxp → EventsOut t))) ∧
    (∀ m, m = e.inbox.find? (fun m => fieldOf m.2 0 1 == 7) →
      (m = none → exec .eventAck s = .next s) ∧
      (∀ x ∈ m, let u := onEth s (fun e => { e with inbox := e.inbox.eraseP (fun m => fieldOf m.2 0 1 == 7) })
        let known := e.evMsgs.find? (fun y => y.1 == fieldOf x.2 2 2)
        ((∀ σ ∈ sessOf s, σ.id ≠ x.1) ∨ known = none → exec .eventAck s = .next u) ∧
        (∀ σ ∈ sessOf s, σ.id = x.1 → ∀ y ∈ known, Completes .eventAck s (fun t => RestKept s t ∧
          t.sys.dev.eth.inbox = u.sys.dev.eth.inbox ∧ (∃ more, recordsRaised t = (recordsRaised s).filter (fun r => decide (y.2 < r.1)) ++ more ∧
            (e.lostDue = 0 → more = []) ∧
            (e.lostDue ≠ 0 → ((recordsRaised s).filter (fun r => decide (y.2 < r.1))).length < 4096 → t.sys.dev.eth.lostDue = 0 ∧
              ∃ ft wall, more = [(e.evSeq, 0x0104, 0xFF, ft, wall, [e.lostDue])])) ∧
          (1 ≤ σ.maxp → EventsOut t))))) ∧
    (∀ sent, sent = onEth s (fun e => { e with events := e.events.map (fun x => { x with sent := false, again := x.again || x.sent }) }) →
      (sessOf s = none → exec .eventResend s = .next sent) ∧
      Completes .eventResend s (fun t => RestKept s t ∧ recordsRaised t = recordsRaised s ∧
        (t.sys.dev.eth.events.map (·.again) = sent.sys.dev.eth.events.map (·.again) ∨
          (sessOf t = none ∧ ∃ σ ∈ sessOf s, 2 ^ 40 ≤ σ.txNext + waitingOf s + e.events.length + 1))) ∧
      Completes .eventResend s (fun t => ∀ σ ∈ sessOf s, 1 ≤ σ.maxp → EventsOut t)) ∧
    (∀ v : BitVec 18, let u := put s R.ETH_RX_TAIL F.ETH_RX_TAIL.OFFSET v.toNat
      let c := Instr.ethRxTailWrite v
      let head := fldOf u R.ETH_RX_HEAD F.ETH_RX_HEAD.OFFSET
      (¬ up → exec c s = .next s) ∧
      (up → e.fwWait = [] ∨ (∀ base, ¬ RingAt s R.ETH_RX_BASE base) → exec c s = .next u) ∧
      (up → ∀ base, RingAt s R.ETH_RX_BASE base → e.fwWait ≠ [] → Completes c s (fun t =>
        t.sys.nv = s.sys.nv ∧ t.sys.dev.cores = s.sys.dev.cores ∧ t.sys.dev.engs = s.sys.dev.engs ∧ t.pending = s.pending ∧
        fldOf t R.ETH_RX_TAIL F.ETH_RX_TAIL.OFFSET = v.toNat ∧
        (∃ k, t.sys.dev.eth.fwWait = e.fwWait.drop k ∧ t.sys.dev.eth.fwReqs = e.fwReqs ++ e.fwWait.take k ∧
          ∀ x ∈ (e.fwWait.drop k).head?, ∀ at' wraps, ¬ RingFits (fldOf t R.ETH_RX_HEAD F.ETH_RX_HEAD.OFFSET) v.toNat (entrySize x.2.length) at' wraps) ∧
        (t.sys.dev.eth.fwWait = [] → ∀ σ ∈ sessOf s, ∃ σ' ∈ sessOf t, σ'.asnTx = σ.asnTx + 1 ∧ σ'.rxWindow = 64) ∧
        (∀ id m at' wraps, e.fwWait = [(id, m)] → RingFits head v.toNat (entrySize m.length) at' wraps →
          fldOf t R.ETH_RX_HEAD F.ETH_RX_HEAD.OFFSET = (at' + entrySize m.length) % 262144 ∧
          t.sys.dev.mem = (stores (if wraps = true then stores u (base + head) (natBytes 4 0xFFFFFFFF ++ natBytes 4 0) else u)
            (base + at') (entryOf id m)).sys.dev.mem)))) ∧
    (∀ v : BitVec 18, let u := put s R.ETH_TX_HEAD F.ETH_TX_HEAD.OFFSET v.toNat
      let c := Instr.ethTxHeadWrite v
      let tail := fldOf u R.ETH_TX_TAIL F.ETH_TX_TAIL.OFFSET
      let tailTo (x : Nat) := put u R.ETH_TX_TAIL F.ETH_TX_TAIL.OFFSET x
      (¬ up → exec c s = .next s) ∧
      (up → tail = v.toNat ∨ (∀ base, ¬ RingAt s R.ETH_TX_BASE base) → exec c s = .next u) ∧
      (up → tail ≠ v.toNat → ∀ base, RingAt s R.ETH_TX_BASE base → let len := littleEndian s.sys.dev.mem (base + tail) 4
        let id := littleEndian s.sys.dev.mem (base + tail + 4) 4
        let last := (tail + entrySize len) % 262144
        let bs := memBytes s.sys.dev.mem (base + tail + 8) len
        (len = 0xFFFFFFFF → v = 0 → exec c s = .next (tailTo 0)) ∧
        (len ≠ 0xFFFFFFFF → 262144 < tail + entrySize len ∨ s.sys.dev.poisonedRange (base + tail) 8 = true →
          exec c s = .next (tailTo v.toNat)) ∧
        (tail + entrySize len ≤ 262144 → s.sys.dev.poisonedRange (base + tail) 8 = false → v.toNat = last →
          ((∀ σ ∈ sessOf s, σ.id ≠ id) → exec c s = .next (tailTo last)) ∧
          (∀ σ ∈ sessOf s, σ.id = id → Completes c s (fun t => fldOf t R.ETH_TX_TAIL F.ETH_TX_TAIL.OFFSET = last ∧ RestKept s t ∧
            (s.sys.dev.poisonedRange (base + tail + 8) len = false → Goes s t σ 1 (FlowsFrom σ [entryMsg bs])) ∧
            (s.sys.dev.poisonedRange (base + tail + 8) len = true → ¬ (fieldOf bs 0 1 = 8 ∧ fieldOf bs 1 1 % 2 = 0) →
              Goes s t σ 1 (FlowsFrom σ [replyOf (fieldOf bs 0 1) (fieldOf bs 2 2) 5 0 0 []]))))))) ∧
    (∀ mine : Bool, let linked := up ∧ fldOf s R.TWIN_STATUS F.TWIN_STATUS.LINK = 1
      let f := if mine then F.ETH_STAT.RELAY_OUT else F.ETH_STAT.RELAY_IN
      let starts := ethFld s f ≠ 1 ∧ (mine = true → ethFld s F.ETH_STAT.LINK ≠ 1)
      let ends := ethFld s f = 1 ∧ (mine = true → ethFld s F.ETH_STAT.LINK = 1)
      let off := put s R.ETH_STAT f 0
      (linked → starts → exec (.relayStart mine) s = .next (event (put s R.ETH_STAT f 1) 0x0C02 0xFF [])) ∧
      (¬ linked ∨ ¬ starts → exec (.relayStart mine) s = .next s) ∧
      (¬ ends → exec (.relayEnd mine) s = .next s) ∧
      (ends → Completes (.relayEnd mine) s (fun t => ∃ x, t = event (drew (if mine = true then frameOut off .announce else off)
        (s.sys.dev.freeCtr + 1)) 0x0C03 0xFF [x]))) ∧
    (∀ packet, (PortUp s → ethFld s F.ETH_STAT.RELAY_IN = 1 → exec (.relayRecord packet) s = .next (frameOut s (.relayed packet))) ∧
      (¬ (PortUp s ∧ ethFld s F.ETH_STAT.RELAY_IN = 1) → exec (.relayRecord packet) s = .next s))

/-- R459, R463, R518–R530, R534, R535: requests of the host served: SPDM, LOAD of each object, RUN and its end, BULK, READ
and WRITE. Where firmware keeps CAPS and ARGS is the model's choice (log 60). Model's own readings: log entries 1, 58, 60,
61. -/
def Obligations.MessagesResult : Prop :=
  ∀ s : State,
    (∀ c kind first, IsServe c kind first → ¬ FwServes s ∨ oldestReq s kind first = none → exec c s = .next s) ∧
    (FwServes s → ∀ id m, oldestReq s 2 0 = some (id, m) → let u := taken s 2 0
      let busy := ¬ InRecovery s ∧ fldOf s R.SEC_REQ_STAT F.SEC_REQ_STAT.BUSY = 1
      let no := (¬ InRecovery s ∧ SecRefuses s false) ∨ s.sys.dev.sec.stopped = true
      let a := spdmAnswer (m.drop 16) u.sys
      (busy → Completes .mmpSpdm s (fun t => Replied u t id (answerTo m 3 0 []))) ∧
      (¬ busy → no → Completes .mmpSpdm s (fun t => Replied u t id (codeTo m 0x20))) ∧
      (¬ busy → ¬ no → Completes .mmpSpdm s (fun t => Replied { u with sys := a.2 } t id (answerTo m 0 0 a.1)))) ∧
    (FwServes s → ∀ (flash : BitVec 3) (comp : Component) (c : Instr) (object : Nat), (c, comp, object) ∈
        [(Instr.loadSecfw flash, .secfw, 1), (.loadPack flash, .pack, 2), (.loadMgmt flash, .mgmt, 3)] →
      ∀ id m, oldestReq s 3 object = some (id, m) → let u := taken s 3 object
      let busy := ¬ InRecovery s ∧ fldOf s R.SEC_REQ_STAT F.SEC_REQ_STAT.BUSY = 1
      ((∀ l, ¬ ChunkTaken s m l) → Completes c s (fun t => Replied u t id (codeTo m 0x21))) ∧
      (∀ l, ChunkTaken s m l → (busy → Completes c s (fun t => Replied u t id (answerTo m 3 0 []))) ∧
        (¬ busy → ∃ code u1, (InRecovery s → RecoveryTakes u u1 comp l (chunkLast m) flash code) ∧
          (¬ InRecovery s → SecRefuses s true → code = 0x20 ∧ u1 = u) ∧
          (¬ InRecovery s → ¬ SecRefuses s true → ∃ first last, (first = true ↔ chunkFirst m) ∧ (last = true ↔ chunkLast m) ∧
            (code, u1.sys) = u.sys.stageChunk comp first last l.tTrial flash (chunkData m) ∧ u1.pending = u.pending) ∧
          (code = 0x20 ∨ code = 0x21 → Completes c s (fun t => Replied u1 t id (codeTo m code))) ∧
          (code ≠ 0x20 → code ≠ 0x21 → chunkLast m ∨ code ≠ 0 →
            Completes c s (fun t => Replied (loadHeld u1 l True) t id (codeTo m code))) ∧
          (code = 0 → ¬ chunkLast m → Completes c s (fun t => Replied (loadHeld u1 l False) t id (codeTo m 0)))))) ∧
    (FwServes s → ∀ id m, oldestReq s 3 4 = some (id, m) → let u := taken s 3 4
      let c := Instr.loadStencilPack
      let ready := s.sys.dev.answers 47 = true ∧ fldOf s R.FS_STATUS F.FS_STATUS.READY = 1
      ((∀ l, ¬ ChunkTaken s m l) → Completes c s (fun t => Replied u t id (codeTo m 0x21))) ∧
      (∀ l, ChunkTaken s m l → let p := l.bytes
        let check := packCheck s.sys.dev.shadow p
        let same (k : Nat) := packAt s k ≠ [] ∧ packId (packAt s k) = packId p
        let older := ∃ k ∈ List.range 16, same k ∧ packVersion p ≤ packVersion (packAt s k)
        let full := ∀ k ∈ List.range 16, packAt s k ≠ [] ∧ ¬ same k
        let refused (code : Nat) := Completes c s (fun t => Replied (loadHeld u l True) t id (codeTo m code))
        (¬ chunkLast m → Completes c s (fun t => Replied (loadHeld u l False) t id (codeTo m 0))) ∧
        (chunkLast m → ¬ ready → Completes c s (fun t => Replied u t id (answerTo m 3 0 []))) ∧
        (chunkLast m → ready → (check ≠ 0 → refused check) ∧ (check = 0 → older → refused 7) ∧
          (check = 0 → ¬ older → full → refused 8) ∧
          (check = 0 → ¬ older → ∀ k : Fin 16, same k ∨ ((∀ j ∈ List.range 16, ¬ same j) ∧ packAt s k = [] ∧ ∀ j ∈ List.range k.val, packAt s j ≠ []) →
            (∀ j ∈ List.range k.val, ¬ same j) →
            (s.sys.dev.packBusy k.val = true → Completes c s (fun t => Replied u t id (answerTo m 3 0 []))) ∧
            (s.sys.dev.packBusy k.val = false → s.sys.dev.fs.queue = [] → Completes c s (fun t => ∃ u1,
              PackInstalled (loadHeld u l True) u1 k p ∧ Replied u1 t id (codeTo m 0))))))) ∧
    (FwServes s → ∀ flash id m, oldestReq s 3 5 = some (id, m) → let u := taken s 3 5
      let c := Instr.loadGolden flash
      let blocked := s.sys.updBlock % 64 ≠ 0
      (blocked → Completes c s (fun t => Replied u t id (codeTo m 0x20))) ∧
      (¬ blocked → (∀ l, ¬ ChunkTaken s m l) → Completes c s (fun t => Replied u t id (codeTo m 0x21))) ∧
      (¬ blocked → ∀ l, ChunkTaken s m l →
        (4 ≤ l.slot → Completes c s (fun t => Replied u t id (codeTo m 0x21))) ∧
        (∀ k : Fin 4, k.val = l.slot → (¬ chunkLast m → Completes c s (fun t => Replied (loadHeld u l False) t id (codeTo m 0))) ∧
          (chunkLast m → s.sys.dev.answers 47 = false → Completes c s (fun t => Replied u t id (answerTo m 3 0 []))) ∧
          (chunkLast m → s.sys.dev.answers 47 = true → let r := (loadHeld u l True).sys.goldLoad k l.bytes flash
            Completes c s (fun t => Replied { u with sys := r.2 } t id (codeTo m r.1)))))) ∧
    (FwServes s → ∀ id m, oldestReq s 3 6 = some (id, m) → let u := taken s 3 6
      let c := Instr.loadHostCode
      let big := 65536 < fieldOf m 24 4 ∨ fieldOf m 24 4 % 4 ≠ 0
      (big ∨ (∀ l, ¬ ChunkTaken s m l) → Completes c s (fun t => Replied u t id (codeTo m 0x21))) ∧
      (¬ big → ∀ l, ChunkTaken s m l → (8 ≤ l.slot → Completes c s (fun t => Replied u t id (codeTo m 0x21))) ∧
        (l.slot < 8 → ¬ chunkLast m → Completes c s (fun t => Replied (loadHeld u l False) t id (codeTo m 0))) ∧
        (∀ k : Fin 8, k.val = l.slot → chunkLast m → Completes c s (fun t => Replied
          (onEth (loadHeld u l True) (fun e => { e with code := vset e.code k l.bytes })) t id (codeTo m 0))))) ∧
    (FwServes s → ∀ (k0 : Fin 4) ceiling id m, oldestReq s 4 0 = some (id, m) → let u := taken s 4 0
      let c := Instr.runProgram k0 ceiling
      let b := m.drop 16
      let code := s.sys.dev.eth.code.toList.getD (fieldOf b 0 1) []
      let entry := fieldOf b 4 4
      (¬ RunBodyOk b → Completes c s (fun t => Replied u t id (answerTo m 1 0 []))) ∧
      (RunBodyOk b → code.length ≤ entry → Completes c s (fun t => Replied u t id (codeTo m 0x21))) ∧
      (∀ k : Fin 4, k.val = (if fieldOf b 1 1 < 4 then fieldOf b 1 1 else k0.val) → RunBodyOk b → entry < code.length →
        let busy := 2 ≤ s.sys.dev.eth.runs.length ∨ (∃ r ∈ s.sys.dev.eth.runs, r.core = k) ∨ s.sys.dev.unitRuns (.core k) = false
        (busy → Completes c s (fun t => Replied u t id (answerTo m 3 0 []))) ∧
        (¬ busy → (∀ x ∈ s.sys.dev.pru.sandbox, x.2 + 1 < x.1 + code.length) → Completes c s (fun t => Replied u t id (answerTo m 2 0 []))) ∧
        (¬ busy → ∀ x ∈ s.sys.dev.pru.sandbox, x.1 + code.length ≤ x.2 + 1 → Completes c s (fun t => let m' := t.sys.dev.cores[k]
          let o := s.sys.dev.cores[k]
          m'.pc.toNat = (x.1 + entry) % 2 ^ 64 ∧ m'.priv = false ∧ m'.intEnable = true ∧ m'.epc = o.epc ∧ m'.pvbase.toNat = m'.pcapm.toNat + 512 ∧
          (∀ r, m'.g r = o.g r) ∧ (∀ j : Fin 4, j ≠ k → t.sys.dev.cores[j] = s.sys.dev.cores[j]) ∧
          t.sys.dev.eth = { u.sys.dev.eth with runs := s.sys.dev.eth.runs ++ [⟨k, id, fieldOf m 2 2, [], o.instret⟩] } ∧
          t.sys.nv = s.sys.nv ∧ t.sys.dev.regs = s.sys.dev.regs ∧
          (∀ i ∈ List.range 512, memByte t.sys.dev.mem (m'.pcapm.toNat + i) = b.getD (16 + i) 0#8 &&& ceiling.getD i 0#8) ∧
          (∀ i ∈ List.range (fieldOf b 8 2), memByte t.sys.dev.mem (m'.pvbase.toNat + i) = b.getD (528 + i) 0#8) ∧
          (x.1 + code.length ≤ m'.pcapm.toNat ∨ m'.pcapm.toNat + 4096 ≤ x.1 →
            ∀ i ∈ List.range code.length, memByte t.sys.dev.mem (x.1 + i) = code.getD i 0#8))))) ∧
    (∀ c : Fin 4, ((∀ r ∈ s.sys.dev.eth.runs, r.core ≠ c) → exec (.runLimitExpiry c) s = .next s) ∧
      (∀ r ∈ s.sys.dev.eth.runs.find? (fun r => r.core == c), let m := s.sys.dev.cores[c]
        let gone := onEth s (fun e => { e with runs := e.runs.filter (fun x => x.core != c) })
        let body := [0xFE#8, BitVec.ofNat 8 c.val] ++ natBytes 2 r.out.length ++ natBytes 4 0 ++ natBytes 8 (m.g 1).toNat ++ natBytes 8 0 ++
          natBytes 8 (m.instret - r.instret).toNat ++ r.out.flatMap (fun w => natBytes 4 w.toNat)
        let runs := s.sys.dev.answers (42 + c.val) = true ∧ m.stopped = false ∧ m.priv = false
        Completes (.runLimitExpiry c) s (fun t => ∃ u, Replied gone u r.session
            { kind := 4, reply := true, tag := r.tag, result := 0, code := 0, index := 0, body := body, records := [] } ∧
          (¬ runs → t = u) ∧
          (runs → let m' := t.sys.dev.cores[c]
            m'.pc = m.tvec ∧ m'.epc = m.pc ∧ m'.cause = BitVec.ofNat 64 (2 ^ 63) ∧ m'.priv = true ∧ m'.intEnable = false ∧
            (∀ g, m'.g g = m.g g) ∧ (∀ j : Fin 4, j ≠ c → t.sys.dev.cores[j] = s.sys.dev.cores[j]) ∧ t.sys.dev.eth = u.sys.dev.eth ∧
            t.sys.dev.regs = u.sys.dev.regs ∧ t.sys.dev.mem = s.sys.dev.mem ∧ t.sys.nv = s.sys.nv)))) ∧
    (FwServes s → ∀ (flash : Bool) (c : Instr) (stream : Nat), (c, stream) ∈ [(Instr.bulkFlowstone, 1), (.bulkLedger, 2),
        (.bulkSample, 3), (.bulkGolden flash, 4), (.bulkHoldup, 5)] →
      ∀ id m, oldestReq s 8 stream = some (id, m) → let u := taken s 8 stream
      let next := s.sys.dev.eth.nextStream
      ∃ content, ContentIs s stream flash m content ∧
        (content = none → Completes c s (fun t => Replied u t id (answerTo m 1 0 []))) ∧
        (content ≠ none → (∀ σ ∈ sessOf s, σ.id ≠ id) → exec c s = .next u) ∧
        (∀ b ∈ content, ∀ σ ∈ sessOf s, σ.id = id → 4 ≤ s.sys.dev.eth.streams.length → Completes c s (fun t => Replied u t id (answerTo m 3 0 []))) ∧
        (∀ b ∈ content, ∀ σ ∈ sessOf s, σ.id = id → s.sys.dev.eth.streams.length < 4 → 1 ≤ σ.maxp → Completes c s (fun t => ∃ ms,
          StreamOf next ((σ.maxp * 1024 - 48) / 64 * 64) b ms ∧ Replied (onEth u (fun e => { e with
            streams := e.streams ++ [(next, ms)], nextStream := if next = 65535 then 1 else next + 1 })) t id (answerTo m 0 0 (natBytes 4 next))))) ∧
    (∀ write : Bool, let c := if write then Instr.mmpWrite else .mmpRead
      let kind := if write then 6 else 5
      let isWords (m : Nat × List (BitVec 8)) := fieldOf m.2 0 1 == 5 || fieldOf m.2 0 1 == 6
      let u := onEth s (fun e => { e with inbox := e.inbox.eraseP isWords })
      (s.sys.dev.answers 48 = false ∨ (∀ x ∈ s.sys.dev.eth.inbox.find? isWords, fieldOf x.2 0 1 ≠ kind) → exec c s = .next s) ∧
      (s.sys.dev.answers 48 = true → ∀ id m, s.sys.dev.eth.inbox.find? isWords = some (id, m) → fieldOf m 0 1 = kind →
        let ws := wordsNamed m
        let denied := ¬ InRecovery s ∧ ∃ a ∈ ws, ¬ HostMay s write a
        let ends (v : State) (result index : Nat) (body : List (BitVec 8)) := Completes c s (fun t =>
          Replied v t id { answerTo m result 0 body with index := index })
        (¬ WordsBodyOk write m → ends u 1 0 []) ∧
        (WordsBodyOk write m → denied → ends u 2 0 []) ∧
        (WordsBodyOk write m → ¬ denied → s.sys.dev.answers 46 = false → ends u 6 0 []) ∧
        (WordsBodyOk write m → ¬ denied → s.sys.dev.answers 46 = true →
          (write = false → ∃ out err v, HostReads ws 0 u out err v ∧ (err = none → ends v 0 0 out) ∧ (∀ i ∈ err, ends v 6 i [])) ∧
          (write = true → ∃ err v, HostWrites id (ws.zipIdx.map (fun p => (p.1, BitVec.ofNat 32 (fieldOf m (24 + 4 * p.2) 4)))) 0 u err v ∧
            (err = none → ends v 0 0 []) ∧ (∀ i ∈ err, ends v 6 i [])))))

/-- R541–R543, R547–R549, R551–R556, R559–R563, R565, R574: heartbeats sent and heard, roles and joining, the partner lost
and the takeover, STEPs and their ACKs, the mirror, verdicts, seal notes, Flowstone records, requests, SWAP and STAND_ASIDE.
Model's own readings: log entries 1, 38 to 46, 59. -/
def Obligations.TwinResult : Prop :=
  ∀ s : State,
    let role := twinFld s F.TWIN_STATUS.ROLE
    let joined := twinFld s F.TWIN_STATUS.JOINED = 1
    let tw := s.sys.dev.twin
    (TwinRuns s → GateOpen s → asideAt s = 0 → exec .hbSend s = .next (onTwin (twinSent s (hbBody s)) (fun t => { t with hbOut := !t.hbOut }))) ∧
    (¬ TwinRuns s ∨ ¬ GateOpen s ∨ asideAt s = 1 → exec .hbSend s = .next s) ∧
    (∀ h : Heartbeat, (¬ TwinRuns s → exec (.hbReceive h) s = .next s) ∧
      (TwinRuns s → Completes (.hbReceive h) s (fun t =>
        let calm := asideAt s = 0 ∧ h.aside = false
        twinFld t F.TWIN_STATUS.LINK = 1 ∧ twinFld t F.TWIN_STATUS.SOLO = 0 ∧ twinFld t F.TWIN_STATUS.PARTNER_ROLE = h.role.toNat ∧
        twinFld t F.TWIN_STATUS.PARTNER_JOINED = h.joined.toNat ∧
        t.sys.dev.twin.partner.2 = (h.cool.toNat, h.power.toNat, h.act.toNat, h.pumpStop.toNat, h.lastFs.toNat) ∧
        (twinFld s F.TWIN_STATUS.LINK = 0 → fldOf t R.TWIN_EVENT F.TWIN_EVENT.TWIN_UP = 1) ∧
        (h.joined = true → twinFld s F.TWIN_STATUS.PARTNER_JOINED = 0 → fldOf t R.TWIN_EVENT F.TWIN_EVENT.PARTNER_JOINED = 1) ∧
        (s.sys.dev.tray.vinWait = true → h.power.getLsbD 0 = true → t.sys.dev.tray.vinWait = false ∧ t.sys.dev.tray.forced = true ∧
          .vinLow ∈ t.sys.dev.tray.forceActive) ∧
        (¬ calm → RoleKept s t) ∧
        (calm → ¬ joined → GateOpen s → h.joined = false →
          (twinFld s F.TWIN_STATUS.PAIR_ID = h.pairId.toNat → fldOf t R.TWIN_EVENT F.TWIN_EVENT.ID_CLASH = 1) ∧
          let leads := healthyAt s = true ∧ (TakesLower s h ∨ h.healthy = false)
          (leads → RoleNow s t 1 ∧ twinFld t F.TWIN_STATUS.JOINED = 1) ∧
          (¬ leads → h.healthy = true → RoleNow s t 2 ∧ twinFld t F.TWIN_STATUS.JOINED = 1) ∧
          (¬ leads → h.healthy = false → RoleKept s t ∧ twinFld t F.TWIN_STATUS.JOINED = 0)) ∧
        (calm → joined → h.joined = false → RoleKept s t ∧ (role = 1 ∨ role = 3 → s.sys.dev.tray.vinWait = false → JoinMayBegin s → .mirror false ∈ toldSince s t)) ∧
        (calm → joined → h.joined = true → (role = 3 → h.role = 2#2 → RoleNow s t 1) ∧ (role ≠ 3 → RoleKept s t)) ∧
        (h.joined = true → role = 1 → ∀ x ∈ s.sys.nv.fsLog, ∀ r ∈ x.record, h.lastFs.toNat < r.seq → r.seq < s.sys.dev.fs.nextSeq →
          .fsRecord r.bytes ∈ toldSince s t) ∧
        t.sys.nv = s.sys.nv ∧ t.sys.dev.cores = s.sys.dev.cores ∧ t.sys.dev.mem = s.sys.dev.mem ∧ t.pending = s.pending))) ∧
    (TwinRuns s → s.sys.dev.pins.vio[4] = true → exec .hbPinEdge s = .next (put s R.TWIN_STATUS F.TWIN_STATUS.PIN 1)) ∧
    (¬ TwinRuns s ∨ s.sys.dev.pins.vio[4] = false → exec .hbPinEdge s = .next s) ∧
    exec .pinPathLoss s = .next (puts s [(R.TWIN_STATUS, F.TWIN_STATUS.PIN, 0), (R.TWIN_STATUS, F.TWIN_STATUS.SOLO, 0)]) ∧
    (¬ TwinRuns s ∨ twinFld s F.TWIN_STATUS.LINK = 0 → exec .twinLinkDown s = .next s) ∧
    (TwinRuns s → twinFld s F.TWIN_STATUS.LINK = 1 → Completes .twinLinkDown s (fun t =>
      twinFld t F.TWIN_STATUS.LINK = 0 ∧ RoleKept s t ∧ ethFld t F.ETH_STAT.RELAY_OUT = 0 ∧ ethFld t F.ETH_STAT.RELAY_IN = 0 ∧
      (twinFld s F.TWIN_STATUS.PIN = 1 → fldOf t R.TWIN_EVENT F.TWIN_EVENT.TWIN_DOWN = 1) ∧
      (role = 2 → (∀ i ∈ tw.offReqs, OffLine t i) ∧ t.sys.dev.twin.offReqs = []) ∧
      (s.sys.dev.tray.vinWait = true → t.sys.dev.tray.vinWait = false ∧ t.sys.dev.tray.forced = true ∧ .vinLow ∈ t.sys.dev.tray.forceActive) ∧
      (s.sys.dev.tray.vinWait = false → OutputsKept s t ∧ t.sys.dev.engs = s.sys.dev.engs ∧ t.sys.dev.tray.forced = s.sys.dev.tray.forced) ∧
      t.sys.nv = s.sys.nv ∧ t.sys.dev.cores = s.sys.dev.cores ∧ t.sys.dev.mem = s.sys.dev.mem ∧ t.pending = s.pending)) ∧
    (¬ TwinRuns s ∨ PartnerHeard s → exec .partnerLost s = .next s) ∧
    (TwinRuns s → ¬ PartnerHeard s → Completes .partnerLost s (fun t =>
      fldOf t R.TWIN_EVENT F.TWIN_EVENT.PARTNER_LOST = 1 ∧ twinFld t F.TWIN_STATUS.PARTNER_JOINED = 0 ∧
      twinFld t F.TWIN_STATUS.SUSPENDED = 0 ∧ twinFld t F.TWIN_STATUS.JOINED = twinFld s F.TWIN_STATUS.JOINED ∧
      (role = 1 → RoleNow s t 3 ∧ t.sys.dev.twin.steps = [] ∧
        (∀ p, tw.steps = [p] → p.held = true → HeldOnStep s p.seq → twinFld s F.TWIN_STATUS.SUSPENDED = 0 → Applied s t p.seq p.change)) ∧
      (role = 2 → joined → RoleNow s t 3 ∧ OutputsKept s t ∧
        (twinFld s F.TWIN_STATUS.SUSPENDED = 0 → ∀ i : Fin 9, s.sys.dev.engIdle (.seq i) = true → TakenOver s t i)) ∧
      (role = 2 ∧ ¬ joined ∨ role = 3 → RoleKept s t) ∧
      (s.sys.dev.boot.act.pair = true → actState s = 1 ∨ actState s = 2 → actState t = 5 ∧ actReject t = 0x32 ∧
        fldOf t R.SEC_ACT_STAT F.SEC_ACT_STAT.QUIESCE_REQ = 0) ∧
      t.sys.nv = s.sys.nv ∧ t.sys.dev.cores = s.sys.dev.cores ∧ t.sys.dev.mem = s.sys.dev.mem ∧ t.pending = s.pending)) ∧
    (∀ may, may = (TwinRuns s ∧ GateOpen s ∧ ¬ joined ∧ asideAt s = 0 ∧ ¬ PartnerHeard s) →
      (¬ may → exec .joinTimeout s = .next s) ∧
      (may → Completes .joinTimeout s (fun t => RoleNow s t 3 ∧ twinFld t F.TWIN_STATUS.JOINED = 1 ∧ OutputsKept s t ∧
        t.sys.nv = s.sys.nv ∧ t.sys.dev.cores = s.sys.dev.cores ∧ t.sys.dev.mem = s.sys.dev.mem ∧ t.pending = s.pending))) ∧
    (∀ id (i : Fin 9) c, (¬ ShadowJoined s → exec (.stepRecord id i c) s = .next s) ∧
      (ShadowJoined s → Completes (.stepRecord id i c) s (fun t => Applied s t i c ∧
        t.sys.dev.twin.tx = tw.tx ++ (match c with
          | .pwr _ => []
          | _ => [.ack id]) ∧
        (∀ v, c = .pwr v → v % 8 = 0 → pwrOf s i ≠ 0 → (t.sys.dev.eng (.seq i)).toff = true) ∧
        (∀ j : Fin 9, j ≠ i → enAt t j = enAt s j ∧ outAt t j = outAt s j ∧ pwrOf t j = pwrOf s j) ∧
        ((∀ v, c ≠ .pwr v) → t.sys.dev.engs = s.sys.dev.engs) ∧ t.sys.nv = s.sys.nv ∧ t.sys.dev.cores = s.sys.dev.cores ∧ t.sys.dev.mem = s.sys.dev.mem))) ∧
    (∀ id, (waitingStep s id = none → exec (.stepAck id) s = .next s ∧ exec (.stepAckTimeout id) s = .next s) ∧
      (∀ p ∈ waitingStep s id, let rest := (stepTaken s id).sys.dev.twin.steps
        (p.held = false ∨ ¬ HeldOnStep s p.seq → exec (.stepAck id) s = .next (stepTaken s id)) ∧
        (p.held = true → HeldOnStep s p.seq → Completes (.stepAck id) s (fun t => Applied s t p.seq p.change ∧
          (t.sys.dev.eng (.seq p.seq)).hold = .none ∧ ((∀ v, p.change ≠ .pwr v) → t.sys.dev.twin.steps = rest))) ∧
        (∀ c, c = Instr.stepAckTimeout id → Completes c s (fun t => fldOf t R.TWIN_EVENT F.TWIN_EVENT.ACK_LOST = 1 ∧
          CountedAt s t R.TWIN_ACK_LOST_CNT F.TWIN_ACK_LOST_CNT.COUNT ∧ t.sys.nv = s.sys.nv ∧ t.sys.dev.cores = s.sys.dev.cores) ∧
          (p.held = false → Completes c s (fun t => OffLine t p.seq ∧ OutputsKept s t)) ∧
          (p.held = true → HeldOnStep s p.seq → TowardReset s p.seq p.change → Completes c s (fun t =>
            Applied s t p.seq p.change ∧ OffLine t p.seq ∧ (t.sys.dev.eng (.seq p.seq)).hold = .none)) ∧
          (p.held = true → HeldOnStep s p.seq → ¬ TowardReset s p.seq p.change → CanGoDown s p.seq → Completes c s (fun t =>
            GoesDown s t p.seq 9 ∧ OutputsKept s t ∧ (t.sys.dev.eng (.seq p.seq)).hold = .none))))) ∧
    (∀ m : Mirror, let c := Instr.mirrorRecord m
      let joins := ¬ joined ∧ m.whole = true ∧ GateOpen s ∧ asideAt s = 0 ∧ PartnerHeard s
      (¬ TwinRuns s ∨ role ≠ 2 ∨ (¬ joined ∧ ¬ joins) → exec c s = .next s) ∧
      (TwinRuns s → role = 2 → joined ∨ joins → Completes c s (fun t =>
        (joined → m.swap = true → RoleNow s t 1) ∧ (joins ∨ m.swap = false → RoleKept s t) ∧ twinFld t F.TWIN_STATUS.JOINED = 1 ∧
        (∀ q, m.seqs = [q] → joins ∨ m.swap = false → SeqMirrored t q) ∧
        (∀ w, m.wits = [w] → m.seqs = [] → joins ∨ m.swap = false → WitMirrored t w ∧ (∀ o ∈ w.openedTo, ∀ q, oldestAt t w.bay ≤ q → q ≤ o.toNat → q < oldestAt t w.bay + 8 →
          (epochAt s w.bay = w.epoch.toNat → ∀ x ∈ (witAt s w.bay).steps, x.step ≠ q) → .verdict w.bay.val 2 0 0xFF w.epoch.toNat q 0 ∈ toldSince s t)) ∧
        (∀ a v, m.settings = [(a, v)] → m.seqs = [] → m.wits = [] → 61 ≤ islandOf a.toNat → islandOf a.toNat ≤ 68 → (regRowAt a.toNat).isSome = true →
          joins ∨ m.swap = false → t.sys.dev.reg a.toNat = v) ∧
        t.sys.nv = s.sys.nv ∧ t.sys.dev.cores = s.sys.dev.cores ∧ t.sys.dev.mem = s.sys.dev.mem ∧ t.pending = s.pending))) ∧
    (∀ (b : Bay) (res : Fin 4) (q : BitVec 48) (tile : BitVec 32) (epoch : BitVec 16), let c := Instr.verdictRecord b res q tile epoch
      let takes := Leads s ∧ res ≠ 0 ∧ epoch.toNat = epochAt s b
      (¬ takes → exec c s = .next s) ∧
      (takes → stepAt s b q.toNat = none →
        (SealSent s b q.toNat → exec c s = .next s) ∧
        (¬ SealSent s b q.toNat → exec c s = .next (onWit s b (fun w => { w with
          pairEarly := w.pairEarly.filter (fun p => p.1 != q.toNat) ++ [(q.toNat, res.val, tile.toNat)] })))) ∧
      (takes → ∀ x ∈ stepAt s b q.toNat, let s' := onWit s b (fun w => { w with
          steps := w.steps.map (fun y => if y.step == q.toNat then { x with pair := some res.val, pairTile := tile.toNat } else y) })
        (res ≠ 3 ∨ x.faulted = true ∨ x.clear b = false → exec c s = .next s') ∧
        (res = 3 → x.faulted = false → x.clear b = true → Completes c s (fun t => fldOf t R.TWIN_EVENT F.TWIN_EVENT.DISAGREE = 1 ∧
          CountedAt s t R.TWIN_DISAGREE_CNT F.TWIN_DISAGREE_CNT.COUNT ∧ VerdictIs t b 10 tile.toNat q.toNat ∧
          (∀ d ∈ jobBays s b, bayFld t R.WIT_STAT d F.WIT_STAT.FAULTED = 1) ∧ t.sys.nv = s.sys.nv ∧ t.sys.dev.mem = s.sys.dev.mem)))) ∧
    (∀ (b : Bay) (n : SealNote), let c := Instr.sealNoteRecord b n
      (¬ ShadowJoined s → exec c s = .next s) ∧
      (ShadowJoined s →
        (∀ e q seed, n = .sealed e q seed → (e.toNat ≠ epochAt s b → exec c s = .next s) ∧
          (e.toNat = epochAt s b → Completes c s (fun t => sealedAt t b = some q.toNat ∧ (∀ x ∈ (witAt t b).steps, x.step ≠ q.toNat) ∧
            (witAt t b).seals = ((q.toNat, seed) :: (witAt s b).seals).take 8 ∧ (holdsAt t b).testBit 0 = false ∧
            (∃ x, (witAt t b).ledger = (witAt s b).ledger ++ [x] ∧ fieldOf x 8 1 = 1 ∧ fieldOf x 9 1 = b.val ∧ fieldOf x 10 2 = e.toNat ∧
              fieldOf x 12 6 = q.toNat) ∧ BayOnly s t b))) ∧
        (∀ e q k, n = .hold e q k → exec c s = .next s) ∧
        (∀ e first lag shift seed job mode, n = .epoch e first lag shift seed job mode →
          (e.toNat = epochAt s b → Completes c s (fun t => (witAt t b).sent = ((witAt s b).sent.1, lag.toNat, shift.toNat) ∧
            epochAt t b = epochAt s b ∧ (holdsAt t b).testBit 2 = false ∧ BayOnly s t b)) ∧
          (e.toNat ≠ epochAt s b → Completes c s (fun t => let w := witAt t b
            epochAt t b = e.toNat ∧ w.firstStep = first.toNat ∧ w.epochSeed = seed ∧ w.job = job.toNat ∧ w.sent = (mode.toNat, lag.toNat, shift.toNat) ∧
            w.seals = [] ∧ w.opened = false ∧ sealedAt t b = none ∧ holdsAt t b = 0 ∧ bayFld t R.WIT_STAT b F.WIT_STAT.FAULTED = 0 ∧
            (sessionAt s b = 3 → sessionAt t b = 4) ∧ t.sys.nv = s.sys.nv ∧ t.sys.dev.cores = s.sys.dev.cores))) ∧
        (∀ e q mode, n = .observe e q mode → (e.toNat ≠ epochAt s b → exec c s = .next s) ∧
          (e.toNat = epochAt s b → exec c s = .next (onWit s b (fun w => { w with sent := (mode.toNat, w.sent.2) })))) ∧
        (∀ e q tile run orig flags, n = .replay e q tile run orig flags →
          (e.toNat ≠ epochAt s b ∨ stepAt s b q.toNat = none → exec c s = .next s) ∧
          (e.toNat = epochAt s b → ∀ x ∈ stepAt s b q.toNat, Completes c s (fun t => BayOnly s t b ∧ ∃ y ∈ stepAt t b q.toNat, ∃ u ∈ y.suspects,
            u.tile = tile.toNat ∧ u.replay = some ⟨run.toNat, flags.toNat, false, false, none⟩))) ∧
        (∀ slice k, (n = .fence slice k → (exec c s = .next (s.onDev (fun d => d.setLink b { d.link b with
            fenceWait := (d.link b).fenceWait.filter (fun p => p.1 != slice.toNat) ++ [(slice.toNat, true)] })))) ∧
          (n = .unfence slice k → (exec c s = .next (s.onDev (fun d => d.setLink b { d.link b with
            fenceWait := (d.link b).fenceWait.filter (fun p => p.1 != slice.toNat) ++ [(slice.toNat, false)] }))))))) ∧
    (∀ bs, let r := fsRecordOf bs
      let takes := ShadowJoined s ∧ tw.leadFs < r.seq ∧ s.sys.dev.answers 47 = true ∧ fldOf s R.FS_STATUS F.FS_STATUS.READY = 1 ∧ LogRoom s
      (¬ takes → exec (.fsRecordReceive bs) s = .next s) ∧
      (takes → Completes (.fsRecordReceive bs) s (fun t => let fs := s.sys.dev.fs
        t.sys.nv.fsLog = s.sys.nv.fsLog ++ [⟨2048 * fs.block + fs.slot, some { r with seq := fs.nextSeq, mirrored := true, journal := false }⟩] ∧
        t.sys.dev.fs.nextSeq = fs.nextSeq + 1 ∧ t.sys.dev.twin.leadFs = r.seq ∧ t.sys.dev.twin.tx = tw.tx ∧ t.sys.dev.cores = s.sys.dev.cores))) ∧
    (∀ (i : Fin 9) (q : SeqRequest), let c := Instr.requestRecord i q
      (¬ Leads s → exec c s = .next s) ∧
      (Leads s → (q = .start → exec c s = .next (s.onDev (·.seqStart i))) ∧
        (q = .stop → CanGoDown s i → Completes c s (fun t => GoesDown s t i 1)) ∧
        (q = .down → CanGoDown s i → Completes c s (fun t => GoesDown s t i 2)) ∧
        (q = .on → (pwrOf s i ≠ 1 → exec c s = .next s) ∧
          (pwrOf s i = 1 → i ≠ 8 → fldOf s R.CL_MODE F.CL_MODE.FANS_PROVEN = 0 →
            exec c s = .next (put s (R.SQ_STATUS i.val) F.SQ_STATUS.ON_REFUSED 1)) ∧
          (pwrOf s i = 1 → (i ≠ 8 → fldOf s R.CL_MODE F.CL_MODE.FANS_PROVEN = 1 ∧
              (twinFld s F.TWIN_STATUS.LINK = 1 → tw.partner.2.1.testBit 0 = true)) → Completes c s (fun t => pwrOf t i = 2 ∧ .step tw.nextStep i (.pwr 2) ∈ toldSince s t)))) ∧
      (∀ due, due = (role = 2 ∧ joined ∧ i ∈ tw.offReqs) → (¬ due → exec (.requestOffTimeout i) s = .next s) ∧
        (due → ∀ s', s' = onTwin s (fun t => { t with offReqs := t.offReqs.filter (· != i) }) →
          (i = 8 → exec (.requestOffTimeout i) s = .next (onTray s' (fun t => { t with killOut := true }))) ∧
          (i ≠ 8 → exec (.requestOffTimeout i) s = .next (s'.onDev (fun d => d.setSeq i { d.seqs[i] with hwOff := true })))))) ∧
    (∀ (who : Initiator) (key : BitVec 16), let ok := TwinWritable s who ∧ key = 0x7A1E#16
      let c := Instr.twinSwap who key
      (¬ ok → exec c s = .next s ∧ (exec (.standAside who key true) s = .next s)) ∧
      (ok → SwapRefused s → exec c s = .next (event s 0x0102 0xFF [R.TWIN_CTL])) ∧
      (ok → ¬ SwapRefused s → Completes c s (fun t => RoleNow s t 2 ∧ twinFld t F.TWIN_STATUS.SUSPENDED = 1 ∧ twinFld t F.TWIN_STATUS.JOINED = 1 ∧
        t.sys.dev.twin.tx = tw.tx ++ [.mirror true] ∧ t.sys.dev.twin.steps = [] ∧ asideAt t = asideAt s ∧ t.sys.nv = s.sys.nv ∧
        t.sys.dev.cores = s.sys.dev.cores)) ∧
      (ok → asideAt s = 1 → exec (.standAside who key true) s = .next s) ∧
      (ok → asideAt s = 0 → ¬ PartnerHeard s → exec (.standAside who key true) s = .next (event s 0x0102 0xFF [R.TWIN_CTL])) ∧
      (ok → asideAt s = 0 → PartnerHeard s → Completes (.standAside who key true) s (fun t => asideAt t = 1 ∧ twinFld t F.TWIN_STATUS.JOINED = 0 ∧
        RoleNow s t 2 ∧ t.sys.dev.twin.steps = [] ∧ t.sys.nv = s.sys.nv ∧ t.sys.dev.cores = s.sys.dev.cores)) ∧
      (TwinWritable s who → asideAt s = 1 → exec (.standAside who key false) s = .next (put s R.TWIN_CTL F.TWIN_CTL.STAND_ASIDE 0)) ∧
      (¬ TwinWritable s who ∨ asideAt s = 0 → exec (.standAside who key false) s = .next s)) ∧
    (∀ solo, solo = (Leads s ∧ twinFld s F.TWIN_STATUS.LINK = 0 ∧ twinFld s F.TWIN_STATUS.PIN = 1 ∧ twinFld s F.TWIN_STATUS.SOLO = 0) →
      (solo → exec .soloStart s = .next (puts s [(R.TWIN_STATUS, F.TWIN_STATUS.SOLO, 1), (R.TWIN_EVENT, F.TWIN_EVENT.SOLO_SEAL, 1)])) ∧
      (¬ solo → exec .soloStart s = .next s)) ∧
    (s.sys.dev.tray.vinWait = false → exec .vinConfirmTimeout s = .next s) ∧
    (s.sys.dev.tray.vinWait = true → Completes .vinConfirmTimeout s (fun t => fldOf t R.TWIN_EVENT F.TWIN_EVENT.VIN_DISAGREE = 1 ∧
      (∃ r, t.sys.dev.tray.holdup = s.sys.dev.tray.holdup ++ [r] ∧ r.cause = 1 ∧ r.trayPwr = pwrOf s 8 ∧ r.baysLast = baysUpMask s) ∧
      t.sys.dev.tray.vinWait = false ∧ t.sys.dev.tray.forced = s.sys.dev.tray.forced ∧ t.sys.dev.seqs = s.sys.dev.seqs ∧
      (∀ a, a ≠ R.TWIN_EVENT → t.sys.dev.reg a = s.sys.dev.reg a) ∧ RestKept s t))

/-- R437, R282: no fuse is ever cleared, the fuses blown at manufacture and the OTP patch stay, and the Flowstone log only
grows, whatever command comes, a restart or a loss of power among them. -/
def Obligations.FusesAndLogOnlyGrow : Prop :=
  ∀ (f : Fuses) (otp : List (BitVec 8)) (l : List FsSlot) (s t : State), HoldsForGood f otp l s → step s = .next t → HoldsForGood f otp l t

/-- R437: the state after reset holds for good what its own fuses, patch and log are, and nothing is blown in it (DESIGN
CHOICE, assumption log 5: the manual does not say what a device bears from manufacture). -/
def Obligations.ResetHoldsForGood : Prop :=
  HoldsForGood State.reset.sys.nv.fuses State.reset.sys.nv.otp State.reset.sys.nv.fsLog State.reset ∧
    State.reset.sys.nv.fuses.fields.keySet = 0#8 ∧ State.reset.sys.nv.fuses.fields.arb0 = 0#64 ∧
    State.reset.sys.nv.fuses.fields.arb1 = 0#64 ∧ State.reset.sys.nv.fsLog = []

/-- DESIGN CHOICE (assumption log 1): with no command waiting the block idles, no table word has bits, and the host's word
puts nothing in front of the queue. -/
def Obligations.EmptyQueueIdles : Prop :=
  (∀ s : State, s.pending = [] → step s = .next s) ∧
    (∀ nbits w : Nat, Sys2Proof.decodeTableWord nbits w = none) ∧ (∀ (s : State) (nbits w : Nat), s.withFetchWord nbits w = s)

/-- R8, R328, R334, R138, R139, R451, R540, R170: the state after reset: every engine OFF without a program, START or
release; every sequencer OFF with its enables 0 and SQ_BAY_OUT 0x0B; the gate closed; no session, step or stored command;
nothing sent. -/
def Obligations.ResetState : Prop :=
  let s := State.reset
  (∀ e : Eng, fldOf s (R.ENG_STATUS e.win) F.ENG_STATUS.STATE = 0 ∧ fldOf s (R.ENG_STATUS e.win) F.ENG_STATUS.PROG_VALID = 0 ∧
    fldOf s (R.ENG_CTL e.win) F.ENG_CTL.PEND = 0 ∧ (s.sys.dev.eng e).released = false) ∧
  (∀ i : Fin 9, pwrOf s i = 0 ∧ enAt s i = 0 ∧ outAt s i = 0x0B ∧ (s.sys.dev.eng (.seq i)).toff = true) ∧
  fldOf s R.SEC_BOOT_STATUS F.SEC_BOOT_STATUS.GATE = 0 ∧ fldOf s R.UCR_FW_READY F.UCR_FW_READY.READY = 0 ∧
  twinFld s F.TWIN_STATUS.JOINED = 0 ∧ fldOf s R.TWIN_CFG F.TWIN_CFG.T_SOLO = 0x64 ∧
  (∀ b : Bay, sessionAt s b = 0 ∧ epochAt s b = 0 ∧ sealedAt s b = none ∧ (witAt s b).steps = [] ∧ s.sys.dev.txRecs[b] = []) ∧
  sessOf s = none ∧ s.sys.dev.eth.events = [] ∧ s.sys.dev.eth.out = [] ∧ s.pending = []
end

