-- ==== Sys2Proof/Laws/Dispatch.lean ====
section
/-! SUPPORT. What each command is: `exec` of a constructor is its meaning. -/

namespace Sys2Proof.Machine

theorem exec_fwRestart (who : Initiator) (key : BitVec 16) (s : State) : exec (.fwRestart who key) s = execFwRestart who key s := rfl
theorem exec_commonsRestart (who : Initiator) (key : BitVec 16) (s : State) : exec (.commonsRestart who key) s = execCommonsRestart who key s := rfl
theorem exec_fullReset (who : Initiator) (key : BitVec 16) (s : State) : exec (.fullReset who key) s = execFullReset who key s := rfl
theorem exec_hubFault (s : State) : exec (.hubFault) s = execHubFault s := rfl
theorem exec_sramRecheckDone (s : State) : exec (.sramRecheckDone) s = execSramRecheckDone s := rfl
theorem exec_selfRefreshTimeout (j : Fin 16) (s : State) : exec (.selfRefreshTimeout j) s = execSelfRefreshTimeout j s := rfl
theorem exec_ucrFwReady (c : Fin 4) (s : State) : exec (.ucrFwReady c) s = execUcrFwReady c s := rfl
theorem exec_tGraceExpiry (s : State) : exec (.tGraceExpiry) s = execTGraceExpiry s := rfl
theorem exec_oscTrim (dev : List (BitVec 8)) (s : State) : exec (.oscTrim dev) s = execOscTrim dev s := rfl
theorem exec_trimLapse (n : Fin 100) (s : State) : exec (.trimLapse n) s = execTrimLapse n s := rfl
theorem exec_refclkLost (s : State) : exec (.refclkLost) s = execRefclkLost s := rfl
theorem exec_refclkReturn (s : State) : exec (.refclkReturn) s = execRefclkReturn s := rfl
theorem exec_accessTimeout (u : EUnit) (write : Bool) (rd : BitVec 5) (a : Nat) (s : State) : exec (.accessTimeout u write rd a) s = execAccessTimeout u write rd a s := rfl
theorem exec_add (x : Issue) (rd : BitVec 5) (rs1 : BitVec 5) (rs2 : BitVec 5) (s : State) : exec (.add x rd rs1 rs2) s = execAdd x rd rs1 rs2 s := rfl
theorem exec_sub (x : Issue) (rd : BitVec 5) (rs1 : BitVec 5) (rs2 : BitVec 5) (s : State) : exec (.sub x rd rs1 rs2) s = execSub x rd rs1 rs2 s := rfl
theorem exec_and (x : Issue) (rd : BitVec 5) (rs1 : BitVec 5) (rs2 : BitVec 5) (s : State) : exec (.and x rd rs1 rs2) s = execAnd x rd rs1 rs2 s := rfl
theorem exec_or (x : Issue) (rd : BitVec 5) (rs1 : BitVec 5) (rs2 : BitVec 5) (s : State) : exec (.or x rd rs1 rs2) s = execOr x rd rs1 rs2 s := rfl
theorem exec_xor (x : Issue) (rd : BitVec 5) (rs1 : BitVec 5) (rs2 : BitVec 5) (s : State) : exec (.xor x rd rs1 rs2) s = execXor x rd rs1 rs2 s := rfl
theorem exec_shl (x : Issue) (rd : BitVec 5) (rs1 : BitVec 5) (rs2 : BitVec 5) (s : State) : exec (.shl x rd rs1 rs2) s = execShl x rd rs1 rs2 s := rfl
theorem exec_shr (x : Issue) (rd : BitVec 5) (rs1 : BitVec 5) (rs2 : BitVec 5) (s : State) : exec (.shr x rd rs1 rs2) s = execShr x rd rs1 rs2 s := rfl
theorem exec_sra (x : Issue) (rd : BitVec 5) (rs1 : BitVec 5) (rs2 : BitVec 5) (s : State) : exec (.sra x rd rs1 rs2) s = execSra x rd rs1 rs2 s := rfl
theorem exec_mul (x : Issue) (rd : BitVec 5) (rs1 : BitVec 5) (rs2 : BitVec 5) (s : State) : exec (.mul x rd rs1 rs2) s = execMul x rd rs1 rs2 s := rfl
theorem exec_mulh (x : Issue) (rd : BitVec 5) (rs1 : BitVec 5) (rs2 : BitVec 5) (s : State) : exec (.mulh x rd rs1 rs2) s = execMulh x rd rs1 rs2 s := rfl
theorem exec_divu (x : Issue) (rd : BitVec 5) (rs1 : BitVec 5) (rs2 : BitVec 5) (s : State) : exec (.divu x rd rs1 rs2) s = execDivu x rd rs1 rs2 s := rfl
theorem exec_remu (x : Issue) (rd : BitVec 5) (rs1 : BitVec 5) (rs2 : BitVec 5) (s : State) : exec (.remu x rd rs1 rs2) s = execRemu x rd rs1 rs2 s := rfl
theorem exec_slt (x : Issue) (rd : BitVec 5) (rs1 : BitVec 5) (rs2 : BitVec 5) (s : State) : exec (.slt x rd rs1 rs2) s = execSlt x rd rs1 rs2 s := rfl
theorem exec_sltu (x : Issue) (rd : BitVec 5) (rs1 : BitVec 5) (rs2 : BitVec 5) (s : State) : exec (.sltu x rd rs1 rs2) s = execSltu x rd rs1 rs2 s := rfl
theorem exec_min (x : Issue) (rd : BitVec 5) (rs1 : BitVec 5) (rs2 : BitVec 5) (s : State) : exec (.min x rd rs1 rs2) s = execMin x rd rs1 rs2 s := rfl
theorem exec_max (x : Issue) (rd : BitVec 5) (rs1 : BitVec 5) (rs2 : BitVec 5) (s : State) : exec (.max x rd rs1 rs2) s = execMax x rd rs1 rs2 s := rfl
theorem exec_addi (x : Issue) (rd : BitVec 5) (rs1 : BitVec 5) (imm : BitVec 16) (s : State) : exec (.addi x rd rs1 imm) s = execAddi x rd rs1 imm s := rfl
theorem exec_andi (x : Issue) (rd : BitVec 5) (rs1 : BitVec 5) (imm : BitVec 16) (s : State) : exec (.andi x rd rs1 imm) s = execAndi x rd rs1 imm s := rfl
theorem exec_ori (x : Issue) (rd : BitVec 5) (rs1 : BitVec 5) (imm : BitVec 16) (s : State) : exec (.ori x rd rs1 imm) s = execOri x rd rs1 imm s := rfl
theorem exec_xori (x : Issue) (rd : BitVec 5) (rs1 : BitVec 5) (imm : BitVec 16) (s : State) : exec (.xori x rd rs1 imm) s = execXori x rd rs1 imm s := rfl
theorem exec_slti (x : Issue) (rd : BitVec 5) (rs1 : BitVec 5) (imm : BitVec 16) (s : State) : exec (.slti x rd rs1 imm) s = execSlti x rd rs1 imm s := rfl
theorem exec_shli (x : Issue) (rd : BitVec 5) (rs1 : BitVec 5) (imm : BitVec 16) (s : State) : exec (.shli x rd rs1 imm) s = execShli x rd rs1 imm s := rfl
theorem exec_shri (x : Issue) (rd : BitVec 5) (rs1 : BitVec 5) (imm : BitVec 16) (s : State) : exec (.shri x rd rs1 imm) s = execShri x rd rs1 imm s := rfl
theorem exec_srai (x : Issue) (rd : BitVec 5) (rs1 : BitVec 5) (imm : BitVec 16) (s : State) : exec (.srai x rd rs1 imm) s = execSrai x rd rs1 imm s := rfl
theorem exec_lui (x : Issue) (rd : BitVec 5) (imm : BitVec 21) (s : State) : exec (.lui x rd imm) s = execLui x rd imm s := rfl
theorem exec_ldb (x : Issue) (rd : BitVec 5) (rs1 : BitVec 5) (imm : BitVec 16) (s : State) : exec (.ldb x rd rs1 imm) s = execLdb x rd rs1 imm s := rfl
theorem exec_ldh (x : Issue) (rd : BitVec 5) (rs1 : BitVec 5) (imm : BitVec 16) (s : State) : exec (.ldh x rd rs1 imm) s = execLdh x rd rs1 imm s := rfl
theorem exec_ldw (x : Issue) (rd : BitVec 5) (rs1 : BitVec 5) (imm : BitVec 16) (s : State) : exec (.ldw x rd rs1 imm) s = execLdw x rd rs1 imm s := rfl
theorem exec_ldd (x : Issue) (rd : BitVec 5) (rs1 : BitVec 5) (imm : BitVec 16) (s : State) : exec (.ldd x rd rs1 imm) s = execLdd x rd rs1 imm s := rfl
theorem exec_stb (x : Issue) (rs2 : BitVec 5) (rs1 : BitVec 5) (imm : BitVec 16) (s : State) : exec (.stb x rs2 rs1 imm) s = execStb x rs2 rs1 imm s := rfl
theorem exec_sth (x : Issue) (rs2 : BitVec 5) (rs1 : BitVec 5) (imm : BitVec 16) (s : State) : exec (.sth x rs2 rs1 imm) s = execSth x rs2 rs1 imm s := rfl
theorem exec_stw (x : Issue) (rs2 : BitVec 5) (rs1 : BitVec 5) (imm : BitVec 16) (s : State) : exec (.stw x rs2 rs1 imm) s = execStw x rs2 rs1 imm s := rfl
theorem exec_std (x : Issue) (rs2 : BitVec 5) (rs1 : BitVec 5) (imm : BitVec 16) (s : State) : exec (.std x rs2 rs1 imm) s = execStd x rs2 rs1 imm s := rfl
theorem exec_beq (x : Issue) (rs1 : BitVec 5) (rs2 : BitVec 5) (off : BitVec 16) (s : State) : exec (.beq x rs1 rs2 off) s = execBeq x rs1 rs2 off s := rfl
theorem exec_bne (x : Issue) (rs1 : BitVec 5) (rs2 : BitVec 5) (off : BitVec 16) (s : State) : exec (.bne x rs1 rs2 off) s = execBne x rs1 rs2 off s := rfl
theorem exec_blt (x : Issue) (rs1 : BitVec 5) (rs2 : BitVec 5) (off : BitVec 16) (s : State) : exec (.blt x rs1 rs2 off) s = execBlt x rs1 rs2 off s := rfl
theorem exec_bge (x : Issue) (rs1 : BitVec 5) (rs2 : BitVec 5) (off : BitVec 16) (s : State) : exec (.bge x rs1 rs2 off) s = execBge x rs1 rs2 off s := rfl
theorem exec_bltu (x : Issue) (rs1 : BitVec 5) (rs2 : BitVec 5) (off : BitVec 16) (s : State) : exec (.bltu x rs1 rs2 off) s = execBltu x rs1 rs2 off s := rfl
theorem exec_bgeu (x : Issue) (rs1 : BitVec 5) (rs2 : BitVec 5) (off : BitVec 16) (s : State) : exec (.bgeu x rs1 rs2 off) s = execBgeu x rs1 rs2 off s := rfl
theorem exec_jal (x : Issue) (rd : BitVec 5) (off : BitVec 21) (s : State) : exec (.jal x rd off) s = execJal x rd off s := rfl
theorem exec_jalr (x : Issue) (rd : BitVec 5) (rs1 : BitVec 5) (imm : BitVec 16) (s : State) : exec (.jalr x rd rs1 imm) s = execJalr x rd rs1 imm s := rfl
theorem exec_inPort (x : Issue) (rd : BitVec 5) (rs : BitVec 5) (port : BitVec 12) (sub : BitVec 4) (s : State) : exec (.inPort x rd rs port sub) s = execInPort x rd rs port sub s := rfl
theorem exec_outPort (x : Issue) (rd : BitVec 5) (rs : BitVec 5) (port : BitVec 12) (sub : BitVec 4) (s : State) : exec (.outPort x rd rs port sub) s = execOutPort x rd rs port sub s := rfl
theorem exec_bset (x : Issue) (rd : BitVec 5) (rs : BitVec 5) (port : BitVec 12) (sub : BitVec 4) (s : State) : exec (.bset x rd rs port sub) s = execBset x rd rs port sub s := rfl
theorem exec_bclr (x : Issue) (rd : BitVec 5) (rs : BitVec 5) (port : BitVec 12) (sub : BitVec 4) (s : State) : exec (.bclr x rd rs port sub) s = execBclr x rd rs port sub s := rfl
theorem exec_wait (x : Issue) (rd : BitVec 5) (rs : BitVec 5) (port : BitVec 12) (sub : BitVec 4) (s : State) : exec (.wait x rd rs port sub) s = execWait x rd rs port sub s := rfl
theorem exec_waitConditionMet (u : EUnit) (s : State) : exec (.waitConditionMet u) s = execWaitConditionMet u s := rfl
theorem exec_waitTimeout (u : EUnit) (s : State) : exec (.waitTimeout u) s = execWaitTimeout u s := rfl
theorem exec_sleep (x : Issue) (rd : BitVec 5) (rs : BitVec 5) (port : BitVec 12) (sub : BitVec 4) (s : State) : exec (.sleep x rd rs port sub) s = execSleep x rd rs port sub s := rfl
theorem exec_sleepEnd (u : EUnit) (s : State) : exec (.sleepEnd u) s = execSleepEnd u s := rfl
theorem exec_yield (x : Issue) (rd : BitVec 5) (rs1 : BitVec 5) (rs2 : BitVec 5) (s : State) : exec (.yield x rd rs1 rs2) s = execYield x rd rs1 rs2 s := rfl
theorem exec_yieldResume (u : EUnit) (s : State) : exec (.yieldResume u) s = execYieldResume u s := rfl
theorem exec_trap (x : Issue) (rd : BitVec 5) (rs1 : BitVec 5) (imm : BitVec 16) (s : State) : exec (.trap x rd rs1 imm) s = execTrap x rd rs1 imm s := rfl
theorem exec_halt (x : Issue) (rd : BitVec 5) (rs1 : BitVec 5) (rs2 : BitVec 5) (s : State) : exec (.halt x rd rs1 rs2) s = execHalt x rd rs1 rs2 s := rfl
theorem exec_retx (x : Issue) (rd : BitVec 5) (rs1 : BitVec 5) (rs2 : BitVec 5) (s : State) : exec (.retx x rd rs1 rs2) s = execRetx x rd rs1 rs2 s := rfl
theorem exec_sysr (x : Issue) (rd : BitVec 5) (rs : BitVec 5) (port : BitVec 12) (sub : BitVec 4) (s : State) : exec (.sysr x rd rs port sub) s = execSysr x rd rs port sub s := rfl
theorem exec_sysw (x : Issue) (rd : BitVec 5) (rs : BitVec 5) (port : BitVec 12) (sub : BitVec 4) (s : State) : exec (.sysw x rd rs port sub) s = execSysw x rd rs port sub s := rfl
theorem exec_fence (x : Issue) (rd : BitVec 5) (rs1 : BitVec 5) (rs2 : BitVec 5) (s : State) : exec (.fence x rd rs1 rs2) s = execFence x rd rs1 rs2 s := rfl
theorem exec_swap (x : Issue) (rd : BitVec 5) (rs1 : BitVec 5) (rs2 : BitVec 5) (func : BitVec 11) (s : State) : exec (.swap x rd rs1 rs2 func) s = execSwap x rd rs1 rs2 func s := rfl
theorem exec_cas (x : Issue) (rd : BitVec 5) (rs1 : BitVec 5) (rs2 : BitVec 5) (func : BitVec 11) (s : State) : exec (.cas x rd rs1 rs2 func) s = execCas x rd rs1 rs2 func s := rfl
theorem exec_sha (x : Issue) (rd : BitVec 5) (rs1 : BitVec 5) (rs2 : BitVec 5) (func : BitVec 11) (s : State) : exec (.sha x rd rs1 rs2 func) s = execSha x rd rs1 rs2 func s := rfl
theorem exec_ecv (x : Issue) (rd : BitVec 5) (rs1 : BitVec 5) (rs2 : BitVec 5) (func : BitVec 11) (s : State) : exec (.ecv x rd rs1 rs2 func) s = execEcv x rd rs1 rs2 func s := rfl
theorem exec_tld (x : Issue) (t : BitVec 5) (rs1 : BitVec 5) (imm : BitVec 16) (s : State) : exec (.tld x t rs1 imm) s = execTld x t rs1 imm s := rfl
theorem exec_tst (x : Issue) (t : BitVec 5) (rs1 : BitVec 5) (imm : BitVec 16) (s : State) : exec (.tst x t rs1 imm) s = execTst x t rs1 imm s := rfl
theorem exec_xclr (x : Issue) (rd : BitVec 5) (rs1 : BitVec 5) (rs2 : BitVec 5) (func : BitVec 11) (s : State) : exec (.xclr x rd rs1 rs2 func) s = execXclr x rd rs1 rs2 func s := rfl
theorem exec_xdot (x : Issue) (rd : BitVec 5) (rs1 : BitVec 5) (rs2 : BitVec 5) (func : BitVec 11) (s : State) : exec (.xdot x rd rs1 rs2 func) s = execXdot x rd rs1 rs2 func s := rfl
theorem exec_xmag (x : Issue) (rd : BitVec 5) (rs1 : BitVec 5) (rs2 : BitVec 5) (func : BitVec 11) (s : State) : exec (.xmag x rd rs1 rs2 func) s = execXmag x rd rs1 rs2 func s := rfl
theorem exec_xrnd (x : Issue) (rd : BitVec 5) (rs1 : BitVec 5) (rs2 : BitVec 5) (func : BitVec 11) (s : State) : exec (.xrnd x rd rs1 rs2 func) s = execXrnd x rd rs1 rs2 func s := rfl
theorem exec_bcmp (x : Issue) (rd : BitVec 5) (rs1 : BitVec 5) (rs2 : BitVec 5) (func : BitVec 11) (s : State) : exec (.bcmp x rd rs1 rs2 func) s = execBcmp x rd rs1 rs2 func s := rfl
theorem exec_gQueueComplete (g : Fin 12) (parity : Bool) (s : State) : exec (.gQueueComplete g parity) s = execGQueueComplete g parity s := rfl
theorem exec_interruptEntry (c : Fin 4) (s : State) : exec (.interruptEntry c) s = execInterruptEntry c s := rfl
theorem exec_coreWatchdogExpiry (c : Fin 4) (s : State) : exec (.coreWatchdogExpiry c) s = execCoreWatchdogExpiry c s := rfl
theorem exec_engineWatchdogExpiry (u : EUnit) (s : State) : exec (.engineWatchdogExpiry u) s = execEngineWatchdogExpiry u s := rfl
theorem exec_engStart (e : Eng) (s : State) : exec (.engStart e) s = execEngStart e s := rfl
theorem exec_engStop (e : Eng) (s : State) : exec (.engStop e) s = execEngStop e s := rfl
theorem exec_engKill (e : Eng) (s : State) : exec (.engKill e) s = execEngKill e s := rfl
theorem exec_startCheckDone (e : Eng) (ok : Bool) (s : State) : exec (.startCheckDone e ok) s = execStartCheckDone e ok s := rfl
theorem exec_tOffMinExpiry (e : Eng) (s : State) : exec (.tOffMinExpiry e) s = execTOffMinExpiry e s := rfl
theorem exec_engMboxInWrite (e : Eng) (v : BitVec 32) (s : State) : exec (.engMboxInWrite e v) s = execEngMboxInWrite e v s := rfl
theorem exec_engMboxOutRead (e : Eng) (s : State) : exec (.engMboxOutRead e) s = execEngMboxOutRead e s := rfl
theorem exec_engLoadOpen (e : Eng) (s : State) : exec (.engLoadOpen e) s = execEngLoadOpen e s := rfl
theorem exec_engLoadCommit (e : Eng) (s : State) : exec (.engLoadCommit e) s = execEngLoadCommit e s := rfl
theorem exec_packVarWrite (e : Eng) (v : Fin 192) (x : BitVec 32) (s : State) : exec (.packVarWrite e v x) s = execPackVarWrite e v x s := rfl
theorem exec_registerWrite (who : Initiator) (a : Nat) (v : BitVec 32) (s : State) : exec (.registerWrite who a v) s = execRegisterWrite who a v s := rfl
theorem exec_laneDetectDone (x : Lane) (s : State) : exec (.laneDetectDone x) s = execLaneDetectDone x s := rfl
theorem exec_laneTrainDone (x : Lane) (s : State) : exec (.laneTrainDone x) s = execLaneTrainDone x s := rfl
theorem exec_alignLock (x : Lane) (s : State) : exec (.alignLock x) s = execAlignLock x s := rfl
theorem exec_alignLoss (x : Lane) (s : State) : exec (.alignLoss x) s = execAlignLoss x s := rfl
theorem exec_flitReceive (x : Lane) (bs : List (BitVec 8)) (fec : FlitFec) (s : State) : exec (.flitReceive x bs fec) s = execFlitReceive x bs fec s := rfl
theorem exec_nakRepeatTimer (x : Lane) (s : State) : exec (.nakRepeatTimer x) s = execNakRepeatTimer x s := rfl
theorem exec_resendTimeout (x : Lane) (s : State) : exec (.resendTimeout x) s = execResendTimeout x s := rfl
theorem exec_tLinkExpiry (x : Lane) (s : State) : exec (.tLinkExpiry x) s = execTLinkExpiry x s := rfl
theorem exec_hello (b : Bay) (s : State) : exec (.hello b) s = execHello b s := rfl
theorem exec_caps (b : Bay) (s : State) : exec (.caps b) s = execCaps b s := rfl
theorem exec_unitMap (b : Bay) (s : State) : exec (.unitMap b) s = execUnitMap b s := rfl
theorem exec_stepOpen (b : Bay) (s : State) : exec (.stepOpen b) s = execStepOpen b s := rfl
theorem exec_csum (b : Bay) (s : State) : exec (.csum b) s = execCsum b s := rfl
theorem exec_sample (b : Bay) (parity : Bool) (s : State) : exec (.sample b parity) s = execSample b parity s := rfl
theorem exec_stepClose (b : Bay) (s : State) : exec (.stepClose b) s = execStepClose b s := rfl
theorem exec_result (b : Bay) (parity : Bool) (s : State) : exec (.result b parity) s = execResult b parity s := rfl
theorem exec_health (b : Bay) (s : State) : exec (.health b) s = execHealth b s := rfl
theorem exec_maintReply (b : Bay) (s : State) : exec (.maintReply b) s = execMaintReply b s := rfl
theorem exec_fenceTimeout (b : Bay) (slice : BitVec 6) (s : State) : exec (.fenceTimeout b slice) s = execFenceTimeout b slice s := rfl
theorem exec_witlMaintGo (b : Bay) (v : BitVec 32) (s : State) : exec (.witlMaintGo b v) s = execWitlMaintGo b v s := rfl
theorem exec_maint (b : Bay) (s : State) : exec (.maint b) s = execMaint b s := rfl
theorem exec_witlMaintRxdone (b : Bay) (s : State) : exec (.witlMaintRxdone b) s = execWitlMaintRxdone b s := rfl
theorem exec_witCtlWrite (b : Bay) (v : BitVec 32) (s : State) : exec (.witCtlWrite b v) s = execWitCtlWrite b v s := rfl
theorem exec_quietPoint (b : Bay) (s : State) : exec (.quietPoint b) s = execQuietPoint b s := rfl
theorem exec_witEpochNew (b : Bay) (s : State) : exec (.witEpochNew b) s = execWitEpochNew b s := rfl
theorem exec_witEpochResend (b : Bay) (s : State) : exec (.witEpochResend b) s = execWitEpochResend b s := rfl
theorem exec_sealJob (b : Bay) (s : State) : exec (.sealJob b) s = execSealJob b s := rfl
theorem exec_galleryLag (b : Bay) (s : State) : exec (.galleryLag b) s = execGalleryLag b s := rfl
theorem exec_replayTimeout (b : Bay) (step : BitVec 48) (tile : BitVec 32) (s : State) : exec (.replayTimeout b step tile) s = execReplayTimeout b step tile s := rfl
theorem exec_witLedgerPop (b : Bay) (s : State) : exec (.witLedgerPop b) s = execWitLedgerPop b s := rfl
theorem exec_witEventPop (b : Bay) (s : State) : exec (.witEventPop b) s = execWitEventPop b s := rfl
theorem exec_arbiterHandover (g : Fin 12) (s : State) : exec (.arbiterHandover g) s = execArbiterHandover g s := rfl
theorem exec_loaderCopyDone (g : Fin 12) (path : PathErr) (s : State) : exec (.loaderCopyDone g path) s = execLoaderCopyDone g path s := rfl
theorem exec_completionAccept (s : State) : exec (.completionAccept) s = execCompletionAccept s := rfl
theorem exec_tGdispExpiry (g : Fin 12) (s : State) : exec (.tGdispExpiry g) s = execTGdispExpiry g s := rfl
theorem exec_katRun (g : Fin 12) (s : State) : exec (.katRun g) s = execKatRun g s := rfl
theorem exec_katDone (g : Fin 12) (failing : List (Fin 512 × AccClass)) (s : State) : exec (.katDone g failing) s = execKatDone g failing s := rfl
theorem exec_galFence (g : Fin 12) (s : State) : exec (.galFence g) s = execGalFence g s := rfl
theorem exec_galUnfence (g : Fin 12) (s : State) : exec (.galUnfence g) s = execGalUnfence g s := rfl
theorem exec_visitDue (b : Bay) (s : State) : exec (.visitDue b) s = execVisitDue b s := rfl
theorem exec_stencilDeadline (b : Bay) (s : State) : exec (.stencilDeadline b) s = execStencilDeadline b s := rfl
theorem exec_obsWindowClose (unitId : BitVec 64) (s : State) : exec (.obsWindowClose unitId) s = execObsWindowClose unitId s := rfl
theorem exec_fsFence (b : Bay) (slice : BitVec 6) (s : State) : exec (.fsFence b slice) s = execFsFence b slice s := rfl
theorem exec_fsUnfence (b : Bay) (slice : BitVec 6) (s : State) : exec (.fsUnfence b slice) s = execFsUnfence b slice s := rfl
theorem exec_fsRetire (b : Bay) (s : State) : exec (.fsRetire b) s = execFsRetire b s := rfl
theorem exec_fsUnretire (b : Bay) (s : State) : exec (.fsUnretire b) s = execFsUnretire b s := rfl
theorem exec_fsClear (b : Bay) (slice : BitVec 6) (s : State) : exec (.fsClear b slice) s = execFsClear b slice s := rfl
theorem exec_fsCarry (state : BitVec 2) (age : BitVec 8) (s : State) : exec (.fsCarry state age) s = execFsCarry state age s := rfl
theorem exec_fsResume (s : State) : exec (.fsResume) s = execFsResume s := rfl
theorem exec_fsRemovePack (slot : BitVec 6) (s : State) : exec (.fsRemovePack slot) s = execFsRemovePack slot s := rfl
theorem exec_flowstoneTick (s : State) : exec (.flowstoneTick) s = execFlowstoneTick s := rfl
theorem exec_ftMark (s : State) : exec (.ftMark) s = execFtMark s := rfl
theorem exec_fsAppendDone (ok : Bool) (s : State) : exec (.fsAppendDone ok) s = execFsAppendDone ok s := rfl
theorem exec_logScan (s : State) : exec (.logScan) s = execLogScan s := rfl
theorem exec_fsJournalAck (v : BitVec 32) (s : State) : exec (.fsJournalAck v) s = execFsJournalAck v s := rfl
theorem exec_mcReady (j : Fin 16) (s : State) : exec (.mcReady j) s = execMcReady j s := rfl
theorem exec_scrubRead (j : Fin 16) (ch : Fin 2) (off : Nat) (found : PathErr) (raced : Bool) (s : State) : exec (.scrubRead j ch off found raced) s = execScrubRead j ch off found raced s := rfl
theorem exec_scrubLate (j : Fin 16) (s : State) : exec (.scrubLate j) s = execScrubLate j s := rfl
theorem exec_twArm (n : Initiator) (w : Fin 64) (v : BitVec 32) (s : State) : exec (.twArm n w v) s = execTwArm n w v s := rfl
theorem exec_twClose (n : Initiator) (w : Fin 64) (v : BitVec 32) (s : State) : exec (.twClose n w v) s = execTwClose n w v s := rfl
theorem exec_windowLanding (a : Nat) (bs : List (BitVec 8)) (path : PathErr) (s : State) : exec (.windowLanding a bs path) s = execWindowLanding a bs path s := rfl
theorem exec_trwDqGo (j : Fin 16) (s : State) : exec (.trwDqGo j) s = execTrwDqGo j s := rfl
theorem exec_trowelCsumAcc (j : Fin 16) (s : State) : exec (.trowelCsumAcc j) s = execTrowelCsumAcc j s := rfl
theorem exec_trowelCrc32c (j : Fin 16) (s : State) : exec (.trowelCrc32c j) s = execTrowelCrc32c j s := rfl
theorem exec_trowelCmpExp (j : Fin 16) (s : State) : exec (.trowelCmpExp j) s = execTrowelCmpExp j s := rfl
theorem exec_trowelXfold (j : Fin 16) (s : State) : exec (.trowelXfold j) s = execTrowelXfold j s := rfl
theorem exec_trowelFill (j : Fin 16) (s : State) : exec (.trowelFill j) s = execTrowelFill j s := rfl
theorem exec_trowelCopy (j : Fin 16) (s : State) : exec (.trowelCopy j) s = execTrowelCopy j s := rfl
theorem exec_railPgRise (k : Fin 80) (s : State) : exec (.railPgRise k) s = execRailPgRise k s := rfl
theorem exec_railPgFall (k : Fin 80) (s : State) : exec (.railPgFall k) s = execRailPgFall k s := rfl
theorem exec_railPgGlitch (k : Fin 80) (s : State) : exec (.railPgGlitch k) s = execRailPgGlitch k s := rfl
theorem exec_tWarnExpiry (n : Fin 9) (s : State) : exec (.tWarnExpiry n) s = execTWarnExpiry n s := rfl
theorem exec_tDownMaxExpiry (n : Fin 9) (s : State) : exec (.tDownMaxExpiry n) s = execTDownMaxExpiry n s := rfl
theorem exec_safeStopStep (n : Fin 9) (s : State) : exec (.safeStopStep n) s = execSafeStopStep n s := rfl
theorem exec_sqCntClr (n : Fin 9) (clr : BitVec 16) (s : State) : exec (.sqCntClr n clr) s = execSqCntClr n clr s := rfl
theorem exec_vinLow (vin : Nat) (vhold : Nat) (s : State) : exec (.vinLow vin vhold) s = execVinLow vin vhold s := rfl
theorem exec_holdupWriteDone (s : State) : exec (.holdupWriteDone) s = execHoldupWriteDone s := rfl
theorem exec_forcedOffStep (s : State) : exec (.forcedOffStep) s = execForcedOffStep s := rfl
theorem exec_vinReturn (vin : Nat) (vhold : Nat) (s : State) : exec (.vinReturn vin vhold) s = execVinReturn vin vhold s := rfl
theorem exec_killIn (s : State) : exec (.killIn) s = execKillIn s := rfl
theorem exec_killInRelease (s : State) : exec (.killInRelease) s = execKillInRelease s := rfl
theorem exec_extOff (b : Bay) (s : State) : exec (.extOff b) s = execExtOff b s := rfl
theorem exec_presenceLost (b : Bay) (s : State) : exec (.presenceLost b) s = execPresenceLost b s := rfl
theorem exec_btnPress (s : State) : exec (.btnPress) s = execBtnPress s := rfl
theorem exec_btnRelease (s : State) : exec (.btnRelease) s = execBtnRelease s := rfl
theorem exec_longPress (s : State) : exec (.longPress) s = execLongPress s := rfl
theorem exec_mrstNAssert (s : State) : exec (.mrstNAssert) s = execMrstNAssert s := rfl
theorem exec_capEngage (vin : Nat) (imon : List Nat) (s : State) : exec (.capEngage vin imon) s = execCapEngage vin imon s := rfl
theorem exec_capRelease (vin : Nat) (imon : List Nat) (s : State) : exec (.capRelease vin imon) s = execCapRelease vin imon s := rfl
theorem exec_sensorSample (ain : List Nat) (dies : List Int) (s : State) : exec (.sensorSample ain dies) s = execSensorSample ain dies s := rfl
theorem exec_safeHotClear (s : State) : exec (.safeHotClear) s = execSafeHotClear s := rfl
theorem exec_slotStale (slot : Fin 112) (s : State) : exec (.slotStale slot) s = execSlotStale slot s := rfl
theorem exec_healthSlotJoin (b : Bay) (s : State) : exec (.healthSlotJoin b) s = execHealthSlotJoin b s := rfl
theorem exec_zoneEval (s : State) : exec (.zoneEval) s = execZoneEval s := rfl
theorem exec_zoneHot (z : Fin 16) (s : State) : exec (.zoneHot z) s = execZoneHot z s := rfl
theorem exec_zoneCool (z : Fin 16) (s : State) : exec (.zoneCool z) s = execZoneCool z s := rfl
theorem exec_channelCommand (s : State) : exec (.channelCommand) s = execChannelCommand s := rfl
theorem exec_motCfgWrite (c : Fin 12) (v : BitVec 32) (s : State) : exec (.motCfgWrite c v) s = execMotCfgWrite c v s := rfl
theorem exec_motorAlignDone (c : Fin 12) (dead : Bool) (hallBad : Bool) (s : State) : exec (.motorAlignDone c dead hallBad) s = execMotorAlignDone c dead hallBad s := rfl
theorem exec_motorLock (c : Fin 12) (hallBad : Bool) (s : State) : exec (.motorLock c hallBad) s = execMotorLock c hallBad s := rfl
theorem exec_lockDeadline (c : Fin 12) (hallBad : Bool) (s : State) : exec (.lockDeadline c hallBad) s = execLockDeadline c hallBad s := rfl
theorem exec_lockLoss (c : Fin 12) (s : State) : exec (.lockLoss c) s = execLockLoss c s := rfl
theorem exec_lowSpeedStall (c : Fin 12) (rpm : BitVec 16) (s : State) : exec (.lowSpeedStall c rpm) s = execLowSpeedStall c rpm s := rfl
theorem exec_overcurrent (c : Fin 12) (s : State) : exec (.overcurrent c) s = execOvercurrent c s := rfl
theorem exec_openWinding (c : Fin 12) (s : State) : exec (.openWinding c) s = execOpenWinding c s := rfl
theorem exec_retryWaitEnd (c : Fin 12) (s : State) : exec (.retryWaitEnd c) s = execRetryWaitEnd c s := rfl
theorem exec_triesReset (c : Fin 12) (s : State) : exec (.triesReset c) s = execTriesReset c s := rfl
theorem exec_driveThermalTrip (t : Fin 2) (temp : Int) (s : State) : exec (.driveThermalTrip t temp) s = execDriveThermalTrip t temp s := rfl
theorem exec_driveDerate (t : Fin 2) (temp : Int) (s : State) : exec (.driveDerate t temp) s = execDriveDerate t temp s := rfl
theorem exec_auxTachFail (n : Fin 8) (s : State) : exec (.auxTachFail n) s = execAuxTachFail n s := rfl
theorem exec_clFailAck (v : BitVec 32) (s : State) : exec (.clFailAck v) s = execClFailAck v s := rfl
theorem exec_flowRate (f : Fin 4) (pulses : Nat) (s : State) : exec (.flowRate f pulses) s = execFlowRate f pulses s := rfl
theorem exec_loopAnomaly (l : Fin 8) (s : State) : exec (.loopAnomaly l) s = execLoopAnomaly l s := rfl
theorem exec_leakSample (l : Fin 8) (ohms : Nat) (s : State) : exec (.leakSample l ohms) s = execLeakSample l ohms s := rfl
theorem exec_tShutExpiry (l : Fin 8) (s : State) : exec (.tShutExpiry l) s = execTShutExpiry l s := rfl
theorem exec_clLkAck (v : BitVec 32) (s : State) : exec (.clLkAck v) s = execClLkAck v s := rfl
theorem exec_busFree (m : Fin 12) (s : State) : exec (.busFree m) s = execBusFree m s := rfl
theorem exec_quickW (m : Fin 12) (r : BusRun) (s : State) : exec (.quickW m r) s = execQuickW m r s := rfl
theorem exec_quickR (m : Fin 12) (r : BusRun) (s : State) : exec (.quickR m r) s = execQuickR m r s := rfl
theorem exec_sendByte (m : Fin 12) (r : BusRun) (s : State) : exec (.sendByte m r) s = execSendByte m r s := rfl
theorem exec_recvByte (m : Fin 12) (r : BusRun) (s : State) : exec (.recvByte m r) s = execRecvByte m r s := rfl
theorem exec_writeByte (m : Fin 12) (r : BusRun) (s : State) : exec (.writeByte m r) s = execWriteByte m r s := rfl
theorem exec_readByte (m : Fin 12) (r : BusRun) (s : State) : exec (.readByte m r) s = execReadByte m r s := rfl
theorem exec_writeWord (m : Fin 12) (r : BusRun) (s : State) : exec (.writeWord m r) s = execWriteWord m r s := rfl
theorem exec_readWord (m : Fin 12) (r : BusRun) (s : State) : exec (.readWord m r) s = execReadWord m r s := rfl
theorem exec_procCall (m : Fin 12) (r : BusRun) (s : State) : exec (.procCall m r) s = execProcCall m r s := rfl
theorem exec_blockWrite (m : Fin 12) (r : BusRun) (s : State) : exec (.blockWrite m r) s = execBlockWrite m r s := rfl
theorem exec_blockRead (m : Fin 12) (r : BusRun) (s : State) : exec (.blockRead m r) s = execBlockRead m r s := rfl
theorem exec_blockProcCall (m : Fin 12) (r : BusRun) (s : State) : exec (.blockProcCall m r) s = execBlockProcCall m r s := rfl
theorem exec_i2cWrite (m : Fin 12) (r : BusRun) (s : State) : exec (.i2cWrite m r) s = execI2cWrite m r s := rfl
theorem exec_i2cRead (m : Fin 12) (r : BusRun) (s : State) : exec (.i2cRead m r) s = execI2cRead m r s := rfl
theorem exec_i2cWriteRead (m : Fin 12) (r : BusRun) (s : State) : exec (.i2cWriteRead m r) s = execI2cWriteRead m r s := rfl
theorem exec_addrNackRetry (m : Fin 12) (s : State) : exec (.addrNackRetry m) s = execAddrNackRetry m s := rfl
theorem exec_arbBackoffEnd (m : Fin 12) (s : State) : exec (.arbBackoffEnd m) s = execArbBackoffEnd m s := rfl
theorem exec_clkTimeout (m : Fin 12) (s : State) : exec (.clkTimeout m) s = execClkTimeout m s := rfl
theorem exec_tgtTransaction (m : Fin 12) (t : TgtRun) (s : State) : exec (.tgtTransaction m t) s = execTgtTransaction m t s := rfl
theorem exec_tgtSleep (m : Fin 12) (s : State) : exec (.tgtSleep m) s = execTgtSleep m s := rfl
theorem exec_tgtSclTimeout (m : Fin 12) (s : State) : exec (.tgtSclTimeout m) s = execTgtSclTimeout m s := rfl
theorem exec_hostNotify (m : Fin 12) (addr : BitVec 7) (data : BitVec 16) (s : State) : exec (.hostNotify m addr data) s = execHostNotify m addr data s := rfl
theorem exec_alertResponse (m : Fin 12) (won : Bool) (s : State) : exec (.alertResponse m won) s = execAlertResponse m won s := rfl
theorem exec_busStuck (m : Fin 12) (s : State) : exec (.busStuck m) s = execBusStuck m s := rfl
theorem exec_busStuckClear (m : Fin 12) (s : State) : exec (.busStuckClear m) s = execBusStuckClear m s := rfl
theorem exec_busUnpowered (m : Fin 12) (s : State) : exec (.busUnpowered m) s = execBusUnpowered m s := rfl
theorem exec_segOutcome (m : Fin 12) (s : State) : exec (.segOutcome m) s = execSegOutcome m s := rfl
theorem exec_segRetry (m : Fin 12) (s : State) : exec (.segRetry m) s = execSegRetry m s := rfl
theorem exec_secRelease (fuseOk : Bool) (patchOk : Bool) (leafOk : Bool) (flash : BitVec 6) (s : State) : exec (.secRelease fuseOk patchOk leafOk flash) s = execSecRelease fuseOk patchOk leafOk flash s := rfl
theorem exec_fuseShadowCheck (same : Bool) (agree : Bool) (s : State) : exec (.fuseShadowCheck same agree) s = execFuseShadowCheck same agree s := rfl
theorem exec_mgmtVerifyDone (flash : BitVec 6) (s : State) : exec (.mgmtVerifyDone flash) s = execMgmtVerifyDone flash s := rfl
theorem exec_lockAllDeadline (flash : BitVec 6) (s : State) : exec (.lockAllDeadline flash) s = execLockAllDeadline flash s := rfl
theorem exec_secException (s : State) : exec (.secException) s = execSecException s := rfl
theorem exec_secInstall (flash : Bool) (s : State) : exec (.secInstall flash) s = execSecInstall flash s := rfl
theorem exec_secVerify (s : State) : exec (.secVerify) s = execSecVerify s := rfl
theorem exec_secSignMmp (s : State) : exec (.secSignMmp) s = execSecSignMmp s := rfl
theorem exec_secSpdm (s : State) : exec (.secSpdm) s = execSecSpdm s := rfl
theorem exec_secStage (flash : BitVec 3) (s : State) : exec (.secStage flash) s = execSecStage flash s := rfl
theorem exec_secRevoke (s : State) : exec (.secRevoke) s = execSecRevoke s := rfl
theorem exec_secOwnerKey (s : State) : exec (.secOwnerKey) s = execSecOwnerKey s := rfl
theorem exec_secCertWrite (leafOk : Bool) (s : State) : exec (.secCertWrite leafOk) s = execSecCertWrite leafOk s := rfl
theorem exec_secConfirm (who : Initiator) (key : BitVec 16) (s : State) : exec (.secConfirm who key) s = execSecConfirm who key s := rfl
theorem exec_arbResume (s : State) : exec (.arbResume) s = execArbResume s := rfl
theorem exec_trialExpiry (s : State) : exec (.trialExpiry) s = execTrialExpiry s := rfl
theorem exec_xtalStartFail (s : State) : exec (.xtalStartFail) s = execXtalStartFail s := rfl
theorem exec_getVersion (req : List (BitVec 8)) (s : State) : exec (.getVersion req) s = execGetVersion req s := rfl
theorem exec_getCapabilities (req : List (BitVec 8)) (s : State) : exec (.getCapabilities req) s = execGetCapabilities req s := rfl
theorem exec_negotiateAlgorithms (req : List (BitVec 8)) (s : State) : exec (.negotiateAlgorithms req) s = execNegotiateAlgorithms req s := rfl
theorem exec_getCertificate (req : List (BitVec 8)) (s : State) : exec (.getCertificate req) s = execGetCertificate req s := rfl
theorem exec_challenge (req : List (BitVec 8)) (s : State) : exec (.challenge req) s = execChallenge req s := rfl
theorem exec_getMeasurements (req : List (BitVec 8)) (s : State) : exec (.getMeasurements req) s = execGetMeasurements req s := rfl
theorem exec_actHandover (who : Initiator) (key : BitVec 16) (pair : Bool) (s : State) : exec (.actHandover who key pair) s = execActHandover who key pair s := rfl
theorem exec_actCommons (who : Initiator) (key : BitVec 16) (pair : Bool) (s : State) : exec (.actCommons who key pair) s = execActCommons who key pair s := rfl
theorem exec_actFull (who : Initiator) (key : BitVec 16) (pair : Bool) (s : State) : exec (.actFull who key pair) s = execActFull who key pair s := rfl
theorem exec_preverifyDone (flash : Bool) (s : State) : exec (.preverifyDone flash) s = execPreverifyDone flash s := rfl
theorem exec_quiesced (c : Fin 4) (s : State) : exec (.quiesced c) s = execQuiesced c s := rfl
theorem exec_quiesceTimeout (s : State) : exec (.quiesceTimeout) s = execQuiesceTimeout s := rfl
theorem exec_pauseCopyDone (flash : Bool) (s : State) : exec (.pauseCopyDone flash) s = execPauseCopyDone flash s := rfl
theorem exec_goldReadDone (b : Bay) (digest : BitVec 256) (flash : Bool) (s : State) : exec (.goldReadDone b digest flash) s = execGoldReadDone b digest flash s := rfl
theorem exec_goldReadbackDone (b : Bay) (digest : BitVec 256) (sectors : Nat) (cmdOk : Bool) (flash : Bool) (s : State) : exec (.goldReadbackDone b digest sectors cmdOk flash) s = execGoldReadbackDone b digest sectors cmdOk flash s := rfl
theorem exec_tGoldMaxExpiry (b : Bay) (s : State) : exec (.tGoldMaxExpiry b) s = execTGoldMaxExpiry b s := rfl
theorem exec_ethFrameReceive (f : EthFrame) (s : State) : exec (.ethFrameReceive f) s = execEthFrameReceive f s := rfl
theorem exec_arpRequest (ip : BitVec 32) (partner : Bool) (src : BitVec 48) (s : State) : exec (.arpRequest ip partner src) s = execArpRequest ip partner src s := rfl
theorem exec_ndSolicit (ip : BitVec 128) (partner : Bool) (src : BitVec 48) (s : State) : exec (.ndSolicit ip partner src) s = execNdSolicit ip partner src s := rfl
theorem exec_icmpEcho (v6 : Bool) (dst : BitVec 128) (data : List (BitVec 8)) (src : BitVec 48) (s : State) : exec (.icmpEcho v6 dst data src) s = execIcmpEcho v6 dst data src s := rfl
theorem exec_dhcpReceive (v6 : Bool) (m : DhcpMsg) (s : State) : exec (.dhcpReceive v6 m) s = execDhcpReceive v6 m s := rfl
theorem exec_lldpTransmit (s : State) : exec (.lldpTransmit) s = execLldpTransmit s := rfl
theorem exec_ethRateWrite (rate : BitVec 2) (s : State) : exec (.ethRateWrite rate) s = execEthRateWrite rate s := rfl
theorem exec_hsInit (payload : List (BitVec 8)) (src : BitVec 48) (s : State) : exec (.hsInit payload src) s = execHsInit payload src s := rfl
theorem exec_hsFin (session : BitVec 32) (sig : List (BitVec 8)) (window : BitVec 16) (late : Bool) (src : BitVec 48) (s : State) : exec (.hsFin session sig window late src) s = execHsFin session sig window late src s := rfl
theorem exec_dataPacket (p : MmpPacket) (s : State) : exec (.dataPacket p) s = execDataPacket p s := rfl
theorem exec_ackPacket (p : MmpPacket) (s : State) : exec (.ackPacket p) s = execAckPacket p s := rfl
theorem exec_closePacket (p : MmpPacket) (s : State) : exec (.closePacket p) s = execClosePacket p s := rfl
theorem exec_rtoExpiry (s : State) : exec (.rtoExpiry) s = execRtoExpiry s := rfl
theorem exec_ackKeepalive (s : State) : exec (.ackKeepalive) s = execAckKeepalive s := rfl
theorem exec_tSessionExpiry (s : State) : exec (.tSessionExpiry) s = execTSessionExpiry s := rfl
theorem exec_mmpSpdm (s : State) : exec (.mmpSpdm) s = execMmpSpdm s := rfl
theorem exec_loadSecfw (flash : BitVec 3) (s : State) : exec (.loadSecfw flash) s = execLoadSecfw flash s := rfl
theorem exec_loadPack (flash : BitVec 3) (s : State) : exec (.loadPack flash) s = execLoadPack flash s := rfl
theorem exec_loadMgmt (flash : BitVec 3) (s : State) : exec (.loadMgmt flash) s = execLoadMgmt flash s := rfl
theorem exec_loadStencilPack (s : State) : exec (.loadStencilPack) s = execLoadStencilPack s := rfl
theorem exec_loadGolden (flash : Bool) (s : State) : exec (.loadGolden flash) s = execLoadGolden flash s := rfl
theorem exec_loadHostCode (s : State) : exec (.loadHostCode) s = execLoadHostCode s := rfl
theorem exec_runProgram (c : Fin 4) (ceiling : List (BitVec 8)) (s : State) : exec (.runProgram c ceiling) s = execRunProgram c ceiling s := rfl
theorem exec_runLimitExpiry (c : Fin 4) (s : State) : exec (.runLimitExpiry c) s = execRunLimitExpiry c s := rfl
theorem exec_mmpRead (s : State) : exec (.mmpRead) s = execMmpRead s := rfl
theorem exec_mmpWrite (s : State) : exec (.mmpWrite) s = execMmpWrite s := rfl
theorem exec_ethEvtGo (s : State) : exec (.ethEvtGo) s = execEthEvtGo s := rfl
theorem exec_eventAck (s : State) : exec (.eventAck) s = execEventAck s := rfl
theorem exec_eventResend (s : State) : exec (.eventResend) s = execEventResend s := rfl
theorem exec_bulkFlowstone (s : State) : exec (.bulkFlowstone) s = execBulkFlowstone s := rfl
theorem exec_bulkLedger (s : State) : exec (.bulkLedger) s = execBulkLedger s := rfl
theorem exec_bulkSample (s : State) : exec (.bulkSample) s = execBulkSample s := rfl
theorem exec_bulkGolden (flash : Bool) (s : State) : exec (.bulkGolden flash) s = execBulkGolden flash s := rfl
theorem exec_bulkHoldup (s : State) : exec (.bulkHoldup) s = execBulkHoldup s := rfl
theorem exec_ethRxTailWrite (v : BitVec 18) (s : State) : exec (.ethRxTailWrite v) s = execEthRxTailWrite v s := rfl
theorem exec_ethTxHeadWrite (v : BitVec 18) (s : State) : exec (.ethTxHeadWrite v) s = execEthTxHeadWrite v s := rfl
theorem exec_relayStart (mine : Bool) (s : State) : exec (.relayStart mine) s = execRelayStart mine s := rfl
theorem exec_relayEnd (mine : Bool) (s : State) : exec (.relayEnd mine) s = execRelayEnd mine s := rfl
theorem exec_hbSend (s : State) : exec (.hbSend) s = execHbSend s := rfl
theorem exec_hbReceive (h : Heartbeat) (s : State) : exec (.hbReceive h) s = execHbReceive h s := rfl
theorem exec_hbPinEdge (s : State) : exec (.hbPinEdge) s = execHbPinEdge s := rfl
theorem exec_twinLinkDown (s : State) : exec (.twinLinkDown) s = execTwinLinkDown s := rfl
theorem exec_partnerLost (s : State) : exec (.partnerLost) s = execPartnerLost s := rfl
theorem exec_joinTimeout (s : State) : exec (.joinTimeout) s = execJoinTimeout s := rfl
theorem exec_stepRecord (id : Nat) (n : Fin 9) (c : SeqChange) (s : State) : exec (.stepRecord id n c) s = execStepRecord id n c s := rfl
theorem exec_stepAck (id : Nat) (s : State) : exec (.stepAck id) s = execStepAck id s := rfl
theorem exec_stepAckTimeout (id : Nat) (s : State) : exec (.stepAckTimeout id) s = execStepAckTimeout id s := rfl
theorem exec_mirrorRecord (m : Mirror) (s : State) : exec (.mirrorRecord m) s = execMirrorRecord m s := rfl
theorem exec_verdictRecord (b : Bay) (result : Fin 4) (step : BitVec 48) (tile : BitVec 32) (epoch : BitVec 16) (s : State) : exec (.verdictRecord b result step tile epoch) s = execVerdictRecord b result step tile epoch s := rfl
theorem exec_sealNoteRecord (b : Bay) (n : SealNote) (s : State) : exec (.sealNoteRecord b n) s = execSealNoteRecord b n s := rfl
theorem exec_fsRecordReceive (bs : List (BitVec 8)) (s : State) : exec (.fsRecordReceive bs) s = execFsRecordReceive bs s := rfl
theorem exec_requestRecord (n : Fin 9) (q : SeqRequest) (s : State) : exec (.requestRecord n q) s = execRequestRecord n q s := rfl
theorem exec_requestOffTimeout (n : Fin 9) (s : State) : exec (.requestOffTimeout n) s = execRequestOffTimeout n s := rfl
theorem exec_relayRecord (packet : List (BitVec 8)) (s : State) : exec (.relayRecord packet) s = execRelayRecord packet s := rfl
theorem exec_actRecord (what : Fin 7) (s : State) : exec (.actRecord what) s = execActRecord what s := rfl
theorem exec_twinSwap (who : Initiator) (key : BitVec 16) (s : State) : exec (.twinSwap who key) s = execTwinSwap who key s := rfl
theorem exec_standAside (who : Initiator) (key : BitVec 16) (v : Bool) (s : State) : exec (.standAside who key v) s = execStandAside who key v s := rfl
theorem exec_soloStart (s : State) : exec (.soloStart) s = execSoloStart s := rfl
theorem exec_vinConfirmTimeout (s : State) : exec (.vinConfirmTimeout) s = execVinConfirmTimeout s := rfl
theorem exec_vstbyGood (s : State) : exec (.vstbyGood) s = execVstbyGood s := rfl
theorem exec_supplyOutOfRange (x : Supply) (s : State) : exec (.supplyOutOfRange x) s = execSupplyOutOfRange x s := rfl
theorem exec_vioBankLoss (k : Fin 8) (s : State) : exec (.vioBankLoss k) s = execVioBankLoss k s := rfl
theorem exec_xtalStop (s : State) : exec (.xtalStop) s = execXtalStop s := rfl
theorem exec_bridgeSwitchOpen (vin : Nat) (s : State) : exec (.bridgeSwitchOpen vin) s = execBridgeSwitchOpen vin s := rfl
theorem exec_bridgeSwitchClose (vin : Nat) (s : State) : exec (.bridgeSwitchClose vin) s = execBridgeSwitchClose vin s := rfl
theorem exec_holdOkChange (vhold : Nat) (s : State) : exec (.holdOkChange vhold) s = execHoldOkChange vhold s := rfl
theorem exec_vstbyLoss (s : State) : exec (.vstbyLoss) s = execVstbyLoss s := rfl
theorem exec_supplyReturn (x : Supply) (s : State) : exec (.supplyReturn x) s = execSupplyReturn x s := rfl
theorem exec_vioBankReturn (k : Fin 8) (s : State) : exec (.vioBankReturn k) s = execVioBankReturn k s := rfl
theorem exec_xtalReturn (s : State) : exec (.xtalReturn) s = execXtalReturn s := rfl
theorem exec_mrstNRelease (s : State) : exec (.mrstNRelease) s = execMrstNRelease s := rfl
theorem exec_pairPauseTimeout (s : State) : exec (.pairPauseTimeout) s = execPairPauseTimeout s := rfl
theorem exec_pinPathLoss (s : State) : exec (.pinPathLoss) s = execPinPathLoss s := rfl

end Sys2Proof.Machine
end

