-- ==== Sys2Proof/Laws/Sparse.lean ====
section
/-! SUPPORT. Laws of sparse tables: a read after a write, and the canonical form kept. -/

namespace Sys2Proof.Machine

variable {α : Type}

theorem sparseGet_erase_self (d : α) (l : List (Nat × α)) (a : Nat) : sparseGet d (sparseErase a l) a = d := by
  induction l with
  | nil => rfl
  | cons p l ih =>
    by_cases h : p.1 = a
    · simp [sparseErase, h, ih]
    · simp [sparseErase, h, sparseGet, ih]

theorem sparseGet_erase_ne (d : α) (l : List (Nat × α)) {a b : Nat} (h : b ≠ a) :
    sparseGet d (sparseErase a l) b = sparseGet d l b := by
  induction l with
  | nil => rfl
  | cons p l ih =>
    by_cases hp : p.1 = a
    · have : p.1 ≠ b := fun e => h (e.symm.trans hp)
      simp [sparseErase, hp, sparseGet, ih]
      intro e; exact absurd e.symm h
    · simp [sparseErase, hp, sparseGet, ih]

theorem sparseGet_insert_ne (d : α) (l : List (Nat × α)) {a b : Nat} (v : α) (h : b ≠ a) :
    sparseGet d (sparseInsert a v l) b = sparseGet d l b := by
  have h' : a ≠ b := fun e => h e.symm
  induction l with
  | nil => simp [sparseInsert, sparseGet, h']
  | cons p l ih =>
    by_cases hp : a < p.1
    · simp [sparseInsert, hp, sparseGet, h']
    · simp [sparseInsert, hp, sparseGet, ih]

theorem sparseGet_insert_self (d : α) (l : List (Nat × α)) (a : Nat) (v : α) (h : ∀ p ∈ l, p.1 ≠ a) :
    sparseGet d (sparseInsert a v l) a = v := by
  induction l with
  | nil => simp [sparseInsert, sparseGet]
  | cons p l ih =>
    by_cases hp : a < p.1
    · simp [sparseInsert, hp, sparseGet]
    · have hne : p.1 ≠ a := h p (by simp)
      have ih := ih (fun q hq => h q (by simp [hq]))
      simp [sparseInsert, hp, sparseGet, hne, ih]

theorem sparseErase_keys (l : List (Nat × α)) (a : Nat) : ∀ p ∈ sparseErase a l, p.1 ≠ a := by
  induction l with
  | nil => intro p hp; cases hp
  | cons q l ih =>
    intro p hp
    by_cases hq : q.1 = a
    · rw [sparseErase, if_pos hq] at hp; exact ih p hp
    · rw [sparseErase, if_neg hq] at hp
      cases hp with
      | head => exact hq
      | tail _ hp => exact ih p hp

/-- A read of the address written gives the value written. -/
@[simp] theorem sparseGet_set_self [DecidableEq α] (d : α) (l : List (Nat × α)) (a : Nat) (v : α) :
    sparseGet d (sparseSet d l a v) a = v := by
  by_cases h : v = d
  · simp [sparseSet, h, sparseGet_erase_self]
  · simp [sparseSet, h, sparseGet_insert_self _ _ _ _ (sparseErase_keys l a)]

/-- A read of another address is not affected. -/
theorem sparseGet_set_ne [DecidableEq α] (d e : α) (l : List (Nat × α)) {a b : Nat} (v : α) (h : b ≠ a) :
    sparseGet e (sparseSet d l a v) b = sparseGet e l b := by
  by_cases hv : v = d
  · simp [sparseSet, hv, sparseGet_erase_ne _ _ h]
  · simp [sparseSet, hv, sparseGet_insert_ne _ _ _ h, sparseGet_erase_ne _ _ h]

theorem risingFrom_mono {lo hi : Nat} (l : List (Nat × α)) (h : lo ≤ hi) (hl : risingFrom hi l = true) :
    risingFrom lo l = true := by
  cases l with
  | nil => rfl
  | cons p l =>
    simp only [risingFrom, Bool.and_eq_true, decide_eq_true_eq] at hl ⊢
    exact ⟨Nat.le_trans h hl.1, hl.2⟩

theorem risingFrom_erase (lo : Nat) (l : List (Nat × α)) (a : Nat) (h : risingFrom lo l = true) :
    risingFrom lo (sparseErase a l) = true := by
  induction l generalizing lo with
  | nil => rfl
  | cons p l ih =>
    simp only [risingFrom, Bool.and_eq_true, decide_eq_true_eq] at h
    by_cases hp : p.1 = a
    · simp only [sparseErase, hp, if_true]
      exact risingFrom_mono _ (Nat.le_trans h.1 (Nat.le_succ _)) (ih _ h.2)
    · simp only [sparseErase, hp, if_false, risingFrom, Bool.and_eq_true, decide_eq_true_eq]
      exact ⟨h.1, ih _ h.2⟩

theorem risingFrom_insert (lo a : Nat) (v : α) (l : List (Nat × α)) (hlo : lo ≤ a) (hne : ∀ p ∈ l, p.1 ≠ a)
    (h : risingFrom lo l = true) : risingFrom lo (sparseInsert a v l) = true := by
  induction l generalizing lo with
  | nil => simp [sparseInsert, risingFrom, hlo]
  | cons p l ih =>
    simp only [risingFrom, Bool.and_eq_true, decide_eq_true_eq] at h
    by_cases hp : a < p.1
    · simp only [sparseInsert, hp, if_true, risingFrom, Bool.and_eq_true, decide_eq_true_eq]
      exact ⟨hlo, hp, h.2⟩
    · have hpa : p.1 ≠ a := hne p (by simp)
      simp only [sparseInsert, hp, if_false, risingFrom, Bool.and_eq_true, decide_eq_true_eq]
      exact ⟨h.1, ih _ (by omega) (fun q hq => hne q (by simp [hq])) h.2⟩

theorem all_erase (q : Nat × α → Bool) (l : List (Nat × α)) (a : Nat) (h : l.all q = true) :
    (sparseErase a l).all q = true := by
  induction l with
  | nil => rfl
  | cons p l ih =>
    simp only [List.all_cons, Bool.and_eq_true] at h
    by_cases hp : p.1 = a
    · simp only [sparseErase, hp, if_true]; exact ih h.2
    · simp only [sparseErase, hp, if_false, List.all_cons, Bool.and_eq_true]; exact ⟨h.1, ih h.2⟩

theorem all_insert (q : Nat × α → Bool) (l : List (Nat × α)) (a : Nat) (v : α) (hv : q (a, v) = true)
    (h : l.all q = true) : (sparseInsert a v l).all q = true := by
  induction l with
  | nil => simp [sparseInsert, hv]
  | cons p l ih =>
    simp only [List.all_cons, Bool.and_eq_true] at h
    by_cases hp : a < p.1
    · simp only [sparseInsert, hp, if_true, List.all_cons, Bool.and_eq_true]; exact ⟨hv, h⟩
    · simp only [sparseInsert, hp, if_false, List.all_cons, Bool.and_eq_true]; exact ⟨h.1, ih h.2⟩

/-- A write keeps the canonical form. -/
theorem sparseSet_wf [DecidableEq α] (d : Nat → α) (l : List (Nat × α)) (a : Nat) (v : α)
    (h : sparseWf d l = true) : sparseWf d (sparseSet (d a) l a v) = true := by
  simp only [sparseWf, Bool.and_eq_true] at h
  by_cases hv : v = d a
  · simp only [sparseSet, hv, if_true, sparseWf, Bool.and_eq_true]
    exact ⟨risingFrom_erase _ _ _ h.1, all_erase _ _ _ h.2⟩
  · simp only [sparseSet, hv, if_false, sparseWf, Bool.and_eq_true]
    exact ⟨risingFrom_insert _ _ _ _ (Nat.zero_le _) (sparseErase_keys l a) (risingFrom_erase _ _ _ h.1),
      all_insert _ _ _ _ (by simp [hv]) (all_erase _ _ _ h.2)⟩

theorem risingFrom_filter (lo : Nat) (q : Nat × α → Bool) (l : List (Nat × α)) (h : risingFrom lo l = true) :
    risingFrom lo (l.filter q) = true := by
  induction l generalizing lo with
  | nil => rfl
  | cons p l ih =>
    simp only [risingFrom, Bool.and_eq_true, decide_eq_true_eq] at h
    by_cases hp : q p = true
    · simp only [List.filter_cons, hp, if_true, risingFrom, Bool.and_eq_true, decide_eq_true_eq]
      exact ⟨h.1, ih _ h.2⟩
    · simp only [List.filter_cons, hp]
      exact risingFrom_mono _ (Nat.le_trans h.1 (Nat.le_succ _)) (ih _ h.2)

/-- Dropping entries keeps the canonical form. -/
theorem sparseFilter_wf [DecidableEq α] (d : Nat → α) (q : Nat × α → Bool) (l : List (Nat × α))
    (h : sparseWf d l = true) : sparseWf d (l.filter q) = true := by
  simp only [sparseWf, Bool.and_eq_true] at h ⊢
  refine ⟨risingFrom_filter _ _ _ h.1, ?_⟩
  simp only [List.all_eq_true] at h ⊢
  intro p hp
  exact h.2 p (List.mem_filter.mp hp).1

end Sys2Proof.Machine
end

