-- ==== Sys2Proof/Laws/State.lean ====
section
/-! SUPPORT. One lemma per field and update of the state: what an update leaves, and what it puts in place. -/

namespace Sys2Proof.Machine


@[simp] theorem State.onSys_sys (s : State) (f : Sys → Sys) : (s.onSys f).sys = f s.sys := rfl
@[simp] theorem State.onSys_pending (s : State) (f : Sys → Sys) : (s.onSys f).pending = s.pending := rfl
@[simp] theorem State.onDev_dev (s : State) (f : Device → Device) : (s.onDev f).sys.dev = f s.sys.dev := rfl
@[simp] theorem State.onDev_nv (s : State) (f : Device → Device) : (s.onDev f).sys.nv = s.sys.nv := rfl
@[simp] theorem State.onDev_pending (s : State) (f : Device → Device) : (s.onDev f).pending = s.pending := rfl
@[simp] theorem Sys.onDev_dev (y : Sys) (f : Device → Device) : (y.onDev f).dev = f y.dev := rfl
@[simp] theorem Sys.onDev_nv (y : Sys) (f : Device → Device) : (y.onDev f).nv = y.nv := rfl


@[simp] theorem Device.setReg_regs (d : Device) (a : Nat) (v : BitVec 32) : (d.setReg a v).regs = sparseSet (regReset a) d.regs a v := rfl
@[simp] theorem Device.setReg_mem (d : Device) (a : Nat) (v : BitVec 32) : (d.setReg a v).mem = d.mem := rfl
@[simp] theorem Device.setReg_poison (d : Device) (a : Nat) (v : BitVec 32) : (d.setReg a v).poison = d.poison := rfl
@[simp] theorem Device.setReg_lost (d : Device) (a : Nat) (v : BitVec 32) : (d.setReg a v).lost = d.lost := rfl
@[simp] theorem Device.setReg_engs (d : Device) (a : Nat) (v : BitVec 32) : (d.setReg a v).engs = d.engs := rfl
@[simp] theorem Device.setReg_sec (d : Device) (a : Nat) (v : BitVec 32) : (d.setReg a v).sec = d.sec := rfl
@[simp] theorem Device.setReg_cores (d : Device) (a : Nat) (v : BitVec 32) : (d.setReg a v).cores = d.cores := rfl
@[simp] theorem Device.setReg_pru (d : Device) (a : Nat) (v : BitVec 32) : (d.setReg a v).pru = d.pru := rfl
@[simp] theorem Device.setReg_mcs (d : Device) (a : Nat) (v : BitVec 32) : (d.setReg a v).mcs = d.mcs := rfl
@[simp] theorem Device.setReg_landed (d : Device) (a : Nat) (v : BitVec 32) : (d.setReg a v).landed = d.landed := rfl
@[simp] theorem Device.setReg_seqs (d : Device) (a : Nat) (v : BitVec 32) : (d.setReg a v).seqs = d.seqs := rfl
@[simp] theorem Device.setReg_links (d : Device) (a : Nat) (v : BitVec 32) : (d.setReg a v).links = d.links := rfl
@[simp] theorem Device.setReg_wits (d : Device) (a : Nat) (v : BitVec 32) : (d.setReg a v).wits = d.wits := rfl
@[simp] theorem Device.setReg_gcs (d : Device) (a : Nat) (v : BitVec 32) : (d.setReg a v).gcs = d.gcs := rfl
@[simp] theorem Device.setReg_gdone (d : Device) (a : Nat) (v : BitVec 32) : (d.setReg a v).gdone = d.gdone := rfl
@[simp] theorem Device.setReg_arbLast (d : Device) (a : Nat) (v : BitVec 32) : (d.setReg a v).arbLast = d.arbLast := rfl
@[simp] theorem Device.setReg_stns (d : Device) (a : Nat) (v : BitVec 32) : (d.setReg a v).stns = d.stns := rfl
@[simp] theorem Device.setReg_fs (d : Device) (a : Nat) (v : BitVec 32) : (d.setReg a v).fs = d.fs := rfl
@[simp] theorem Device.setReg_hostLanes (d : Device) (a : Nat) (v : BitVec 32) : (d.setReg a v).hostLanes = d.hostLanes := rfl
@[simp] theorem Device.setReg_golds (d : Device) (a : Nat) (v : BitVec 32) : (d.setReg a v).golds = d.golds := rfl
@[simp] theorem Device.setReg_shadow (d : Device) (a : Nat) (v : BitVec 32) : (d.setReg a v).shadow = d.shadow := rfl
@[simp] theorem Device.setReg_twin (d : Device) (a : Nat) (v : BitVec 32) : (d.setReg a v).twin = d.twin := rfl
@[simp] theorem Device.setReg_cool (d : Device) (a : Nat) (v : BitVec 32) : (d.setReg a v).cool = d.cool := rfl
@[simp] theorem Device.setReg_buses (d : Device) (a : Nat) (v : BitVec 32) : (d.setReg a v).buses = d.buses := rfl
@[simp] theorem Device.setReg_clock (d : Device) (a : Nat) (v : BitVec 32) : (d.setReg a v).clock = d.clock := rfl
@[simp] theorem Device.setReg_ft (d : Device) (a : Nat) (v : BitVec 32) : (d.setReg a v).ft = d.ft := rfl
@[simp] theorem Device.setReg_tray (d : Device) (a : Nat) (v : BitVec 32) : (d.setReg a v).tray = d.tray := rfl
@[simp] theorem Device.setReg_pins (d : Device) (a : Nat) (v : BitVec 32) : (d.setReg a v).pins = d.pins := rfl
@[simp] theorem Device.setReg_boot (d : Device) (a : Nat) (v : BitVec 32) : (d.setReg a v).boot = d.boot := rfl
@[simp] theorem Device.setReg_goldNext (d : Device) (a : Nat) (v : BitVec 32) : (d.setReg a v).goldNext = d.goldNext := rfl
@[simp] theorem Device.setReg_restart (d : Device) (a : Nat) (v : BitVec 32) : (d.setReg a v).restart = d.restart := rfl
@[simp] theorem Device.setReg_fwTimes (d : Device) (a : Nat) (v : BitVec 32) : (d.setReg a v).fwTimes = d.fwTimes := rfl
@[simp] theorem Device.setReg_txRecs (d : Device) (a : Nat) (v : BitVec 32) : (d.setReg a v).txRecs = d.txRecs := rfl
@[simp] theorem Device.setReg_eth (d : Device) (a : Nat) (v : BitVec 32) : (d.setReg a v).eth = d.eth := rfl
@[simp] theorem Device.setReg_ledgers (d : Device) (a : Nat) (v : BitVec 32) : (d.setReg a v).ledgers = d.ledgers := rfl
@[simp] theorem Device.setReg_loHeld (d : Device) (a : Nat) (v : BitVec 32) : (d.setReg a v).loHeld = d.loHeld := rfl
@[simp] theorem Device.setReg_hiCaptured (d : Device) (a : Nat) (v : BitVec 32) : (d.setReg a v).hiCaptured = d.hiCaptured := rfl
@[simp] theorem Device.setReg_freeCtr (d : Device) (a : Nat) (v : BitVec 32) : (d.setReg a v).freeCtr = d.freeCtr := rfl

@[simp] theorem Device.setFld_mem (d : Device) (a : Nat) (f : Fld) (x : Nat) : (d.setFld a f x).mem = d.mem := rfl
@[simp] theorem Device.setFld_poison (d : Device) (a : Nat) (f : Fld) (x : Nat) : (d.setFld a f x).poison = d.poison := rfl
@[simp] theorem Device.setFld_lost (d : Device) (a : Nat) (f : Fld) (x : Nat) : (d.setFld a f x).lost = d.lost := rfl
@[simp] theorem Device.setFld_engs (d : Device) (a : Nat) (f : Fld) (x : Nat) : (d.setFld a f x).engs = d.engs := rfl
@[simp] theorem Device.setFld_sec (d : Device) (a : Nat) (f : Fld) (x : Nat) : (d.setFld a f x).sec = d.sec := rfl
@[simp] theorem Device.setFld_cores (d : Device) (a : Nat) (f : Fld) (x : Nat) : (d.setFld a f x).cores = d.cores := rfl
@[simp] theorem Device.setFld_pru (d : Device) (a : Nat) (f : Fld) (x : Nat) : (d.setFld a f x).pru = d.pru := rfl
@[simp] theorem Device.setFld_mcs (d : Device) (a : Nat) (f : Fld) (x : Nat) : (d.setFld a f x).mcs = d.mcs := rfl
@[simp] theorem Device.setFld_landed (d : Device) (a : Nat) (f : Fld) (x : Nat) : (d.setFld a f x).landed = d.landed := rfl
@[simp] theorem Device.setFld_seqs (d : Device) (a : Nat) (f : Fld) (x : Nat) : (d.setFld a f x).seqs = d.seqs := rfl
@[simp] theorem Device.setFld_links (d : Device) (a : Nat) (f : Fld) (x : Nat) : (d.setFld a f x).links = d.links := rfl
@[simp] theorem Device.setFld_wits (d : Device) (a : Nat) (f : Fld) (x : Nat) : (d.setFld a f x).wits = d.wits := rfl
@[simp] theorem Device.setFld_gcs (d : Device) (a : Nat) (f : Fld) (x : Nat) : (d.setFld a f x).gcs = d.gcs := rfl
@[simp] theorem Device.setFld_gdone (d : Device) (a : Nat) (f : Fld) (x : Nat) : (d.setFld a f x).gdone = d.gdone := rfl
@[simp] theorem Device.setFld_arbLast (d : Device) (a : Nat) (f : Fld) (x : Nat) : (d.setFld a f x).arbLast = d.arbLast := rfl
@[simp] theorem Device.setFld_stns (d : Device) (a : Nat) (f : Fld) (x : Nat) : (d.setFld a f x).stns = d.stns := rfl
@[simp] theorem Device.setFld_fs (d : Device) (a : Nat) (f : Fld) (x : Nat) : (d.setFld a f x).fs = d.fs := rfl
@[simp] theorem Device.setFld_hostLanes (d : Device) (a : Nat) (f : Fld) (x : Nat) : (d.setFld a f x).hostLanes = d.hostLanes := rfl
@[simp] theorem Device.setFld_golds (d : Device) (a : Nat) (f : Fld) (x : Nat) : (d.setFld a f x).golds = d.golds := rfl
@[simp] theorem Device.setFld_shadow (d : Device) (a : Nat) (f : Fld) (x : Nat) : (d.setFld a f x).shadow = d.shadow := rfl
@[simp] theorem Device.setFld_twin (d : Device) (a : Nat) (f : Fld) (x : Nat) : (d.setFld a f x).twin = d.twin := rfl
@[simp] theorem Device.setFld_cool (d : Device) (a : Nat) (f : Fld) (x : Nat) : (d.setFld a f x).cool = d.cool := rfl
@[simp] theorem Device.setFld_buses (d : Device) (a : Nat) (f : Fld) (x : Nat) : (d.setFld a f x).buses = d.buses := rfl
@[simp] theorem Device.setFld_clock (d : Device) (a : Nat) (f : Fld) (x : Nat) : (d.setFld a f x).clock = d.clock := rfl
@[simp] theorem Device.setFld_ft (d : Device) (a : Nat) (f : Fld) (x : Nat) : (d.setFld a f x).ft = d.ft := rfl
@[simp] theorem Device.setFld_tray (d : Device) (a : Nat) (f : Fld) (x : Nat) : (d.setFld a f x).tray = d.tray := rfl
@[simp] theorem Device.setFld_pins (d : Device) (a : Nat) (f : Fld) (x : Nat) : (d.setFld a f x).pins = d.pins := rfl
@[simp] theorem Device.setFld_boot (d : Device) (a : Nat) (f : Fld) (x : Nat) : (d.setFld a f x).boot = d.boot := rfl
@[simp] theorem Device.setFld_goldNext (d : Device) (a : Nat) (f : Fld) (x : Nat) : (d.setFld a f x).goldNext = d.goldNext := rfl
@[simp] theorem Device.setFld_restart (d : Device) (a : Nat) (f : Fld) (x : Nat) : (d.setFld a f x).restart = d.restart := rfl
@[simp] theorem Device.setFld_fwTimes (d : Device) (a : Nat) (f : Fld) (x : Nat) : (d.setFld a f x).fwTimes = d.fwTimes := rfl
@[simp] theorem Device.setFld_txRecs (d : Device) (a : Nat) (f : Fld) (x : Nat) : (d.setFld a f x).txRecs = d.txRecs := rfl
@[simp] theorem Device.setFld_eth (d : Device) (a : Nat) (f : Fld) (x : Nat) : (d.setFld a f x).eth = d.eth := rfl
@[simp] theorem Device.setFld_ledgers (d : Device) (a : Nat) (f : Fld) (x : Nat) : (d.setFld a f x).ledgers = d.ledgers := rfl
@[simp] theorem Device.setFld_loHeld (d : Device) (a : Nat) (f : Fld) (x : Nat) : (d.setFld a f x).loHeld = d.loHeld := rfl
@[simp] theorem Device.setFld_hiCaptured (d : Device) (a : Nat) (f : Fld) (x : Nat) : (d.setFld a f x).hiCaptured = d.hiCaptured := rfl
@[simp] theorem Device.setFld_freeCtr (d : Device) (a : Nat) (f : Fld) (x : Nat) : (d.setFld a f x).freeCtr = d.freeCtr := rfl

@[simp] theorem Device.on_mem (d : Device) (a : Nat) (f : Fld) : (d.on a f).mem = d.mem := rfl
@[simp] theorem Device.on_poison (d : Device) (a : Nat) (f : Fld) : (d.on a f).poison = d.poison := rfl
@[simp] theorem Device.on_lost (d : Device) (a : Nat) (f : Fld) : (d.on a f).lost = d.lost := rfl
@[simp] theorem Device.on_engs (d : Device) (a : Nat) (f : Fld) : (d.on a f).engs = d.engs := rfl
@[simp] theorem Device.on_sec (d : Device) (a : Nat) (f : Fld) : (d.on a f).sec = d.sec := rfl
@[simp] theorem Device.on_cores (d : Device) (a : Nat) (f : Fld) : (d.on a f).cores = d.cores := rfl
@[simp] theorem Device.on_pru (d : Device) (a : Nat) (f : Fld) : (d.on a f).pru = d.pru := rfl
@[simp] theorem Device.on_mcs (d : Device) (a : Nat) (f : Fld) : (d.on a f).mcs = d.mcs := rfl
@[simp] theorem Device.on_landed (d : Device) (a : Nat) (f : Fld) : (d.on a f).landed = d.landed := rfl
@[simp] theorem Device.on_seqs (d : Device) (a : Nat) (f : Fld) : (d.on a f).seqs = d.seqs := rfl
@[simp] theorem Device.on_links (d : Device) (a : Nat) (f : Fld) : (d.on a f).links = d.links := rfl
@[simp] theorem Device.on_wits (d : Device) (a : Nat) (f : Fld) : (d.on a f).wits = d.wits := rfl
@[simp] theorem Device.on_gcs (d : Device) (a : Nat) (f : Fld) : (d.on a f).gcs = d.gcs := rfl
@[simp] theorem Device.on_gdone (d : Device) (a : Nat) (f : Fld) : (d.on a f).gdone = d.gdone := rfl
@[simp] theorem Device.on_arbLast (d : Device) (a : Nat) (f : Fld) : (d.on a f).arbLast = d.arbLast := rfl
@[simp] theorem Device.on_stns (d : Device) (a : Nat) (f : Fld) : (d.on a f).stns = d.stns := rfl
@[simp] theorem Device.on_fs (d : Device) (a : Nat) (f : Fld) : (d.on a f).fs = d.fs := rfl
@[simp] theorem Device.on_hostLanes (d : Device) (a : Nat) (f : Fld) : (d.on a f).hostLanes = d.hostLanes := rfl
@[simp] theorem Device.on_golds (d : Device) (a : Nat) (f : Fld) : (d.on a f).golds = d.golds := rfl
@[simp] theorem Device.on_shadow (d : Device) (a : Nat) (f : Fld) : (d.on a f).shadow = d.shadow := rfl
@[simp] theorem Device.on_twin (d : Device) (a : Nat) (f : Fld) : (d.on a f).twin = d.twin := rfl
@[simp] theorem Device.on_cool (d : Device) (a : Nat) (f : Fld) : (d.on a f).cool = d.cool := rfl
@[simp] theorem Device.on_buses (d : Device) (a : Nat) (f : Fld) : (d.on a f).buses = d.buses := rfl
@[simp] theorem Device.on_clock (d : Device) (a : Nat) (f : Fld) : (d.on a f).clock = d.clock := rfl
@[simp] theorem Device.on_ft (d : Device) (a : Nat) (f : Fld) : (d.on a f).ft = d.ft := rfl
@[simp] theorem Device.on_tray (d : Device) (a : Nat) (f : Fld) : (d.on a f).tray = d.tray := rfl
@[simp] theorem Device.on_pins (d : Device) (a : Nat) (f : Fld) : (d.on a f).pins = d.pins := rfl
@[simp] theorem Device.on_boot (d : Device) (a : Nat) (f : Fld) : (d.on a f).boot = d.boot := rfl
@[simp] theorem Device.on_goldNext (d : Device) (a : Nat) (f : Fld) : (d.on a f).goldNext = d.goldNext := rfl
@[simp] theorem Device.on_restart (d : Device) (a : Nat) (f : Fld) : (d.on a f).restart = d.restart := rfl
@[simp] theorem Device.on_fwTimes (d : Device) (a : Nat) (f : Fld) : (d.on a f).fwTimes = d.fwTimes := rfl
@[simp] theorem Device.on_txRecs (d : Device) (a : Nat) (f : Fld) : (d.on a f).txRecs = d.txRecs := rfl
@[simp] theorem Device.on_eth (d : Device) (a : Nat) (f : Fld) : (d.on a f).eth = d.eth := rfl
@[simp] theorem Device.on_ledgers (d : Device) (a : Nat) (f : Fld) : (d.on a f).ledgers = d.ledgers := rfl
@[simp] theorem Device.on_loHeld (d : Device) (a : Nat) (f : Fld) : (d.on a f).loHeld = d.loHeld := rfl
@[simp] theorem Device.on_hiCaptured (d : Device) (a : Nat) (f : Fld) : (d.on a f).hiCaptured = d.hiCaptured := rfl
@[simp] theorem Device.on_freeCtr (d : Device) (a : Nat) (f : Fld) : (d.on a f).freeCtr = d.freeCtr := rfl

@[simp] theorem Device.off_mem (d : Device) (a : Nat) (f : Fld) : (d.off a f).mem = d.mem := rfl
@[simp] theorem Device.off_poison (d : Device) (a : Nat) (f : Fld) : (d.off a f).poison = d.poison := rfl
@[simp] theorem Device.off_lost (d : Device) (a : Nat) (f : Fld) : (d.off a f).lost = d.lost := rfl
@[simp] theorem Device.off_engs (d : Device) (a : Nat) (f : Fld) : (d.off a f).engs = d.engs := rfl
@[simp] theorem Device.off_sec (d : Device) (a : Nat) (f : Fld) : (d.off a f).sec = d.sec := rfl
@[simp] theorem Device.off_cores (d : Device) (a : Nat) (f : Fld) : (d.off a f).cores = d.cores := rfl
@[simp] theorem Device.off_pru (d : Device) (a : Nat) (f : Fld) : (d.off a f).pru = d.pru := rfl
@[simp] theorem Device.off_mcs (d : Device) (a : Nat) (f : Fld) : (d.off a f).mcs = d.mcs := rfl
@[simp] theorem Device.off_landed (d : Device) (a : Nat) (f : Fld) : (d.off a f).landed = d.landed := rfl
@[simp] theorem Device.off_seqs (d : Device) (a : Nat) (f : Fld) : (d.off a f).seqs = d.seqs := rfl
@[simp] theorem Device.off_links (d : Device) (a : Nat) (f : Fld) : (d.off a f).links = d.links := rfl
@[simp] theorem Device.off_wits (d : Device) (a : Nat) (f : Fld) : (d.off a f).wits = d.wits := rfl
@[simp] theorem Device.off_gcs (d : Device) (a : Nat) (f : Fld) : (d.off a f).gcs = d.gcs := rfl
@[simp] theorem Device.off_gdone (d : Device) (a : Nat) (f : Fld) : (d.off a f).gdone = d.gdone := rfl
@[simp] theorem Device.off_arbLast (d : Device) (a : Nat) (f : Fld) : (d.off a f).arbLast = d.arbLast := rfl
@[simp] theorem Device.off_stns (d : Device) (a : Nat) (f : Fld) : (d.off a f).stns = d.stns := rfl
@[simp] theorem Device.off_fs (d : Device) (a : Nat) (f : Fld) : (d.off a f).fs = d.fs := rfl
@[simp] theorem Device.off_hostLanes (d : Device) (a : Nat) (f : Fld) : (d.off a f).hostLanes = d.hostLanes := rfl
@[simp] theorem Device.off_golds (d : Device) (a : Nat) (f : Fld) : (d.off a f).golds = d.golds := rfl
@[simp] theorem Device.off_shadow (d : Device) (a : Nat) (f : Fld) : (d.off a f).shadow = d.shadow := rfl
@[simp] theorem Device.off_twin (d : Device) (a : Nat) (f : Fld) : (d.off a f).twin = d.twin := rfl
@[simp] theorem Device.off_cool (d : Device) (a : Nat) (f : Fld) : (d.off a f).cool = d.cool := rfl
@[simp] theorem Device.off_buses (d : Device) (a : Nat) (f : Fld) : (d.off a f).buses = d.buses := rfl
@[simp] theorem Device.off_clock (d : Device) (a : Nat) (f : Fld) : (d.off a f).clock = d.clock := rfl
@[simp] theorem Device.off_ft (d : Device) (a : Nat) (f : Fld) : (d.off a f).ft = d.ft := rfl
@[simp] theorem Device.off_tray (d : Device) (a : Nat) (f : Fld) : (d.off a f).tray = d.tray := rfl
@[simp] theorem Device.off_pins (d : Device) (a : Nat) (f : Fld) : (d.off a f).pins = d.pins := rfl
@[simp] theorem Device.off_boot (d : Device) (a : Nat) (f : Fld) : (d.off a f).boot = d.boot := rfl
@[simp] theorem Device.off_goldNext (d : Device) (a : Nat) (f : Fld) : (d.off a f).goldNext = d.goldNext := rfl
@[simp] theorem Device.off_restart (d : Device) (a : Nat) (f : Fld) : (d.off a f).restart = d.restart := rfl
@[simp] theorem Device.off_fwTimes (d : Device) (a : Nat) (f : Fld) : (d.off a f).fwTimes = d.fwTimes := rfl
@[simp] theorem Device.off_txRecs (d : Device) (a : Nat) (f : Fld) : (d.off a f).txRecs = d.txRecs := rfl
@[simp] theorem Device.off_eth (d : Device) (a : Nat) (f : Fld) : (d.off a f).eth = d.eth := rfl
@[simp] theorem Device.off_ledgers (d : Device) (a : Nat) (f : Fld) : (d.off a f).ledgers = d.ledgers := rfl
@[simp] theorem Device.off_loHeld (d : Device) (a : Nat) (f : Fld) : (d.off a f).loHeld = d.loHeld := rfl
@[simp] theorem Device.off_hiCaptured (d : Device) (a : Nat) (f : Fld) : (d.off a f).hiCaptured = d.hiCaptured := rfl
@[simp] theorem Device.off_freeCtr (d : Device) (a : Nat) (f : Fld) : (d.off a f).freeCtr = d.freeCtr := rfl

@[simp] theorem Device.count_mem (d : Device) (a : Nat) (f : Fld) (n : Nat) : (d.count a f n).mem = d.mem := rfl
@[simp] theorem Device.count_poison (d : Device) (a : Nat) (f : Fld) (n : Nat) : (d.count a f n).poison = d.poison := rfl
@[simp] theorem Device.count_lost (d : Device) (a : Nat) (f : Fld) (n : Nat) : (d.count a f n).lost = d.lost := rfl
@[simp] theorem Device.count_engs (d : Device) (a : Nat) (f : Fld) (n : Nat) : (d.count a f n).engs = d.engs := rfl
@[simp] theorem Device.count_sec (d : Device) (a : Nat) (f : Fld) (n : Nat) : (d.count a f n).sec = d.sec := rfl
@[simp] theorem Device.count_cores (d : Device) (a : Nat) (f : Fld) (n : Nat) : (d.count a f n).cores = d.cores := rfl
@[simp] theorem Device.count_pru (d : Device) (a : Nat) (f : Fld) (n : Nat) : (d.count a f n).pru = d.pru := rfl
@[simp] theorem Device.count_mcs (d : Device) (a : Nat) (f : Fld) (n : Nat) : (d.count a f n).mcs = d.mcs := rfl
@[simp] theorem Device.count_landed (d : Device) (a : Nat) (f : Fld) (n : Nat) : (d.count a f n).landed = d.landed := rfl
@[simp] theorem Device.count_seqs (d : Device) (a : Nat) (f : Fld) (n : Nat) : (d.count a f n).seqs = d.seqs := rfl
@[simp] theorem Device.count_links (d : Device) (a : Nat) (f : Fld) (n : Nat) : (d.count a f n).links = d.links := rfl
@[simp] theorem Device.count_wits (d : Device) (a : Nat) (f : Fld) (n : Nat) : (d.count a f n).wits = d.wits := rfl
@[simp] theorem Device.count_gcs (d : Device) (a : Nat) (f : Fld) (n : Nat) : (d.count a f n).gcs = d.gcs := rfl
@[simp] theorem Device.count_gdone (d : Device) (a : Nat) (f : Fld) (n : Nat) : (d.count a f n).gdone = d.gdone := rfl
@[simp] theorem Device.count_arbLast (d : Device) (a : Nat) (f : Fld) (n : Nat) : (d.count a f n).arbLast = d.arbLast := rfl
@[simp] theorem Device.count_stns (d : Device) (a : Nat) (f : Fld) (n : Nat) : (d.count a f n).stns = d.stns := rfl
@[simp] theorem Device.count_fs (d : Device) (a : Nat) (f : Fld) (n : Nat) : (d.count a f n).fs = d.fs := rfl
@[simp] theorem Device.count_hostLanes (d : Device) (a : Nat) (f : Fld) (n : Nat) : (d.count a f n).hostLanes = d.hostLanes := rfl
@[simp] theorem Device.count_golds (d : Device) (a : Nat) (f : Fld) (n : Nat) : (d.count a f n).golds = d.golds := rfl
@[simp] theorem Device.count_shadow (d : Device) (a : Nat) (f : Fld) (n : Nat) : (d.count a f n).shadow = d.shadow := rfl
@[simp] theorem Device.count_twin (d : Device) (a : Nat) (f : Fld) (n : Nat) : (d.count a f n).twin = d.twin := rfl
@[simp] theorem Device.count_cool (d : Device) (a : Nat) (f : Fld) (n : Nat) : (d.count a f n).cool = d.cool := rfl
@[simp] theorem Device.count_buses (d : Device) (a : Nat) (f : Fld) (n : Nat) : (d.count a f n).buses = d.buses := rfl
@[simp] theorem Device.count_clock (d : Device) (a : Nat) (f : Fld) (n : Nat) : (d.count a f n).clock = d.clock := rfl
@[simp] theorem Device.count_ft (d : Device) (a : Nat) (f : Fld) (n : Nat) : (d.count a f n).ft = d.ft := rfl
@[simp] theorem Device.count_tray (d : Device) (a : Nat) (f : Fld) (n : Nat) : (d.count a f n).tray = d.tray := rfl
@[simp] theorem Device.count_pins (d : Device) (a : Nat) (f : Fld) (n : Nat) : (d.count a f n).pins = d.pins := rfl
@[simp] theorem Device.count_boot (d : Device) (a : Nat) (f : Fld) (n : Nat) : (d.count a f n).boot = d.boot := rfl
@[simp] theorem Device.count_goldNext (d : Device) (a : Nat) (f : Fld) (n : Nat) : (d.count a f n).goldNext = d.goldNext := rfl
@[simp] theorem Device.count_restart (d : Device) (a : Nat) (f : Fld) (n : Nat) : (d.count a f n).restart = d.restart := rfl
@[simp] theorem Device.count_fwTimes (d : Device) (a : Nat) (f : Fld) (n : Nat) : (d.count a f n).fwTimes = d.fwTimes := rfl
@[simp] theorem Device.count_txRecs (d : Device) (a : Nat) (f : Fld) (n : Nat) : (d.count a f n).txRecs = d.txRecs := rfl
@[simp] theorem Device.count_eth (d : Device) (a : Nat) (f : Fld) (n : Nat) : (d.count a f n).eth = d.eth := rfl
@[simp] theorem Device.count_ledgers (d : Device) (a : Nat) (f : Fld) (n : Nat) : (d.count a f n).ledgers = d.ledgers := rfl
@[simp] theorem Device.count_loHeld (d : Device) (a : Nat) (f : Fld) (n : Nat) : (d.count a f n).loHeld = d.loHeld := rfl
@[simp] theorem Device.count_hiCaptured (d : Device) (a : Nat) (f : Fld) (n : Nat) : (d.count a f n).hiCaptured = d.hiCaptured := rfl
@[simp] theorem Device.count_freeCtr (d : Device) (a : Nat) (f : Fld) (n : Nat) : (d.count a f n).freeCtr = d.freeCtr := rfl

@[simp] theorem Device.setMaskBit_mem (d : Device) (a : Nat) (f : Fld) (i : Nat) (b : Bool) : (d.setMaskBit a f i b).mem = d.mem := rfl
@[simp] theorem Device.setMaskBit_poison (d : Device) (a : Nat) (f : Fld) (i : Nat) (b : Bool) : (d.setMaskBit a f i b).poison = d.poison := rfl
@[simp] theorem Device.setMaskBit_lost (d : Device) (a : Nat) (f : Fld) (i : Nat) (b : Bool) : (d.setMaskBit a f i b).lost = d.lost := rfl
@[simp] theorem Device.setMaskBit_engs (d : Device) (a : Nat) (f : Fld) (i : Nat) (b : Bool) : (d.setMaskBit a f i b).engs = d.engs := rfl
@[simp] theorem Device.setMaskBit_sec (d : Device) (a : Nat) (f : Fld) (i : Nat) (b : Bool) : (d.setMaskBit a f i b).sec = d.sec := rfl
@[simp] theorem Device.setMaskBit_cores (d : Device) (a : Nat) (f : Fld) (i : Nat) (b : Bool) : (d.setMaskBit a f i b).cores = d.cores := rfl
@[simp] theorem Device.setMaskBit_pru (d : Device) (a : Nat) (f : Fld) (i : Nat) (b : Bool) : (d.setMaskBit a f i b).pru = d.pru := rfl
@[simp] theorem Device.setMaskBit_mcs (d : Device) (a : Nat) (f : Fld) (i : Nat) (b : Bool) : (d.setMaskBit a f i b).mcs = d.mcs := rfl
@[simp] theorem Device.setMaskBit_landed (d : Device) (a : Nat) (f : Fld) (i : Nat) (b : Bool) : (d.setMaskBit a f i b).landed = d.landed := rfl
@[simp] theorem Device.setMaskBit_seqs (d : Device) (a : Nat) (f : Fld) (i : Nat) (b : Bool) : (d.setMaskBit a f i b).seqs = d.seqs := rfl
@[simp] theorem Device.setMaskBit_links (d : Device) (a : Nat) (f : Fld) (i : Nat) (b : Bool) : (d.setMaskBit a f i b).links = d.links := rfl
@[simp] theorem Device.setMaskBit_wits (d : Device) (a : Nat) (f : Fld) (i : Nat) (b : Bool) : (d.setMaskBit a f i b).wits = d.wits := rfl
@[simp] theorem Device.setMaskBit_gcs (d : Device) (a : Nat) (f : Fld) (i : Nat) (b : Bool) : (d.setMaskBit a f i b).gcs = d.gcs := rfl
@[simp] theorem Device.setMaskBit_gdone (d : Device) (a : Nat) (f : Fld) (i : Nat) (b : Bool) : (d.setMaskBit a f i b).gdone = d.gdone := rfl
@[simp] theorem Device.setMaskBit_arbLast (d : Device) (a : Nat) (f : Fld) (i : Nat) (b : Bool) : (d.setMaskBit a f i b).arbLast = d.arbLast := rfl
@[simp] theorem Device.setMaskBit_stns (d : Device) (a : Nat) (f : Fld) (i : Nat) (b : Bool) : (d.setMaskBit a f i b).stns = d.stns := rfl
@[simp] theorem Device.setMaskBit_fs (d : Device) (a : Nat) (f : Fld) (i : Nat) (b : Bool) : (d.setMaskBit a f i b).fs = d.fs := rfl
@[simp] theorem Device.setMaskBit_hostLanes (d : Device) (a : Nat) (f : Fld) (i : Nat) (b : Bool) : (d.setMaskBit a f i b).hostLanes = d.hostLanes := rfl
@[simp] theorem Device.setMaskBit_golds (d : Device) (a : Nat) (f : Fld) (i : Nat) (b : Bool) : (d.setMaskBit a f i b).golds = d.golds := rfl
@[simp] theorem Device.setMaskBit_shadow (d : Device) (a : Nat) (f : Fld) (i : Nat) (b : Bool) : (d.setMaskBit a f i b).shadow = d.shadow := rfl
@[simp] theorem Device.setMaskBit_twin (d : Device) (a : Nat) (f : Fld) (i : Nat) (b : Bool) : (d.setMaskBit a f i b).twin = d.twin := rfl
@[simp] theorem Device.setMaskBit_cool (d : Device) (a : Nat) (f : Fld) (i : Nat) (b : Bool) : (d.setMaskBit a f i b).cool = d.cool := rfl
@[simp] theorem Device.setMaskBit_buses (d : Device) (a : Nat) (f : Fld) (i : Nat) (b : Bool) : (d.setMaskBit a f i b).buses = d.buses := rfl
@[simp] theorem Device.setMaskBit_clock (d : Device) (a : Nat) (f : Fld) (i : Nat) (b : Bool) : (d.setMaskBit a f i b).clock = d.clock := rfl
@[simp] theorem Device.setMaskBit_ft (d : Device) (a : Nat) (f : Fld) (i : Nat) (b : Bool) : (d.setMaskBit a f i b).ft = d.ft := rfl
@[simp] theorem Device.setMaskBit_tray (d : Device) (a : Nat) (f : Fld) (i : Nat) (b : Bool) : (d.setMaskBit a f i b).tray = d.tray := rfl
@[simp] theorem Device.setMaskBit_pins (d : Device) (a : Nat) (f : Fld) (i : Nat) (b : Bool) : (d.setMaskBit a f i b).pins = d.pins := rfl
@[simp] theorem Device.setMaskBit_boot (d : Device) (a : Nat) (f : Fld) (i : Nat) (b : Bool) : (d.setMaskBit a f i b).boot = d.boot := rfl
@[simp] theorem Device.setMaskBit_goldNext (d : Device) (a : Nat) (f : Fld) (i : Nat) (b : Bool) : (d.setMaskBit a f i b).goldNext = d.goldNext := rfl
@[simp] theorem Device.setMaskBit_restart (d : Device) (a : Nat) (f : Fld) (i : Nat) (b : Bool) : (d.setMaskBit a f i b).restart = d.restart := rfl
@[simp] theorem Device.setMaskBit_fwTimes (d : Device) (a : Nat) (f : Fld) (i : Nat) (b : Bool) : (d.setMaskBit a f i b).fwTimes = d.fwTimes := rfl
@[simp] theorem Device.setMaskBit_txRecs (d : Device) (a : Nat) (f : Fld) (i : Nat) (b : Bool) : (d.setMaskBit a f i b).txRecs = d.txRecs := rfl
@[simp] theorem Device.setMaskBit_eth (d : Device) (a : Nat) (f : Fld) (i : Nat) (b : Bool) : (d.setMaskBit a f i b).eth = d.eth := rfl
@[simp] theorem Device.setMaskBit_ledgers (d : Device) (a : Nat) (f : Fld) (i : Nat) (b : Bool) : (d.setMaskBit a f i b).ledgers = d.ledgers := rfl
@[simp] theorem Device.setMaskBit_loHeld (d : Device) (a : Nat) (f : Fld) (i : Nat) (b : Bool) : (d.setMaskBit a f i b).loHeld = d.loHeld := rfl
@[simp] theorem Device.setMaskBit_hiCaptured (d : Device) (a : Nat) (f : Fld) (i : Nat) (b : Bool) : (d.setMaskBit a f i b).hiCaptured = d.hiCaptured := rfl
@[simp] theorem Device.setMaskBit_freeCtr (d : Device) (a : Nat) (f : Fld) (i : Nat) (b : Bool) : (d.setMaskBit a f i b).freeCtr = d.freeCtr := rfl

@[simp] theorem Device.resetRegs_mem (d : Device) (p : Nat → Bool) : (d.resetRegs p).mem = d.mem := rfl
@[simp] theorem Device.resetRegs_poison (d : Device) (p : Nat → Bool) : (d.resetRegs p).poison = d.poison := rfl
@[simp] theorem Device.resetRegs_lost (d : Device) (p : Nat → Bool) : (d.resetRegs p).lost = d.lost := rfl
@[simp] theorem Device.resetRegs_engs (d : Device) (p : Nat → Bool) : (d.resetRegs p).engs = d.engs := rfl
@[simp] theorem Device.resetRegs_sec (d : Device) (p : Nat → Bool) : (d.resetRegs p).sec = d.sec := rfl
@[simp] theorem Device.resetRegs_cores (d : Device) (p : Nat → Bool) : (d.resetRegs p).cores = d.cores := rfl
@[simp] theorem Device.resetRegs_pru (d : Device) (p : Nat → Bool) : (d.resetRegs p).pru = d.pru := rfl
@[simp] theorem Device.resetRegs_mcs (d : Device) (p : Nat → Bool) : (d.resetRegs p).mcs = d.mcs := rfl
@[simp] theorem Device.resetRegs_landed (d : Device) (p : Nat → Bool) : (d.resetRegs p).landed = d.landed := rfl
@[simp] theorem Device.resetRegs_seqs (d : Device) (p : Nat → Bool) : (d.resetRegs p).seqs = d.seqs := rfl
@[simp] theorem Device.resetRegs_links (d : Device) (p : Nat → Bool) : (d.resetRegs p).links = d.links := rfl
@[simp] theorem Device.resetRegs_wits (d : Device) (p : Nat → Bool) : (d.resetRegs p).wits = d.wits := rfl
@[simp] theorem Device.resetRegs_gcs (d : Device) (p : Nat → Bool) : (d.resetRegs p).gcs = d.gcs := rfl
@[simp] theorem Device.resetRegs_gdone (d : Device) (p : Nat → Bool) : (d.resetRegs p).gdone = d.gdone := rfl
@[simp] theorem Device.resetRegs_arbLast (d : Device) (p : Nat → Bool) : (d.resetRegs p).arbLast = d.arbLast := rfl
@[simp] theorem Device.resetRegs_stns (d : Device) (p : Nat → Bool) : (d.resetRegs p).stns = d.stns := rfl
@[simp] theorem Device.resetRegs_fs (d : Device) (p : Nat → Bool) : (d.resetRegs p).fs = d.fs := rfl
@[simp] theorem Device.resetRegs_hostLanes (d : Device) (p : Nat → Bool) : (d.resetRegs p).hostLanes = d.hostLanes := rfl
@[simp] theorem Device.resetRegs_golds (d : Device) (p : Nat → Bool) : (d.resetRegs p).golds = d.golds := rfl
@[simp] theorem Device.resetRegs_shadow (d : Device) (p : Nat → Bool) : (d.resetRegs p).shadow = d.shadow := rfl
@[simp] theorem Device.resetRegs_twin (d : Device) (p : Nat → Bool) : (d.resetRegs p).twin = d.twin := rfl
@[simp] theorem Device.resetRegs_cool (d : Device) (p : Nat → Bool) : (d.resetRegs p).cool = d.cool := rfl
@[simp] theorem Device.resetRegs_buses (d : Device) (p : Nat → Bool) : (d.resetRegs p).buses = d.buses := rfl
@[simp] theorem Device.resetRegs_clock (d : Device) (p : Nat → Bool) : (d.resetRegs p).clock = d.clock := rfl
@[simp] theorem Device.resetRegs_ft (d : Device) (p : Nat → Bool) : (d.resetRegs p).ft = d.ft := rfl
@[simp] theorem Device.resetRegs_tray (d : Device) (p : Nat → Bool) : (d.resetRegs p).tray = d.tray := rfl
@[simp] theorem Device.resetRegs_pins (d : Device) (p : Nat → Bool) : (d.resetRegs p).pins = d.pins := rfl
@[simp] theorem Device.resetRegs_boot (d : Device) (p : Nat → Bool) : (d.resetRegs p).boot = d.boot := rfl
@[simp] theorem Device.resetRegs_goldNext (d : Device) (p : Nat → Bool) : (d.resetRegs p).goldNext = d.goldNext := rfl
@[simp] theorem Device.resetRegs_restart (d : Device) (p : Nat → Bool) : (d.resetRegs p).restart = d.restart := rfl
@[simp] theorem Device.resetRegs_fwTimes (d : Device) (p : Nat → Bool) : (d.resetRegs p).fwTimes = d.fwTimes := rfl
@[simp] theorem Device.resetRegs_txRecs (d : Device) (p : Nat → Bool) : (d.resetRegs p).txRecs = d.txRecs := rfl
@[simp] theorem Device.resetRegs_eth (d : Device) (p : Nat → Bool) : (d.resetRegs p).eth = d.eth := rfl
@[simp] theorem Device.resetRegs_ledgers (d : Device) (p : Nat → Bool) : (d.resetRegs p).ledgers = d.ledgers := rfl
@[simp] theorem Device.resetRegs_freeCtr (d : Device) (p : Nat → Bool) : (d.resetRegs p).freeCtr = d.freeCtr := rfl

@[simp] theorem Device.mark_regs (d : Device) (a : Nat) (p : Bool) : (d.mark a p).regs = d.regs := rfl
@[simp] theorem Device.mark_mem (d : Device) (a : Nat) (p : Bool) : (d.mark a p).mem = d.mem := rfl
@[simp] theorem Device.mark_lost (d : Device) (a : Nat) (p : Bool) : (d.mark a p).lost = d.lost := rfl
@[simp] theorem Device.mark_engs (d : Device) (a : Nat) (p : Bool) : (d.mark a p).engs = d.engs := rfl
@[simp] theorem Device.mark_sec (d : Device) (a : Nat) (p : Bool) : (d.mark a p).sec = d.sec := rfl
@[simp] theorem Device.mark_cores (d : Device) (a : Nat) (p : Bool) : (d.mark a p).cores = d.cores := rfl
@[simp] theorem Device.mark_pru (d : Device) (a : Nat) (p : Bool) : (d.mark a p).pru = d.pru := rfl
@[simp] theorem Device.mark_mcs (d : Device) (a : Nat) (p : Bool) : (d.mark a p).mcs = d.mcs := rfl
@[simp] theorem Device.mark_landed (d : Device) (a : Nat) (p : Bool) : (d.mark a p).landed = d.landed := rfl
@[simp] theorem Device.mark_seqs (d : Device) (a : Nat) (p : Bool) : (d.mark a p).seqs = d.seqs := rfl
@[simp] theorem Device.mark_links (d : Device) (a : Nat) (p : Bool) : (d.mark a p).links = d.links := rfl
@[simp] theorem Device.mark_wits (d : Device) (a : Nat) (p : Bool) : (d.mark a p).wits = d.wits := rfl
@[simp] theorem Device.mark_gcs (d : Device) (a : Nat) (p : Bool) : (d.mark a p).gcs = d.gcs := rfl
@[simp] theorem Device.mark_gdone (d : Device) (a : Nat) (p : Bool) : (d.mark a p).gdone = d.gdone := rfl
@[simp] theorem Device.mark_arbLast (d : Device) (a : Nat) (p : Bool) : (d.mark a p).arbLast = d.arbLast := rfl
@[simp] theorem Device.mark_stns (d : Device) (a : Nat) (p : Bool) : (d.mark a p).stns = d.stns := rfl
@[simp] theorem Device.mark_fs (d : Device) (a : Nat) (p : Bool) : (d.mark a p).fs = d.fs := rfl
@[simp] theorem Device.mark_hostLanes (d : Device) (a : Nat) (p : Bool) : (d.mark a p).hostLanes = d.hostLanes := rfl
@[simp] theorem Device.mark_golds (d : Device) (a : Nat) (p : Bool) : (d.mark a p).golds = d.golds := rfl
@[simp] theorem Device.mark_shadow (d : Device) (a : Nat) (p : Bool) : (d.mark a p).shadow = d.shadow := rfl
@[simp] theorem Device.mark_twin (d : Device) (a : Nat) (p : Bool) : (d.mark a p).twin = d.twin := rfl
@[simp] theorem Device.mark_cool (d : Device) (a : Nat) (p : Bool) : (d.mark a p).cool = d.cool := rfl
@[simp] theorem Device.mark_buses (d : Device) (a : Nat) (p : Bool) : (d.mark a p).buses = d.buses := rfl
@[simp] theorem Device.mark_clock (d : Device) (a : Nat) (p : Bool) : (d.mark a p).clock = d.clock := rfl
@[simp] theorem Device.mark_ft (d : Device) (a : Nat) (p : Bool) : (d.mark a p).ft = d.ft := rfl
@[simp] theorem Device.mark_tray (d : Device) (a : Nat) (p : Bool) : (d.mark a p).tray = d.tray := rfl
@[simp] theorem Device.mark_pins (d : Device) (a : Nat) (p : Bool) : (d.mark a p).pins = d.pins := rfl
@[simp] theorem Device.mark_boot (d : Device) (a : Nat) (p : Bool) : (d.mark a p).boot = d.boot := rfl
@[simp] theorem Device.mark_goldNext (d : Device) (a : Nat) (p : Bool) : (d.mark a p).goldNext = d.goldNext := rfl
@[simp] theorem Device.mark_restart (d : Device) (a : Nat) (p : Bool) : (d.mark a p).restart = d.restart := rfl
@[simp] theorem Device.mark_fwTimes (d : Device) (a : Nat) (p : Bool) : (d.mark a p).fwTimes = d.fwTimes := rfl
@[simp] theorem Device.mark_txRecs (d : Device) (a : Nat) (p : Bool) : (d.mark a p).txRecs = d.txRecs := rfl
@[simp] theorem Device.mark_eth (d : Device) (a : Nat) (p : Bool) : (d.mark a p).eth = d.eth := rfl
@[simp] theorem Device.mark_ledgers (d : Device) (a : Nat) (p : Bool) : (d.mark a p).ledgers = d.ledgers := rfl
@[simp] theorem Device.mark_loHeld (d : Device) (a : Nat) (p : Bool) : (d.mark a p).loHeld = d.loHeld := rfl
@[simp] theorem Device.mark_hiCaptured (d : Device) (a : Nat) (p : Bool) : (d.mark a p).hiCaptured = d.hiCaptured := rfl
@[simp] theorem Device.mark_freeCtr (d : Device) (a : Nat) (p : Bool) : (d.mark a p).freeCtr = d.freeCtr := rfl

@[simp] theorem Device.setEng_regs (d : Device) (e : Eng) (c : ECtx) : (d.setEng e c).regs = d.regs := rfl
@[simp] theorem Device.setEng_mem (d : Device) (e : Eng) (c : ECtx) : (d.setEng e c).mem = d.mem := rfl
@[simp] theorem Device.setEng_poison (d : Device) (e : Eng) (c : ECtx) : (d.setEng e c).poison = d.poison := rfl
@[simp] theorem Device.setEng_lost (d : Device) (e : Eng) (c : ECtx) : (d.setEng e c).lost = d.lost := rfl
@[simp] theorem Device.setEng_engs (d : Device) (e : Eng) (c : ECtx) : (d.setEng e c).engs = vset d.engs e.slot c := rfl
@[simp] theorem Device.setEng_sec (d : Device) (e : Eng) (c : ECtx) : (d.setEng e c).sec = d.sec := rfl
@[simp] theorem Device.setEng_cores (d : Device) (e : Eng) (c : ECtx) : (d.setEng e c).cores = d.cores := rfl
@[simp] theorem Device.setEng_pru (d : Device) (e : Eng) (c : ECtx) : (d.setEng e c).pru = d.pru := rfl
@[simp] theorem Device.setEng_mcs (d : Device) (e : Eng) (c : ECtx) : (d.setEng e c).mcs = d.mcs := rfl
@[simp] theorem Device.setEng_landed (d : Device) (e : Eng) (c : ECtx) : (d.setEng e c).landed = d.landed := rfl
@[simp] theorem Device.setEng_seqs (d : Device) (e : Eng) (c : ECtx) : (d.setEng e c).seqs = d.seqs := rfl
@[simp] theorem Device.setEng_links (d : Device) (e : Eng) (c : ECtx) : (d.setEng e c).links = d.links := rfl
@[simp] theorem Device.setEng_wits (d : Device) (e : Eng) (c : ECtx) : (d.setEng e c).wits = d.wits := rfl
@[simp] theorem Device.setEng_gcs (d : Device) (e : Eng) (c : ECtx) : (d.setEng e c).gcs = d.gcs := rfl
@[simp] theorem Device.setEng_gdone (d : Device) (e : Eng) (c : ECtx) : (d.setEng e c).gdone = d.gdone := rfl
@[simp] theorem Device.setEng_arbLast (d : Device) (e : Eng) (c : ECtx) : (d.setEng e c).arbLast = d.arbLast := rfl
@[simp] theorem Device.setEng_stns (d : Device) (e : Eng) (c : ECtx) : (d.setEng e c).stns = d.stns := rfl
@[simp] theorem Device.setEng_fs (d : Device) (e : Eng) (c : ECtx) : (d.setEng e c).fs = d.fs := rfl
@[simp] theorem Device.setEng_hostLanes (d : Device) (e : Eng) (c : ECtx) : (d.setEng e c).hostLanes = d.hostLanes := rfl
@[simp] theorem Device.setEng_golds (d : Device) (e : Eng) (c : ECtx) : (d.setEng e c).golds = d.golds := rfl
@[simp] theorem Device.setEng_shadow (d : Device) (e : Eng) (c : ECtx) : (d.setEng e c).shadow = d.shadow := rfl
@[simp] theorem Device.setEng_twin (d : Device) (e : Eng) (c : ECtx) : (d.setEng e c).twin = d.twin := rfl
@[simp] theorem Device.setEng_cool (d : Device) (e : Eng) (c : ECtx) : (d.setEng e c).cool = d.cool := rfl
@[simp] theorem Device.setEng_buses (d : Device) (e : Eng) (c : ECtx) : (d.setEng e c).buses = d.buses := rfl
@[simp] theorem Device.setEng_clock (d : Device) (e : Eng) (c : ECtx) : (d.setEng e c).clock = d.clock := rfl
@[simp] theorem Device.setEng_ft (d : Device) (e : Eng) (c : ECtx) : (d.setEng e c).ft = d.ft := rfl
@[simp] theorem Device.setEng_tray (d : Device) (e : Eng) (c : ECtx) : (d.setEng e c).tray = d.tray := rfl
@[simp] theorem Device.setEng_pins (d : Device) (e : Eng) (c : ECtx) : (d.setEng e c).pins = d.pins := rfl
@[simp] theorem Device.setEng_boot (d : Device) (e : Eng) (c : ECtx) : (d.setEng e c).boot = d.boot := rfl
@[simp] theorem Device.setEng_goldNext (d : Device) (e : Eng) (c : ECtx) : (d.setEng e c).goldNext = d.goldNext := rfl
@[simp] theorem Device.setEng_restart (d : Device) (e : Eng) (c : ECtx) : (d.setEng e c).restart = d.restart := rfl
@[simp] theorem Device.setEng_fwTimes (d : Device) (e : Eng) (c : ECtx) : (d.setEng e c).fwTimes = d.fwTimes := rfl
@[simp] theorem Device.setEng_txRecs (d : Device) (e : Eng) (c : ECtx) : (d.setEng e c).txRecs = d.txRecs := rfl
@[simp] theorem Device.setEng_eth (d : Device) (e : Eng) (c : ECtx) : (d.setEng e c).eth = d.eth := rfl
@[simp] theorem Device.setEng_ledgers (d : Device) (e : Eng) (c : ECtx) : (d.setEng e c).ledgers = d.ledgers := rfl
@[simp] theorem Device.setEng_loHeld (d : Device) (e : Eng) (c : ECtx) : (d.setEng e c).loHeld = d.loHeld := rfl
@[simp] theorem Device.setEng_hiCaptured (d : Device) (e : Eng) (c : ECtx) : (d.setEng e c).hiCaptured = d.hiCaptured := rfl
@[simp] theorem Device.setEng_freeCtr (d : Device) (e : Eng) (c : ECtx) : (d.setEng e c).freeCtr = d.freeCtr := rfl

@[simp] theorem Device.setCore_regs (d : Device) (c : Fin 4) (m : MCtx) : (d.setCore c m).regs = d.regs := rfl
@[simp] theorem Device.setCore_mem (d : Device) (c : Fin 4) (m : MCtx) : (d.setCore c m).mem = d.mem := rfl
@[simp] theorem Device.setCore_poison (d : Device) (c : Fin 4) (m : MCtx) : (d.setCore c m).poison = d.poison := rfl
@[simp] theorem Device.setCore_lost (d : Device) (c : Fin 4) (m : MCtx) : (d.setCore c m).lost = d.lost := rfl
@[simp] theorem Device.setCore_engs (d : Device) (c : Fin 4) (m : MCtx) : (d.setCore c m).engs = d.engs := rfl
@[simp] theorem Device.setCore_sec (d : Device) (c : Fin 4) (m : MCtx) : (d.setCore c m).sec = d.sec := rfl
@[simp] theorem Device.setCore_cores (d : Device) (c : Fin 4) (m : MCtx) : (d.setCore c m).cores = vset d.cores c m := rfl
@[simp] theorem Device.setCore_pru (d : Device) (c : Fin 4) (m : MCtx) : (d.setCore c m).pru = d.pru := rfl
@[simp] theorem Device.setCore_mcs (d : Device) (c : Fin 4) (m : MCtx) : (d.setCore c m).mcs = d.mcs := rfl
@[simp] theorem Device.setCore_landed (d : Device) (c : Fin 4) (m : MCtx) : (d.setCore c m).landed = d.landed := rfl
@[simp] theorem Device.setCore_seqs (d : Device) (c : Fin 4) (m : MCtx) : (d.setCore c m).seqs = d.seqs := rfl
@[simp] theorem Device.setCore_links (d : Device) (c : Fin 4) (m : MCtx) : (d.setCore c m).links = d.links := rfl
@[simp] theorem Device.setCore_wits (d : Device) (c : Fin 4) (m : MCtx) : (d.setCore c m).wits = d.wits := rfl
@[simp] theorem Device.setCore_gcs (d : Device) (c : Fin 4) (m : MCtx) : (d.setCore c m).gcs = d.gcs := rfl
@[simp] theorem Device.setCore_gdone (d : Device) (c : Fin 4) (m : MCtx) : (d.setCore c m).gdone = d.gdone := rfl
@[simp] theorem Device.setCore_arbLast (d : Device) (c : Fin 4) (m : MCtx) : (d.setCore c m).arbLast = d.arbLast := rfl
@[simp] theorem Device.setCore_stns (d : Device) (c : Fin 4) (m : MCtx) : (d.setCore c m).stns = d.stns := rfl
@[simp] theorem Device.setCore_fs (d : Device) (c : Fin 4) (m : MCtx) : (d.setCore c m).fs = d.fs := rfl
@[simp] theorem Device.setCore_hostLanes (d : Device) (c : Fin 4) (m : MCtx) : (d.setCore c m).hostLanes = d.hostLanes := rfl
@[simp] theorem Device.setCore_golds (d : Device) (c : Fin 4) (m : MCtx) : (d.setCore c m).golds = d.golds := rfl
@[simp] theorem Device.setCore_shadow (d : Device) (c : Fin 4) (m : MCtx) : (d.setCore c m).shadow = d.shadow := rfl
@[simp] theorem Device.setCore_twin (d : Device) (c : Fin 4) (m : MCtx) : (d.setCore c m).twin = d.twin := rfl
@[simp] theorem Device.setCore_cool (d : Device) (c : Fin 4) (m : MCtx) : (d.setCore c m).cool = d.cool := rfl
@[simp] theorem Device.setCore_buses (d : Device) (c : Fin 4) (m : MCtx) : (d.setCore c m).buses = d.buses := rfl
@[simp] theorem Device.setCore_clock (d : Device) (c : Fin 4) (m : MCtx) : (d.setCore c m).clock = d.clock := rfl
@[simp] theorem Device.setCore_ft (d : Device) (c : Fin 4) (m : MCtx) : (d.setCore c m).ft = d.ft := rfl
@[simp] theorem Device.setCore_tray (d : Device) (c : Fin 4) (m : MCtx) : (d.setCore c m).tray = d.tray := rfl
@[simp] theorem Device.setCore_pins (d : Device) (c : Fin 4) (m : MCtx) : (d.setCore c m).pins = d.pins := rfl
@[simp] theorem Device.setCore_boot (d : Device) (c : Fin 4) (m : MCtx) : (d.setCore c m).boot = d.boot := rfl
@[simp] theorem Device.setCore_goldNext (d : Device) (c : Fin 4) (m : MCtx) : (d.setCore c m).goldNext = d.goldNext := rfl
@[simp] theorem Device.setCore_restart (d : Device) (c : Fin 4) (m : MCtx) : (d.setCore c m).restart = d.restart := rfl
@[simp] theorem Device.setCore_fwTimes (d : Device) (c : Fin 4) (m : MCtx) : (d.setCore c m).fwTimes = d.fwTimes := rfl
@[simp] theorem Device.setCore_txRecs (d : Device) (c : Fin 4) (m : MCtx) : (d.setCore c m).txRecs = d.txRecs := rfl
@[simp] theorem Device.setCore_eth (d : Device) (c : Fin 4) (m : MCtx) : (d.setCore c m).eth = d.eth := rfl
@[simp] theorem Device.setCore_ledgers (d : Device) (c : Fin 4) (m : MCtx) : (d.setCore c m).ledgers = d.ledgers := rfl
@[simp] theorem Device.setCore_loHeld (d : Device) (c : Fin 4) (m : MCtx) : (d.setCore c m).loHeld = d.loHeld := rfl
@[simp] theorem Device.setCore_hiCaptured (d : Device) (c : Fin 4) (m : MCtx) : (d.setCore c m).hiCaptured = d.hiCaptured := rfl
@[simp] theorem Device.setCore_freeCtr (d : Device) (c : Fin 4) (m : MCtx) : (d.setCore c m).freeCtr = d.freeCtr := rfl

@[simp] theorem Device.setBus_regs (d : Device) (m : Fin 12) (c : BusCtx) : (d.setBus m c).regs = d.regs := rfl
@[simp] theorem Device.setBus_mem (d : Device) (m : Fin 12) (c : BusCtx) : (d.setBus m c).mem = d.mem := rfl
@[simp] theorem Device.setBus_poison (d : Device) (m : Fin 12) (c : BusCtx) : (d.setBus m c).poison = d.poison := rfl
@[simp] theorem Device.setBus_lost (d : Device) (m : Fin 12) (c : BusCtx) : (d.setBus m c).lost = d.lost := rfl
@[simp] theorem Device.setBus_engs (d : Device) (m : Fin 12) (c : BusCtx) : (d.setBus m c).engs = d.engs := rfl
@[simp] theorem Device.setBus_sec (d : Device) (m : Fin 12) (c : BusCtx) : (d.setBus m c).sec = d.sec := rfl
@[simp] theorem Device.setBus_cores (d : Device) (m : Fin 12) (c : BusCtx) : (d.setBus m c).cores = d.cores := rfl
@[simp] theorem Device.setBus_pru (d : Device) (m : Fin 12) (c : BusCtx) : (d.setBus m c).pru = d.pru := rfl
@[simp] theorem Device.setBus_mcs (d : Device) (m : Fin 12) (c : BusCtx) : (d.setBus m c).mcs = d.mcs := rfl
@[simp] theorem Device.setBus_landed (d : Device) (m : Fin 12) (c : BusCtx) : (d.setBus m c).landed = d.landed := rfl
@[simp] theorem Device.setBus_seqs (d : Device) (m : Fin 12) (c : BusCtx) : (d.setBus m c).seqs = d.seqs := rfl
@[simp] theorem Device.setBus_links (d : Device) (m : Fin 12) (c : BusCtx) : (d.setBus m c).links = d.links := rfl
@[simp] theorem Device.setBus_wits (d : Device) (m : Fin 12) (c : BusCtx) : (d.setBus m c).wits = d.wits := rfl
@[simp] theorem Device.setBus_gcs (d : Device) (m : Fin 12) (c : BusCtx) : (d.setBus m c).gcs = d.gcs := rfl
@[simp] theorem Device.setBus_gdone (d : Device) (m : Fin 12) (c : BusCtx) : (d.setBus m c).gdone = d.gdone := rfl
@[simp] theorem Device.setBus_arbLast (d : Device) (m : Fin 12) (c : BusCtx) : (d.setBus m c).arbLast = d.arbLast := rfl
@[simp] theorem Device.setBus_stns (d : Device) (m : Fin 12) (c : BusCtx) : (d.setBus m c).stns = d.stns := rfl
@[simp] theorem Device.setBus_fs (d : Device) (m : Fin 12) (c : BusCtx) : (d.setBus m c).fs = d.fs := rfl
@[simp] theorem Device.setBus_hostLanes (d : Device) (m : Fin 12) (c : BusCtx) : (d.setBus m c).hostLanes = d.hostLanes := rfl
@[simp] theorem Device.setBus_golds (d : Device) (m : Fin 12) (c : BusCtx) : (d.setBus m c).golds = d.golds := rfl
@[simp] theorem Device.setBus_shadow (d : Device) (m : Fin 12) (c : BusCtx) : (d.setBus m c).shadow = d.shadow := rfl
@[simp] theorem Device.setBus_twin (d : Device) (m : Fin 12) (c : BusCtx) : (d.setBus m c).twin = d.twin := rfl
@[simp] theorem Device.setBus_cool (d : Device) (m : Fin 12) (c : BusCtx) : (d.setBus m c).cool = d.cool := rfl
@[simp] theorem Device.setBus_buses (d : Device) (m : Fin 12) (c : BusCtx) : (d.setBus m c).buses = vset d.buses m c := rfl
@[simp] theorem Device.setBus_clock (d : Device) (m : Fin 12) (c : BusCtx) : (d.setBus m c).clock = d.clock := rfl
@[simp] theorem Device.setBus_ft (d : Device) (m : Fin 12) (c : BusCtx) : (d.setBus m c).ft = d.ft := rfl
@[simp] theorem Device.setBus_tray (d : Device) (m : Fin 12) (c : BusCtx) : (d.setBus m c).tray = d.tray := rfl
@[simp] theorem Device.setBus_pins (d : Device) (m : Fin 12) (c : BusCtx) : (d.setBus m c).pins = d.pins := rfl
@[simp] theorem Device.setBus_boot (d : Device) (m : Fin 12) (c : BusCtx) : (d.setBus m c).boot = d.boot := rfl
@[simp] theorem Device.setBus_goldNext (d : Device) (m : Fin 12) (c : BusCtx) : (d.setBus m c).goldNext = d.goldNext := rfl
@[simp] theorem Device.setBus_restart (d : Device) (m : Fin 12) (c : BusCtx) : (d.setBus m c).restart = d.restart := rfl
@[simp] theorem Device.setBus_fwTimes (d : Device) (m : Fin 12) (c : BusCtx) : (d.setBus m c).fwTimes = d.fwTimes := rfl
@[simp] theorem Device.setBus_txRecs (d : Device) (m : Fin 12) (c : BusCtx) : (d.setBus m c).txRecs = d.txRecs := rfl
@[simp] theorem Device.setBus_eth (d : Device) (m : Fin 12) (c : BusCtx) : (d.setBus m c).eth = d.eth := rfl
@[simp] theorem Device.setBus_ledgers (d : Device) (m : Fin 12) (c : BusCtx) : (d.setBus m c).ledgers = d.ledgers := rfl
@[simp] theorem Device.setBus_loHeld (d : Device) (m : Fin 12) (c : BusCtx) : (d.setBus m c).loHeld = d.loHeld := rfl
@[simp] theorem Device.setBus_hiCaptured (d : Device) (m : Fin 12) (c : BusCtx) : (d.setBus m c).hiCaptured = d.hiCaptured := rfl
@[simp] theorem Device.setBus_freeCtr (d : Device) (m : Fin 12) (c : BusCtx) : (d.setBus m c).freeCtr = d.freeCtr := rfl

@[simp] theorem Device.onEth_regs (d : Device) (f : EthCtx → EthCtx) : (d.onEth f).regs = d.regs := rfl
@[simp] theorem Device.onEth_mem (d : Device) (f : EthCtx → EthCtx) : (d.onEth f).mem = d.mem := rfl
@[simp] theorem Device.onEth_poison (d : Device) (f : EthCtx → EthCtx) : (d.onEth f).poison = d.poison := rfl
@[simp] theorem Device.onEth_lost (d : Device) (f : EthCtx → EthCtx) : (d.onEth f).lost = d.lost := rfl
@[simp] theorem Device.onEth_engs (d : Device) (f : EthCtx → EthCtx) : (d.onEth f).engs = d.engs := rfl
@[simp] theorem Device.onEth_sec (d : Device) (f : EthCtx → EthCtx) : (d.onEth f).sec = d.sec := rfl
@[simp] theorem Device.onEth_cores (d : Device) (f : EthCtx → EthCtx) : (d.onEth f).cores = d.cores := rfl
@[simp] theorem Device.onEth_pru (d : Device) (f : EthCtx → EthCtx) : (d.onEth f).pru = d.pru := rfl
@[simp] theorem Device.onEth_mcs (d : Device) (f : EthCtx → EthCtx) : (d.onEth f).mcs = d.mcs := rfl
@[simp] theorem Device.onEth_landed (d : Device) (f : EthCtx → EthCtx) : (d.onEth f).landed = d.landed := rfl
@[simp] theorem Device.onEth_seqs (d : Device) (f : EthCtx → EthCtx) : (d.onEth f).seqs = d.seqs := rfl
@[simp] theorem Device.onEth_links (d : Device) (f : EthCtx → EthCtx) : (d.onEth f).links = d.links := rfl
@[simp] theorem Device.onEth_wits (d : Device) (f : EthCtx → EthCtx) : (d.onEth f).wits = d.wits := rfl
@[simp] theorem Device.onEth_gcs (d : Device) (f : EthCtx → EthCtx) : (d.onEth f).gcs = d.gcs := rfl
@[simp] theorem Device.onEth_gdone (d : Device) (f : EthCtx → EthCtx) : (d.onEth f).gdone = d.gdone := rfl
@[simp] theorem Device.onEth_arbLast (d : Device) (f : EthCtx → EthCtx) : (d.onEth f).arbLast = d.arbLast := rfl
@[simp] theorem Device.onEth_stns (d : Device) (f : EthCtx → EthCtx) : (d.onEth f).stns = d.stns := rfl
@[simp] theorem Device.onEth_fs (d : Device) (f : EthCtx → EthCtx) : (d.onEth f).fs = d.fs := rfl
@[simp] theorem Device.onEth_hostLanes (d : Device) (f : EthCtx → EthCtx) : (d.onEth f).hostLanes = d.hostLanes := rfl
@[simp] theorem Device.onEth_golds (d : Device) (f : EthCtx → EthCtx) : (d.onEth f).golds = d.golds := rfl
@[simp] theorem Device.onEth_shadow (d : Device) (f : EthCtx → EthCtx) : (d.onEth f).shadow = d.shadow := rfl
@[simp] theorem Device.onEth_twin (d : Device) (f : EthCtx → EthCtx) : (d.onEth f).twin = d.twin := rfl
@[simp] theorem Device.onEth_cool (d : Device) (f : EthCtx → EthCtx) : (d.onEth f).cool = d.cool := rfl
@[simp] theorem Device.onEth_buses (d : Device) (f : EthCtx → EthCtx) : (d.onEth f).buses = d.buses := rfl
@[simp] theorem Device.onEth_clock (d : Device) (f : EthCtx → EthCtx) : (d.onEth f).clock = d.clock := rfl
@[simp] theorem Device.onEth_ft (d : Device) (f : EthCtx → EthCtx) : (d.onEth f).ft = d.ft := rfl
@[simp] theorem Device.onEth_tray (d : Device) (f : EthCtx → EthCtx) : (d.onEth f).tray = d.tray := rfl
@[simp] theorem Device.onEth_pins (d : Device) (f : EthCtx → EthCtx) : (d.onEth f).pins = d.pins := rfl
@[simp] theorem Device.onEth_boot (d : Device) (f : EthCtx → EthCtx) : (d.onEth f).boot = d.boot := rfl
@[simp] theorem Device.onEth_goldNext (d : Device) (f : EthCtx → EthCtx) : (d.onEth f).goldNext = d.goldNext := rfl
@[simp] theorem Device.onEth_restart (d : Device) (f : EthCtx → EthCtx) : (d.onEth f).restart = d.restart := rfl
@[simp] theorem Device.onEth_fwTimes (d : Device) (f : EthCtx → EthCtx) : (d.onEth f).fwTimes = d.fwTimes := rfl
@[simp] theorem Device.onEth_txRecs (d : Device) (f : EthCtx → EthCtx) : (d.onEth f).txRecs = d.txRecs := rfl
@[simp] theorem Device.onEth_eth (d : Device) (f : EthCtx → EthCtx) : (d.onEth f).eth = f d.eth := rfl
@[simp] theorem Device.onEth_ledgers (d : Device) (f : EthCtx → EthCtx) : (d.onEth f).ledgers = d.ledgers := rfl
@[simp] theorem Device.onEth_loHeld (d : Device) (f : EthCtx → EthCtx) : (d.onEth f).loHeld = d.loHeld := rfl
@[simp] theorem Device.onEth_hiCaptured (d : Device) (f : EthCtx → EthCtx) : (d.onEth f).hiCaptured = d.hiCaptured := rfl
@[simp] theorem Device.onEth_freeCtr (d : Device) (f : EthCtx → EthCtx) : (d.onEth f).freeCtr = d.freeCtr := rfl

@[simp] theorem Device.setSess_regs (d : Device) (s : Option MmpSession) : (d.setSess s).regs = d.regs := rfl
@[simp] theorem Device.setSess_mem (d : Device) (s : Option MmpSession) : (d.setSess s).mem = d.mem := rfl
@[simp] theorem Device.setSess_poison (d : Device) (s : Option MmpSession) : (d.setSess s).poison = d.poison := rfl
@[simp] theorem Device.setSess_lost (d : Device) (s : Option MmpSession) : (d.setSess s).lost = d.lost := rfl
@[simp] theorem Device.setSess_engs (d : Device) (s : Option MmpSession) : (d.setSess s).engs = d.engs := rfl
@[simp] theorem Device.setSess_sec (d : Device) (s : Option MmpSession) : (d.setSess s).sec = d.sec := rfl
@[simp] theorem Device.setSess_cores (d : Device) (s : Option MmpSession) : (d.setSess s).cores = d.cores := rfl
@[simp] theorem Device.setSess_pru (d : Device) (s : Option MmpSession) : (d.setSess s).pru = d.pru := rfl
@[simp] theorem Device.setSess_mcs (d : Device) (s : Option MmpSession) : (d.setSess s).mcs = d.mcs := rfl
@[simp] theorem Device.setSess_landed (d : Device) (s : Option MmpSession) : (d.setSess s).landed = d.landed := rfl
@[simp] theorem Device.setSess_seqs (d : Device) (s : Option MmpSession) : (d.setSess s).seqs = d.seqs := rfl
@[simp] theorem Device.setSess_links (d : Device) (s : Option MmpSession) : (d.setSess s).links = d.links := rfl
@[simp] theorem Device.setSess_wits (d : Device) (s : Option MmpSession) : (d.setSess s).wits = d.wits := rfl
@[simp] theorem Device.setSess_gcs (d : Device) (s : Option MmpSession) : (d.setSess s).gcs = d.gcs := rfl
@[simp] theorem Device.setSess_gdone (d : Device) (s : Option MmpSession) : (d.setSess s).gdone = d.gdone := rfl
@[simp] theorem Device.setSess_arbLast (d : Device) (s : Option MmpSession) : (d.setSess s).arbLast = d.arbLast := rfl
@[simp] theorem Device.setSess_stns (d : Device) (s : Option MmpSession) : (d.setSess s).stns = d.stns := rfl
@[simp] theorem Device.setSess_fs (d : Device) (s : Option MmpSession) : (d.setSess s).fs = d.fs := rfl
@[simp] theorem Device.setSess_hostLanes (d : Device) (s : Option MmpSession) : (d.setSess s).hostLanes = d.hostLanes := rfl
@[simp] theorem Device.setSess_golds (d : Device) (s : Option MmpSession) : (d.setSess s).golds = d.golds := rfl
@[simp] theorem Device.setSess_shadow (d : Device) (s : Option MmpSession) : (d.setSess s).shadow = d.shadow := rfl
@[simp] theorem Device.setSess_twin (d : Device) (s : Option MmpSession) : (d.setSess s).twin = d.twin := rfl
@[simp] theorem Device.setSess_cool (d : Device) (s : Option MmpSession) : (d.setSess s).cool = d.cool := rfl
@[simp] theorem Device.setSess_buses (d : Device) (s : Option MmpSession) : (d.setSess s).buses = d.buses := rfl
@[simp] theorem Device.setSess_clock (d : Device) (s : Option MmpSession) : (d.setSess s).clock = d.clock := rfl
@[simp] theorem Device.setSess_ft (d : Device) (s : Option MmpSession) : (d.setSess s).ft = d.ft := rfl
@[simp] theorem Device.setSess_tray (d : Device) (s : Option MmpSession) : (d.setSess s).tray = d.tray := rfl
@[simp] theorem Device.setSess_pins (d : Device) (s : Option MmpSession) : (d.setSess s).pins = d.pins := rfl
@[simp] theorem Device.setSess_boot (d : Device) (s : Option MmpSession) : (d.setSess s).boot = d.boot := rfl
@[simp] theorem Device.setSess_goldNext (d : Device) (s : Option MmpSession) : (d.setSess s).goldNext = d.goldNext := rfl
@[simp] theorem Device.setSess_restart (d : Device) (s : Option MmpSession) : (d.setSess s).restart = d.restart := rfl
@[simp] theorem Device.setSess_fwTimes (d : Device) (s : Option MmpSession) : (d.setSess s).fwTimes = d.fwTimes := rfl
@[simp] theorem Device.setSess_txRecs (d : Device) (s : Option MmpSession) : (d.setSess s).txRecs = d.txRecs := rfl
@[simp] theorem Device.setSess_ledgers (d : Device) (s : Option MmpSession) : (d.setSess s).ledgers = d.ledgers := rfl
@[simp] theorem Device.setSess_loHeld (d : Device) (s : Option MmpSession) : (d.setSess s).loHeld = d.loHeld := rfl
@[simp] theorem Device.setSess_hiCaptured (d : Device) (s : Option MmpSession) : (d.setSess s).hiCaptured = d.hiCaptured := rfl
@[simp] theorem Device.setSess_freeCtr (d : Device) (s : Option MmpSession) : (d.setSess s).freeCtr = d.freeCtr := rfl

@[simp] theorem Device.setStn_regs (d : Device) (b : Bay) (c : StnCtx) : (d.setStn b c).regs = d.regs := rfl
@[simp] theorem Device.setStn_mem (d : Device) (b : Bay) (c : StnCtx) : (d.setStn b c).mem = d.mem := rfl
@[simp] theorem Device.setStn_poison (d : Device) (b : Bay) (c : StnCtx) : (d.setStn b c).poison = d.poison := rfl
@[simp] theorem Device.setStn_lost (d : Device) (b : Bay) (c : StnCtx) : (d.setStn b c).lost = d.lost := rfl
@[simp] theorem Device.setStn_engs (d : Device) (b : Bay) (c : StnCtx) : (d.setStn b c).engs = d.engs := rfl
@[simp] theorem Device.setStn_sec (d : Device) (b : Bay) (c : StnCtx) : (d.setStn b c).sec = d.sec := rfl
@[simp] theorem Device.setStn_cores (d : Device) (b : Bay) (c : StnCtx) : (d.setStn b c).cores = d.cores := rfl
@[simp] theorem Device.setStn_pru (d : Device) (b : Bay) (c : StnCtx) : (d.setStn b c).pru = d.pru := rfl
@[simp] theorem Device.setStn_mcs (d : Device) (b : Bay) (c : StnCtx) : (d.setStn b c).mcs = d.mcs := rfl
@[simp] theorem Device.setStn_landed (d : Device) (b : Bay) (c : StnCtx) : (d.setStn b c).landed = d.landed := rfl
@[simp] theorem Device.setStn_seqs (d : Device) (b : Bay) (c : StnCtx) : (d.setStn b c).seqs = d.seqs := rfl
@[simp] theorem Device.setStn_links (d : Device) (b : Bay) (c : StnCtx) : (d.setStn b c).links = d.links := rfl
@[simp] theorem Device.setStn_wits (d : Device) (b : Bay) (c : StnCtx) : (d.setStn b c).wits = d.wits := rfl
@[simp] theorem Device.setStn_gcs (d : Device) (b : Bay) (c : StnCtx) : (d.setStn b c).gcs = d.gcs := rfl
@[simp] theorem Device.setStn_gdone (d : Device) (b : Bay) (c : StnCtx) : (d.setStn b c).gdone = d.gdone := rfl
@[simp] theorem Device.setStn_arbLast (d : Device) (b : Bay) (c : StnCtx) : (d.setStn b c).arbLast = d.arbLast := rfl
@[simp] theorem Device.setStn_stns (d : Device) (b : Bay) (c : StnCtx) : (d.setStn b c).stns = vset d.stns b c := rfl
@[simp] theorem Device.setStn_fs (d : Device) (b : Bay) (c : StnCtx) : (d.setStn b c).fs = d.fs := rfl
@[simp] theorem Device.setStn_hostLanes (d : Device) (b : Bay) (c : StnCtx) : (d.setStn b c).hostLanes = d.hostLanes := rfl
@[simp] theorem Device.setStn_golds (d : Device) (b : Bay) (c : StnCtx) : (d.setStn b c).golds = d.golds := rfl
@[simp] theorem Device.setStn_shadow (d : Device) (b : Bay) (c : StnCtx) : (d.setStn b c).shadow = d.shadow := rfl
@[simp] theorem Device.setStn_twin (d : Device) (b : Bay) (c : StnCtx) : (d.setStn b c).twin = d.twin := rfl
@[simp] theorem Device.setStn_cool (d : Device) (b : Bay) (c : StnCtx) : (d.setStn b c).cool = d.cool := rfl
@[simp] theorem Device.setStn_buses (d : Device) (b : Bay) (c : StnCtx) : (d.setStn b c).buses = d.buses := rfl
@[simp] theorem Device.setStn_clock (d : Device) (b : Bay) (c : StnCtx) : (d.setStn b c).clock = d.clock := rfl
@[simp] theorem Device.setStn_ft (d : Device) (b : Bay) (c : StnCtx) : (d.setStn b c).ft = d.ft := rfl
@[simp] theorem Device.setStn_tray (d : Device) (b : Bay) (c : StnCtx) : (d.setStn b c).tray = d.tray := rfl
@[simp] theorem Device.setStn_pins (d : Device) (b : Bay) (c : StnCtx) : (d.setStn b c).pins = d.pins := rfl
@[simp] theorem Device.setStn_boot (d : Device) (b : Bay) (c : StnCtx) : (d.setStn b c).boot = d.boot := rfl
@[simp] theorem Device.setStn_goldNext (d : Device) (b : Bay) (c : StnCtx) : (d.setStn b c).goldNext = d.goldNext := rfl
@[simp] theorem Device.setStn_restart (d : Device) (b : Bay) (c : StnCtx) : (d.setStn b c).restart = d.restart := rfl
@[simp] theorem Device.setStn_fwTimes (d : Device) (b : Bay) (c : StnCtx) : (d.setStn b c).fwTimes = d.fwTimes := rfl
@[simp] theorem Device.setStn_txRecs (d : Device) (b : Bay) (c : StnCtx) : (d.setStn b c).txRecs = d.txRecs := rfl
@[simp] theorem Device.setStn_eth (d : Device) (b : Bay) (c : StnCtx) : (d.setStn b c).eth = d.eth := rfl
@[simp] theorem Device.setStn_ledgers (d : Device) (b : Bay) (c : StnCtx) : (d.setStn b c).ledgers = d.ledgers := rfl
@[simp] theorem Device.setStn_loHeld (d : Device) (b : Bay) (c : StnCtx) : (d.setStn b c).loHeld = d.loHeld := rfl
@[simp] theorem Device.setStn_hiCaptured (d : Device) (b : Bay) (c : StnCtx) : (d.setStn b c).hiCaptured = d.hiCaptured := rfl
@[simp] theorem Device.setStn_freeCtr (d : Device) (b : Bay) (c : StnCtx) : (d.setStn b c).freeCtr = d.freeCtr := rfl

@[simp] theorem Device.setGc_regs (d : Device) (g : Fin 12) (c : GcCtx) : (d.setGc g c).regs = d.regs := rfl
@[simp] theorem Device.setGc_mem (d : Device) (g : Fin 12) (c : GcCtx) : (d.setGc g c).mem = d.mem := rfl
@[simp] theorem Device.setGc_poison (d : Device) (g : Fin 12) (c : GcCtx) : (d.setGc g c).poison = d.poison := rfl
@[simp] theorem Device.setGc_lost (d : Device) (g : Fin 12) (c : GcCtx) : (d.setGc g c).lost = d.lost := rfl
@[simp] theorem Device.setGc_engs (d : Device) (g : Fin 12) (c : GcCtx) : (d.setGc g c).engs = d.engs := rfl
@[simp] theorem Device.setGc_sec (d : Device) (g : Fin 12) (c : GcCtx) : (d.setGc g c).sec = d.sec := rfl
@[simp] theorem Device.setGc_cores (d : Device) (g : Fin 12) (c : GcCtx) : (d.setGc g c).cores = d.cores := rfl
@[simp] theorem Device.setGc_pru (d : Device) (g : Fin 12) (c : GcCtx) : (d.setGc g c).pru = d.pru := rfl
@[simp] theorem Device.setGc_mcs (d : Device) (g : Fin 12) (c : GcCtx) : (d.setGc g c).mcs = d.mcs := rfl
@[simp] theorem Device.setGc_landed (d : Device) (g : Fin 12) (c : GcCtx) : (d.setGc g c).landed = d.landed := rfl
@[simp] theorem Device.setGc_seqs (d : Device) (g : Fin 12) (c : GcCtx) : (d.setGc g c).seqs = d.seqs := rfl
@[simp] theorem Device.setGc_links (d : Device) (g : Fin 12) (c : GcCtx) : (d.setGc g c).links = d.links := rfl
@[simp] theorem Device.setGc_wits (d : Device) (g : Fin 12) (c : GcCtx) : (d.setGc g c).wits = d.wits := rfl
@[simp] theorem Device.setGc_gcs (d : Device) (g : Fin 12) (c : GcCtx) : (d.setGc g c).gcs = vset d.gcs g c := rfl
@[simp] theorem Device.setGc_gdone (d : Device) (g : Fin 12) (c : GcCtx) : (d.setGc g c).gdone = d.gdone := rfl
@[simp] theorem Device.setGc_arbLast (d : Device) (g : Fin 12) (c : GcCtx) : (d.setGc g c).arbLast = d.arbLast := rfl
@[simp] theorem Device.setGc_stns (d : Device) (g : Fin 12) (c : GcCtx) : (d.setGc g c).stns = d.stns := rfl
@[simp] theorem Device.setGc_fs (d : Device) (g : Fin 12) (c : GcCtx) : (d.setGc g c).fs = d.fs := rfl
@[simp] theorem Device.setGc_hostLanes (d : Device) (g : Fin 12) (c : GcCtx) : (d.setGc g c).hostLanes = d.hostLanes := rfl
@[simp] theorem Device.setGc_golds (d : Device) (g : Fin 12) (c : GcCtx) : (d.setGc g c).golds = d.golds := rfl
@[simp] theorem Device.setGc_shadow (d : Device) (g : Fin 12) (c : GcCtx) : (d.setGc g c).shadow = d.shadow := rfl
@[simp] theorem Device.setGc_twin (d : Device) (g : Fin 12) (c : GcCtx) : (d.setGc g c).twin = d.twin := rfl
@[simp] theorem Device.setGc_cool (d : Device) (g : Fin 12) (c : GcCtx) : (d.setGc g c).cool = d.cool := rfl
@[simp] theorem Device.setGc_buses (d : Device) (g : Fin 12) (c : GcCtx) : (d.setGc g c).buses = d.buses := rfl
@[simp] theorem Device.setGc_clock (d : Device) (g : Fin 12) (c : GcCtx) : (d.setGc g c).clock = d.clock := rfl
@[simp] theorem Device.setGc_ft (d : Device) (g : Fin 12) (c : GcCtx) : (d.setGc g c).ft = d.ft := rfl
@[simp] theorem Device.setGc_tray (d : Device) (g : Fin 12) (c : GcCtx) : (d.setGc g c).tray = d.tray := rfl
@[simp] theorem Device.setGc_pins (d : Device) (g : Fin 12) (c : GcCtx) : (d.setGc g c).pins = d.pins := rfl
@[simp] theorem Device.setGc_boot (d : Device) (g : Fin 12) (c : GcCtx) : (d.setGc g c).boot = d.boot := rfl
@[simp] theorem Device.setGc_goldNext (d : Device) (g : Fin 12) (c : GcCtx) : (d.setGc g c).goldNext = d.goldNext := rfl
@[simp] theorem Device.setGc_restart (d : Device) (g : Fin 12) (c : GcCtx) : (d.setGc g c).restart = d.restart := rfl
@[simp] theorem Device.setGc_fwTimes (d : Device) (g : Fin 12) (c : GcCtx) : (d.setGc g c).fwTimes = d.fwTimes := rfl
@[simp] theorem Device.setGc_txRecs (d : Device) (g : Fin 12) (c : GcCtx) : (d.setGc g c).txRecs = d.txRecs := rfl
@[simp] theorem Device.setGc_eth (d : Device) (g : Fin 12) (c : GcCtx) : (d.setGc g c).eth = d.eth := rfl
@[simp] theorem Device.setGc_ledgers (d : Device) (g : Fin 12) (c : GcCtx) : (d.setGc g c).ledgers = d.ledgers := rfl
@[simp] theorem Device.setGc_loHeld (d : Device) (g : Fin 12) (c : GcCtx) : (d.setGc g c).loHeld = d.loHeld := rfl
@[simp] theorem Device.setGc_hiCaptured (d : Device) (g : Fin 12) (c : GcCtx) : (d.setGc g c).hiCaptured = d.hiCaptured := rfl
@[simp] theorem Device.setGc_freeCtr (d : Device) (g : Fin 12) (c : GcCtx) : (d.setGc g c).freeCtr = d.freeCtr := rfl

@[simp] theorem Device.setLink_regs (d : Device) (b : Bay) (k : LinkCtx) : (d.setLink b k).regs = d.regs := rfl
@[simp] theorem Device.setLink_mem (d : Device) (b : Bay) (k : LinkCtx) : (d.setLink b k).mem = d.mem := rfl
@[simp] theorem Device.setLink_poison (d : Device) (b : Bay) (k : LinkCtx) : (d.setLink b k).poison = d.poison := rfl
@[simp] theorem Device.setLink_lost (d : Device) (b : Bay) (k : LinkCtx) : (d.setLink b k).lost = d.lost := rfl
@[simp] theorem Device.setLink_engs (d : Device) (b : Bay) (k : LinkCtx) : (d.setLink b k).engs = d.engs := rfl
@[simp] theorem Device.setLink_sec (d : Device) (b : Bay) (k : LinkCtx) : (d.setLink b k).sec = d.sec := rfl
@[simp] theorem Device.setLink_cores (d : Device) (b : Bay) (k : LinkCtx) : (d.setLink b k).cores = d.cores := rfl
@[simp] theorem Device.setLink_pru (d : Device) (b : Bay) (k : LinkCtx) : (d.setLink b k).pru = d.pru := rfl
@[simp] theorem Device.setLink_mcs (d : Device) (b : Bay) (k : LinkCtx) : (d.setLink b k).mcs = d.mcs := rfl
@[simp] theorem Device.setLink_landed (d : Device) (b : Bay) (k : LinkCtx) : (d.setLink b k).landed = d.landed := rfl
@[simp] theorem Device.setLink_seqs (d : Device) (b : Bay) (k : LinkCtx) : (d.setLink b k).seqs = d.seqs := rfl
@[simp] theorem Device.setLink_links (d : Device) (b : Bay) (k : LinkCtx) : (d.setLink b k).links = vset d.links b k := rfl
@[simp] theorem Device.setLink_wits (d : Device) (b : Bay) (k : LinkCtx) : (d.setLink b k).wits = d.wits := rfl
@[simp] theorem Device.setLink_gcs (d : Device) (b : Bay) (k : LinkCtx) : (d.setLink b k).gcs = d.gcs := rfl
@[simp] theorem Device.setLink_gdone (d : Device) (b : Bay) (k : LinkCtx) : (d.setLink b k).gdone = d.gdone := rfl
@[simp] theorem Device.setLink_arbLast (d : Device) (b : Bay) (k : LinkCtx) : (d.setLink b k).arbLast = d.arbLast := rfl
@[simp] theorem Device.setLink_stns (d : Device) (b : Bay) (k : LinkCtx) : (d.setLink b k).stns = d.stns := rfl
@[simp] theorem Device.setLink_fs (d : Device) (b : Bay) (k : LinkCtx) : (d.setLink b k).fs = d.fs := rfl
@[simp] theorem Device.setLink_hostLanes (d : Device) (b : Bay) (k : LinkCtx) : (d.setLink b k).hostLanes = d.hostLanes := rfl
@[simp] theorem Device.setLink_golds (d : Device) (b : Bay) (k : LinkCtx) : (d.setLink b k).golds = d.golds := rfl
@[simp] theorem Device.setLink_shadow (d : Device) (b : Bay) (k : LinkCtx) : (d.setLink b k).shadow = d.shadow := rfl
@[simp] theorem Device.setLink_twin (d : Device) (b : Bay) (k : LinkCtx) : (d.setLink b k).twin = d.twin := rfl
@[simp] theorem Device.setLink_cool (d : Device) (b : Bay) (k : LinkCtx) : (d.setLink b k).cool = d.cool := rfl
@[simp] theorem Device.setLink_buses (d : Device) (b : Bay) (k : LinkCtx) : (d.setLink b k).buses = d.buses := rfl
@[simp] theorem Device.setLink_clock (d : Device) (b : Bay) (k : LinkCtx) : (d.setLink b k).clock = d.clock := rfl
@[simp] theorem Device.setLink_ft (d : Device) (b : Bay) (k : LinkCtx) : (d.setLink b k).ft = d.ft := rfl
@[simp] theorem Device.setLink_tray (d : Device) (b : Bay) (k : LinkCtx) : (d.setLink b k).tray = d.tray := rfl
@[simp] theorem Device.setLink_pins (d : Device) (b : Bay) (k : LinkCtx) : (d.setLink b k).pins = d.pins := rfl
@[simp] theorem Device.setLink_boot (d : Device) (b : Bay) (k : LinkCtx) : (d.setLink b k).boot = d.boot := rfl
@[simp] theorem Device.setLink_goldNext (d : Device) (b : Bay) (k : LinkCtx) : (d.setLink b k).goldNext = d.goldNext := rfl
@[simp] theorem Device.setLink_restart (d : Device) (b : Bay) (k : LinkCtx) : (d.setLink b k).restart = d.restart := rfl
@[simp] theorem Device.setLink_fwTimes (d : Device) (b : Bay) (k : LinkCtx) : (d.setLink b k).fwTimes = d.fwTimes := rfl
@[simp] theorem Device.setLink_txRecs (d : Device) (b : Bay) (k : LinkCtx) : (d.setLink b k).txRecs = d.txRecs := rfl
@[simp] theorem Device.setLink_eth (d : Device) (b : Bay) (k : LinkCtx) : (d.setLink b k).eth = d.eth := rfl
@[simp] theorem Device.setLink_ledgers (d : Device) (b : Bay) (k : LinkCtx) : (d.setLink b k).ledgers = d.ledgers := rfl
@[simp] theorem Device.setLink_loHeld (d : Device) (b : Bay) (k : LinkCtx) : (d.setLink b k).loHeld = d.loHeld := rfl
@[simp] theorem Device.setLink_hiCaptured (d : Device) (b : Bay) (k : LinkCtx) : (d.setLink b k).hiCaptured = d.hiCaptured := rfl
@[simp] theorem Device.setLink_freeCtr (d : Device) (b : Bay) (k : LinkCtx) : (d.setLink b k).freeCtr = d.freeCtr := rfl

@[simp] theorem Device.setWit_regs (d : Device) (b : Bay) (w : WitCtx) : (d.setWit b w).regs = d.regs := rfl
@[simp] theorem Device.setWit_mem (d : Device) (b : Bay) (w : WitCtx) : (d.setWit b w).mem = d.mem := rfl
@[simp] theorem Device.setWit_poison (d : Device) (b : Bay) (w : WitCtx) : (d.setWit b w).poison = d.poison := rfl
@[simp] theorem Device.setWit_lost (d : Device) (b : Bay) (w : WitCtx) : (d.setWit b w).lost = d.lost := rfl
@[simp] theorem Device.setWit_engs (d : Device) (b : Bay) (w : WitCtx) : (d.setWit b w).engs = d.engs := rfl
@[simp] theorem Device.setWit_sec (d : Device) (b : Bay) (w : WitCtx) : (d.setWit b w).sec = d.sec := rfl
@[simp] theorem Device.setWit_cores (d : Device) (b : Bay) (w : WitCtx) : (d.setWit b w).cores = d.cores := rfl
@[simp] theorem Device.setWit_pru (d : Device) (b : Bay) (w : WitCtx) : (d.setWit b w).pru = d.pru := rfl
@[simp] theorem Device.setWit_mcs (d : Device) (b : Bay) (w : WitCtx) : (d.setWit b w).mcs = d.mcs := rfl
@[simp] theorem Device.setWit_landed (d : Device) (b : Bay) (w : WitCtx) : (d.setWit b w).landed = d.landed := rfl
@[simp] theorem Device.setWit_seqs (d : Device) (b : Bay) (w : WitCtx) : (d.setWit b w).seqs = d.seqs := rfl
@[simp] theorem Device.setWit_links (d : Device) (b : Bay) (w : WitCtx) : (d.setWit b w).links = d.links := rfl
@[simp] theorem Device.setWit_wits (d : Device) (b : Bay) (w : WitCtx) : (d.setWit b w).wits = vset d.wits b w := rfl
@[simp] theorem Device.setWit_gcs (d : Device) (b : Bay) (w : WitCtx) : (d.setWit b w).gcs = d.gcs := rfl
@[simp] theorem Device.setWit_gdone (d : Device) (b : Bay) (w : WitCtx) : (d.setWit b w).gdone = d.gdone := rfl
@[simp] theorem Device.setWit_arbLast (d : Device) (b : Bay) (w : WitCtx) : (d.setWit b w).arbLast = d.arbLast := rfl
@[simp] theorem Device.setWit_stns (d : Device) (b : Bay) (w : WitCtx) : (d.setWit b w).stns = d.stns := rfl
@[simp] theorem Device.setWit_fs (d : Device) (b : Bay) (w : WitCtx) : (d.setWit b w).fs = d.fs := rfl
@[simp] theorem Device.setWit_hostLanes (d : Device) (b : Bay) (w : WitCtx) : (d.setWit b w).hostLanes = d.hostLanes := rfl
@[simp] theorem Device.setWit_golds (d : Device) (b : Bay) (w : WitCtx) : (d.setWit b w).golds = d.golds := rfl
@[simp] theorem Device.setWit_shadow (d : Device) (b : Bay) (w : WitCtx) : (d.setWit b w).shadow = d.shadow := rfl
@[simp] theorem Device.setWit_twin (d : Device) (b : Bay) (w : WitCtx) : (d.setWit b w).twin = d.twin := rfl
@[simp] theorem Device.setWit_cool (d : Device) (b : Bay) (w : WitCtx) : (d.setWit b w).cool = d.cool := rfl
@[simp] theorem Device.setWit_buses (d : Device) (b : Bay) (w : WitCtx) : (d.setWit b w).buses = d.buses := rfl
@[simp] theorem Device.setWit_clock (d : Device) (b : Bay) (w : WitCtx) : (d.setWit b w).clock = d.clock := rfl
@[simp] theorem Device.setWit_ft (d : Device) (b : Bay) (w : WitCtx) : (d.setWit b w).ft = d.ft := rfl
@[simp] theorem Device.setWit_tray (d : Device) (b : Bay) (w : WitCtx) : (d.setWit b w).tray = d.tray := rfl
@[simp] theorem Device.setWit_pins (d : Device) (b : Bay) (w : WitCtx) : (d.setWit b w).pins = d.pins := rfl
@[simp] theorem Device.setWit_boot (d : Device) (b : Bay) (w : WitCtx) : (d.setWit b w).boot = d.boot := rfl
@[simp] theorem Device.setWit_goldNext (d : Device) (b : Bay) (w : WitCtx) : (d.setWit b w).goldNext = d.goldNext := rfl
@[simp] theorem Device.setWit_restart (d : Device) (b : Bay) (w : WitCtx) : (d.setWit b w).restart = d.restart := rfl
@[simp] theorem Device.setWit_fwTimes (d : Device) (b : Bay) (w : WitCtx) : (d.setWit b w).fwTimes = d.fwTimes := rfl
@[simp] theorem Device.setWit_txRecs (d : Device) (b : Bay) (w : WitCtx) : (d.setWit b w).txRecs = d.txRecs := rfl
@[simp] theorem Device.setWit_eth (d : Device) (b : Bay) (w : WitCtx) : (d.setWit b w).eth = d.eth := rfl
@[simp] theorem Device.setWit_ledgers (d : Device) (b : Bay) (w : WitCtx) : (d.setWit b w).ledgers = d.ledgers := rfl
@[simp] theorem Device.setWit_loHeld (d : Device) (b : Bay) (w : WitCtx) : (d.setWit b w).loHeld = d.loHeld := rfl
@[simp] theorem Device.setWit_hiCaptured (d : Device) (b : Bay) (w : WitCtx) : (d.setWit b w).hiCaptured = d.hiCaptured := rfl
@[simp] theorem Device.setWit_freeCtr (d : Device) (b : Bay) (w : WitCtx) : (d.setWit b w).freeCtr = d.freeCtr := rfl

@[simp] theorem Device.setSeq_regs (d : Device) (i : Fin 9) (c : SeqCtx) : (d.setSeq i c).regs = d.regs := rfl
@[simp] theorem Device.setSeq_mem (d : Device) (i : Fin 9) (c : SeqCtx) : (d.setSeq i c).mem = d.mem := rfl
@[simp] theorem Device.setSeq_poison (d : Device) (i : Fin 9) (c : SeqCtx) : (d.setSeq i c).poison = d.poison := rfl
@[simp] theorem Device.setSeq_lost (d : Device) (i : Fin 9) (c : SeqCtx) : (d.setSeq i c).lost = d.lost := rfl
@[simp] theorem Device.setSeq_engs (d : Device) (i : Fin 9) (c : SeqCtx) : (d.setSeq i c).engs = d.engs := rfl
@[simp] theorem Device.setSeq_sec (d : Device) (i : Fin 9) (c : SeqCtx) : (d.setSeq i c).sec = d.sec := rfl
@[simp] theorem Device.setSeq_cores (d : Device) (i : Fin 9) (c : SeqCtx) : (d.setSeq i c).cores = d.cores := rfl
@[simp] theorem Device.setSeq_pru (d : Device) (i : Fin 9) (c : SeqCtx) : (d.setSeq i c).pru = d.pru := rfl
@[simp] theorem Device.setSeq_mcs (d : Device) (i : Fin 9) (c : SeqCtx) : (d.setSeq i c).mcs = d.mcs := rfl
@[simp] theorem Device.setSeq_landed (d : Device) (i : Fin 9) (c : SeqCtx) : (d.setSeq i c).landed = d.landed := rfl
@[simp] theorem Device.setSeq_seqs (d : Device) (i : Fin 9) (c : SeqCtx) : (d.setSeq i c).seqs = vset d.seqs i c := rfl
@[simp] theorem Device.setSeq_links (d : Device) (i : Fin 9) (c : SeqCtx) : (d.setSeq i c).links = d.links := rfl
@[simp] theorem Device.setSeq_wits (d : Device) (i : Fin 9) (c : SeqCtx) : (d.setSeq i c).wits = d.wits := rfl
@[simp] theorem Device.setSeq_gcs (d : Device) (i : Fin 9) (c : SeqCtx) : (d.setSeq i c).gcs = d.gcs := rfl
@[simp] theorem Device.setSeq_gdone (d : Device) (i : Fin 9) (c : SeqCtx) : (d.setSeq i c).gdone = d.gdone := rfl
@[simp] theorem Device.setSeq_arbLast (d : Device) (i : Fin 9) (c : SeqCtx) : (d.setSeq i c).arbLast = d.arbLast := rfl
@[simp] theorem Device.setSeq_stns (d : Device) (i : Fin 9) (c : SeqCtx) : (d.setSeq i c).stns = d.stns := rfl
@[simp] theorem Device.setSeq_fs (d : Device) (i : Fin 9) (c : SeqCtx) : (d.setSeq i c).fs = d.fs := rfl
@[simp] theorem Device.setSeq_hostLanes (d : Device) (i : Fin 9) (c : SeqCtx) : (d.setSeq i c).hostLanes = d.hostLanes := rfl
@[simp] theorem Device.setSeq_golds (d : Device) (i : Fin 9) (c : SeqCtx) : (d.setSeq i c).golds = d.golds := rfl
@[simp] theorem Device.setSeq_shadow (d : Device) (i : Fin 9) (c : SeqCtx) : (d.setSeq i c).shadow = d.shadow := rfl
@[simp] theorem Device.setSeq_twin (d : Device) (i : Fin 9) (c : SeqCtx) : (d.setSeq i c).twin = d.twin := rfl
@[simp] theorem Device.setSeq_cool (d : Device) (i : Fin 9) (c : SeqCtx) : (d.setSeq i c).cool = d.cool := rfl
@[simp] theorem Device.setSeq_buses (d : Device) (i : Fin 9) (c : SeqCtx) : (d.setSeq i c).buses = d.buses := rfl
@[simp] theorem Device.setSeq_clock (d : Device) (i : Fin 9) (c : SeqCtx) : (d.setSeq i c).clock = d.clock := rfl
@[simp] theorem Device.setSeq_ft (d : Device) (i : Fin 9) (c : SeqCtx) : (d.setSeq i c).ft = d.ft := rfl
@[simp] theorem Device.setSeq_tray (d : Device) (i : Fin 9) (c : SeqCtx) : (d.setSeq i c).tray = d.tray := rfl
@[simp] theorem Device.setSeq_pins (d : Device) (i : Fin 9) (c : SeqCtx) : (d.setSeq i c).pins = d.pins := rfl
@[simp] theorem Device.setSeq_boot (d : Device) (i : Fin 9) (c : SeqCtx) : (d.setSeq i c).boot = d.boot := rfl
@[simp] theorem Device.setSeq_goldNext (d : Device) (i : Fin 9) (c : SeqCtx) : (d.setSeq i c).goldNext = d.goldNext := rfl
@[simp] theorem Device.setSeq_restart (d : Device) (i : Fin 9) (c : SeqCtx) : (d.setSeq i c).restart = d.restart := rfl
@[simp] theorem Device.setSeq_fwTimes (d : Device) (i : Fin 9) (c : SeqCtx) : (d.setSeq i c).fwTimes = d.fwTimes := rfl
@[simp] theorem Device.setSeq_txRecs (d : Device) (i : Fin 9) (c : SeqCtx) : (d.setSeq i c).txRecs = d.txRecs := rfl
@[simp] theorem Device.setSeq_eth (d : Device) (i : Fin 9) (c : SeqCtx) : (d.setSeq i c).eth = d.eth := rfl
@[simp] theorem Device.setSeq_ledgers (d : Device) (i : Fin 9) (c : SeqCtx) : (d.setSeq i c).ledgers = d.ledgers := rfl
@[simp] theorem Device.setSeq_loHeld (d : Device) (i : Fin 9) (c : SeqCtx) : (d.setSeq i c).loHeld = d.loHeld := rfl
@[simp] theorem Device.setSeq_hiCaptured (d : Device) (i : Fin 9) (c : SeqCtx) : (d.setSeq i c).hiCaptured = d.hiCaptured := rfl
@[simp] theorem Device.setSeq_freeCtr (d : Device) (i : Fin 9) (c : SeqCtx) : (d.setSeq i c).freeCtr = d.freeCtr := rfl

@[simp] theorem Device.twinSend_regs (d : Device) (r : TwinTx) : (d.twinSend r).regs = d.regs := rfl
@[simp] theorem Device.twinSend_mem (d : Device) (r : TwinTx) : (d.twinSend r).mem = d.mem := rfl
@[simp] theorem Device.twinSend_poison (d : Device) (r : TwinTx) : (d.twinSend r).poison = d.poison := rfl
@[simp] theorem Device.twinSend_lost (d : Device) (r : TwinTx) : (d.twinSend r).lost = d.lost := rfl
@[simp] theorem Device.twinSend_engs (d : Device) (r : TwinTx) : (d.twinSend r).engs = d.engs := rfl
@[simp] theorem Device.twinSend_sec (d : Device) (r : TwinTx) : (d.twinSend r).sec = d.sec := rfl
@[simp] theorem Device.twinSend_cores (d : Device) (r : TwinTx) : (d.twinSend r).cores = d.cores := rfl
@[simp] theorem Device.twinSend_pru (d : Device) (r : TwinTx) : (d.twinSend r).pru = d.pru := rfl
@[simp] theorem Device.twinSend_mcs (d : Device) (r : TwinTx) : (d.twinSend r).mcs = d.mcs := rfl
@[simp] theorem Device.twinSend_landed (d : Device) (r : TwinTx) : (d.twinSend r).landed = d.landed := rfl
@[simp] theorem Device.twinSend_seqs (d : Device) (r : TwinTx) : (d.twinSend r).seqs = d.seqs := rfl
@[simp] theorem Device.twinSend_links (d : Device) (r : TwinTx) : (d.twinSend r).links = d.links := rfl
@[simp] theorem Device.twinSend_wits (d : Device) (r : TwinTx) : (d.twinSend r).wits = d.wits := rfl
@[simp] theorem Device.twinSend_gcs (d : Device) (r : TwinTx) : (d.twinSend r).gcs = d.gcs := rfl
@[simp] theorem Device.twinSend_gdone (d : Device) (r : TwinTx) : (d.twinSend r).gdone = d.gdone := rfl
@[simp] theorem Device.twinSend_arbLast (d : Device) (r : TwinTx) : (d.twinSend r).arbLast = d.arbLast := rfl
@[simp] theorem Device.twinSend_stns (d : Device) (r : TwinTx) : (d.twinSend r).stns = d.stns := rfl
@[simp] theorem Device.twinSend_fs (d : Device) (r : TwinTx) : (d.twinSend r).fs = d.fs := rfl
@[simp] theorem Device.twinSend_hostLanes (d : Device) (r : TwinTx) : (d.twinSend r).hostLanes = d.hostLanes := rfl
@[simp] theorem Device.twinSend_golds (d : Device) (r : TwinTx) : (d.twinSend r).golds = d.golds := rfl
@[simp] theorem Device.twinSend_shadow (d : Device) (r : TwinTx) : (d.twinSend r).shadow = d.shadow := rfl
@[simp] theorem Device.twinSend_cool (d : Device) (r : TwinTx) : (d.twinSend r).cool = d.cool := rfl
@[simp] theorem Device.twinSend_buses (d : Device) (r : TwinTx) : (d.twinSend r).buses = d.buses := rfl
@[simp] theorem Device.twinSend_clock (d : Device) (r : TwinTx) : (d.twinSend r).clock = d.clock := rfl
@[simp] theorem Device.twinSend_ft (d : Device) (r : TwinTx) : (d.twinSend r).ft = d.ft := rfl
@[simp] theorem Device.twinSend_tray (d : Device) (r : TwinTx) : (d.twinSend r).tray = d.tray := rfl
@[simp] theorem Device.twinSend_pins (d : Device) (r : TwinTx) : (d.twinSend r).pins = d.pins := rfl
@[simp] theorem Device.twinSend_boot (d : Device) (r : TwinTx) : (d.twinSend r).boot = d.boot := rfl
@[simp] theorem Device.twinSend_goldNext (d : Device) (r : TwinTx) : (d.twinSend r).goldNext = d.goldNext := rfl
@[simp] theorem Device.twinSend_restart (d : Device) (r : TwinTx) : (d.twinSend r).restart = d.restart := rfl
@[simp] theorem Device.twinSend_fwTimes (d : Device) (r : TwinTx) : (d.twinSend r).fwTimes = d.fwTimes := rfl
@[simp] theorem Device.twinSend_txRecs (d : Device) (r : TwinTx) : (d.twinSend r).txRecs = d.txRecs := rfl
@[simp] theorem Device.twinSend_eth (d : Device) (r : TwinTx) : (d.twinSend r).eth = d.eth := rfl
@[simp] theorem Device.twinSend_ledgers (d : Device) (r : TwinTx) : (d.twinSend r).ledgers = d.ledgers := rfl
@[simp] theorem Device.twinSend_loHeld (d : Device) (r : TwinTx) : (d.twinSend r).loHeld = d.loHeld := rfl
@[simp] theorem Device.twinSend_hiCaptured (d : Device) (r : TwinTx) : (d.twinSend r).hiCaptured = d.hiCaptured := rfl
@[simp] theorem Device.twinSend_freeCtr (d : Device) (r : TwinTx) : (d.twinSend r).freeCtr = d.freeCtr := rfl

@[simp] theorem Device.onPins_regs (d : Device) (f : PinCtx → PinCtx) : (d.onPins f).regs = d.regs := rfl
@[simp] theorem Device.onPins_mem (d : Device) (f : PinCtx → PinCtx) : (d.onPins f).mem = d.mem := rfl
@[simp] theorem Device.onPins_poison (d : Device) (f : PinCtx → PinCtx) : (d.onPins f).poison = d.poison := rfl
@[simp] theorem Device.onPins_lost (d : Device) (f : PinCtx → PinCtx) : (d.onPins f).lost = d.lost := rfl
@[simp] theorem Device.onPins_engs (d : Device) (f : PinCtx → PinCtx) : (d.onPins f).engs = d.engs := rfl
@[simp] theorem Device.onPins_sec (d : Device) (f : PinCtx → PinCtx) : (d.onPins f).sec = d.sec := rfl
@[simp] theorem Device.onPins_cores (d : Device) (f : PinCtx → PinCtx) : (d.onPins f).cores = d.cores := rfl
@[simp] theorem Device.onPins_pru (d : Device) (f : PinCtx → PinCtx) : (d.onPins f).pru = d.pru := rfl
@[simp] theorem Device.onPins_mcs (d : Device) (f : PinCtx → PinCtx) : (d.onPins f).mcs = d.mcs := rfl
@[simp] theorem Device.onPins_landed (d : Device) (f : PinCtx → PinCtx) : (d.onPins f).landed = d.landed := rfl
@[simp] theorem Device.onPins_seqs (d : Device) (f : PinCtx → PinCtx) : (d.onPins f).seqs = d.seqs := rfl
@[simp] theorem Device.onPins_links (d : Device) (f : PinCtx → PinCtx) : (d.onPins f).links = d.links := rfl
@[simp] theorem Device.onPins_wits (d : Device) (f : PinCtx → PinCtx) : (d.onPins f).wits = d.wits := rfl
@[simp] theorem Device.onPins_gcs (d : Device) (f : PinCtx → PinCtx) : (d.onPins f).gcs = d.gcs := rfl
@[simp] theorem Device.onPins_gdone (d : Device) (f : PinCtx → PinCtx) : (d.onPins f).gdone = d.gdone := rfl
@[simp] theorem Device.onPins_arbLast (d : Device) (f : PinCtx → PinCtx) : (d.onPins f).arbLast = d.arbLast := rfl
@[simp] theorem Device.onPins_stns (d : Device) (f : PinCtx → PinCtx) : (d.onPins f).stns = d.stns := rfl
@[simp] theorem Device.onPins_fs (d : Device) (f : PinCtx → PinCtx) : (d.onPins f).fs = d.fs := rfl
@[simp] theorem Device.onPins_hostLanes (d : Device) (f : PinCtx → PinCtx) : (d.onPins f).hostLanes = d.hostLanes := rfl
@[simp] theorem Device.onPins_golds (d : Device) (f : PinCtx → PinCtx) : (d.onPins f).golds = d.golds := rfl
@[simp] theorem Device.onPins_shadow (d : Device) (f : PinCtx → PinCtx) : (d.onPins f).shadow = d.shadow := rfl
@[simp] theorem Device.onPins_twin (d : Device) (f : PinCtx → PinCtx) : (d.onPins f).twin = d.twin := rfl
@[simp] theorem Device.onPins_cool (d : Device) (f : PinCtx → PinCtx) : (d.onPins f).cool = d.cool := rfl
@[simp] theorem Device.onPins_buses (d : Device) (f : PinCtx → PinCtx) : (d.onPins f).buses = d.buses := rfl
@[simp] theorem Device.onPins_clock (d : Device) (f : PinCtx → PinCtx) : (d.onPins f).clock = d.clock := rfl
@[simp] theorem Device.onPins_ft (d : Device) (f : PinCtx → PinCtx) : (d.onPins f).ft = d.ft := rfl
@[simp] theorem Device.onPins_tray (d : Device) (f : PinCtx → PinCtx) : (d.onPins f).tray = d.tray := rfl
@[simp] theorem Device.onPins_pins (d : Device) (f : PinCtx → PinCtx) : (d.onPins f).pins = f d.pins := rfl
@[simp] theorem Device.onPins_boot (d : Device) (f : PinCtx → PinCtx) : (d.onPins f).boot = d.boot := rfl
@[simp] theorem Device.onPins_goldNext (d : Device) (f : PinCtx → PinCtx) : (d.onPins f).goldNext = d.goldNext := rfl
@[simp] theorem Device.onPins_restart (d : Device) (f : PinCtx → PinCtx) : (d.onPins f).restart = d.restart := rfl
@[simp] theorem Device.onPins_fwTimes (d : Device) (f : PinCtx → PinCtx) : (d.onPins f).fwTimes = d.fwTimes := rfl
@[simp] theorem Device.onPins_txRecs (d : Device) (f : PinCtx → PinCtx) : (d.onPins f).txRecs = d.txRecs := rfl
@[simp] theorem Device.onPins_eth (d : Device) (f : PinCtx → PinCtx) : (d.onPins f).eth = d.eth := rfl
@[simp] theorem Device.onPins_ledgers (d : Device) (f : PinCtx → PinCtx) : (d.onPins f).ledgers = d.ledgers := rfl
@[simp] theorem Device.onPins_loHeld (d : Device) (f : PinCtx → PinCtx) : (d.onPins f).loHeld = d.loHeld := rfl
@[simp] theorem Device.onPins_hiCaptured (d : Device) (f : PinCtx → PinCtx) : (d.onPins f).hiCaptured = d.hiCaptured := rfl
@[simp] theorem Device.onPins_freeCtr (d : Device) (f : PinCtx → PinCtx) : (d.onPins f).freeCtr = d.freeCtr := rfl

@[simp] theorem Device.setChunk_regs (d : Device) (c : Option ChunkCtx) : (d.setChunk c).regs = d.regs := rfl
@[simp] theorem Device.setChunk_mem (d : Device) (c : Option ChunkCtx) : (d.setChunk c).mem = d.mem := rfl
@[simp] theorem Device.setChunk_poison (d : Device) (c : Option ChunkCtx) : (d.setChunk c).poison = d.poison := rfl
@[simp] theorem Device.setChunk_lost (d : Device) (c : Option ChunkCtx) : (d.setChunk c).lost = d.lost := rfl
@[simp] theorem Device.setChunk_engs (d : Device) (c : Option ChunkCtx) : (d.setChunk c).engs = d.engs := rfl
@[simp] theorem Device.setChunk_sec (d : Device) (c : Option ChunkCtx) : (d.setChunk c).sec = d.sec := rfl
@[simp] theorem Device.setChunk_cores (d : Device) (c : Option ChunkCtx) : (d.setChunk c).cores = d.cores := rfl
@[simp] theorem Device.setChunk_pru (d : Device) (c : Option ChunkCtx) : (d.setChunk c).pru = d.pru := rfl
@[simp] theorem Device.setChunk_mcs (d : Device) (c : Option ChunkCtx) : (d.setChunk c).mcs = d.mcs := rfl
@[simp] theorem Device.setChunk_landed (d : Device) (c : Option ChunkCtx) : (d.setChunk c).landed = d.landed := rfl
@[simp] theorem Device.setChunk_seqs (d : Device) (c : Option ChunkCtx) : (d.setChunk c).seqs = d.seqs := rfl
@[simp] theorem Device.setChunk_links (d : Device) (c : Option ChunkCtx) : (d.setChunk c).links = d.links := rfl
@[simp] theorem Device.setChunk_wits (d : Device) (c : Option ChunkCtx) : (d.setChunk c).wits = d.wits := rfl
@[simp] theorem Device.setChunk_gcs (d : Device) (c : Option ChunkCtx) : (d.setChunk c).gcs = d.gcs := rfl
@[simp] theorem Device.setChunk_gdone (d : Device) (c : Option ChunkCtx) : (d.setChunk c).gdone = d.gdone := rfl
@[simp] theorem Device.setChunk_arbLast (d : Device) (c : Option ChunkCtx) : (d.setChunk c).arbLast = d.arbLast := rfl
@[simp] theorem Device.setChunk_stns (d : Device) (c : Option ChunkCtx) : (d.setChunk c).stns = d.stns := rfl
@[simp] theorem Device.setChunk_fs (d : Device) (c : Option ChunkCtx) : (d.setChunk c).fs = d.fs := rfl
@[simp] theorem Device.setChunk_hostLanes (d : Device) (c : Option ChunkCtx) : (d.setChunk c).hostLanes = d.hostLanes := rfl
@[simp] theorem Device.setChunk_golds (d : Device) (c : Option ChunkCtx) : (d.setChunk c).golds = d.golds := rfl
@[simp] theorem Device.setChunk_shadow (d : Device) (c : Option ChunkCtx) : (d.setChunk c).shadow = d.shadow := rfl
@[simp] theorem Device.setChunk_twin (d : Device) (c : Option ChunkCtx) : (d.setChunk c).twin = d.twin := rfl
@[simp] theorem Device.setChunk_cool (d : Device) (c : Option ChunkCtx) : (d.setChunk c).cool = d.cool := rfl
@[simp] theorem Device.setChunk_buses (d : Device) (c : Option ChunkCtx) : (d.setChunk c).buses = d.buses := rfl
@[simp] theorem Device.setChunk_clock (d : Device) (c : Option ChunkCtx) : (d.setChunk c).clock = d.clock := rfl
@[simp] theorem Device.setChunk_ft (d : Device) (c : Option ChunkCtx) : (d.setChunk c).ft = d.ft := rfl
@[simp] theorem Device.setChunk_tray (d : Device) (c : Option ChunkCtx) : (d.setChunk c).tray = d.tray := rfl
@[simp] theorem Device.setChunk_pins (d : Device) (c : Option ChunkCtx) : (d.setChunk c).pins = d.pins := rfl
@[simp] theorem Device.setChunk_goldNext (d : Device) (c : Option ChunkCtx) : (d.setChunk c).goldNext = d.goldNext := rfl
@[simp] theorem Device.setChunk_restart (d : Device) (c : Option ChunkCtx) : (d.setChunk c).restart = d.restart := rfl
@[simp] theorem Device.setChunk_fwTimes (d : Device) (c : Option ChunkCtx) : (d.setChunk c).fwTimes = d.fwTimes := rfl
@[simp] theorem Device.setChunk_txRecs (d : Device) (c : Option ChunkCtx) : (d.setChunk c).txRecs = d.txRecs := rfl
@[simp] theorem Device.setChunk_eth (d : Device) (c : Option ChunkCtx) : (d.setChunk c).eth = d.eth := rfl
@[simp] theorem Device.setChunk_ledgers (d : Device) (c : Option ChunkCtx) : (d.setChunk c).ledgers = d.ledgers := rfl
@[simp] theorem Device.setChunk_loHeld (d : Device) (c : Option ChunkCtx) : (d.setChunk c).loHeld = d.loHeld := rfl
@[simp] theorem Device.setChunk_hiCaptured (d : Device) (c : Option ChunkCtx) : (d.setChunk c).hiCaptured = d.hiCaptured := rfl
@[simp] theorem Device.setChunk_freeCtr (d : Device) (c : Option ChunkCtx) : (d.setChunk c).freeCtr = d.freeCtr := rfl

@[simp] theorem Device.setSpdm_regs (d : Device) (s : SpdmCtx) : (d.setSpdm s).regs = d.regs := rfl
@[simp] theorem Device.setSpdm_mem (d : Device) (s : SpdmCtx) : (d.setSpdm s).mem = d.mem := rfl
@[simp] theorem Device.setSpdm_poison (d : Device) (s : SpdmCtx) : (d.setSpdm s).poison = d.poison := rfl
@[simp] theorem Device.setSpdm_lost (d : Device) (s : SpdmCtx) : (d.setSpdm s).lost = d.lost := rfl
@[simp] theorem Device.setSpdm_engs (d : Device) (s : SpdmCtx) : (d.setSpdm s).engs = d.engs := rfl
@[simp] theorem Device.setSpdm_sec (d : Device) (s : SpdmCtx) : (d.setSpdm s).sec = d.sec := rfl
@[simp] theorem Device.setSpdm_cores (d : Device) (s : SpdmCtx) : (d.setSpdm s).cores = d.cores := rfl
@[simp] theorem Device.setSpdm_pru (d : Device) (s : SpdmCtx) : (d.setSpdm s).pru = d.pru := rfl
@[simp] theorem Device.setSpdm_mcs (d : Device) (s : SpdmCtx) : (d.setSpdm s).mcs = d.mcs := rfl
@[simp] theorem Device.setSpdm_landed (d : Device) (s : SpdmCtx) : (d.setSpdm s).landed = d.landed := rfl
@[simp] theorem Device.setSpdm_seqs (d : Device) (s : SpdmCtx) : (d.setSpdm s).seqs = d.seqs := rfl
@[simp] theorem Device.setSpdm_links (d : Device) (s : SpdmCtx) : (d.setSpdm s).links = d.links := rfl
@[simp] theorem Device.setSpdm_wits (d : Device) (s : SpdmCtx) : (d.setSpdm s).wits = d.wits := rfl
@[simp] theorem Device.setSpdm_gcs (d : Device) (s : SpdmCtx) : (d.setSpdm s).gcs = d.gcs := rfl
@[simp] theorem Device.setSpdm_gdone (d : Device) (s : SpdmCtx) : (d.setSpdm s).gdone = d.gdone := rfl
@[simp] theorem Device.setSpdm_arbLast (d : Device) (s : SpdmCtx) : (d.setSpdm s).arbLast = d.arbLast := rfl
@[simp] theorem Device.setSpdm_stns (d : Device) (s : SpdmCtx) : (d.setSpdm s).stns = d.stns := rfl
@[simp] theorem Device.setSpdm_fs (d : Device) (s : SpdmCtx) : (d.setSpdm s).fs = d.fs := rfl
@[simp] theorem Device.setSpdm_hostLanes (d : Device) (s : SpdmCtx) : (d.setSpdm s).hostLanes = d.hostLanes := rfl
@[simp] theorem Device.setSpdm_golds (d : Device) (s : SpdmCtx) : (d.setSpdm s).golds = d.golds := rfl
@[simp] theorem Device.setSpdm_shadow (d : Device) (s : SpdmCtx) : (d.setSpdm s).shadow = d.shadow := rfl
@[simp] theorem Device.setSpdm_twin (d : Device) (s : SpdmCtx) : (d.setSpdm s).twin = d.twin := rfl
@[simp] theorem Device.setSpdm_cool (d : Device) (s : SpdmCtx) : (d.setSpdm s).cool = d.cool := rfl
@[simp] theorem Device.setSpdm_buses (d : Device) (s : SpdmCtx) : (d.setSpdm s).buses = d.buses := rfl
@[simp] theorem Device.setSpdm_clock (d : Device) (s : SpdmCtx) : (d.setSpdm s).clock = d.clock := rfl
@[simp] theorem Device.setSpdm_ft (d : Device) (s : SpdmCtx) : (d.setSpdm s).ft = d.ft := rfl
@[simp] theorem Device.setSpdm_tray (d : Device) (s : SpdmCtx) : (d.setSpdm s).tray = d.tray := rfl
@[simp] theorem Device.setSpdm_pins (d : Device) (s : SpdmCtx) : (d.setSpdm s).pins = d.pins := rfl
@[simp] theorem Device.setSpdm_goldNext (d : Device) (s : SpdmCtx) : (d.setSpdm s).goldNext = d.goldNext := rfl
@[simp] theorem Device.setSpdm_restart (d : Device) (s : SpdmCtx) : (d.setSpdm s).restart = d.restart := rfl
@[simp] theorem Device.setSpdm_fwTimes (d : Device) (s : SpdmCtx) : (d.setSpdm s).fwTimes = d.fwTimes := rfl
@[simp] theorem Device.setSpdm_txRecs (d : Device) (s : SpdmCtx) : (d.setSpdm s).txRecs = d.txRecs := rfl
@[simp] theorem Device.setSpdm_eth (d : Device) (s : SpdmCtx) : (d.setSpdm s).eth = d.eth := rfl
@[simp] theorem Device.setSpdm_ledgers (d : Device) (s : SpdmCtx) : (d.setSpdm s).ledgers = d.ledgers := rfl
@[simp] theorem Device.setSpdm_loHeld (d : Device) (s : SpdmCtx) : (d.setSpdm s).loHeld = d.loHeld := rfl
@[simp] theorem Device.setSpdm_hiCaptured (d : Device) (s : SpdmCtx) : (d.setSpdm s).hiCaptured = d.hiCaptured := rfl
@[simp] theorem Device.setSpdm_freeCtr (d : Device) (s : SpdmCtx) : (d.setSpdm s).freeCtr = d.freeCtr := rfl

@[simp] theorem Device.onAct_regs (d : Device) (f : ActCtx → ActCtx) : (d.onAct f).regs = d.regs := rfl
@[simp] theorem Device.onAct_mem (d : Device) (f : ActCtx → ActCtx) : (d.onAct f).mem = d.mem := rfl
@[simp] theorem Device.onAct_poison (d : Device) (f : ActCtx → ActCtx) : (d.onAct f).poison = d.poison := rfl
@[simp] theorem Device.onAct_lost (d : Device) (f : ActCtx → ActCtx) : (d.onAct f).lost = d.lost := rfl
@[simp] theorem Device.onAct_engs (d : Device) (f : ActCtx → ActCtx) : (d.onAct f).engs = d.engs := rfl
@[simp] theorem Device.onAct_sec (d : Device) (f : ActCtx → ActCtx) : (d.onAct f).sec = d.sec := rfl
@[simp] theorem Device.onAct_cores (d : Device) (f : ActCtx → ActCtx) : (d.onAct f).cores = d.cores := rfl
@[simp] theorem Device.onAct_pru (d : Device) (f : ActCtx → ActCtx) : (d.onAct f).pru = d.pru := rfl
@[simp] theorem Device.onAct_mcs (d : Device) (f : ActCtx → ActCtx) : (d.onAct f).mcs = d.mcs := rfl
@[simp] theorem Device.onAct_landed (d : Device) (f : ActCtx → ActCtx) : (d.onAct f).landed = d.landed := rfl
@[simp] theorem Device.onAct_seqs (d : Device) (f : ActCtx → ActCtx) : (d.onAct f).seqs = d.seqs := rfl
@[simp] theorem Device.onAct_links (d : Device) (f : ActCtx → ActCtx) : (d.onAct f).links = d.links := rfl
@[simp] theorem Device.onAct_wits (d : Device) (f : ActCtx → ActCtx) : (d.onAct f).wits = d.wits := rfl
@[simp] theorem Device.onAct_gcs (d : Device) (f : ActCtx → ActCtx) : (d.onAct f).gcs = d.gcs := rfl
@[simp] theorem Device.onAct_gdone (d : Device) (f : ActCtx → ActCtx) : (d.onAct f).gdone = d.gdone := rfl
@[simp] theorem Device.onAct_arbLast (d : Device) (f : ActCtx → ActCtx) : (d.onAct f).arbLast = d.arbLast := rfl
@[simp] theorem Device.onAct_stns (d : Device) (f : ActCtx → ActCtx) : (d.onAct f).stns = d.stns := rfl
@[simp] theorem Device.onAct_fs (d : Device) (f : ActCtx → ActCtx) : (d.onAct f).fs = d.fs := rfl
@[simp] theorem Device.onAct_hostLanes (d : Device) (f : ActCtx → ActCtx) : (d.onAct f).hostLanes = d.hostLanes := rfl
@[simp] theorem Device.onAct_golds (d : Device) (f : ActCtx → ActCtx) : (d.onAct f).golds = d.golds := rfl
@[simp] theorem Device.onAct_shadow (d : Device) (f : ActCtx → ActCtx) : (d.onAct f).shadow = d.shadow := rfl
@[simp] theorem Device.onAct_twin (d : Device) (f : ActCtx → ActCtx) : (d.onAct f).twin = d.twin := rfl
@[simp] theorem Device.onAct_cool (d : Device) (f : ActCtx → ActCtx) : (d.onAct f).cool = d.cool := rfl
@[simp] theorem Device.onAct_buses (d : Device) (f : ActCtx → ActCtx) : (d.onAct f).buses = d.buses := rfl
@[simp] theorem Device.onAct_clock (d : Device) (f : ActCtx → ActCtx) : (d.onAct f).clock = d.clock := rfl
@[simp] theorem Device.onAct_ft (d : Device) (f : ActCtx → ActCtx) : (d.onAct f).ft = d.ft := rfl
@[simp] theorem Device.onAct_tray (d : Device) (f : ActCtx → ActCtx) : (d.onAct f).tray = d.tray := rfl
@[simp] theorem Device.onAct_pins (d : Device) (f : ActCtx → ActCtx) : (d.onAct f).pins = d.pins := rfl
@[simp] theorem Device.onAct_goldNext (d : Device) (f : ActCtx → ActCtx) : (d.onAct f).goldNext = d.goldNext := rfl
@[simp] theorem Device.onAct_restart (d : Device) (f : ActCtx → ActCtx) : (d.onAct f).restart = d.restart := rfl
@[simp] theorem Device.onAct_fwTimes (d : Device) (f : ActCtx → ActCtx) : (d.onAct f).fwTimes = d.fwTimes := rfl
@[simp] theorem Device.onAct_txRecs (d : Device) (f : ActCtx → ActCtx) : (d.onAct f).txRecs = d.txRecs := rfl
@[simp] theorem Device.onAct_eth (d : Device) (f : ActCtx → ActCtx) : (d.onAct f).eth = d.eth := rfl
@[simp] theorem Device.onAct_ledgers (d : Device) (f : ActCtx → ActCtx) : (d.onAct f).ledgers = d.ledgers := rfl
@[simp] theorem Device.onAct_loHeld (d : Device) (f : ActCtx → ActCtx) : (d.onAct f).loHeld = d.loHeld := rfl
@[simp] theorem Device.onAct_hiCaptured (d : Device) (f : ActCtx → ActCtx) : (d.onAct f).hiCaptured = d.hiCaptured := rfl
@[simp] theorem Device.onAct_freeCtr (d : Device) (f : ActCtx → ActCtx) : (d.onAct f).freeCtr = d.freeCtr := rfl

@[simp] theorem Device.setIsland_mem (d : Device) (i v : Nat) : (d.setIsland i v).mem = d.mem := rfl
@[simp] theorem Device.setIsland_poison (d : Device) (i v : Nat) : (d.setIsland i v).poison = d.poison := rfl
@[simp] theorem Device.setIsland_lost (d : Device) (i v : Nat) : (d.setIsland i v).lost = d.lost := rfl
@[simp] theorem Device.setIsland_engs (d : Device) (i v : Nat) : (d.setIsland i v).engs = d.engs := rfl
@[simp] theorem Device.setIsland_sec (d : Device) (i v : Nat) : (d.setIsland i v).sec = d.sec := rfl
@[simp] theorem Device.setIsland_cores (d : Device) (i v : Nat) : (d.setIsland i v).cores = d.cores := rfl
@[simp] theorem Device.setIsland_pru (d : Device) (i v : Nat) : (d.setIsland i v).pru = d.pru := rfl
@[simp] theorem Device.setIsland_mcs (d : Device) (i v : Nat) : (d.setIsland i v).mcs = d.mcs := rfl
@[simp] theorem Device.setIsland_landed (d : Device) (i v : Nat) : (d.setIsland i v).landed = d.landed := rfl
@[simp] theorem Device.setIsland_seqs (d : Device) (i v : Nat) : (d.setIsland i v).seqs = d.seqs := rfl
@[simp] theorem Device.setIsland_links (d : Device) (i v : Nat) : (d.setIsland i v).links = d.links := rfl
@[simp] theorem Device.setIsland_wits (d : Device) (i v : Nat) : (d.setIsland i v).wits = d.wits := rfl
@[simp] theorem Device.setIsland_gcs (d : Device) (i v : Nat) : (d.setIsland i v).gcs = d.gcs := rfl
@[simp] theorem Device.setIsland_gdone (d : Device) (i v : Nat) : (d.setIsland i v).gdone = d.gdone := rfl
@[simp] theorem Device.setIsland_arbLast (d : Device) (i v : Nat) : (d.setIsland i v).arbLast = d.arbLast := rfl
@[simp] theorem Device.setIsland_stns (d : Device) (i v : Nat) : (d.setIsland i v).stns = d.stns := rfl
@[simp] theorem Device.setIsland_fs (d : Device) (i v : Nat) : (d.setIsland i v).fs = d.fs := rfl
@[simp] theorem Device.setIsland_hostLanes (d : Device) (i v : Nat) : (d.setIsland i v).hostLanes = d.hostLanes := rfl
@[simp] theorem Device.setIsland_golds (d : Device) (i v : Nat) : (d.setIsland i v).golds = d.golds := rfl
@[simp] theorem Device.setIsland_shadow (d : Device) (i v : Nat) : (d.setIsland i v).shadow = d.shadow := rfl
@[simp] theorem Device.setIsland_twin (d : Device) (i v : Nat) : (d.setIsland i v).twin = d.twin := rfl
@[simp] theorem Device.setIsland_cool (d : Device) (i v : Nat) : (d.setIsland i v).cool = d.cool := rfl
@[simp] theorem Device.setIsland_buses (d : Device) (i v : Nat) : (d.setIsland i v).buses = d.buses := rfl
@[simp] theorem Device.setIsland_clock (d : Device) (i v : Nat) : (d.setIsland i v).clock = d.clock := rfl
@[simp] theorem Device.setIsland_ft (d : Device) (i v : Nat) : (d.setIsland i v).ft = d.ft := rfl
@[simp] theorem Device.setIsland_tray (d : Device) (i v : Nat) : (d.setIsland i v).tray = d.tray := rfl
@[simp] theorem Device.setIsland_pins (d : Device) (i v : Nat) : (d.setIsland i v).pins = d.pins := rfl
@[simp] theorem Device.setIsland_boot (d : Device) (i v : Nat) : (d.setIsland i v).boot = d.boot := rfl
@[simp] theorem Device.setIsland_goldNext (d : Device) (i v : Nat) : (d.setIsland i v).goldNext = d.goldNext := rfl
@[simp] theorem Device.setIsland_restart (d : Device) (i v : Nat) : (d.setIsland i v).restart = d.restart := rfl
@[simp] theorem Device.setIsland_fwTimes (d : Device) (i v : Nat) : (d.setIsland i v).fwTimes = d.fwTimes := rfl
@[simp] theorem Device.setIsland_txRecs (d : Device) (i v : Nat) : (d.setIsland i v).txRecs = d.txRecs := rfl
@[simp] theorem Device.setIsland_eth (d : Device) (i v : Nat) : (d.setIsland i v).eth = d.eth := rfl
@[simp] theorem Device.setIsland_ledgers (d : Device) (i v : Nat) : (d.setIsland i v).ledgers = d.ledgers := rfl
@[simp] theorem Device.setIsland_loHeld (d : Device) (i v : Nat) : (d.setIsland i v).loHeld = d.loHeld := rfl
@[simp] theorem Device.setIsland_hiCaptured (d : Device) (i v : Nat) : (d.setIsland i v).hiCaptured = d.hiCaptured := rfl
@[simp] theorem Device.setIsland_freeCtr (d : Device) (i v : Nat) : (d.setIsland i v).freeCtr = d.freeCtr := rfl

@[simp] theorem Device.setPend_mem (d : Device) (e : Eng) (b : Bool) : (d.setPend e b).mem = d.mem := rfl
@[simp] theorem Device.setPend_poison (d : Device) (e : Eng) (b : Bool) : (d.setPend e b).poison = d.poison := rfl
@[simp] theorem Device.setPend_lost (d : Device) (e : Eng) (b : Bool) : (d.setPend e b).lost = d.lost := rfl
@[simp] theorem Device.setPend_engs (d : Device) (e : Eng) (b : Bool) : (d.setPend e b).engs = d.engs := rfl
@[simp] theorem Device.setPend_sec (d : Device) (e : Eng) (b : Bool) : (d.setPend e b).sec = d.sec := rfl
@[simp] theorem Device.setPend_cores (d : Device) (e : Eng) (b : Bool) : (d.setPend e b).cores = d.cores := rfl
@[simp] theorem Device.setPend_pru (d : Device) (e : Eng) (b : Bool) : (d.setPend e b).pru = d.pru := rfl
@[simp] theorem Device.setPend_mcs (d : Device) (e : Eng) (b : Bool) : (d.setPend e b).mcs = d.mcs := rfl
@[simp] theorem Device.setPend_landed (d : Device) (e : Eng) (b : Bool) : (d.setPend e b).landed = d.landed := rfl
@[simp] theorem Device.setPend_seqs (d : Device) (e : Eng) (b : Bool) : (d.setPend e b).seqs = d.seqs := rfl
@[simp] theorem Device.setPend_links (d : Device) (e : Eng) (b : Bool) : (d.setPend e b).links = d.links := rfl
@[simp] theorem Device.setPend_wits (d : Device) (e : Eng) (b : Bool) : (d.setPend e b).wits = d.wits := rfl
@[simp] theorem Device.setPend_gcs (d : Device) (e : Eng) (b : Bool) : (d.setPend e b).gcs = d.gcs := rfl
@[simp] theorem Device.setPend_gdone (d : Device) (e : Eng) (b : Bool) : (d.setPend e b).gdone = d.gdone := rfl
@[simp] theorem Device.setPend_arbLast (d : Device) (e : Eng) (b : Bool) : (d.setPend e b).arbLast = d.arbLast := rfl
@[simp] theorem Device.setPend_stns (d : Device) (e : Eng) (b : Bool) : (d.setPend e b).stns = d.stns := rfl
@[simp] theorem Device.setPend_fs (d : Device) (e : Eng) (b : Bool) : (d.setPend e b).fs = d.fs := rfl
@[simp] theorem Device.setPend_hostLanes (d : Device) (e : Eng) (b : Bool) : (d.setPend e b).hostLanes = d.hostLanes := rfl
@[simp] theorem Device.setPend_golds (d : Device) (e : Eng) (b : Bool) : (d.setPend e b).golds = d.golds := rfl
@[simp] theorem Device.setPend_shadow (d : Device) (e : Eng) (b : Bool) : (d.setPend e b).shadow = d.shadow := rfl
@[simp] theorem Device.setPend_twin (d : Device) (e : Eng) (b : Bool) : (d.setPend e b).twin = d.twin := rfl
@[simp] theorem Device.setPend_cool (d : Device) (e : Eng) (b : Bool) : (d.setPend e b).cool = d.cool := rfl
@[simp] theorem Device.setPend_buses (d : Device) (e : Eng) (b : Bool) : (d.setPend e b).buses = d.buses := rfl
@[simp] theorem Device.setPend_clock (d : Device) (e : Eng) (b : Bool) : (d.setPend e b).clock = d.clock := rfl
@[simp] theorem Device.setPend_ft (d : Device) (e : Eng) (b : Bool) : (d.setPend e b).ft = d.ft := rfl
@[simp] theorem Device.setPend_tray (d : Device) (e : Eng) (b : Bool) : (d.setPend e b).tray = d.tray := rfl
@[simp] theorem Device.setPend_pins (d : Device) (e : Eng) (b : Bool) : (d.setPend e b).pins = d.pins := rfl
@[simp] theorem Device.setPend_boot (d : Device) (e : Eng) (b : Bool) : (d.setPend e b).boot = d.boot := rfl
@[simp] theorem Device.setPend_goldNext (d : Device) (e : Eng) (b : Bool) : (d.setPend e b).goldNext = d.goldNext := rfl
@[simp] theorem Device.setPend_restart (d : Device) (e : Eng) (b : Bool) : (d.setPend e b).restart = d.restart := rfl
@[simp] theorem Device.setPend_fwTimes (d : Device) (e : Eng) (b : Bool) : (d.setPend e b).fwTimes = d.fwTimes := rfl
@[simp] theorem Device.setPend_txRecs (d : Device) (e : Eng) (b : Bool) : (d.setPend e b).txRecs = d.txRecs := rfl
@[simp] theorem Device.setPend_eth (d : Device) (e : Eng) (b : Bool) : (d.setPend e b).eth = d.eth := rfl
@[simp] theorem Device.setPend_ledgers (d : Device) (e : Eng) (b : Bool) : (d.setPend e b).ledgers = d.ledgers := rfl
@[simp] theorem Device.setPend_loHeld (d : Device) (e : Eng) (b : Bool) : (d.setPend e b).loHeld = d.loHeld := rfl
@[simp] theorem Device.setPend_hiCaptured (d : Device) (e : Eng) (b : Bool) : (d.setPend e b).hiCaptured = d.hiCaptured := rfl
@[simp] theorem Device.setPend_freeCtr (d : Device) (e : Eng) (b : Bool) : (d.setPend e b).freeCtr = d.freeCtr := rfl

@[simp] theorem Device.setAct_mem (d : Device) (st : Nat) : (d.setAct st).mem = d.mem := rfl
@[simp] theorem Device.setAct_poison (d : Device) (st : Nat) : (d.setAct st).poison = d.poison := rfl
@[simp] theorem Device.setAct_lost (d : Device) (st : Nat) : (d.setAct st).lost = d.lost := rfl
@[simp] theorem Device.setAct_engs (d : Device) (st : Nat) : (d.setAct st).engs = d.engs := rfl
@[simp] theorem Device.setAct_sec (d : Device) (st : Nat) : (d.setAct st).sec = d.sec := rfl
@[simp] theorem Device.setAct_cores (d : Device) (st : Nat) : (d.setAct st).cores = d.cores := rfl
@[simp] theorem Device.setAct_pru (d : Device) (st : Nat) : (d.setAct st).pru = d.pru := rfl
@[simp] theorem Device.setAct_mcs (d : Device) (st : Nat) : (d.setAct st).mcs = d.mcs := rfl
@[simp] theorem Device.setAct_landed (d : Device) (st : Nat) : (d.setAct st).landed = d.landed := rfl
@[simp] theorem Device.setAct_seqs (d : Device) (st : Nat) : (d.setAct st).seqs = d.seqs := rfl
@[simp] theorem Device.setAct_links (d : Device) (st : Nat) : (d.setAct st).links = d.links := rfl
@[simp] theorem Device.setAct_wits (d : Device) (st : Nat) : (d.setAct st).wits = d.wits := rfl
@[simp] theorem Device.setAct_gcs (d : Device) (st : Nat) : (d.setAct st).gcs = d.gcs := rfl
@[simp] theorem Device.setAct_gdone (d : Device) (st : Nat) : (d.setAct st).gdone = d.gdone := rfl
@[simp] theorem Device.setAct_arbLast (d : Device) (st : Nat) : (d.setAct st).arbLast = d.arbLast := rfl
@[simp] theorem Device.setAct_stns (d : Device) (st : Nat) : (d.setAct st).stns = d.stns := rfl
@[simp] theorem Device.setAct_fs (d : Device) (st : Nat) : (d.setAct st).fs = d.fs := rfl
@[simp] theorem Device.setAct_hostLanes (d : Device) (st : Nat) : (d.setAct st).hostLanes = d.hostLanes := rfl
@[simp] theorem Device.setAct_golds (d : Device) (st : Nat) : (d.setAct st).golds = d.golds := rfl
@[simp] theorem Device.setAct_shadow (d : Device) (st : Nat) : (d.setAct st).shadow = d.shadow := rfl
@[simp] theorem Device.setAct_twin (d : Device) (st : Nat) : (d.setAct st).twin = d.twin := rfl
@[simp] theorem Device.setAct_cool (d : Device) (st : Nat) : (d.setAct st).cool = d.cool := rfl
@[simp] theorem Device.setAct_buses (d : Device) (st : Nat) : (d.setAct st).buses = d.buses := rfl
@[simp] theorem Device.setAct_clock (d : Device) (st : Nat) : (d.setAct st).clock = d.clock := rfl
@[simp] theorem Device.setAct_ft (d : Device) (st : Nat) : (d.setAct st).ft = d.ft := rfl
@[simp] theorem Device.setAct_tray (d : Device) (st : Nat) : (d.setAct st).tray = d.tray := rfl
@[simp] theorem Device.setAct_pins (d : Device) (st : Nat) : (d.setAct st).pins = d.pins := rfl
@[simp] theorem Device.setAct_boot (d : Device) (st : Nat) : (d.setAct st).boot = d.boot := rfl
@[simp] theorem Device.setAct_goldNext (d : Device) (st : Nat) : (d.setAct st).goldNext = d.goldNext := rfl
@[simp] theorem Device.setAct_restart (d : Device) (st : Nat) : (d.setAct st).restart = d.restart := rfl
@[simp] theorem Device.setAct_fwTimes (d : Device) (st : Nat) : (d.setAct st).fwTimes = d.fwTimes := rfl
@[simp] theorem Device.setAct_txRecs (d : Device) (st : Nat) : (d.setAct st).txRecs = d.txRecs := rfl
@[simp] theorem Device.setAct_eth (d : Device) (st : Nat) : (d.setAct st).eth = d.eth := rfl
@[simp] theorem Device.setAct_ledgers (d : Device) (st : Nat) : (d.setAct st).ledgers = d.ledgers := rfl
@[simp] theorem Device.setAct_loHeld (d : Device) (st : Nat) : (d.setAct st).loHeld = d.loHeld := rfl
@[simp] theorem Device.setAct_hiCaptured (d : Device) (st : Nat) : (d.setAct st).hiCaptured = d.hiCaptured := rfl
@[simp] theorem Device.setAct_freeCtr (d : Device) (st : Nat) : (d.setAct st).freeCtr = d.freeCtr := rfl

@[simp] theorem Device.showEvents_mem (d : Device) : d.showEvents.mem = d.mem := rfl
@[simp] theorem Device.showEvents_poison (d : Device) : d.showEvents.poison = d.poison := rfl
@[simp] theorem Device.showEvents_lost (d : Device) : d.showEvents.lost = d.lost := rfl
@[simp] theorem Device.showEvents_engs (d : Device) : d.showEvents.engs = d.engs := rfl
@[simp] theorem Device.showEvents_sec (d : Device) : d.showEvents.sec = d.sec := rfl
@[simp] theorem Device.showEvents_cores (d : Device) : d.showEvents.cores = d.cores := rfl
@[simp] theorem Device.showEvents_pru (d : Device) : d.showEvents.pru = d.pru := rfl
@[simp] theorem Device.showEvents_mcs (d : Device) : d.showEvents.mcs = d.mcs := rfl
@[simp] theorem Device.showEvents_landed (d : Device) : d.showEvents.landed = d.landed := rfl
@[simp] theorem Device.showEvents_seqs (d : Device) : d.showEvents.seqs = d.seqs := rfl
@[simp] theorem Device.showEvents_links (d : Device) : d.showEvents.links = d.links := rfl
@[simp] theorem Device.showEvents_wits (d : Device) : d.showEvents.wits = d.wits := rfl
@[simp] theorem Device.showEvents_gcs (d : Device) : d.showEvents.gcs = d.gcs := rfl
@[simp] theorem Device.showEvents_gdone (d : Device) : d.showEvents.gdone = d.gdone := rfl
@[simp] theorem Device.showEvents_arbLast (d : Device) : d.showEvents.arbLast = d.arbLast := rfl
@[simp] theorem Device.showEvents_stns (d : Device) : d.showEvents.stns = d.stns := rfl
@[simp] theorem Device.showEvents_fs (d : Device) : d.showEvents.fs = d.fs := rfl
@[simp] theorem Device.showEvents_hostLanes (d : Device) : d.showEvents.hostLanes = d.hostLanes := rfl
@[simp] theorem Device.showEvents_golds (d : Device) : d.showEvents.golds = d.golds := rfl
@[simp] theorem Device.showEvents_shadow (d : Device) : d.showEvents.shadow = d.shadow := rfl
@[simp] theorem Device.showEvents_twin (d : Device) : d.showEvents.twin = d.twin := rfl
@[simp] theorem Device.showEvents_cool (d : Device) : d.showEvents.cool = d.cool := rfl
@[simp] theorem Device.showEvents_buses (d : Device) : d.showEvents.buses = d.buses := rfl
@[simp] theorem Device.showEvents_clock (d : Device) : d.showEvents.clock = d.clock := rfl
@[simp] theorem Device.showEvents_ft (d : Device) : d.showEvents.ft = d.ft := rfl
@[simp] theorem Device.showEvents_tray (d : Device) : d.showEvents.tray = d.tray := rfl
@[simp] theorem Device.showEvents_pins (d : Device) : d.showEvents.pins = d.pins := rfl
@[simp] theorem Device.showEvents_boot (d : Device) : d.showEvents.boot = d.boot := rfl
@[simp] theorem Device.showEvents_goldNext (d : Device) : d.showEvents.goldNext = d.goldNext := rfl
@[simp] theorem Device.showEvents_restart (d : Device) : d.showEvents.restart = d.restart := rfl
@[simp] theorem Device.showEvents_fwTimes (d : Device) : d.showEvents.fwTimes = d.fwTimes := rfl
@[simp] theorem Device.showEvents_txRecs (d : Device) : d.showEvents.txRecs = d.txRecs := rfl
@[simp] theorem Device.showEvents_eth (d : Device) : d.showEvents.eth = d.eth := rfl
@[simp] theorem Device.showEvents_ledgers (d : Device) : d.showEvents.ledgers = d.ledgers := rfl
@[simp] theorem Device.showEvents_loHeld (d : Device) : d.showEvents.loHeld = d.loHeld := rfl
@[simp] theorem Device.showEvents_hiCaptured (d : Device) : d.showEvents.hiCaptured = d.hiCaptured := rfl
@[simp] theorem Device.showEvents_freeCtr (d : Device) : d.showEvents.freeCtr = d.freeCtr := rfl

@[simp] theorem Device.toffStart_regs (d : Device) (e : Eng) : (d.toffStart e).regs = d.regs := rfl
@[simp] theorem Device.toffStart_mem (d : Device) (e : Eng) : (d.toffStart e).mem = d.mem := rfl
@[simp] theorem Device.toffStart_poison (d : Device) (e : Eng) : (d.toffStart e).poison = d.poison := rfl
@[simp] theorem Device.toffStart_lost (d : Device) (e : Eng) : (d.toffStart e).lost = d.lost := rfl
@[simp] theorem Device.toffStart_sec (d : Device) (e : Eng) : (d.toffStart e).sec = d.sec := rfl
@[simp] theorem Device.toffStart_cores (d : Device) (e : Eng) : (d.toffStart e).cores = d.cores := rfl
@[simp] theorem Device.toffStart_pru (d : Device) (e : Eng) : (d.toffStart e).pru = d.pru := rfl
@[simp] theorem Device.toffStart_mcs (d : Device) (e : Eng) : (d.toffStart e).mcs = d.mcs := rfl
@[simp] theorem Device.toffStart_landed (d : Device) (e : Eng) : (d.toffStart e).landed = d.landed := rfl
@[simp] theorem Device.toffStart_seqs (d : Device) (e : Eng) : (d.toffStart e).seqs = d.seqs := rfl
@[simp] theorem Device.toffStart_links (d : Device) (e : Eng) : (d.toffStart e).links = d.links := rfl
@[simp] theorem Device.toffStart_wits (d : Device) (e : Eng) : (d.toffStart e).wits = d.wits := rfl
@[simp] theorem Device.toffStart_gcs (d : Device) (e : Eng) : (d.toffStart e).gcs = d.gcs := rfl
@[simp] theorem Device.toffStart_gdone (d : Device) (e : Eng) : (d.toffStart e).gdone = d.gdone := rfl
@[simp] theorem Device.toffStart_arbLast (d : Device) (e : Eng) : (d.toffStart e).arbLast = d.arbLast := rfl
@[simp] theorem Device.toffStart_stns (d : Device) (e : Eng) : (d.toffStart e).stns = d.stns := rfl
@[simp] theorem Device.toffStart_fs (d : Device) (e : Eng) : (d.toffStart e).fs = d.fs := rfl
@[simp] theorem Device.toffStart_hostLanes (d : Device) (e : Eng) : (d.toffStart e).hostLanes = d.hostLanes := rfl
@[simp] theorem Device.toffStart_golds (d : Device) (e : Eng) : (d.toffStart e).golds = d.golds := rfl
@[simp] theorem Device.toffStart_shadow (d : Device) (e : Eng) : (d.toffStart e).shadow = d.shadow := rfl
@[simp] theorem Device.toffStart_twin (d : Device) (e : Eng) : (d.toffStart e).twin = d.twin := rfl
@[simp] theorem Device.toffStart_cool (d : Device) (e : Eng) : (d.toffStart e).cool = d.cool := rfl
@[simp] theorem Device.toffStart_buses (d : Device) (e : Eng) : (d.toffStart e).buses = d.buses := rfl
@[simp] theorem Device.toffStart_clock (d : Device) (e : Eng) : (d.toffStart e).clock = d.clock := rfl
@[simp] theorem Device.toffStart_ft (d : Device) (e : Eng) : (d.toffStart e).ft = d.ft := rfl
@[simp] theorem Device.toffStart_tray (d : Device) (e : Eng) : (d.toffStart e).tray = d.tray := rfl
@[simp] theorem Device.toffStart_pins (d : Device) (e : Eng) : (d.toffStart e).pins = d.pins := rfl
@[simp] theorem Device.toffStart_boot (d : Device) (e : Eng) : (d.toffStart e).boot = d.boot := rfl
@[simp] theorem Device.toffStart_goldNext (d : Device) (e : Eng) : (d.toffStart e).goldNext = d.goldNext := rfl
@[simp] theorem Device.toffStart_restart (d : Device) (e : Eng) : (d.toffStart e).restart = d.restart := rfl
@[simp] theorem Device.toffStart_fwTimes (d : Device) (e : Eng) : (d.toffStart e).fwTimes = d.fwTimes := rfl
@[simp] theorem Device.toffStart_txRecs (d : Device) (e : Eng) : (d.toffStart e).txRecs = d.txRecs := rfl
@[simp] theorem Device.toffStart_eth (d : Device) (e : Eng) : (d.toffStart e).eth = d.eth := rfl
@[simp] theorem Device.toffStart_ledgers (d : Device) (e : Eng) : (d.toffStart e).ledgers = d.ledgers := rfl
@[simp] theorem Device.toffStart_loHeld (d : Device) (e : Eng) : (d.toffStart e).loHeld = d.loHeld := rfl
@[simp] theorem Device.toffStart_hiCaptured (d : Device) (e : Eng) : (d.toffStart e).hiCaptured = d.hiCaptured := rfl
@[simp] theorem Device.toffStart_freeCtr (d : Device) (e : Eng) : (d.toffStart e).freeCtr = d.freeCtr := rfl

@[simp] theorem Device.fresh_regs (d : Device) : d.fresh.2.regs = d.regs := rfl
@[simp] theorem Device.fresh_mem (d : Device) : d.fresh.2.mem = d.mem := rfl
@[simp] theorem Device.fresh_poison (d : Device) : d.fresh.2.poison = d.poison := rfl
@[simp] theorem Device.fresh_lost (d : Device) : d.fresh.2.lost = d.lost := rfl
@[simp] theorem Device.fresh_engs (d : Device) : d.fresh.2.engs = d.engs := rfl
@[simp] theorem Device.fresh_sec (d : Device) : d.fresh.2.sec = d.sec := rfl
@[simp] theorem Device.fresh_cores (d : Device) : d.fresh.2.cores = d.cores := rfl
@[simp] theorem Device.fresh_pru (d : Device) : d.fresh.2.pru = d.pru := rfl
@[simp] theorem Device.fresh_mcs (d : Device) : d.fresh.2.mcs = d.mcs := rfl
@[simp] theorem Device.fresh_landed (d : Device) : d.fresh.2.landed = d.landed := rfl
@[simp] theorem Device.fresh_seqs (d : Device) : d.fresh.2.seqs = d.seqs := rfl
@[simp] theorem Device.fresh_links (d : Device) : d.fresh.2.links = d.links := rfl
@[simp] theorem Device.fresh_wits (d : Device) : d.fresh.2.wits = d.wits := rfl
@[simp] theorem Device.fresh_gcs (d : Device) : d.fresh.2.gcs = d.gcs := rfl
@[simp] theorem Device.fresh_gdone (d : Device) : d.fresh.2.gdone = d.gdone := rfl
@[simp] theorem Device.fresh_arbLast (d : Device) : d.fresh.2.arbLast = d.arbLast := rfl
@[simp] theorem Device.fresh_stns (d : Device) : d.fresh.2.stns = d.stns := rfl
@[simp] theorem Device.fresh_fs (d : Device) : d.fresh.2.fs = d.fs := rfl
@[simp] theorem Device.fresh_hostLanes (d : Device) : d.fresh.2.hostLanes = d.hostLanes := rfl
@[simp] theorem Device.fresh_golds (d : Device) : d.fresh.2.golds = d.golds := rfl
@[simp] theorem Device.fresh_shadow (d : Device) : d.fresh.2.shadow = d.shadow := rfl
@[simp] theorem Device.fresh_twin (d : Device) : d.fresh.2.twin = d.twin := rfl
@[simp] theorem Device.fresh_cool (d : Device) : d.fresh.2.cool = d.cool := rfl
@[simp] theorem Device.fresh_buses (d : Device) : d.fresh.2.buses = d.buses := rfl
@[simp] theorem Device.fresh_clock (d : Device) : d.fresh.2.clock = d.clock := rfl
@[simp] theorem Device.fresh_ft (d : Device) : d.fresh.2.ft = d.ft := rfl
@[simp] theorem Device.fresh_tray (d : Device) : d.fresh.2.tray = d.tray := rfl
@[simp] theorem Device.fresh_pins (d : Device) : d.fresh.2.pins = d.pins := rfl
@[simp] theorem Device.fresh_boot (d : Device) : d.fresh.2.boot = d.boot := rfl
@[simp] theorem Device.fresh_goldNext (d : Device) : d.fresh.2.goldNext = d.goldNext := rfl
@[simp] theorem Device.fresh_restart (d : Device) : d.fresh.2.restart = d.restart := rfl
@[simp] theorem Device.fresh_fwTimes (d : Device) : d.fresh.2.fwTimes = d.fwTimes := rfl
@[simp] theorem Device.fresh_txRecs (d : Device) : d.fresh.2.txRecs = d.txRecs := rfl
@[simp] theorem Device.fresh_eth (d : Device) : d.fresh.2.eth = d.eth := rfl
@[simp] theorem Device.fresh_ledgers (d : Device) : d.fresh.2.ledgers = d.ledgers := rfl
@[simp] theorem Device.fresh_loHeld (d : Device) : d.fresh.2.loHeld = d.loHeld := rfl
@[simp] theorem Device.fresh_hiCaptured (d : Device) : d.fresh.2.hiCaptured = d.hiCaptured := rfl
@[simp] theorem Device.fresh_freeCtr (d : Device) : d.fresh.2.freeCtr = d.freeCtr + 1 := rfl

@[simp] theorem Device.fresh64_regs (d : Device) : d.fresh64.2.regs = d.regs := rfl
@[simp] theorem Device.fresh64_mem (d : Device) : d.fresh64.2.mem = d.mem := rfl
@[simp] theorem Device.fresh64_poison (d : Device) : d.fresh64.2.poison = d.poison := rfl
@[simp] theorem Device.fresh64_lost (d : Device) : d.fresh64.2.lost = d.lost := rfl
@[simp] theorem Device.fresh64_engs (d : Device) : d.fresh64.2.engs = d.engs := rfl
@[simp] theorem Device.fresh64_sec (d : Device) : d.fresh64.2.sec = d.sec := rfl
@[simp] theorem Device.fresh64_cores (d : Device) : d.fresh64.2.cores = d.cores := rfl
@[simp] theorem Device.fresh64_pru (d : Device) : d.fresh64.2.pru = d.pru := rfl
@[simp] theorem Device.fresh64_mcs (d : Device) : d.fresh64.2.mcs = d.mcs := rfl
@[simp] theorem Device.fresh64_landed (d : Device) : d.fresh64.2.landed = d.landed := rfl
@[simp] theorem Device.fresh64_seqs (d : Device) : d.fresh64.2.seqs = d.seqs := rfl
@[simp] theorem Device.fresh64_links (d : Device) : d.fresh64.2.links = d.links := rfl
@[simp] theorem Device.fresh64_wits (d : Device) : d.fresh64.2.wits = d.wits := rfl
@[simp] theorem Device.fresh64_gcs (d : Device) : d.fresh64.2.gcs = d.gcs := rfl
@[simp] theorem Device.fresh64_gdone (d : Device) : d.fresh64.2.gdone = d.gdone := rfl
@[simp] theorem Device.fresh64_arbLast (d : Device) : d.fresh64.2.arbLast = d.arbLast := rfl
@[simp] theorem Device.fresh64_stns (d : Device) : d.fresh64.2.stns = d.stns := rfl
@[simp] theorem Device.fresh64_fs (d : Device) : d.fresh64.2.fs = d.fs := rfl
@[simp] theorem Device.fresh64_hostLanes (d : Device) : d.fresh64.2.hostLanes = d.hostLanes := rfl
@[simp] theorem Device.fresh64_golds (d : Device) : d.fresh64.2.golds = d.golds := rfl
@[simp] theorem Device.fresh64_shadow (d : Device) : d.fresh64.2.shadow = d.shadow := rfl
@[simp] theorem Device.fresh64_twin (d : Device) : d.fresh64.2.twin = d.twin := rfl
@[simp] theorem Device.fresh64_cool (d : Device) : d.fresh64.2.cool = d.cool := rfl
@[simp] theorem Device.fresh64_buses (d : Device) : d.fresh64.2.buses = d.buses := rfl
@[simp] theorem Device.fresh64_clock (d : Device) : d.fresh64.2.clock = d.clock := rfl
@[simp] theorem Device.fresh64_ft (d : Device) : d.fresh64.2.ft = d.ft := rfl
@[simp] theorem Device.fresh64_tray (d : Device) : d.fresh64.2.tray = d.tray := rfl
@[simp] theorem Device.fresh64_pins (d : Device) : d.fresh64.2.pins = d.pins := rfl
@[simp] theorem Device.fresh64_boot (d : Device) : d.fresh64.2.boot = d.boot := rfl
@[simp] theorem Device.fresh64_goldNext (d : Device) : d.fresh64.2.goldNext = d.goldNext := rfl
@[simp] theorem Device.fresh64_restart (d : Device) : d.fresh64.2.restart = d.restart := rfl
@[simp] theorem Device.fresh64_fwTimes (d : Device) : d.fresh64.2.fwTimes = d.fwTimes := rfl
@[simp] theorem Device.fresh64_txRecs (d : Device) : d.fresh64.2.txRecs = d.txRecs := rfl
@[simp] theorem Device.fresh64_eth (d : Device) : d.fresh64.2.eth = d.eth := rfl
@[simp] theorem Device.fresh64_ledgers (d : Device) : d.fresh64.2.ledgers = d.ledgers := rfl
@[simp] theorem Device.fresh64_loHeld (d : Device) : d.fresh64.2.loHeld = d.loHeld := rfl
@[simp] theorem Device.fresh64_hiCaptured (d : Device) : d.fresh64.2.hiCaptured = d.hiCaptured := rfl
@[simp] theorem Device.fresh64_freeCtr (d : Device) : d.fresh64.2.freeCtr = d.freeCtr + 1 := rfl

@[simp] theorem Device.lapse_regs (d : Device) : d.lapse.2.regs = d.regs := rfl
@[simp] theorem Device.lapse_mem (d : Device) : d.lapse.2.mem = d.mem := rfl
@[simp] theorem Device.lapse_poison (d : Device) : d.lapse.2.poison = d.poison := rfl
@[simp] theorem Device.lapse_lost (d : Device) : d.lapse.2.lost = d.lost := rfl
@[simp] theorem Device.lapse_engs (d : Device) : d.lapse.2.engs = d.engs := rfl
@[simp] theorem Device.lapse_sec (d : Device) : d.lapse.2.sec = d.sec := rfl
@[simp] theorem Device.lapse_cores (d : Device) : d.lapse.2.cores = d.cores := rfl
@[simp] theorem Device.lapse_pru (d : Device) : d.lapse.2.pru = d.pru := rfl
@[simp] theorem Device.lapse_mcs (d : Device) : d.lapse.2.mcs = d.mcs := rfl
@[simp] theorem Device.lapse_landed (d : Device) : d.lapse.2.landed = d.landed := rfl
@[simp] theorem Device.lapse_seqs (d : Device) : d.lapse.2.seqs = d.seqs := rfl
@[simp] theorem Device.lapse_links (d : Device) : d.lapse.2.links = d.links := rfl
@[simp] theorem Device.lapse_wits (d : Device) : d.lapse.2.wits = d.wits := rfl
@[simp] theorem Device.lapse_gcs (d : Device) : d.lapse.2.gcs = d.gcs := rfl
@[simp] theorem Device.lapse_gdone (d : Device) : d.lapse.2.gdone = d.gdone := rfl
@[simp] theorem Device.lapse_arbLast (d : Device) : d.lapse.2.arbLast = d.arbLast := rfl
@[simp] theorem Device.lapse_stns (d : Device) : d.lapse.2.stns = d.stns := rfl
@[simp] theorem Device.lapse_fs (d : Device) : d.lapse.2.fs = d.fs := rfl
@[simp] theorem Device.lapse_hostLanes (d : Device) : d.lapse.2.hostLanes = d.hostLanes := rfl
@[simp] theorem Device.lapse_golds (d : Device) : d.lapse.2.golds = d.golds := rfl
@[simp] theorem Device.lapse_shadow (d : Device) : d.lapse.2.shadow = d.shadow := rfl
@[simp] theorem Device.lapse_twin (d : Device) : d.lapse.2.twin = d.twin := rfl
@[simp] theorem Device.lapse_cool (d : Device) : d.lapse.2.cool = d.cool := rfl
@[simp] theorem Device.lapse_buses (d : Device) : d.lapse.2.buses = d.buses := rfl
@[simp] theorem Device.lapse_clock (d : Device) : d.lapse.2.clock = d.clock := rfl
@[simp] theorem Device.lapse_ft (d : Device) : d.lapse.2.ft = d.ft := rfl
@[simp] theorem Device.lapse_tray (d : Device) : d.lapse.2.tray = d.tray := rfl
@[simp] theorem Device.lapse_pins (d : Device) : d.lapse.2.pins = d.pins := rfl
@[simp] theorem Device.lapse_boot (d : Device) : d.lapse.2.boot = d.boot := rfl
@[simp] theorem Device.lapse_goldNext (d : Device) : d.lapse.2.goldNext = d.goldNext := rfl
@[simp] theorem Device.lapse_restart (d : Device) : d.lapse.2.restart = d.restart := rfl
@[simp] theorem Device.lapse_fwTimes (d : Device) : d.lapse.2.fwTimes = d.fwTimes := rfl
@[simp] theorem Device.lapse_txRecs (d : Device) : d.lapse.2.txRecs = d.txRecs := rfl
@[simp] theorem Device.lapse_eth (d : Device) : d.lapse.2.eth = d.eth := rfl
@[simp] theorem Device.lapse_ledgers (d : Device) : d.lapse.2.ledgers = d.ledgers := rfl
@[simp] theorem Device.lapse_loHeld (d : Device) : d.lapse.2.loHeld = d.loHeld := rfl
@[simp] theorem Device.lapse_hiCaptured (d : Device) : d.lapse.2.hiCaptured = d.hiCaptured := rfl
@[simp] theorem Device.lapse_freeCtr (d : Device) : d.lapse.2.freeCtr = d.freeCtr + 1 := rfl

@[simp] theorem Device.readFt_regs (d : Device) : d.readFt.2.regs = d.regs := rfl
@[simp] theorem Device.readFt_mem (d : Device) : d.readFt.2.mem = d.mem := rfl
@[simp] theorem Device.readFt_poison (d : Device) : d.readFt.2.poison = d.poison := rfl
@[simp] theorem Device.readFt_lost (d : Device) : d.readFt.2.lost = d.lost := rfl
@[simp] theorem Device.readFt_engs (d : Device) : d.readFt.2.engs = d.engs := rfl
@[simp] theorem Device.readFt_sec (d : Device) : d.readFt.2.sec = d.sec := rfl
@[simp] theorem Device.readFt_cores (d : Device) : d.readFt.2.cores = d.cores := rfl
@[simp] theorem Device.readFt_pru (d : Device) : d.readFt.2.pru = d.pru := rfl
@[simp] theorem Device.readFt_mcs (d : Device) : d.readFt.2.mcs = d.mcs := rfl
@[simp] theorem Device.readFt_landed (d : Device) : d.readFt.2.landed = d.landed := rfl
@[simp] theorem Device.readFt_seqs (d : Device) : d.readFt.2.seqs = d.seqs := rfl
@[simp] theorem Device.readFt_links (d : Device) : d.readFt.2.links = d.links := rfl
@[simp] theorem Device.readFt_wits (d : Device) : d.readFt.2.wits = d.wits := rfl
@[simp] theorem Device.readFt_gcs (d : Device) : d.readFt.2.gcs = d.gcs := rfl
@[simp] theorem Device.readFt_gdone (d : Device) : d.readFt.2.gdone = d.gdone := rfl
@[simp] theorem Device.readFt_arbLast (d : Device) : d.readFt.2.arbLast = d.arbLast := rfl
@[simp] theorem Device.readFt_stns (d : Device) : d.readFt.2.stns = d.stns := rfl
@[simp] theorem Device.readFt_fs (d : Device) : d.readFt.2.fs = d.fs := rfl
@[simp] theorem Device.readFt_hostLanes (d : Device) : d.readFt.2.hostLanes = d.hostLanes := rfl
@[simp] theorem Device.readFt_golds (d : Device) : d.readFt.2.golds = d.golds := rfl
@[simp] theorem Device.readFt_shadow (d : Device) : d.readFt.2.shadow = d.shadow := rfl
@[simp] theorem Device.readFt_twin (d : Device) : d.readFt.2.twin = d.twin := rfl
@[simp] theorem Device.readFt_cool (d : Device) : d.readFt.2.cool = d.cool := rfl
@[simp] theorem Device.readFt_buses (d : Device) : d.readFt.2.buses = d.buses := rfl
@[simp] theorem Device.readFt_clock (d : Device) : d.readFt.2.clock = d.clock := rfl
@[simp] theorem Device.readFt_tray (d : Device) : d.readFt.2.tray = d.tray := rfl
@[simp] theorem Device.readFt_pins (d : Device) : d.readFt.2.pins = d.pins := rfl
@[simp] theorem Device.readFt_boot (d : Device) : d.readFt.2.boot = d.boot := rfl
@[simp] theorem Device.readFt_goldNext (d : Device) : d.readFt.2.goldNext = d.goldNext := rfl
@[simp] theorem Device.readFt_restart (d : Device) : d.readFt.2.restart = d.restart := rfl
@[simp] theorem Device.readFt_fwTimes (d : Device) : d.readFt.2.fwTimes = d.fwTimes := rfl
@[simp] theorem Device.readFt_txRecs (d : Device) : d.readFt.2.txRecs = d.txRecs := rfl
@[simp] theorem Device.readFt_eth (d : Device) : d.readFt.2.eth = d.eth := rfl
@[simp] theorem Device.readFt_ledgers (d : Device) : d.readFt.2.ledgers = d.ledgers := rfl
@[simp] theorem Device.readFt_loHeld (d : Device) : d.readFt.2.loHeld = d.loHeld := rfl
@[simp] theorem Device.readFt_hiCaptured (d : Device) : d.readFt.2.hiCaptured = d.hiCaptured := rfl
@[simp] theorem Device.readFt_freeCtr (d : Device) : d.readFt.2.freeCtr = d.freeCtr + 1 := rfl

end Sys2Proof.Machine
end

