-- ==== Sys2Proof/Laws/Fields.lean ====
section
/-! SUPPORT. Registers and their fields: a read after a write, in the same field, in another, and in another register; and the
canonical form of the register file and of a memory kept by every operation on them. -/

namespace Sys2Proof.Machine

/-! ### Fields of a word -/

/-- The number of a word with a field replaced. -/
theorem Fld.put_toNat (f : Fld) (v : BitVec 32) (x : Nat) (h : f.lo + f.width ≤ 32) :
    (f.put v x).toNat =
      v.toNat % 2 ^ f.lo + 2 ^ f.lo * (x % 2 ^ f.width + 2 ^ f.width * (v.toNat / 2 ^ f.lo / 2 ^ f.width)) := by
  have hA : 0 < 2 ^ f.lo := Nat.pow_pos (by decide)
  have hB : 0 < 2 ^ f.width := Nat.pow_pos (by decide)
  have hv : v.toNat < 2 ^ 32 := v.isLt
  have hpow : 2 ^ 32 = 2 ^ f.lo * 2 ^ f.width * 2 ^ (32 - f.lo - f.width) := by
    rw [← Nat.pow_add, ← Nat.pow_add]; congr 1; omega
  generalize hn : v.toNat = n at *
  have hq : n = n % 2 ^ f.lo + 2 ^ f.lo * (n / 2 ^ f.lo) := (Nat.mod_add_div _ _).symm
  have hm : n / 2 ^ f.lo = n / 2 ^ f.lo % 2 ^ f.width + 2 ^ f.width * (n / 2 ^ f.lo / 2 ^ f.width) :=
    (Nat.mod_add_div _ _).symm
  have hl : n % 2 ^ f.lo < 2 ^ f.lo := Nat.mod_lt _ hA
  have hy : x % 2 ^ f.width < 2 ^ f.width := Nat.mod_lt _ hB
  have hh : n / 2 ^ f.lo / 2 ^ f.width < 2 ^ (32 - f.lo - f.width) := by
    rw [Nat.div_div_eq_div_mul]
    exact Nat.div_lt_of_lt_mul (by rw [← hpow]; exact hv)
  have hp : (f.put v x).toNat = (n - n / 2 ^ f.lo % 2 ^ f.width * 2 ^ f.lo + x % 2 ^ f.width * 2 ^ f.lo) % 2 ^ 32 := by
    simp [Fld.put, Fld.get, bitsOf, hn]
  rw [hp]
  generalize 2 ^ f.lo = A at *
  generalize 2 ^ f.width = B at *
  generalize 2 ^ (32 - f.lo - f.width) = C at *
  generalize n % A = l at *
  generalize n / A = q at *
  generalize q % B = m at *
  generalize q / B = t at *
  generalize x % B = y at *
  subst hm
  subst hq
  have e1 : A * (m + B * t) = m * A + A * (B * t) := by rw [Nat.mul_add, Nat.mul_comm A m]
  have e2 : A * (y + B * t) = y * A + A * (B * t) := by rw [Nat.mul_add, Nat.mul_comm A y]
  have hsum : l + A * (m + B * t) - m * A + y * A = l + A * (y + B * t) := by rw [e1, e2]; omega
  rw [hsum, hpow]
  apply Nat.mod_eq_of_lt
  have h1 : A * (y + B * t) + A = A * (y + 1 + B * t) := by
    rw [Nat.mul_add, Nat.mul_add, Nat.mul_add]; omega
  have h2 : y + 1 + B * t ≤ B * (t + 1) := by rw [Nat.mul_add]; omega
  have h3 : A * (y + 1 + B * t) ≤ A * (B * (t + 1)) := Nat.mul_le_mul_left _ h2
  have h4 : A * (B * (t + 1)) ≤ A * (B * C) := Nat.mul_le_mul_left _ (Nat.mul_le_mul_left _ hh)
  have h5 : A * (B * C) = A * B * C := (Nat.mul_assoc _ _ _).symm
  omega

/-- A field reads what was put into it. -/
theorem Fld.get_put (f : Fld) (v : BitVec 32) (x : Nat) (h : f.lo + f.width ≤ 32) : f.get (f.put v x) = x % 2 ^ f.width := by
  have hA : 0 < 2 ^ f.lo := Nat.pow_pos (by decide)
  have hl : v.toNat % 2 ^ f.lo < 2 ^ f.lo := Nat.mod_lt _ hA
  unfold Fld.get bitsOf
  rw [Fld.put_toNat f v x h, Nat.add_mul_div_left _ _ hA, Nat.div_eq_of_lt hl, Nat.zero_add, Nat.add_mul_mod_self_left,
    Nat.mod_mod]

/-- Two fields share no bit. -/
def Fld.apart (f g : Fld) : Bool := decide (f.lo + f.width ≤ g.lo ∨ g.lo + g.width ≤ f.lo)

/-- A field keeps its value when another is put. -/
theorem Fld.get_put_apart (f g : Fld) (v : BitVec 32) (x : Nat) (h : f.lo + f.width ≤ 32) (hfg : f.apart g = true) :
    g.get (f.put v x) = g.get v := by
  have hA : 0 < 2 ^ f.lo := Nat.pow_pos (by decide)
  have hB : 0 < 2 ^ f.width := Nat.pow_pos (by decide)
  have hl : v.toNat % 2 ^ f.lo < 2 ^ f.lo := Nat.mod_lt _ hA
  have hy : x % 2 ^ f.width < 2 ^ f.width := Nat.mod_lt _ hB
  unfold Fld.get bitsOf
  rw [Fld.put_toNat f v x h]
  rcases of_decide_eq_true hfg with hlt | hlt
  · have hpow : 2 ^ g.lo = 2 ^ f.lo * 2 ^ f.width * 2 ^ (g.lo - f.lo - f.width) := by
      rw [← Nat.pow_add, ← Nat.pow_add]; congr 1; omega
    rw [hpow, ← Nat.div_div_eq_div_mul, ← Nat.div_div_eq_div_mul, Nat.add_mul_div_left _ _ hA, Nat.div_eq_of_lt hl,
      Nat.zero_add, Nat.add_mul_div_left _ _ hB, Nat.div_eq_of_lt hy, Nat.zero_add, ← Nat.div_div_eq_div_mul,
      ← Nat.div_div_eq_div_mul]
  · have hpow : 2 ^ f.lo = 2 ^ (g.lo + g.width) * 2 ^ (f.lo - g.lo - g.width) := by
      rw [← Nat.pow_add]; congr 1; omega
    have key (n : Nat) : n / 2 ^ g.lo % 2 ^ g.width = n % 2 ^ (g.lo + g.width) / 2 ^ g.lo := by
      rw [Nat.pow_add, Nat.mod_mul_right_div_self]
    rw [key, key, hpow]
    congr 1
    rw [Nat.mul_assoc, Nat.add_mul_mod_self_left, Nat.mod_mod_of_dvd _ (Nat.dvd_mul_right _ _)]

/-- A field's value fits its width. -/
theorem Fld.get_lt (f : Fld) (v : BitVec 32) : f.get v < 2 ^ f.width := Nat.mod_lt _ (Nat.pow_pos (by decide))

/-! ### Registers -/

@[simp] theorem Device.reg_setReg_self (d : Device) (a : Nat) (v : BitVec 32) : (d.setReg a v).reg a = v := by
  simp [Device.reg]

theorem Device.reg_setReg_ne (d : Device) {a b : Nat} (v : BitVec 32) (h : b ≠ a) : (d.setReg a v).reg b = d.reg b := by
  simp [Device.reg, sparseGet_set_ne _ _ _ _ h]

theorem Device.reg_setFld_ne (d : Device) {a b : Nat} (f : Fld) (x : Nat) (h : b ≠ a) : (d.setFld a f x).reg b = d.reg b :=
  d.reg_setReg_ne _ h

@[simp] theorem Device.reg_setFld_self (d : Device) (a : Nat) (f : Fld) (x : Nat) :
    (d.setFld a f x).reg a = f.put (d.reg a) x := d.reg_setReg_self _ _

theorem Device.fld_setFld_self (d : Device) (a : Nat) (f : Fld) (x : Nat) (h : f.lo + f.width ≤ 32) :
    (d.setFld a f x).fld a f = x % 2 ^ f.width := by
  simp [Device.fld, Fld.get_put f _ x h]

theorem Device.fld_setFld_apart (d : Device) (a : Nat) (f g : Fld) (x : Nat) (h : f.lo + f.width ≤ 32)
    (hfg : f.apart g = true) : (d.setFld a f x).fld a g = d.fld a g := by
  simp [Device.fld, Fld.get_put_apart f g _ x h hfg]

theorem Device.fld_setFld_ne (d : Device) {a b : Nat} (f g : Fld) (x : Nat) (h : b ≠ a) :
    (d.setFld a f x).fld b g = d.fld b g := by
  simp [Device.fld, d.reg_setFld_ne f x h]

theorem Device.flag_on_self (d : Device) (a : Nat) (f : Fld) (h : f.lo + f.width ≤ 32) (hw : 0 < f.width) :
    (d.on a f).flag a f = true := by
  have h1 : 1 < 2 ^ f.width := Nat.one_lt_two_pow (by omega)
  simp [Device.flag, Device.on, d.fld_setFld_self a f 1 h, Nat.mod_eq_of_lt h1]

theorem Device.flag_off_self (d : Device) (a : Nat) (f : Fld) (h : f.lo + f.width ≤ 32) : (d.off a f).flag a f = false := by
  simp [Device.flag, Device.off, d.fld_setFld_self a f 0 h]

/-! ### Canonical forms -/

/-- Every write of a register keeps the canonical form of the register file. -/
theorem Device.setReg_wf (d : Device) (a : Nat) (v : BitVec 32) (h : RegFile.wf d.regs = true) :
    RegFile.wf (d.setReg a v).regs = true := sparseSet_wf regReset d.regs a v h

theorem Device.setFld_wf (d : Device) (a : Nat) (f : Fld) (x : Nat) (h : RegFile.wf d.regs = true) :
    RegFile.wf (d.setFld a f x).regs = true := d.setReg_wf a _ h

/-- A reset of registers keeps it too. -/
theorem Device.resetRegs_wf (d : Device) (p : Nat → Bool) (h : RegFile.wf d.regs = true) :
    RegFile.wf (d.resetRegs p).regs = true := sparseFilter_wf regReset _ d.regs h

/-- A register picked by a reset reads its reset value, and every other keeps its own. -/
theorem sparseGet_filter_keep {α : Type} (e : α) (q : Nat → Bool) (l : List (Nat × α)) (a : Nat) (h : q a = true) :
    sparseGet e (l.filter (fun p => q p.1)) a = sparseGet e l a := by
  induction l with
  | nil => rfl
  | cons p l ih =>
    by_cases hq : q p.1 = true
    · simp [hq, sparseGet, ih]
    · have hne : p.1 ≠ a := fun x => hq (x ▸ h)
      simp [hq, sparseGet, ih, hne]

theorem sparseGet_filter_drop {α : Type} (e : α) (q : Nat → Bool) (l : List (Nat × α)) (a : Nat) (h : q a = false) :
    sparseGet e (l.filter (fun p => q p.1)) a = e := by
  induction l with
  | nil => rfl
  | cons p l ih =>
    by_cases hq : q p.1 = true
    · have hne : p.1 ≠ a := fun x => by rw [x, h] at hq; cases hq
      simp [hq, sparseGet, ih, hne]
    · simp [hq, ih]

theorem Device.reg_resetRegs (d : Device) (p : Nat → Bool) (a : Nat) :
    (d.resetRegs p).reg a = if p a then regReset a else d.reg a := by
  cases h : p a with
  | true => simpa [Device.reg, Device.resetRegs, h] using
      sparseGet_filter_drop (regReset a) (fun x => !p x) d.regs a (by simp [h])
  | false => simpa [Device.reg, Device.resetRegs, h] using
      sparseGet_filter_keep (regReset a) (fun x => !p x) d.regs a (by simp [h])

/-! ### Memory -/

@[simp] theorem memByte_put_self (m : Mem) (a : Nat) (b : BitVec 8) : memByte (memPut m a b) a = b := by
  simp [memByte, memPut]

theorem memByte_put_ne (m : Mem) {a c : Nat} (b : BitVec 8) (h : c ≠ a) : memByte (memPut m a b) c = memByte m c :=
  sparseGet_set_ne _ _ _ _ h

/-- A byte outside the bytes stored reads as before. -/
theorem memByte_puts_outside (m : Mem) (a : Nat) (bs : List (BitVec 8)) (c : Nat) (h : c < a ∨ a + bs.length ≤ c) :
    memByte (memPuts m a bs) c = memByte m c := by
  induction bs generalizing m a with
  | nil => rfl
  | cons b bs ih =>
    simp only [List.length_cons] at h
    rw [memPuts, ih _ _ (by omega), memByte_put_ne _ _ (by omega)]

/-- A byte stored reads back. -/
theorem memByte_puts_inside (m : Mem) (a : Nat) (bs : List (BitVec 8)) (i : Nat) (h : i < bs.length) :
    memByte (memPuts m a bs) (a + i) = bs[i] := by
  induction bs generalizing m a i with
  | nil => exact absurd h (Nat.not_lt_zero _)
  | cons b bs ih =>
    rw [memPuts]
    cases i with
    | zero => rw [memByte_puts_outside _ _ _ _ (by omega)]; simp
    | succ i =>
      have hi : i < bs.length := by simpa using h
      have := ih (memPut m a b) (a + 1) i hi
      rw [show a + (i + 1) = a + 1 + i by omega]
      simpa using this

theorem memPut_wf (m : Mem) (a : Nat) (b : BitVec 8) (h : Memory.wf m = true) : Memory.wf (memPut m a b) = true :=
  sparseSet_wf (fun _ => 0#8) m a b h

/-- Every write to a memory keeps its canonical form. -/
theorem memPuts_wf (m : Mem) (a : Nat) (bs : List (BitVec 8)) (h : Memory.wf m = true) : Memory.wf (memPuts m a bs) = true := by
  induction bs generalizing m a with
  | nil => exact h
  | cons b bs ih => exact ih _ _ (memPut_wf m a b h)

end Sys2Proof.Machine
end

