-- ==== Sys2Proof/WellFormed.lean ====
section
/-! DEFINITION. Which commands can be sent at all: an address lies in the address space, a flit and a Flowstone record have
their lengths, a measurement fits its register. Whatever an operand's type bounds needs no check. A command that is not well
formed stands for nothing that happens at the block's ports, pins or clocks. -/

namespace Sys2Proof

/-- The command's operands are ones that its happening can carry. -/
def Instr.wellFormed : Instr → Bool
  | .fwRestart .. | .commonsRestart .. | .fullReset .. | .hubFault | .sramRecheckDone | .selfRefreshTimeout .. => true
  | .ucrFwReady .. | .tGraceExpiry => true
  | .oscTrim dev => dev.length == 100
  | .trimLapse .. | .refclkLost | .refclkReturn => true
  | .accessTimeout _u _write _rd a => a < 2 ^ 36
  | .add .. | .sub .. | .and .. | .or .. | .xor .. | .shl .. => true
  | .shr .. | .sra .. | .mul .. | .mulh .. | .divu .. | .remu .. => true
  | .slt .. | .sltu .. | .min .. | .max .. | .addi .. | .andi .. => true
  | .ori .. | .xori .. | .slti .. | .shli .. | .shri .. | .srai .. => true
  | .lui .. | .ldb .. | .ldh .. | .ldw .. | .ldd .. | .stb .. => true
  | .sth .. | .stw .. | .std .. | .beq .. | .bne .. | .blt .. => true
  | .bge .. | .bltu .. | .bgeu .. | .jal .. | .jalr .. | .inPort .. => true
  | .outPort .. | .bset .. | .bclr .. | .wait .. | .waitConditionMet .. | .waitTimeout .. => true
  | .sleep .. | .sleepEnd .. | .yield .. | .yieldResume .. | .trap .. | .halt .. => true
  | .retx .. | .sysr .. | .sysw .. | .fence .. | .swap .. | .cas .. => true
  | .sha .. | .ecv .. | .tld .. | .tst .. | .xclr .. | .xdot .. => true
  | .xmag .. | .xrnd .. | .bcmp .. | .gQueueComplete .. | .interruptEntry .. | .coreWatchdogExpiry .. => true
  | .engineWatchdogExpiry .. | .engStart .. | .engStop .. | .engKill .. | .startCheckDone .. | .tOffMinExpiry .. => true
  | .engMboxInWrite .. | .engMboxOutRead .. | .engLoadOpen .. | .engLoadCommit .. | .packVarWrite .. => true
  | .registerWrite _who a _v => a < 2 ^ 32 && a % 4 == 0
  | .laneDetectDone .. | .laneTrainDone .. | .alignLock .. | .alignLoss .. => true
  | .flitReceive _x bs fec => bs.length == 256 && fec.corrected ≤ 2 && fec.uncorrected ≤ 2
  | .nakRepeatTimer .. | .resendTimeout .. | .tLinkExpiry .. | .hello .. | .caps .. | .unitMap .. => true
  | .stepOpen .. | .csum .. | .sample .. | .stepClose .. | .result .. | .health .. => true
  | .maintReply .. | .fenceTimeout .. | .witlMaintGo .. | .maint .. | .witlMaintRxdone .. | .witCtlWrite .. => true
  | .quietPoint .. | .witEpochNew .. | .witEpochResend .. | .sealJob .. | .galleryLag .. | .replayTimeout .. => true
  | .witLedgerPop .. | .witEventPop .. | .arbiterHandover .. | .loaderCopyDone .. | .completionAccept | .tGdispExpiry .. => true
  | .katRun .. => true
  | .katDone _g failing => failing.length ≤ 512
  | .galFence .. | .galUnfence .. | .visitDue .. | .stencilDeadline .. | .obsWindowClose .. | .fsFence .. => true
  | .fsUnfence .. | .fsRetire .. | .fsUnretire .. | .fsClear .. | .fsCarry .. | .fsResume => true
  | .fsRemovePack .. | .flowstoneTick | .ftMark | .fsAppendDone .. | .logScan | .fsJournalAck .. => true
  | .mcReady .. => true
  | .scrubRead _j _ch off _found _raced => off % 64 == 0
  | .scrubLate .. | .twArm .. | .twClose .. => true
  | .windowLanding a bs _path => a < 2 ^ 36 && bs.length ≤ 64
  | .trwDqGo .. | .trowelCsumAcc .. | .trowelCrc32c .. | .trowelCmpExp .. | .trowelXfold .. | .trowelFill .. => true
  | .trowelCopy .. | .railPgRise .. | .railPgFall .. | .railPgGlitch .. | .tWarnExpiry .. | .tDownMaxExpiry .. => true
  | .safeStopStep .. | .sqCntClr .. => true
  | .vinLow vin vhold => vin < 2 ^ 16 && vhold < 2 ^ 16
  | .holdupWriteDone | .forcedOffStep => true
  | .vinReturn vin vhold => vin < 2 ^ 16 && vhold < 2 ^ 16
  | .killIn | .killInRelease | .extOff .. | .presenceLost .. | .btnPress | .btnRelease => true
  | .longPress | .mrstNAssert => true
  | .capEngage vin imon => vin < 2 ^ 16 && imon.length == 8 && imon.all (· < 2 ^ 16)
  | .capRelease vin imon => vin < 2 ^ 16 && imon.length == 8 && imon.all (· < 2 ^ 16)
  | .sensorSample ain dies => ain.length == 48 && dies.length == 4
  | .safeHotClear | .slotStale .. | .healthSlotJoin .. | .zoneEval | .zoneHot .. | .zoneCool .. => true
  | .channelCommand | .motCfgWrite .. | .motorAlignDone .. | .motorLock .. | .lockDeadline .. | .lockLoss .. => true
  | .lowSpeedStall .. | .overcurrent .. | .openWinding .. | .retryWaitEnd .. | .triesReset .. | .driveThermalTrip .. => true
  | .driveDerate .. | .auxTachFail .. | .clFailAck .. | .flowRate .. | .loopAnomaly .. | .leakSample .. => true
  | .tShutExpiry .. | .clLkAck .. | .busFree .. | .quickW .. | .quickR .. | .sendByte .. => true
  | .recvByte .. | .writeByte .. | .readByte .. | .writeWord .. | .readWord .. | .procCall .. => true
  | .blockWrite .. | .blockRead .. | .blockProcCall .. | .i2cWrite .. | .i2cRead .. | .i2cWriteRead .. => true
  | .addrNackRetry .. | .arbBackoffEnd .. | .clkTimeout .. | .tgtTransaction .. | .tgtSleep .. | .tgtSclTimeout .. => true
  | .hostNotify .. | .alertResponse .. | .busStuck .. | .busStuckClear .. | .busUnpowered .. | .segOutcome .. => true
  | .segRetry .. | .secRelease .. | .fuseShadowCheck .. | .mgmtVerifyDone .. | .lockAllDeadline .. | .secException => true
  | .secInstall .. | .secVerify | .secSignMmp | .secSpdm | .secStage .. | .secRevoke => true
  | .secOwnerKey | .secCertWrite .. | .secConfirm .. | .arbResume | .trialExpiry | .xtalStartFail => true
  | .getVersion .. | .getCapabilities .. | .negotiateAlgorithms .. | .getCertificate .. | .challenge .. | .getMeasurements .. => true
  | .actHandover .. | .actCommons .. | .actFull .. | .preverifyDone .. | .quiesced .. | .quiesceTimeout => true
  | .pauseCopyDone .. | .goldReadDone .. => true
  | .goldReadbackDone _b _digest _sectors _cmdOk _flash => true
  | .tGoldMaxExpiry .. | .ethFrameReceive .. | .arpRequest .. | .ndSolicit .. => true
  | .icmpEcho _v6 _dst data _src => data.length ≤ 65535
  | .dhcpReceive .. | .lldpTransmit | .ethRateWrite .. => true
  | .hsInit payload _src => payload.length ≤ 65535
  | .hsFin _session sig _window _late _src => sig.length ≤ 65535
  | .dataPacket .. | .ackPacket .. | .closePacket .. | .rtoExpiry | .ackKeepalive | .tSessionExpiry => true
  | .mmpSpdm | .loadSecfw .. | .loadPack .. | .loadMgmt .. | .loadStencilPack | .loadGolden .. => true
  | .loadHostCode | .runProgram .. | .runLimitExpiry .. | .mmpRead | .mmpWrite | .ethEvtGo => true
  | .eventAck | .eventResend | .bulkFlowstone | .bulkLedger | .bulkSample | .bulkGolden .. => true
  | .bulkHoldup | .ethRxTailWrite .. | .ethTxHeadWrite .. | .relayStart .. | .relayEnd .. | .hbSend => true
  | .hbReceive .. | .hbPinEdge | .twinLinkDown | .partnerLost | .joinTimeout => true
  | .stepRecord id _i _c => id < 2 ^ 32
  | .stepAck id => id < 2 ^ 32
  | .stepAckTimeout id => id < 2 ^ 32
  | .mirrorRecord .. | .verdictRecord .. | .sealNoteRecord .. => true
  | .fsRecordReceive bs => bs.length == 128
  | .requestRecord .. | .requestOffTimeout .. => true
  | .relayRecord packet => packet.length ≤ 65535
  | .actRecord .. | .twinSwap .. | .standAside .. | .soloStart | .vinConfirmTimeout | .vstbyGood => true
  | .supplyOutOfRange .. | .vioBankLoss .. | .xtalStop => true
  | .bridgeSwitchOpen vin => vin < 2 ^ 16
  | .bridgeSwitchClose vin => vin < 2 ^ 16
  | .holdOkChange vhold => vhold < 2 ^ 16
  | .vstbyLoss | .supplyReturn .. | .vioBankReturn .. | .xtalReturn | .mrstNRelease | .pairPauseTimeout => true
  | .pinPathLoss => true

end Sys2Proof
end

