-- ==== Sys2Proof/Tests/Slice0.lean ====
section
/-! SUPPORT. Tests. `refused_…`: an ill-formed command that each check refuses. `met_…`: for the statement of that name in
the obligations, concrete states and operands that meet the hypotheses of its clauses together. `test_…`: values worked out
from the manual's words. -/

namespace Sys2Proof.Tests

open Sys2Proof Sys2Proof.Machine Sys2Proof.Claims

set_option maxRecDepth 100000
set_option Elab.async false

/-! ### Small states -/

/-- The reset state with fields of registers set. -/
def at_ (l : List (Nat × Fld × Nat)) : State := puts State.reset l

/-- The state with islands in RUN. -/
def runs (l : List Nat) (s : State) : State := puts s (l.map (fun i => (R.ISLE_ENTRY i, F.ISLE_ENTRY.STATE, 2)))

/-- The state with an engine's STATE set. -/
def engAt (e : Eng) (st : Nat) (s : State) : State := put (runs [e.island] s) (R.ENG_STATUS e.win) F.ENG_STATUS.STATE st

/-- The next state of a command, and the reset state where there is none. -/
def after (c : Instr) (s : State) : State := match exec c s with | .next t => t | _ => State.reset

/-- An issue without any error. -/
def by_ (u : EUnit) : Issue := ⟨u, false, .clean⟩

/-! ### Ill-formed commands -/

theorem refused_osc_trim : (Instr.oscTrim [0]).wellFormed = false := by decide
theorem refused_access_timeout : (Instr.accessTimeout (.core 0) false 1#5 (2 ^ 36)).wellFormed = false := by decide
theorem refused_register_write :
    (Instr.registerWrite (.core 0) (2 ^ 32) 0#32).wellFormed = false ∧
      (Instr.registerWrite (.core 0) 0x20001002 0#32).wellFormed = false := by decide
theorem refused_flit_receive :
    (Instr.flitReceive (.wit 0) [] ⟨0, 0, false⟩).wellFormed = false ∧
      (Instr.flitReceive (.wit 0) (List.replicate 256 0#8) ⟨3, 0, false⟩).wellFormed = false ∧
      (Instr.flitReceive (.wit 0) (List.replicate 256 0#8) ⟨0, 3, false⟩).wellFormed = false := by decide
theorem refused_kat_done : (Instr.katDone 0 (List.replicate 513 (0, .half))).wellFormed = false := by decide
theorem refused_scrub_read : (Instr.scrubRead 0 0 32 .clean false).wellFormed = false := by decide
theorem refused_window_landing :
    (Instr.windowLanding (2 ^ 36) [] .clean).wellFormed = false ∧
      (Instr.windowLanding 0x100000000 (List.replicate 65 0#8) .clean).wellFormed = false := by decide
theorem refused_vin :
    (Instr.vinLow (2 ^ 16) 0).wellFormed = false ∧ (Instr.vinLow 0 (2 ^ 16)).wellFormed = false ∧
      (Instr.vinReturn (2 ^ 16) 0).wellFormed = false ∧ (Instr.vinReturn 0 (2 ^ 16)).wellFormed = false := by decide
theorem refused_cap :
    (Instr.capEngage (2 ^ 16) (List.replicate 8 0)).wellFormed = false ∧ (Instr.capEngage 0 []).wellFormed = false ∧
      (Instr.capRelease 0 (List.replicate 8 (2 ^ 16))).wellFormed = false ∧
      (Instr.capRelease 0 [0]).wellFormed = false := by decide
theorem refused_sensor_sample :
    (Instr.sensorSample [] [0, 0, 0, 0]).wellFormed = false ∧
      (Instr.sensorSample (List.replicate 48 0) [0]).wellFormed = false := by decide
theorem refused_host_payloads (l : List (BitVec 8)) (h : 65535 < l.length) :
    (Instr.icmpEcho false 0#128 l 0#48).wellFormed = false ∧ (Instr.hsInit l 0#48).wellFormed = false ∧
      (Instr.hsFin 0#32 l 0#16 false 0#48).wellFormed = false ∧ (Instr.relayRecord l).wellFormed = false := by
  have : ¬ l.length ≤ 65535 := by omega
  simp [Instr.wellFormed, this]
theorem refused_step_records :
    (Instr.stepRecord (2 ^ 32) 0 (.en 0)).wellFormed = false ∧ (Instr.stepAck (2 ^ 32)).wellFormed = false ∧
      (Instr.stepAckTimeout (2 ^ 32)).wellFormed = false ∧ (Instr.fsRecordReceive []).wellFormed = false := by decide
theorem refused_bridge :
    (Instr.bridgeSwitchOpen (2 ^ 16)).wellFormed = false ∧ (Instr.bridgeSwitchClose (2 ^ 16)).wellFormed = false ∧
      (Instr.holdOkChange (2 ^ 16)).wellFormed = false := by decide
/-! ### Instructions -/

/-- Witness engine 3 runs, its g2 at the last word of local data. -/
def engState : State :=
  onEng (engAt (.wit 3) 2 State.reset) (.wit 3) (fun c => { c with regs := (c.regs.set 2 0xFFC#32).set 3 0x3000#32 })

/-- Management core 1 runs, g2 in system SRAM, g3 in LPDDR4X whose controller is READY. -/
def coreState : State :=
  onM (runs [43, 72] (at_ [(R.MC_STATUS 0, F.MC_STATUS.STATE, 1)])) 1
    (fun m => { m with regs := (m.regs.set 2 0x10FFFFF8#64).set 3 0x100000000#64 })

/-- The same core in user mode, which the protection unit lets execute. -/
def userState : State :=
  (onM coreState 1 (fun m => { m with status := 0#64 })).onDev (fun d => { d with
    pru := { d.pru with ctl := 1#64, attr := d.pru.attr.set 0 0xFF#64, base := d.pru.base.set 0 0x10000000#64,
                        limit := d.pru.limit.set 0 0x10FFF000#64 } })

/-- The security core runs, g2 in its private SRAM. -/
def secState : State :=
  onE (runs [39] State.reset) .sec (fun c => { c with pc := 0x80000, regs := (c.regs.set 2 0x80000#32).set 3 0x80100#32 })

/-- Gallery cluster 11 runs, two integer tiles in its tile registers 0 and 1. -/
def tileBytes : List (BitVec 8) := [0#8, 0#8, 0#8, 0#8, 1#8, 0#8, 1#8, 0#8, 0x0B#8, 0#8, 0#8, 0#8, 0#8, 0#8, 0#8, 0#8]
def gcState (queue : List GOp) : State :=
  onG (engAt (.gc 11) 2 State.reset) 11 (fun k => { k with queue := queue, tiles := (k.tiles.set 0 tileBytes).set 1 tileBytes })

theorem met_queue_statements : step (front (.holdupWriteDone) State.reset) = exec .holdupWriteDone State.reset := by rfl

theorem met_alu : IssuesE engState (by_ (.eng (.wit 3))) [2, 15] ∧ IssuesE secState (by_ .sec) [2, 3] ∧
    IssuesE (gcState []) (by_ (.eng (.gc 11))) [2, 3] ∧ IssuesM coreState (by_ (.core 1)) 1 ∧
    IssuesM userState (by_ (.core 1)) 1 := by
  unfold IssuesE IssuesM Owes; decide +kernel

theorem met_alu_immediate : IssuesE engState (by_ (.eng (.wit 3))) [15] := by unfold IssuesE Owes; decide +kernel
theorem met_lui : IssuesE engState (by_ (.eng (.wit 3))) [] := by unfold IssuesE Owes; decide +kernel

theorem met_branch_and_jump :
    JumpOk (.eng (.wit 3)) 0x3FFC ∧ ¬ JumpOk (.eng (.wit 3)) 0x4000 ∧ ¬ JumpOk (.eng (.wit 3)) (-4) ∧
    ¬ JumpOk (.eng (.wit 3)) 2 ∧ JumpOk .sec 0x3FFFC ∧ ¬ JumpOk .sec 0x40000 ∧ JumpOk .sec 0x80000 ∧
    addrE engState (.eng (.wit 3)) 3#5 0#16 = 0x3000 ∧ addrM coreState 1 2#5 2#16 % 4 = 2 ∧
    addrM coreState 1 2#5 0#16 % 4 = 0 := by
  unfold JumpOk; decide +kernel

theorem met_load_and_store :
    InLocal (addrE engState (.eng (.wit 3)) 2#5 0#16) 4 ∧ ¬ InLocal (addrE engState (.eng (.wit 3)) 2#5 1#16) 4 ∧
    ¬ InLocal (addrE engState (.eng (.wit 3)) 2#5 4#16) 1 ∧ InPrivate (addrE secState .sec 2#5 0#16) 4 ∧
    ReachesM coreState 1 .read (addrM coreState 1 2#5 0#16) 8 ∧ ReachesM coreState 1 .write (addrM coreState 1 3#5 0#16) 8 ∧
    ReachesM userState 1 .write (addrM userState 1 2#5 0#16) 8 ∧
    coreState.sys.dev.poisonedRange (addrM coreState 1 3#5 0#16) 8 = false ∧ inReserved (addrM coreState 1 3#5 0#16) = false ∧
    NoWindow coreState (addrM coreState 1 3#5 0#16) 8 := by
  unfold InLocal InPrivate ReachesM NoWindow; decide +kernel

theorem met_atomic :
    (ReachesM coreState 1 .write (g64 coreState 1 2#5).toNat 8 ∧ inReserved (g64 coreState 1 2#5).toNat = false ∧
      NoWindow coreState (g64 coreState 1 2#5).toNat 8 ∧ coreState.sys.dev.poisoned (g64 coreState 1 2#5).toNat = false) ∧
    BitVec.ofNat 64 (littleEndian coreState.sys.dev.mem (g64 coreState 1 2#5).toNat 8) ≠ g64 coreState 1 3#5 ∧
    BitVec.ofNat 64 (littleEndian coreState.sys.dev.mem (g64 coreState 1 2#5).toNat 8) = g64 coreState 1 4#5 := by
  unfold ReachesM NoWindow; decide +kernel

theorem met_core_exception : NoHostProgram coreState 1 ∧ NoHostProgram userState 1 ∧
    (entered (userState.sys.dev.cores[1]) 1#64 2#64 3#64).status = 0x11#64 := by
  unfold NoHostProgram; decide +kernel

theorem met_engine_illegal : IssuesE engState (by_ (.eng (.wit 3))) [16, 2] ∧ 16 ≤ (16#5 : BitVec 5).toNat ∧
    engState.sys.dev.unitRuns (.eng (.wit 3)) = true := by
  unfold IssuesE Owes; decide +kernel

theorem met_trap_and_halt : IssuesE engState (by_ (.eng (.wit 3))) [] ∧ engState.sys.dev.pend (.wit 3) = false ∧
    IssuesE secState (by_ .sec) [] ∧ IssuesM userState (by_ (.core 1)) 1 ∧ userState.sys.dev.cores[1].priv = false ∧
    coreState.sys.dev.cores[1].priv = true := by
  unfold IssuesE IssuesM Owes; decide +kernel

theorem met_retx_and_fence : IssuesM coreState (by_ (.core 1)) 1 ∧ coreState.sys.dev.cores[1].priv = true ∧
    userState.sys.dev.cores[1].priv = false ∧ IssuesE (gcState []) (by_ (.eng (.gc 11))) [] ∧
    (gcState []).sys.dev.gcs[11].queue = [] := by
  unfold IssuesE IssuesM Owes; decide +kernel

theorem met_system_registers : coreState.sys.dev.boot.phase ≠ .verified ∧ (0x001, 0x01A) = ((sysTable.map (·.1)).headD 0,
      (sysTable.map (·.1)).getLastD 0) ∧ 0x12F ∈ sysNumbers ∧ 0x00A ∉ sysNumbers ∧ 0xFFF ∉ sysNumbers := by
  decide +kernel

/-- Region 15 of the protection unit is locked. -/
def lockedState : State := coreState.onDev (fun d => { d with pru := { d.pru with attr := d.pru.attr.set 15 0x80#64 } })

theorem met_protection_write : IssuesM lockedState (by_ (.core 1)) 1 ∧ lockedState.sys.dev.boot.phase ≠ .verified ∧
    (lockedState.sys.dev.pru.attr[15]).getLsbD 7 = true ∧ (lockedState.sys.dev.pru.attr[0]).getLsbD 7 = false ∧
    lockedState.sys.dev.pru.ctl.getLsbD 1 = false := by
  unfold IssuesM; decide +kernel

theorem met_port_read : (commonValue engState (.eng (.wit 3)) 0x008).isSome = true ∧
    ReadsM (onM coreState 1 (fun m => { m with pvbase := 0x10000000#64 })) 1 (0x10000000 + 4 * (0xFF - 0x40)) 4 := by
  unfold ReadsM ReachesM; decide +kernel

/-- Bus engine 11 runs. -/
def busState : State := engAt (.bus 11) 2 State.reset

theorem met_port_write : IssuesE busState (by_ (.eng (.bus 11))) [2] ∧
    0x140 ≤ (0x17F#12 : BitVec 12).toNat ∧ (0x17F#12 : BitVec 12).toNat < 0x180 := by
  unfold IssuesE Owes; decide +kernel

theorem met_port_denied : IssuesE busState (by_ (.eng (.bus 11))) [2] ∧ IssuesE secState (by_ .sec) [2] := by
  unfold IssuesE Owes; decide +kernel

/-- A unit's port read has a value and leaves the unit up. -/
def portReads (y : Sys) (u : EUnit) (p : Nat) : Bool :=
  match y.portRead u p with
  | (.ok _, z) => z.dev.unitUp u
  | _ => false

theorem met_wait :
    (portInfo (.eng (.bus 11)) 5).any (·.rd) = true ∧ portReads busState.sys (.eng (.bus 11)) 5 = true ∧
    portReads ({ busState.sys with dev := (busState.sys.dev.readTimerE (.eng (.bus 11))).2 } : Sys) (.eng (.bus 11)) 5 = true ∧
    (let w : WaitCtx := ⟨15, 5, 4, 1#32, 0#32, 0#32, 0, 10#32⟩
     let s := onE busState (.eng (.bus 11)) (fun c => { c with hold := .wait w })
     (s.sys.dev.ectx (.eng (.bus 11))).hold = .wait w ∧ portReads s.sys (.eng (.bus 11)) 5 = true ∧
       portReads (onE s (.eng (.bus 11)) (ticks 10)).sys (.eng (.bus 11)) 5 = true) := by
  decide +kernel

theorem met_sleep_and_yield :
    ((onE busState (.eng (.bus 11)) (fun c => { c with hold := .sleep 15 5#32, mboxIn := [1#32] })).sys.dev.ectx
      (.eng (.bus 11))).mboxIn ≠ [] ∧
    (onM coreState 1 (fun m => { m with hold := .sleep 31 5#32 })).sys.dev.cores[1].hold = .sleep 31 5#32 ∧
    ((onE busState (.eng (.bus 11)) (fun c => { c with hold := .yield })).sys.dev.ectx (.eng (.bus 11))).hold = .yield := by
  decide +kernel

theorem met_watchdog_and_timeout : coreState.sys.dev.answers 43 = true ∧ coreState.sys.dev.cores[1].wdogOnce = false ∧
    coreState.sys.dev.cores[1].hold = .none ∧ NoHostProgram coreState 1 ∧
    (onM coreState 1 (fun m => { m with wdogOnce := true })).sys.dev.cores[1].wdogOnce = true ∧
    engState.sys.dev.answers (Eng.wit 3).island = true ∧ engState.sys.dev.engState (.wit 3) = 2 ∧
    engState.sys.dev.unitRuns (.eng (.wit 3)) = true ∧ coreState.sys.dev.unitRuns (.core 1) = true := by
  unfold NoHostProgram; decide +kernel

/-- A SHA block at 0x80000 with INIT and FINAL on context 3, over 0 bytes at 0x80200; and one outside the private SRAM. -/
def shaState (src : List (BitVec 8)) : State :=
  onE secState .sec (fun c => { c with data := memPuts c.data 0x80000 (src ++ [0#8, 0#8, 0#8, 0#8, 3#8, 3#8]) })

theorem met_crypto : PrivateRange (g32 secState .sec 2#5).toNat 160 ∧
    (let s := shaState [0#8, 2#8, 8#8, 0#8]
     IssuesE s (by_ .sec) [] ∧ PrivateRange (g32 s .sec 3#5).toNat 32 ∧
       (memByte s.sys.dev.sec.ctx.data 0x80009).toNat % 4 = 3 ∧ (memByte s.sys.dev.sec.ctx.data 0x80008).toNat = 3 ∧
       PrivateRange (littleEndian s.sys.dev.sec.ctx.data 0x80000 4) (littleEndian s.sys.dev.sec.ctx.data 0x80004 4)) ∧
    (let s := shaState [0#8, 0#8, 0#8, 0x31#8]
     0x30000000 < littleEndian s.sys.dev.sec.ctx.data 0x80000 4 + littleEndian s.sys.dev.sec.ctx.data 0x80004 4) := by
  unfold IssuesE PrivateRange Owes; decide +kernel

theorem met_tile : IssuesE (gcState []) (by_ (.eng (.gc 11))) [3] ∧
    InLocal (addrE (gcState []) (.eng (.gc 11)) 0#5 0xFF0#16) 16 ∧ (gcState []).sys.dev.gcs[11].tiles[0].length = 16 ∧
    4 ≤ (gcState (List.replicate 4 ⟨0x32, 3, 0, 0, 0⟩)).sys.dev.gcs[11].queue.length := by
  unfold IssuesE InLocal Owes; decide +kernel

theorem met_queued :
    Queued (gcState [⟨0x32, 3, 0, 0, 0⟩]) 11 ⟨0x32, 3, 0, 0, 0⟩ [] ∧ (gcState []).sys.dev.engState (.gc 11) = 2 ∧
    (gcState []).sys.dev.gcs[11].wideMode 3 = false ∧
    pairing ((gcState []).sys.dev.gcs[11].tileReg 0).fmt 0 = none ∧
    IntegerDot (gcState []).sys.dev.gcs[11] 3 ((gcState []).sys.dev.gcs[11].tileReg 0)
      ((gcState []).sys.dev.gcs[11].tileReg 1) := by
  unfold Queued IntegerDot; decide +kernel

theorem ip_of (s : State) (c : Fin 4) : ∃ b2 b3 b0 : Bool, s.sys.dev.ip c =
    BitVec.ofNat 64 (natOf b0 + 2 * natOf s.sys.dev.cores[c].ipi + 4 * natOf b2 + 8 * natOf b3) := ⟨_, _, _, rfl⟩

theorem first_ipi (s : State) (c : Fin 4) (h : s.sys.dev.cores[c].ipi = true) (e : s.sys.dev.cores[c].ie = 2#64) :
    firstPending s c = some 1 := by
  obtain ⟨b2, b3, b0, hip⟩ := ip_of s c
  simp only [firstPending, hip, h, e]
  cases b0 <;> cases b2 <;> cases b3 <;> decide

theorem first_none (s : State) (c : Fin 4) (e : s.sys.dev.cores[c].ie = 0#64) :
    firstPending s c = none ∧ s.sys.dev.intPending c = false := by
  obtain ⟨b2, b3, b0, hip⟩ := ip_of s c
  simp only [firstPending, Device.intPending, hip, e]
  cases b0 <;> cases b2 <;> cases b3 <;> cases s.sys.dev.cores[c].ipi <;> decide

/-- Core 1 with an IPI pending and enabled, in HALT. -/
def ipiState (status : BitVec 64) : State :=
  onM coreState 1 (fun m => { m with ipi := true, ie := 2#64, status := status, hold := .halt })

theorem met_interrupt : (ipiState 3#64).sys.dev.answers 43 = true ∧ (ipiState 3#64).sys.dev.cores[1].stopped = false ∧
    firstPending (passed (ipiState 3#64) 1) 1 = some 1 ∧
    (passed (ipiState 3#64) 1).sys.dev.cores[1].status.getLsbD 1 = true ∧
    (passed (ipiState 3#64) 1).sys.dev.cores[1].hold = .halt ∧
    firstPending (passed (ipiState 1#64) 1) 1 = some 1 ∧
    (passed (ipiState 1#64) 1).sys.dev.cores[1].status.getLsbD 1 = false ∧ firstPending (passed coreState 1) 1 = none := by
  refine ⟨by decide +kernel, by decide +kernel, first_ipi _ _ (by decide +kernel) (by decide +kernel), by decide +kernel,
    by decide +kernel, first_ipi _ _ (by decide +kernel) (by decide +kernel), by decide +kernel,
    (first_none _ _ (by decide +kernel)).1⟩

/-- Core 1 in SLEEP with no interrupt enabled: nothing ends it but its time. -/
theorem met_sleep_end_core :
    let s := onM coreState 1 (fun m => { m with hold := .sleep 31 5#32 })
    s.sys.dev.cores[1].hold = .sleep 31 5#32 ∧ (s.onDev (·.passCore 1)).sys.dev.intPending 1 = false ∧
      (5#32 : BitVec 32) ≠ 0xFFFFFFFF#32 := by
  refine ⟨by decide +kernel, (first_none _ _ (by decide +kernel)).2, by decide⟩

/-! ### Engines, registers, restarts -/

/-- Witness engine 3 with an empty valid program whose entries 0 and 1 exist, released, in STATE st. -/
def progState (st : Nat) : State :=
  puts (onEng (engAt (.wit 3) st State.reset) (.wit 3) (fun c => { c with released := true }))
    [(R.ENG_STATUS (Eng.wit 3).win, F.ENG_STATUS.PROG_VALID, 1),
     (R.ENG_PROG_INFO (Eng.wit 3).win, F.ENG_PROG_INFO.ENTRY_MASK, 3),
     (R.ENG_PROG_INFO (Eng.wit 3).win, F.ENG_PROG_INFO.VAR_COUNT, 192)]

theorem met_engine_state : PlainEngine (.wit 3) ∧ (progState 0).sys.dev.answers (Eng.wit 3).island = true ∧
    (fldOf (progState 0) (R.ENG_STATUS (Eng.wit 3).win) F.ENG_STATUS.STATE = 0 ∧
      fldOf (progState 0) (R.ENG_CTL (Eng.wit 3).win) F.ENG_CTL.PEND = 0 ∧ StartOk (progState 0) (.wit 3) ∧
      ((progState 0).sys.dev.eng (.wit 3)).toff = false ∧ ((progState 0).sys.dev.eng (.wit 3)).released = true) ∧
    ¬ StartOk (engAt (.wit 3) 4 State.reset) (.wit 3) ∧
    (engAt (.wit 3) 4 State.reset).sys.dev.engState (.wit 3) = 4 ∧
    (fldOf (progState 2) (R.ENG_STATUS (Eng.wit 3).win) F.ENG_STATUS.STATE = 2 ∧
      (fldOf (progState 2) (R.ENG_PROG_INFO (Eng.wit 3).win) F.ENG_PROG_INFO.ENTRY_MASK).testBit 1 = true ∧
      ((progState 2).sys.dev.eng (.wit 3)).hold ≠ .step) ∧
    (fldOf (progState 1) (R.ENG_STATUS (Eng.wit 3).win) F.ENG_STATUS.STATE = 1 ∧
      crc32c ((progState 1).sys.dev.programBytes (.wit 3)
        (fldOf (progState 1) (R.ENG_PROG_INFO (Eng.wit 3).win) F.ENG_PROG_INFO.CODE_LEN)) =
          (progState 1).sys.dev.reg (R.ENG_PROG_CRC (Eng.wit 3).win)) ∧
    ((onEng (progState 0) (.wit 3) (fun c => { c with toff := true })).sys.dev.eng (.wit 3)).toff = true := by
  refine ⟨⟨(fun _ h => nomatch h), (fun _ h => nomatch h)⟩, ?_⟩
  unfold StartOk; decide +kernel

theorem met_mailbox_and_install :
    16 ≤ ((onEng (progState 0) (.wit 3) (fun c => { c with mboxIn := List.replicate 16 0#32 })).sys.dev.eng (.wit 3)).mboxIn.length ∧
    ((onEng (progState 0) (.wit 3) (fun c => { c with mboxOut := [(1#32, true)] })).sys.dev.eng (.wit 3)).mboxOut =
      (1#32, true) :: [] ∧
    (1 ≤ fldOf (progState 3) (R.ENG_STATUS (Eng.wit 3).win) F.ENG_STATUS.STATE ∧
      fldOf (progState 3) (R.ENG_STATUS (Eng.wit 3).win) F.ENG_STATUS.STATE ≤ 3) ∧
    fldOf (progState 0) (R.ENG_PROG_INFO (Eng.wit 3).win) F.ENG_PROG_INFO.VAR_COUNT = 192 ∧
    (let s := progState 0
     let lo := s.sys.dev.reg ((Eng.wit 3).win + 0x400 + 8 * 191)
     let hi := s.sys.dev.reg ((Eng.wit 3).win + 0x404 + 8 * 191)
     lo.toNat ≤ (0#32 : BitVec 32).toNat ∧ (0#32 : BitVec 32).toNat ≤ hi.toNat ∧ ¬ (1#32 : BitVec 32).toNat ≤ hi.toNat) := by
  decide +kernel

theorem met_register_write :
    (runs [71] State.reset).sys.dev.answers 71 = true ∧
    (runs [71] State.reset).sys.dev.writerRefused (.core 0) R.TWIN_CFG 71 = false ∧
    (∀ f ∈ fieldsAt R.TWIN_CFG, ¬ OutOfRange f (regReset R.TWIN_CFG) (regReset R.TWIN_CFG)) ∧
    (∃ f ∈ fieldsAt R.TWIN_CFG, OutOfRange f (regReset R.TWIN_CFG) 0xFFFFFFFF#32) ∧
    (runs [71] State.reset).sys.dev.eth.events.length < 4096 := by
  unfold OutOfRange; decide +kernel

theorem met_event_queue_full : ∃ s : State, 4096 ≤ s.sys.dev.eth.events.length :=
  ⟨State.reset.onDev (fun d => { d with eth := { d.eth with events := List.replicate 4096 ⟨0, 0, 0, 0, 0, [], false, false⟩ } }),
    by simp [State.onDev]⟩

/-- The times of two firmware restarts, within a minute of the next whatever the lapse. -/
def twoRestarts : State := State.reset.onDev (fun d => { d with fwTimes := [Config.freeElapsed 0, Config.freeElapsed 0] })

theorem met_restart_request :
    (runs [0] State.reset).sys.dev.ucrWritable .host = true ∧ (runs [0] State.reset).sys.dev.restart = 0 ∧
    NoGoldWaits State.reset ∧ State.reset.sys.dev.eth.runs = [] ∧ State.reset.sys.dev.fwTimes.length ≤ 1 ∧
    2 ≤ twoRestarts.sys.dev.fwTimes.length ∧
    (∀ x ∈ twoRestarts.sys.dev.fwTimes,
      twoRestarts.sys.dev.clock + Config.freeElapsed twoRestarts.sys.dev.freeCtr < x + 60000000) ∧
    (0xC0A8#16 : BitVec 16) ≠ 0xC0A7#16 := by
  refine ⟨?_, ?_, ?_, ?_, ?_, by simp [twoRestarts, State.onDev], ?_, by decide⟩
  · decide +kernel
  · decide +kernel
  · unfold NoGoldWaits; decide +kernel
  · decide +kernel
  · decide +kernel
  · intro x hx
    have h1 : twoRestarts.sys.dev.clock = 0 := by decide +kernel
    have h2 : twoRestarts.sys.dev.freeCtr = 0 := by decide +kernel
    have h3 : x = Config.freeElapsed 0 := by simpa [twoRestarts, State.onDev] using hx
    rw [h1, h2, h3]; omega

/-- A restart in progress. -/
def restarting (k : Nat) (s : State) : State := s.onDev (fun d => { d with restart := k })

theorem met_restart_progress :
    ((runs [46] State.reset).sys.dev.answers 46 = true ∧ (runs [46] State.reset).sys.dev.restart ≠ 2) ∧
    (let s := (puts (restarting 1 (runs [39] State.reset)) [(R.ISLE_ENTRY 42, F.ISLE_ENTRY.STATE, 1)]).onDev
      (fun d => { d with boot := { d.boot with phase := .running } })
     s.sys.dev.restart = 1 ∧ s.sys.dev.answers 39 = true ∧ s.sys.dev.sec.stopped = false ∧ island s 42 = 1 ∧
       s.sys.dev.boot.phase = .running) ∧
    ((restarting 2 State.reset).sys.dev.restart = 2 ∧ island (restarting 2 State.reset) 87 ≠ 2) ∧
    (let s := runs [0, 45] State.reset
     s.sys.dev.answers 45 = true ∧ s.sys.dev.answers 0 = true) ∧
    (at_ [(R.SEC_BOOT_STATUS, F.SEC_BOOT_STATUS.GATE, 1)]).sys.dev.gateOpen = true ∧
    State.reset.sys.dev.sramAgrees 0 0#256 = false ∧ State.reset.sys.dev.sramAgrees 0 (digestNum (sha256 [])) = true ∧
    fldOf State.reset R.UCR_FW_READY F.UCR_FW_READY.READY = 0 ∧
    (fldOf (at_ [(R.TWIN_STATUS, F.TWIN_STATUS.ROLE, 2), (R.TWIN_STATUS, F.TWIN_STATUS.PIN, 1)]) R.TWIN_STATUS F.TWIN_STATUS.ROLE = 2 ∧
      fldOf (at_ [(R.TWIN_STATUS, F.TWIN_STATUS.ROLE, 2), (R.TWIN_STATUS, F.TWIN_STATUS.PIN, 1)]) R.TWIN_STATUS F.TWIN_STATUS.PIN = 1) ∧
    State.reset.sys.dev.gateOpen = false := by
  decide +kernel
/-! ### Supplies, boot, power -/

/-- The boot flow's own state changed. -/
def onBoot (s : State) (f : BootCtx → BootCtx) : State := s.onDev (fun d => { d with boot := f d.boot })

theorem met_supply : State.reset.sys.dev.pins.vio[4] = true ∧
    (let s := onBoot State.reset (fun b => { b with phase := .running })
     s.sys.dev.restart ≠ 2 ∧ s.sys.dev.boot.phase ≠ .held ∧ NoGoldWaits s) ∧
    (let s := at_ [(R.ISLE_ENTRY 0, F.ISLE_ENTRY.STATE, 1)]
     s.sys.dev.boot.phase = .held ∧ s.sys.dev.restart = 0 ∧ island s 0 = 1) := by
  unfold NoGoldWaits; decide +kernel

theorem met_bridge_and_clock : 6200 < 6201 ∧ 6099 < 6100 ∧
    fldOf (at_ [(R.ISLE_REFCLK, F.ISLE_REFCLK.PRESENT, 1)]) R.ISLE_REFCLK F.ISLE_REFCLK.PRESENT = 1 ∧
    fldOf (at_ [(R.ISLE_REFCLK, F.ISLE_REFCLK.PRESENT, 0)]) R.ISLE_REFCLK F.ISLE_REFCLK.PRESENT = 0 := by
  decide +kernel

/-- A running copy of no bytes and its trailer, the signature over the digest of nothing being good or not. -/
def trailer (good : Bool) : List (BitVec 8) :=
  natBytes 4 0 ++ (natBytes 32 0xdb022f8936845cc41169c27b67e1a084636b44c472eb8e7630b826a1e83a672c).reverse ++
    (natBytes 32 0x4c6ca66d0fdc6c230b937f2a67d066acc74204eac81f0eafdf059827378b9568).reverse ++
    (natBytes 32 0xf690416adda95eb233a9519833253db68b2967bfe6439ac784030f8b25b300fd).reverse ++
    (natBytes 32 (if good then 0xf690416adda95eb233a9519833253db68b2967bfe6439ac784030f8b25b300fd else 0)).reverse

def verifyingState (good : Bool) : State :=
  (onBoot (runs [39] State.reset) (fun b => { b with phase := .verifying, image := { b.image with mgmtLen := 0 } })).onDev
    (fun d => { d with mem := memPuts d.mem 0x10000000 (trailer good) })

theorem met_boot_verify :
    (let s := verifyingState true
     s.sys.dev.boot.phase = .verifying ∧ s.sys.dev.sec.stopped = false ∧ s.sys.dev.answers 39 = true ∧
       s.sys.dev.poisonedRange 0x10000000 trailerLen = false ∧
       signatureOk (memBytes s.sys.dev.mem 0x10000000 trailerLen) s.sys.dev.boot.image.mgmtLen = true ∧
       s.sys.dev.lockAll = false) ∧
    (let s := verifyingState false
     s.sys.dev.boot.left = [] ∧ signatureOk (memBytes s.sys.dev.mem 0x10000000 trailerLen) s.sys.dev.boot.image.mgmtLen = false ∧
       (s.onDev (fun d => { d with poison := [0x400000] })).sys.dev.poisonedRange 0x10000000
         trailerLen = true ∧
       (s.onDev (fun d => { d with pru := { d.pru with ctl := 2#64 } })).sys.dev.lockAll = true) := by
  decide +kernel

theorem met_boot :
    (let s := (at_ [(R.ISLE_ENTRY 39, F.ISLE_ENTRY.STATE, 1)]).onDev (fun d => { d with pins := { d.pins with bootMode := 3 } })
     s.sys.dev.releasable = true ∧ s.sys.dev.gateOpen = false ∧ s.sys.dev.pins.bootMode = 3 ∧
       ∀ b : Bay, fldOf s (R.WIT_EPOCH_GO b.val) F.WIT_EPOCH_GO.NEW = 0) ∧
    (runs [41] State.reset).sys.dev.answers 41 = true ∧
    (let s := puts (runs [39] State.reset) [(R.SEC_BOOT_STATUS, F.SEC_BOOT_STATUS.GATE, 1), (R.SEC_BOOT_STATUS, F.SEC_BOOT_STATUS.MODE, 1)]
     s.sys.dev.secWritable (.core 0) = true ∧ s.sys.dev.gateOpen = true ∧
       fldOf s R.SEC_BOOT_STATUS F.SEC_BOOT_STATUS.MODE = 1 ∧ s.sys.dev.sec.stopped = false ∧ s.sys.dev.holdOk = false) ∧
    (runs [39] State.reset).sys.dev.secWritable .host = true ∧
    fldOf State.reset R.SEC_BOOT_STATUS F.SEC_BOOT_STATUS.MODE ≠ 1 ∧
    (let s := onBoot (puts (runs [39] State.reset) [(R.TR_STAT, F.TR_STAT.HOLD_OK, 1)]) (fun b => { b with phase := .running })
     let s := { s with sys := { s.sys with nv := s.sys.nv.putDir (fun b => { b with arbPending := true, active := 0 }) } }
     s.sys.dev.boot.phase = .running ∧ s.sys.nv.dir.arbPending = true ∧ s.sys.nv.dir.active = s.sys.dev.boot.slot ∧
       s.sys.dev.holdOk = true) ∧
    (onBoot State.reset (fun b => { b with trialOn := true })).sys.dev.boot.trialOn = true := by
  decide +kernel

/-- Rail channel 79 of the tray sequencer enabled, and seen good. -/
def railState : State :=
  puts State.reset [(R.SQ_RAIL_ST 8, F.SQ_RAIL_ST.EN, 0x8000), (R.SQ_RAIL_ST2 8, F.SQ_RAIL_ST2.SEEN, 0x8000)]

/-- Sequencer i in PWR p, its engine in STATE e, with entries 0 to 2. -/
def seqState (i : Fin 9) (p e : Nat) (s : State) : State :=
  puts s [(R.SQ_STATUS i.val, F.SQ_STATUS.PWR, p), (R.ENG_STATUS (Eng.seq i).win, F.ENG_STATUS.STATE, e),
    (R.ENG_PROG_INFO (Eng.seq i).win, F.ENG_PROG_INFO.ENTRY_MASK, 7)]

theorem met_rails : railSeq 79 = 8 ∧ railChan 79 = 15 ∧ railSeq 63 = 7 ∧ railChan 63 = 7 ∧ railSeq 64 = 8 ∧ railChan 64 = 0 ∧
    State.reset.sys.dev.pins.vio[0] = true ∧
    (chanOn railState (R.SQ_RAIL_ST 8) F.SQ_RAIL_ST.EN 15 = true ∧ chanOn railState (R.SQ_RAIL_ST2 8) F.SQ_RAIL_ST2.SEEN 15 = true) ∧
    chanOn State.reset (R.SQ_RAIL_ST 8) F.SQ_RAIL_ST.EN 15 = false ∧
    fldOf State.reset R.TWIN_STATUS F.TWIN_STATUS.ROLE ≠ 2 ∧
    fldOf State.reset (R.ENG_STATUS (Eng.seq 8).win) F.ENG_STATUS.STATE ≠ 3 := by
  decide +kernel

theorem met_sequencers :
    fldOf State.reset (R.SQ_STATUS 8) F.SQ_STATUS.WARN = 0 ∧
    (let s := put (seqState 8 2 2 State.reset) (R.SQ_STATUS 8) F.SQ_STATUS.WARN 1
     fldOf s (R.SQ_STATUS 8) F.SQ_STATUS.WARN = 1 ∧ CanGoDown s 8) ∧
    (let s := put (seqState 7 3 3 State.reset) (R.SQ_RAIL_ST 7) F.SQ_RAIL_ST.EN 0xFF
     fldOf s (R.ENG_STATUS (Eng.seq 7).win) F.ENG_STATUS.STATE = 3 ∧ pwrOf s 7 = 3 ∧ (7 : Fin 9) ≠ 8 ∧
       s.sys.dev.tray.forced = false ∧ fldOf s (R.SQ_RAIL_ST 7) F.SQ_RAIL_ST.EN ≠ 0 ∧
       (let t := s.onDev (fun d => { d with seqs := d.seqs.set 7 { d.seqs[7] with safeStop := true } })
        t.sys.dev.seqs[7].safeStop = true ∧ fldOf t R.TWIN_STATUS F.TWIN_STATUS.ROLE ≠ 1 ∧
          chanOn t (R.SQ_RAIL_ST 7) F.SQ_RAIL_ST.EN 7 = true ∧ fldOf t (R.SQ_RAIL_ST 7) F.SQ_RAIL_ST.EN < 2 ^ 8 ∧
          fldOf t (R.SQ_RAIL_ST 7) F.SQ_RAIL_ST.EN ≠ 2 ^ 7)) ∧
    State.reset.sys.dev.seqs[7].safeStop = false ∧ (runs [9] State.reset).sys.dev.answers (1 + 8) = true := by
  unfold CanGoDown; decide +kernel

/-- A hold-up record waits. -/
def holdupState : State := onTray State.reset (fun t => { t with holdup := [⟨1, 0, 0, 0, 0, 0, [], [], 0, [], false⟩] })

theorem met_forced_off : 3600 ≤ 3600 ∧ 3599 < 3600 ∧ fldOf State.reset R.TR_STAT F.TR_STAT.VIN_LOW = 0 ∧
    State.reset.sys.dev.tray.forced = false ∧ fldOf State.reset R.TWIN_STATUS F.TWIN_STATUS.ROLE = 0 ∧
    State.reset.sys.dev.tray.killOut = false ∧ State.reset.sys.dev.pins.vio[4] = true ∧
    ((onTray State.reset (fun t => { t with killOut := true })).sys.dev.tray.killOut = true) ∧
    ((onTray State.reset (fun t => { t with btn := true })).sys.dev.tray.btn = true ∧ State.reset.sys.dev.tray.btnLong = false) ∧
    fldOf (at_ [(R.TR_STAT, F.TR_STAT.VIN_LOW, 1)]) R.TR_STAT F.TR_STAT.VIN_LOW = 1 ∧
    (onTray State.reset (fun t => { t with forceActive := [.killIn, .vinLow] })).sys.dev.tray.forceActive.filter (· != .killIn) ≠ [] ∧
    fldOf State.reset R.TR_STAT F.TR_STAT.FORCING = 0 ∧
    (let s := onTray (at_ [(R.TR_STAT, F.TR_STAT.FORCING, 1)]) (fun t => { t with forceStep := 22 })
     s.sys.dev.tray.forceStep + 1 = 23 ∧ fldOf s R.TR_STAT F.TR_STAT.FORCING = 1) ∧
    (holdupState.sys.dev.tray.holdup.length = 1 ∧ holdupSlot holdupState.sys.nv.holdup = some 0) ∧
    holdupSlot ((List.range 256).map (fun k => (k, (⟨1, 0, k, 0, 0, 0, [], [], 0, [], false⟩ : HoldupRec)))) = none := by
  decide +kernel

/-- Bay 7 throttled by the cap, the earliest. -/
def cappedState : State :=
  onTray (at_ [(R.PC_STAT, F.PC_STAT.CAP_MASK, 0x80)]) (fun t => { t with capOrder := [7] })

theorem met_power_cap :
    (let s := (put (seqState 7 2 2 State.reset) (R.PC_STAT) F.PC_STAT.NEXT 7).onDev (·.capSample 5000 [0, 0, 0, 0, 0, 0, 0, 60000])
     fldOf s R.PC_EFF F.PC_EFF.CAP_EFF < s.sys.dev.pNow 5000 [0, 0, 0, 0, 0, 0, 0, 60000] ∧ s.sys.dev.capNext = some 7) ∧
    (let s := State.reset.onDev (·.capSample 5000 [0, 0, 0, 0, 0, 0, 0, 60000])
     fldOf s R.PC_EFF F.PC_EFF.CAP_EFF < s.sys.dev.pNow 5000 [0, 0, 0, 0, 0, 0, 0, 60000] ∧ s.sys.dev.capNext = none) ∧
    (let s := cappedState.onDev (·.capSample 0 [])
     s.sys.dev.tray.capOrder = 7 :: [] ∧ chanOn s R.PC_STAT F.PC_STAT.CAP_MASK 7 = true ∧
       s.sys.dev.pNow 0 [] * 100 < fldOf s R.PC_EFF F.PC_EFF.CAP_EFF * (100 - fldOf s R.PC_CFG F.PC_CFG.HYST_PCT)) := by
  decide +kernel

theorem met_button_and_presence : CanGoDown (put (seqState 7 2 2 State.reset) (R.SQ_BAYSIG 7) F.SQ_BAYSIG.OUT 0) (seqOf 7) ∧
    (put (seqState 7 2 2 State.reset) (R.SQ_BAYSIG 7) F.SQ_BAYSIG.OUT 0).sys.dev.asserts 7 0 = false ∧ State.reset.sys.dev.pins.vio[1] = true ∧
    pwrOf State.reset (seqOf 7) = 0 ∧ State.reset.sys.dev.tray.btn = false ∧ pwrOf State.reset 8 = 0 ∧
    pwrOf (seqState 8 4 0 State.reset) 8 = 4 ∧ CanGoDown (seqState 8 1 2 State.reset) 8 ∧
    ((onTray State.reset (fun t => { t with btn := true, btnLong := true })).sys.dev.tray.btnLong = true) := by
  unfold CanGoDown; decide +kernel
/-! ### Cooling and buses -/

/-- The cooling block's own state changed. -/
def onCool (s : State) (f : CoolCtx → CoolCtx) : State := s.onDev (fun d => { d with cool := f d.cool })

theorem met_sensors :
    (let s := at_ [(R.CL_AIN_A 47, F.CL_AIN_A.KIND, 1), (R.CL_AIN_A 47, F.CL_AIN_A.P1, 4)]
     ainKindOf s 47 = 1 ∧ 4 * 0 < ainP1 s 47 ∧ ainP1 s 47 ≤ 4 * 1) ∧
    (let s := at_ [(R.CL_AIN_A 0, F.CL_AIN_A.KIND, 2), (R.CL_AIN_A 0, F.CL_AIN_A.P1, 500), (R.CL_AIN_B 0, F.CL_AIN_B.P3, 2000)]
     ainKindOf s 0 = 2 ∧ ((449999 : Nat) : Int) < 1000 * ((ainP1 s 0 : Int) - 50) ∧ 1000 * (ainP3 s 0 + 50) < 2050001 ∧
       1000 * ainP1 s 0 ≤ 500000 ∧ 2000000 ≤ 1000 * ainP3 s 0 ∧ ainP1 s 0 < ainP3 s 0) ∧
    (let s := at_ [(R.CL_AIN_A 7, F.CL_AIN_A.KIND, 1), (R.CL_SENS 7, F.CL_SENS.VALUE, 650)]
     safeInputs s ≠ [] ∧ ∀ i ∈ safeInputs s, slotFaultedAt s i = false ∧ slotReads s i ≤ 650) ∧
    (let s := at_ [(R.CL_AIN_A 7, F.CL_AIN_A.KIND, 1), (R.CL_SENS 7, F.CL_SENS.VALUE, 651)]
     ∃ i ∈ safeInputs s, slotFaultedAt s i = true ∨ 650 < slotReads s i) ∧
    safeInputs (at_ ((List.range 8).map (fun i => (R.CL_AIN_A i, F.CL_AIN_A.KIND, 0)))) = [] ∧
    pwrOf (seqState 7 2 2 State.reset) (seqOf 7) ≠ 0 ∧ pwrOf (seqState 7 4 0 State.reset) (seqOf 7) = 4 := by
  decide +kernel

theorem met_zones_and_leaks :
    State.reset.sys.dev.zoneSlots 15 = [] ∧
    (at_ [(R.CL_ZSEL 15 0, ⟨0, 32⟩, 1)]).sys.dev.zoneSlots 15 ≠ [] ∧
    (let s := at_ [(R.CL_ZSTAT 15, F.CL_ZSTAT.EMPTY, 0), (R.CL_ZSTAT 15, F.CL_ZSTAT.TEMP, 800), (R.CL_ZCFG 15, F.CL_ZCFG.T_HOT, 800)]
     fldOf s (R.CL_ZSTAT 15) F.CL_ZSTAT.EMPTY = 0 ∧ fldOf s (R.CL_ZSTAT 15) F.CL_ZSTAT.HOT = 0 ∧
       (fldOf s (R.CL_ZCFG 15) F.CL_ZCFG.T_HOT : Int) ≤ zoneReads s 15 ∧
       (fldOf s (R.CL_ZCFG 15) F.CL_ZCFG.T_HOT : Int) - 50 ≤ zoneReads s 15) ∧
    (let s := at_ [(R.CL_ZSTAT 15, F.CL_ZSTAT.TEMP, 749), (R.CL_ZCFG 15, F.CL_ZCFG.T_HOT, 800)]
     zoneReads s 15 < (fldOf s (R.CL_ZCFG 15) F.CL_ZCFG.T_HOT : Int) - 50) ∧
    (let s := at_ [(R.CL_LK_B 7, F.CL_LK_B.P_SLOT, 47), (R.CL_LK_A 7, F.CL_LK_A.EN, 1), (R.CL_LK_STAT 7, F.CL_LK_STAT.STATE, 5)]
     s.sys.dev.pressureLow 7 = true ∧ LoopFaulted s 7 ∧ fldOf s (R.CL_LK_A 7) F.CL_LK_A.EN = 1 ∧
       loopFld s 7 F.CL_LK_STAT.INFERRED = 0) ∧
    (let s := at_ [(R.CL_LK_B 7, F.CL_LK_B.P_SLOT, 47), (R.CL_LK_STAT 7, F.CL_LK_STAT.STATE, 0)]
     s.sys.dev.pressureLow 7 = true ∧ loopFld s 7 F.CL_LK_STAT.STATE = 0) ∧
    (let s := at_ [(R.CL_LK_B 7, F.CL_LK_B.P_SLOT, 47), (R.CL_LK_STAT 7, F.CL_LK_STAT.STATE, 1)]
     s.sys.dev.pressureLow 7 = true ∧ loopFld s 7 F.CL_LK_STAT.STATE = 1 ∧ ¬ LoopFaulted s 7) ∧
    (let s := at_ [(R.CL_LK_B 7, F.CL_LK_B.P_SLOT, 0x7F), (R.CL_LK_B 7, F.CL_LK_B.FLOW_EN, 0)]
     s.sys.dev.pressureLow 7 = false ∧ s.sys.dev.flowLow 7 = false) ∧
    (let s := onCool (at_ [(R.CL_LK_A 7, F.CL_LK_A.EN, 1), (R.CL_LK_STAT 7, F.CL_LK_STAT.ANOMALY, 1)])
       (fun c => { c with bands := c.bands.set 7 [2, 2, 2, 2] })
     fldOf s (R.CL_LK_A 7) F.CL_LK_A.EN = 1 ∧ (s.sys.dev.cool.bands[7]).take 4 = [2, 2, 2, 2] ∧
       loopFld s 7 F.CL_LK_STAT.STATE ≠ 2 ∧ loopFld s 7 F.CL_LK_STAT.ANOMALY = 1 ∧ loopFld s 7 F.CL_LK_STAT.INFERRED = 0) ∧
    (runs [25] State.reset).sys.dev.answers 25 = true ∧ (at_ [(R.ISLE_ENTRY 25, F.ISLE_ENTRY.STATE, 1)]).sys.dev.answers 25 = false := by
  unfold LoopFaulted; decide +kernel

theorem met_leak_bands : InBand 99 3 ∧ InBand 100 1 ∧ InBand 4999 1 ∧ InBand 5000 4 ∧ InBand 7999 4 ∧ InBand 8000 0 ∧ InBand 12000 0 ∧
      InBand 12001 4 ∧ InBand 20000 4 ∧ InBand 20001 2 := by
  unfold InBand; omega

/-- Channel 11 enabled and in state st, after tries failed attempts. -/
def motState (st tries : Nat) : State :=
  at_ [(R.MOT_CFG 11, F.MOT_CFG.EN, 1), (R.MOT_STAT 11, F.MOT_STAT.STATE, st), (R.MOT_STAT 11, F.MOT_STAT.TRIES, tries)]

theorem met_motors :
    State.reset.sys.dev.cool.trip = Vector.replicate 2 false ∧ ((at_ [(R.MOT_CFG 0, F.MOT_CFG.EN, 0)]).onDev (·.refreshCool)).sys.dev.motEnabled 0 = false ∧
    ((motState 5 0).onDev (·.refreshCool)).sys.dev.motEnabled 11 = true ∧ motFld (motState 4 0) 11 F.MOT_STAT.STATE = 4 ∧
    (runs [23] State.reset).sys.dev.answers (12 + 11) = true ∧ enabledPower (motState 0 0) ≤ 1050 ∧
    (motFld (motState 2 3) 11 F.MOT_STAT.STATE = 2 ∧ motFld (motState 2 3) 11 F.MOT_STAT.TRIES < 4) ∧
    (motFld (motState 3 3) 11 F.MOT_STAT.STATE = 3 ∧ motFld (motState 3 3) 11 F.MOT_STAT.TRIES < 4) ∧
    (let s := put (put (motState 3 0) (R.MOT_CMD 11) F.MOT_CMD.RPM_CMD 1000) (R.MOT_RAMP 11) F.MOT_RAMP.STALL_PCT 50
     (499#16 : BitVec 16).toNat * 100 < fldOf s (R.MOT_RAMP 11) F.MOT_RAMP.STALL_PCT * fldOf s (R.MOT_CMD 11) F.MOT_CMD.RPM_CMD) ∧
    (onCool (motState 2 0) (fun c => { c with motRan := c.motRan.set 11 true })).sys.dev.cool.motRan[11] = true ∧
    State.reset.sys.dev.cool.motRan[11] = false ∧
    fldOf (put (motState 2 0) (R.MOT_CFG 11) F.MOT_CFG.HALL 1) (R.MOT_CFG 11) F.MOT_CFG.HALL = 1 ∧
    (let s := at_ [(R.AX_STAT 7, F.AX_STAT.STATE, 1), (R.AX_STAT 7, F.AX_STAT.DUTY, 21)]
     fldOf s (R.AX_STAT 7) F.AX_STAT.STATE = 1 ∧ 20 < fldOf s (R.AX_STAT 7) F.AX_STAT.DUTY) ∧
    (runs [10] State.reset).sys.dev.answers 10 = true := by
  decide +kernel

/-- Bus 11 with a transfer of a protocol to address 0x7F, with or without PEC. -/
def xferState (proto : Nat) (pec : Bool) (phase : BusPhase) : State :=
  onBus State.reset 11 (fun c => { c with
    phase := phase, curA := BitVec.ofNat 32 (0x7F + 2 ^ 8 * proto + 2 ^ 12 * natOf pec), curB := 0x00010001#32, free := true })

theorem met_bus_transaction :
    (busAt (xferState 0xE true .running) 11).phase = .running ∧ xferProto (busAt (xferState 0xE true .running) 11) = 0xE ∧
    xferPec (busAt (xferState 0xE true .running) 11) = true ∧ ¬ SegDead (xferState 0xE true .running) 11 ∧
    SegDead (put State.reset (R.BUS_CFG 11) F.BUS_CFG.SEG_EN 1) 11 ∧
    written ⟨0x9, 0, true, true, none, false, .none⟩ (busAt (xferState 9 false .running) 11) ≠ [] ∧
    written ⟨0x0, 0, false, false, some 0, false, .none⟩ (busAt (xferState 0 false .running) 11) = [] ∧
    dataRead ⟨0xA, 0, true, false, some 0, true, .block⟩ (busAt (xferState 0xA true .running) 11)
      ⟨0, false, true, true, true, [0#8], 0#8⟩ = [] ∧
    (busAt (xferState 0 false .addrRetry) 11).phase = .addrRetry ∧ (busAt (xferState 0 false .backoff) 11).free = true ∧
    busStat State.reset 11 F.BUS_STAT.STUCK = 0 ∧ (busAt (xferState 0 false .waitFree) 11).phase = .waitFree := by
  unfold SegDead; decide +kernel

/-- Bus 11, its target enabled, with a field of BUS_STAT set. -/
def targetState (f : Fld) (v : Nat) : State :=
  onBus (put State.reset (R.BUS_STAT 11) f v) 11 (fun c => { c with
    cfgNow := F.BUS_CFG.TGT_EN.put c.cfgNow 1, alert := true, judging := true })

theorem met_bus_target :
    (F.BUS_CFG.TGT_EN.get (busAt (targetState F.BUS_STAT.ASLEEP 0) 11).cfgNow = 1 ∧
      busStat (targetState F.BUS_STAT.ASLEEP 0) 11 F.BUS_STAT.STUCK = 0 ∧
      busStat (targetState F.BUS_STAT.ASLEEP 0) 11 F.BUS_STAT.ASLEEP = 0) ∧
    busStat (targetState F.BUS_STAT.ASLEEP 1) 11 F.BUS_STAT.ASLEEP = 1 ∧
    busStat (targetState F.BUS_STAT.STUCK 1) 11 F.BUS_STAT.STUCK = 1 ∧ targetValues State.reset ≠ [] ∧
    fldOf (at_ [(R.BUS_TGT 11, F.BUS_TGT.T_SLEEP, 0)]) (R.BUS_TGT 11) F.BUS_TGT.T_SLEEP = 0 ∧
    fldOf (at_ [(R.BUS_TGT 11, F.BUS_TGT.T_SLEEP, 1)]) (R.BUS_TGT 11) F.BUS_TGT.T_SLEEP ≠ 0 ∧
    (onBus State.reset 11 (fun c => { c with hn := List.replicate 8 (0, 0) })).sys.dev.buses[11].hn.length = 8 ∧
    (busAt (targetState F.BUS_STAT.STUCK 0) 11).alert = true ∧ (busAt (targetState F.BUS_STAT.STUCK 0) 11).judging = true ∧
    (busAt State.reset 11).tgtSel = none ∧ (busAt State.reset 11).phase = .idle ∧
    (let s := put (targetState F.BUS_STAT.STUCK 1) (R.BUS_CFG 11) F.BUS_CFG.SEG_EN 1
     busStat s 11 F.BUS_STAT.STUCK = 1 ∧ busStat s 11 F.BUS_STAT.SEG_CYCLES < 3 ∧ busCfg s 11 F.BUS_CFG.SEG_EN = 1 ∧
       busStat s 11 F.BUS_STAT.SEG_PENDING = 0) ∧
    (let s := put (targetState F.BUS_STAT.STUCK 1) (R.BUS_STAT 11) F.BUS_STAT.SEG_CYCLES 3
     3 ≤ busStat s 11 F.BUS_STAT.SEG_CYCLES ∧ busCfg s 11 F.BUS_CFG.SEG_EN = 0) := by
  decide +kernel

/-! ### The security core's services -/

/-- A request block at 0x10000000 with the gate open. -/
def requestState (op arg0 addr0 addr1 len arg1 : Nat) (data : List (BitVec 8)) : State :=
  (puts (runs [39] State.reset) [(R.SEC_BOOT_STATUS, F.SEC_BOOT_STATUS.GATE, 1), (R.SEC_REQ_ADDR_LO, ⟨0, 32⟩, 0x10000000)]).onDev
    (fun d => { d with mem := memPuts d.mem 0x10000000 (natBytes 4 op ++ natBytes 4 arg0 ++ natBytes 8 addr0 ++ natBytes 8 addr1 ++
      natBytes 4 len ++ natBytes 4 arg1 ++ data) })

theorem met_request_served :
    (∀ op ∈ [1, 2, 3, 4, 5, 6, 7, 8], Reaches (requestState op 0 0 0 0 0 []) op ∧
      (requestState op 0 0 0 0 0 []).sys.dev.poisonedRange (blockAt (requestState op 0 0 0 0 0 [])) 64 = false) ∧
    (let s := requestState 1 0 0 0 0 0 []
     fldOf s R.SEC_BOOT_STATUS F.SEC_BOOT_STATUS.GATE = 1 ∧ fldOf s R.SEC_ACT_STAT F.SEC_ACT_STAT.STATE = 0 ∧
       s.sys.dev.boot.chunk = none) ∧
    fldOf State.reset R.SEC_BOOT_STATUS F.SEC_BOOT_STATUS.GATE = 0 ∧ ¬ Reaches State.reset 1 := by
  unfold Reaches InSram; decide +kernel

theorem serves_of (s : State) (op : Nat) (h : Reaches s op) (g : fldOf s R.SEC_BOOT_STATUS F.SEC_BOOT_STATUS.GATE = 1)
    (a : fldOf s R.SEC_ACT_STAT F.SEC_ACT_STAT.STATE = 0) (c : s.sys.dev.boot.chunk = none)
    (p : s.sys.dev.poisonedRange (blockAt s) 64 = false) : Serves s op := by
  refine ⟨h, ?_, p⟩
  rintro (h | h | ⟨k, h, _⟩)
  · omega
  · omega
  · rw [c] at h; cases h

theorem met_requests :
    Serves (requestState 1 0 0 0 0 0 []) 1 ∧ Serves (requestState 2 0x53 0x10001000 0 228 0 []) 2 ∧
      Serves (requestState 3 0 0x10001000 0 0 0 []) 3 ∧ Serves (requestState 4 0 0x10001000 0x10002000 4 0 []) 4 ∧
      Serves (requestState 5 3 0x10001000 0 132 0 []) 5 ∧ Serves (requestState 6 0 0 0 0 0 []) 6 ∧
      Serves (requestState 7 3 0 0 0 0 []) 7 ∧ Serves (requestState 8 0 0x10001000 0 65536 0 []) 8 := by
  refine ⟨?_, ?_, ?_, ?_, ?_, ?_, ?_, ?_⟩ <;>
    exact serves_of _ _ (by unfold Reaches InSram; decide +kernel) (by decide +kernel) (by decide +kernel) (by decide +kernel)
      (by decide +kernel)

theorem met_request_cases :
    (let s := requestState 2 0x53 0x10001000 0 228 0 []
     blockArg0 s / 16 % 16 = 5 ∧ InSram (blockAddr0 s) (blockLen s) ∧ ¬ blockLen s < 132 ∧ (blockArg0 s).testBit 0 = true ∧
       (blockArg0 s).testBit 1 = true ∧ s.sys.dev.poisonedRange (blockAddr0 s) (blockLen s) = false) ∧
    ¬ InSram (blockAddr0 (requestState 3 0 0x10FFFFC1 0 0 0 [])) 64 ∧ InSram (blockAddr0 (requestState 3 0 0x10FFFFC0 0 0 0 [])) 64 ∧
    InSram (blockAddr1 (requestState 4 0 0x10001000 0x10FFF000 4 0 [])) 4096 ∧
    (let s := puts (requestState 5 (3 + 30 * 65536) 0x10001000 0 132 0 [])
       [(R.TR_STAT, F.TR_STAT.HOLD_OK, 1), (R.TR_VIN, F.TR_VIN.VIN, 4400), (R.SEC_UPD_LOCK, F.SEC_UPD_LOCK.LOCK, 0)]
     s.sys.updBlock = 0 ∧ componentOf (blockArg0 s / 4 % 4) ≠ none ∧ blockArg0 s / 65536 = 30) ∧
    (let f := State.reset.sys.dev.shadow
     f.isSet 7 = false ∧ f.keyHash[7] = 0#256 ∧ f.usable 0 = false) := by
  unfold InSram; decide +kernel
/-- The security core with the gate open, the responder at a stage. -/
def spdmState (stage : Nat) : State :=
  onSpdm (put (runs [39] State.reset) R.SEC_BOOT_STATUS F.SEC_BOOT_STATUS.GATE 1) (fun c => { c with stage := stage })

theorem met_spdm :
    (∀ n ∈ [0, 1, 2, 3], SpdmServed (spdmState n) ∧ (spdmState n).sys.dev.boot.spdm.stage = n) ∧ ¬ SpdmServed State.reset ∧
    (∀ code ∈ [0x84, 0xE1, 0xE3, 0x82, 0x83, 0xE0], let req : List (BitVec 8) := [0x12#8, BitVec.ofNat 8 code] ++ zeros 35
      wordAt req 1 1 = code ∧ wordAt req 0 1 = 0x12 ∧ 37 ≤ req.length ∧ wordAt req 2 1 % 16 = 0) ∧
    (let p := { (spdmState 3).sys.nv with cert := natBytes 4 0 ++ natBytes 4 1 ++ zeros 9 }
     0 < ((p.cert.drop 16).take (wordAt p.cert 4 4)).length) := by
  unfold SpdmServed; decide +kernel

/-- The security core ready to activate: the gate open, a trial staged, nothing that blocks an update. -/
def actReady (act : ActCtx) (st : Nat) : State :=
  let s := puts (runs [39, 42, 47] State.reset) [(R.SEC_BOOT_STATUS, F.SEC_BOOT_STATUS.GATE, 1), (R.TR_STAT, F.TR_STAT.HOLD_OK, 1),
    (R.TR_VIN, F.TR_VIN.VIN, 4400), (R.SEC_UPD_LOCK, F.SEC_UPD_LOCK.LOCK, 0), (R.SEC_ACT_STAT, F.SEC_ACT_STAT.STATE, st)]
  onAct { s with sys := { s.sys with nv := s.sys.nv.putDir (fun b => { b with trial := 1, trialSlot := 1 }) } } (fun _ => act)

def lone : ActCtx := ⟨0, false, ImageInfo.none, false, false, false, false⟩
def paired : ActCtx := ⟨0, true, ImageInfo.none, true, false, true, true⟩

theorem met_activation :
    (let s := actReady lone 0
     s.sys.dev.answers 39 = true ∧ fldOf s R.SEC_BOOT_STATUS F.SEC_BOOT_STATUS.GATE = 1 ∧ s.sys.dev.sec.stopped = false ∧
       actState s = 0 ∧ s.sys.nv.dir.trial = 1 ∧ fldOf s R.SEC_REQ_STAT F.SEC_REQ_STAT.BUSY = 0 ∧ s.sys.updBlock % 64 = 0 ∧
       PairRules s 0 false ∧ ¬ PairRules s 0 true ∧ PairRules s 1 false ∧ pwrOf s 8 = 0 ∧ s.sys.lightest ≤ 2) ∧
    PairRules (put (actReady lone 0) R.TWIN_STATUS F.TWIN_STATUS.ROLE 1) 0 true ∧
    (actState (actReady lone 1) = 1 ∧ SecAnswers (actReady lone 1)) ∧
    (let s := actReady lone 2
     s.sys.dev.answers 42 = true ∧ actState s = 2 ∧ s.sys.dev.boot.act.mine = false ∧ s.sys.dev.boot.act.pair = false ∧
       s.sys.dev.boot.act.method = 0) ∧
    (actState (actReady lone 3) = 3 ∧ (actReady lone 3).sys.dev.restart ≠ 2) ∧
    (let s := puts (actReady paired 2) [(R.TWIN_STATUS, F.TWIN_STATUS.ROLE, 1), (R.TWIN_STATUS, F.TWIN_STATUS.SUSPENDED, 1)]
     s.sys.dev.boot.act.pair = true ∧ fldOf s R.TWIN_STATUS F.TWIN_STATUS.ROLE = 1 ∧ s.sys.dev.boot.act.mine = true ∧
       s.sys.dev.boot.act.mineDone = true ∧ fldOf s R.TWIN_STATUS F.TWIN_STATUS.SUSPENDED = 1) ∧
    (let s := put (actReady lone 0) R.TWIN_STATUS F.TWIN_STATUS.ROLE 2
     fldOf s R.TWIN_STATUS F.TWIN_STATUS.ROLE = 2 ∧ actState s = 0 ∧ s.sys.updBlock % 64 = 0) := by
  unfold PairRules SecAnswers; decide +kernel

/-- Bay 7 in STATE st of its golden check, after attempts; with an image of 4 bytes, or none. -/
def goldAt (st tries : Nat) (image : List (BitVec 8)) : State :=
  let s := puts (actReady lone 0) [(R.GOLD_BAY_STAT 7, F.GOLD_BAY_STAT.STATE, st), (R.GOLD_BAY_STAT 7, F.GOLD_BAY_STAT.ATTEMPTS, tries)]
  { s with sys := { s.sys with nv := { s.sys.nv with golden := Vector.replicate 4 image },
                               dev := { s.sys.dev with golds := s.sys.dev.golds.set 7 { s.sys.dev.golds[7] with slot := 0 } } } }

theorem met_golden :
    (goldAt 1 0 []).sys.dev.answers 47 = true ∧ goldState (goldAt 1 0 []) 7 = 1 ∧ goldImage (goldAt 1 0 []) 7 = [] ∧
    goldImage (goldAt 1 0 (zeros 64)) 7 ≠ [] ∧ 1#256 ≠ goldDigest (goldImage (goldAt 1 0 (zeros 64)) 7) ∧
    (goldState (goldAt 2 1 (zeros 64)) 7 = 2 ∧ fldOf (goldAt 2 1 (zeros 64)) (R.GOLD_BAY_STAT 7) F.GOLD_BAY_STAT.ATTEMPTS < 2) ∧
    2 ≤ fldOf (goldAt 2 2 (zeros 64)) (R.GOLD_BAY_STAT 7) F.GOLD_BAY_STAT.ATTEMPTS ∧ goldState (goldAt 0 0 []) 7 = 0 := by
  decide +kernel

/-! ### The witness link -/

/-- Lane x in a phase, REFCLK present and its islands running. -/
def laneState (x : Lane) (l : LaneCtx) : State :=
  let s := puts (runs [60, 70, 52] State.reset) [(R.ISLE_REFCLK, F.ISLE_REFCLK.PRESENT, 1),
    (R.SEC_BOOT_STATUS, F.SEC_BOOT_STATUS.GATE, 1), (R.TWIN_STATUS, F.TWIN_STATUS.PAIR_MODE, 1)]
  laneTo (onTray s (fun t => { t with gate := true })) x l

def laneIn (p : LanePhase) : LaneCtx := { LaneCtx.reset with phase := p }

theorem met_link :
    (∀ x ∈ [Lane.wit 7, .twin 1, .host 3], (laneState x (laneIn .quiet)).sys.dev.answers (laneIsland x) = true ∧
      fldOf (laneState x (laneIn .quiet)) R.ISLE_REFCLK F.ISLE_REFCLK.PRESENT = 1 ∧
      (laneAt (laneState x (laneIn .detect)) x).phase = .detect ∧ (laneAt (laneState x (laneIn .train)) x).phase = .train ∧
      (laneAt (laneState x (laneIn .align)) x).phase = .align ∧ (laneAt (laneState x (laneIn .run)) x).phase = .run) ∧
    LaneGate (laneState (.wit 7) (laneIn .quiet)) (.wit 7) ∧ LaneGate (laneState (.twin 1) (laneIn .quiet)) (.twin 1) ∧
    LaneGate (laneState (.host 3) (laneIn .quiet)) (.host 3) ∧
    fldOf (laneState (.wit 7) (laneIn .align)) (R.WITL_STATUS 7) F.WITL_STATUS.STATE = 0 ∧
    (let l : LaneCtx := { laneIn .run with buf := [⟨255, 0, zeros 240⟩], naked := true, resends := 16 }
     (laneAt (laneState (.wit 7) l) (.wit 7)).buf ≠ [] ∧ (laneAt (laneState (.wit 7) l) (.wit 7)).naked = true ∧
       (laneAt (laneState (.wit 7) l) (.wit 7)).resends = 16) ∧
    fldOf (put (laneState (.wit 7) (laneIn .train)) (R.WITL_STATUS 7) F.WITL_STATUS.STATE 4) (R.WITL_STATUS 7) F.WITL_STATUS.STATE ≠ 0 := by
  refine ⟨?_, ?_, ?_, ?_, ?_, ?_, ?_⟩ <;> first | (unfold LaneGate; decide +kernel) | decide +kernel

theorem met_flits : IsRetryLane (.wit 7) ∧ IsRetryLane (.twin 1) ∧ ¬ IsRetryLane (.host 3) ∧
    FlitBad (zeros 256) ⟨0, 0, true⟩ ∧ FlitBad [] ⟨0, 0, false⟩ ∧
    ¬ FlitBad (flitBytes 255 1 true true 254 0 65535 0 0 (zeros 240)) ⟨0, 0, false⟩ ∧
    (flitBytes 255 1 true true 254 0 65535 0 0 (zeros 240)).length = 256 := by
  refine ⟨(fun _ h => nomatch h), (fun _ h => nomatch h), fun h => h 3 rfl, ?_⟩
  unfold FlitBad; decide +kernel

/-- A HELLO of bay 7 (its header names bay 15). -/
def helloBytes (vendor : Nat) : List (BitVec 8) :=
  [0xF1#8, 1#8] ++ zeros 8 ++ natBytes 2 64 ++ zeros 4 ++ natBytes 4 vendor ++ [1#8, 2#8] ++ zeros 2 ++ natBytes 2 64 ++ zeros 38

theorem met_whole_record :
    (helloBytes 0).length = 64 ∧ (helloBytes 0).headD 0#8 = BitVec.ofNat 8 (1 + 16 * 15) ∧ (helloBytes 0).getD 1 0#8 = 1#8 ∧
    lengthOk 1 64 = true ∧ (1 : Nat) ∈ [0x01, 0x02, 0x03, 0x10, 0x11, 0x12, 0x13, 0x14, 0x20, 0x30] := by decide +kernel
/-! ### Records, epochs and seals -/

/-- Bay 7's session in STATE n with epoch 5, these slices and this record next in the inbox, no sample area in use. -/
def recState (n : Nat) (r : RxRec) : State :=
  let s := at_ [(R.WITL_STATUS 7, F.WITL_STATUS.STATE, n), (R.WITL_STATUS 7, F.WITL_STATUS.EPOCH, 5)]
  s.onDev (fun d => { d with links := d.links.set 7 { d.links[7] with
    inbox := [r], capsSeen := true, slices := [⟨0, 70⟩, ⟨1, 71⟩], tags := [9] } })

/-- Steps of bay 7. -/
def withSteps (l : List StepCtx) (s : State) : State :=
  s.onDev (fun d => { d with wits := d.wits.set 7 { d.wits[7] with steps := l } })

/-- A record of bay 7 from type, epoch, step and body. -/
def recOf (ty epoch step : Nat) (body : List (BitVec 8)) : RxRec :=
  ⟨natBytes 1 (1 + 16 * (if ty = 1 then 15 else 7)) ++ natBytes 1 ty ++ natBytes 2 epoch ++ natBytes 6 step ++
    natBytes 2 (16 + body.length) ++ zeros 4 ++ body, 0, false, false⟩

/-- Step n of epoch 5 under a mode, one slice active, with suspects. -/
def stepOf (n mode : Nat) (closed : Bool) (suspects : List SuspectCtx) : StepCtx :=
  ⟨n, 5, 1, mode, 2, 12, 0#64, closed, false, [], [], suspects, [], false, false, none, 0⟩

def helloRec (vendor : Nat) : RxRec := ⟨helloBytes vendor, 0, false, false⟩
def capsRec (gen l : Nat) : RxRec := recOf 2 0 0 (natBytes 1 gen ++ natBytes 1 l ++ zeros 14)
def mapRec (n : Nat) : RxRec :=
  recOf 3 0 0 (natBytes 1 n ++ natBytes 1 1 ++ zeros 14 ++ (List.range n).flatMap (fun i => natBytes 1 i ++ zeros 7 ++ natBytes 8 (70 + i)))
def stepOpenRec (step act : Nat) : RxRec := recOf 0x10 5 step (natBytes 8 act ++ zeros 8)
def csumRec (step slice replay : Nat) : RxRec := recOf 0x11 5 step (natBytes 4 1 ++ natBytes 1 0 ++ natBytes 1 (slice + 64 * replay) ++ zeros 26)
def sampleRec (step slice replay part : Nat) : RxRec :=
  recOf 0x12 5 step (natBytes 4 1 ++ natBytes 1 (slice + 64 * replay) ++ natBytes 1 part ++ natBytes 1 0 ++ zeros 1 ++ natBytes 2 1 ++
    natBytes 2 1 ++ zeros 4 ++ natBytes 4 0 ++ natBytes 4 4 ++ zeros 4)
def stepCloseRec (step n : Nat) : RxRec := recOf 0x13 5 step (natBytes 4 n ++ zeros 12)
def healthRec (n : Nat) : RxRec := recOf 0x20 0 0 (natBytes 1 n ++ zeros 15 ++ natBytes 2 320 ++ zeros 2)
def maintRec (tag status : Nat) : RxRec := recOf 0x30 0 0 (natBytes 2 tag ++ natBytes 1 status ++ zeros 1)

theorem met_record_outcomes :
    (∀ r ∈ [helloRec 0, capsRec 1 4, mapRec 2, stepOpenRec 3 1, csumRec 3 0 0, sampleRec 3 0 0 2, stepCloseRec 3 0, healthRec 1,
        maintRec 9 2], Comes (recState 4 r) 7 r.type r) ∧
    Comes (recState 4 { helloRec 0 with beyond := true }) 7 1 { helloRec 0 with beyond := true } ∧
    ¬ SessionTakes (recState 0 (helloRec 0)) 7 1 ∧ ¬ SessionTakes (recState 4 (capsRec 1 4)) 7 2 ∧
    (SessionTakes (recState 4 (recOf 0x10 6 3 (zeros 16))) 7 0x10 ∧ HasEpoch 0x10 ∧
      AheadOf (recOf 0x10 6 3 (zeros 16)).epoch (epochAt (recState 4 (recOf 0x10 6 3 (zeros 16))) 7)) ∧
    ¬ AheadOf (recOf 0x13 4 3 (zeros 16)).epoch 5 ∧ AheadOf 32772 5 ∧ ¬ AheadOf 32773 5 := by
  unfold Comes SessionTakes HasEpoch AheadOf; and_intros <;> decide +kernel

theorem met_records_pass :
    Passes (recState 1 (helloRec 0x4E524D41)) 7 1 (helloRec 0x4E524D41) ∧ (helloRec 0x4E524D41).u 16 4 = 0x4E524D41 ∧
    Passes (recState 2 (capsRec 1 4)) 7 2 (capsRec 1 4) ∧ (capsRec 1 5).u 17 1 = 5 ∧ (capsRec 0 4).u 16 1 = 0 ∧
    Passes (recState 2 (mapRec 2)) 7 3 (mapRec 2) ∧
    Passes (recState 4 (stepOpenRec 3 1)) 7 0x10 (stepOpenRec 3 1) ∧ Passes (recState 4 (csumRec 3 0 0)) 7 0x11 (csumRec 3 0 0) ∧
    Passes (recState 4 (sampleRec 3 0 0 2)) 7 0x12 (sampleRec 3 0 0 2) ∧
    Passes (recState 4 (stepCloseRec 3 0)) 7 0x13 (stepCloseRec 3 0) ∧ Passes (recState 3 (healthRec 1)) 7 0x20 (healthRec 1) ∧
    Passes (recState 2 (maintRec 9 2)) 7 0x30 (maintRec 9 2) := by
  unfold Passes Comes SessionTakes HasEpoch; and_intros <;> decide +kernel

theorem met_unit_map : MapOk (recState 2 (mapRec 2)) 7 (mapRec 2) ∧ ¬ MapOk (recState 3 (mapRec 0)) 7 (mapRec 0) := by
  constructor
  · have h : (linkAt (recState 2 (mapRec 2)) 7).mapSeq = none := by decide +kernel
    unfold MapOk
    rw [h]
    decide +kernel
  · exact fun h => absurd h.1 (by decide +kernel)

theorem met_step_open :
    (let s := recState 4 (stepOpenRec 0 1)
     openAt s 7 = none ∧ (stepOpenRec 0 1).step = nextStepOf s 7 ∧ (stepOpenRec 0 1).u 16 8 < 2 ^ (linkAt s 7).slices.length ∧
       (∀ p ∈ (linkAt s 7).slices.zipIdx, p.1.state = 1 → (1 : Nat).testBit p.2 = false)) ∧
    2 ^ (linkAt (recState 4 (stepOpenRec 0 4)) 7).slices.length ≤ (stepOpenRec 0 4).u 16 8 ∧
    ((linkAt (recState 4 (stepOpenRec 0 2)) 7).slices[1]?).any (fun e => e.state == 1) = true ∧
    (openAt (withSteps [stepOf 0 1 false []] (recState 4 (stepOpenRec 1 1))) 7).isSome = true := by
  decide +kernel

/-- A suspect tile of slice 0 with a REPLAY outstanding on slice 1. -/
def suspect : SuspectCtx := ⟨1, 0, 3, true, none, some ⟨1, 2, false, false, none⟩, false⟩

theorem met_csum_and_sample :
    (let s := withSteps [stepOf 3 1 false []] (recState 4 (csumRec 3 0 0))
     (∃ x ∈ openAt s 7, x.step = 3) ∧ ¬ (∃ x ∈ openAt s 7, x.mode = 0) ∧ (csumRec 3 0 0).csumEntries.length = 1 ∧
       (∀ e ∈ (csumRec 3 0 0).csumEntries, e.replay = false ∧ fmtDefined e.fmt = true ∧ e.fmt ≠ 0x0D ∧
         ¬ (linkAt s 7).slices.length ≤ e.slice) ∧
       (∀ e ∈ (csumRec 3 0 0).csumEntries, ∀ x ∈ openAt s 7, x.active.testBit e.slice = true) ∧
       (∀ e ∈ (csumRec 3 1 0).csumEntries, ∃ x ∈ openAt s 7, x.active.testBit e.slice = false) ∧
       (stepAt s 7 3).isSome = true) ∧
    (∃ x ∈ openAt (withSteps [stepOf 3 0 false []] (recState 4 (csumRec 3 0 0))) 7, x.mode = 0) ∧
    (∃ e ∈ (csumRec 3 2 0).csumEntries, (linkAt (recState 4 (csumRec 3 2 0)) 7).slices.length ≤ e.slice) ∧
    (let s := withSteps [stepOf 3 1 true [suspect]] (recState 4 (csumRec 3 1 1))
     (replayAt s 7 3 1).isSome = true ∧ (∀ p ∈ replayAt s 7 3 1, p.2.csum = false ∧ p.2.runSlice = 1) ∧
       ((csumRec 3 1 1).csumEntries.any (·.replay)) = true ∧
       (sampleRec 3 1 1 2).sampleIn.replay = true ∧ (sampleRec 3 1 1 2).sampleIn.bad 2 [] = false ∧
       (∀ q ∈ replayAt s 7 3 1, AnswersFrom q.1 q.2 (sampleRec 3 0 1 2).sampleIn ∧ ¬ AnswersFrom q.1 q.2 (sampleRec 3 0 1 1).sampleIn)) ∧
    (let s := withSteps [stepOf 3 1 false []] (recState 4 (sampleRec 3 0 0 2))
     let c := (sampleRec 3 0 0 2).sampleIn
     c.bad 2 (partsAt s 7 3 c) = false ∧ c.clash (partAt s 7 3 c) = false ∧ (1 : Nat).testBit c.slice = true ∧
       (sampleRec 3 0 0 5).sampleIn.bad 2 [] = true) := by
  unfold AnswersFrom; decide +kernel

theorem met_step_close :
    (let s := withSteps [stepOf 3 2 false []] (recState 4 (stepCloseRec 3 0))
     (∀ x ∈ openAt s 7, x.step = 3 ∧ stepAt s 7 3 = some x ∧ x.mode = 2 ∧ (stepCloseRec 3 0).u 16 4 = x.csums.length ∧
       x.sampleFault 7 = none ∧ (witAt s 7).firstStep + x.lag ≤ x.step) ∧ (openAt s 7).isSome = true ∧
       ¬ ∃ y ∈ sealedAt s 7, 1 ≤ y) ∧
    (stepCloseRec 3 1).u 16 4 ≠ (stepOf 3 1 false []).csums.length ∧
    ({ stepOf 3 1 false [] with samples := [⟨8, 0, false, [], true, false, false⟩] } : StepCtx).sampleFault 7 = some 8 := by
  decide +kernel

theorem met_health_and_maint :
    ¬ ((healthRec 1).u 16 1 < 1 ∨ 16 < (healthRec 1).u 16 1 ∨ (healthRec 1).len ≠ 32 + (2 * 1 + 3) / 4 * 4) ∧
    ((healthRec 0).u 16 1 < 1 ∧ 16 < (healthRec 17).u 16 1) ∧ ((maintRec 9 2).u 18 1 ≤ 2 ∧ 2 < (maintRec 9 3).u 18 1) ∧
    ((maintRec 9 2).u 16 2 ∈ (linkAt (recState 4 (maintRec 9 2)) 7).tags ∧
      (maintRec 8 2).u 16 2 ∉ (linkAt (recState 4 (maintRec 8 2)) 7).tags) ∧
    (MaintLen 4 ∧ MaintLen 4076 ∧ ¬ MaintLen 4080 ∧ ¬ MaintLen 0) ∧
    (let s := (put (recState 4 (maintRec 9 2)) (R.WITL_MAINT_TXCTL 7) F.WITL_MAINT_TXCTL.GO 1).onDev
       (fun d => { d with links := d.links.set 7 { d.links[7] with devGrant := 64, fenceWait := [(63, true)] } })
     fldOf s (R.WITL_MAINT_TXCTL 7) F.WITL_MAINT_TXCTL.GO = 1 ∧ SessionReady s 7 ∧ 64 ≤ devCredit s 7 ∧
       (∃ p ∈ (linkAt s 7).fenceWait, p.1 = (63#6 : BitVec 6).toNat)) ∧
    bayFld (at_ [(R.WITL_MAINT_RXSTAT 7, F.WITL_MAINT_RXSTAT.FULL, 1)]) R.WITL_MAINT_RXSTAT 7 F.WITL_MAINT_RXSTAT.FULL ≠ 0 := by
  unfold MaintLen SessionReady; decide +kernel

theorem met_epoch :
    State.reset.sys.dev.role ≠ 2 ∧ (at_ [(R.TWIN_STATUS, F.TWIN_STATUS.ROLE, 2)]).sys.dev.role = 2 ∧
    (let s := puts (recState 4 (helloRec 0)) [(R.WIT_EPOCH_GO 7, F.WIT_EPOCH_GO.RESEND, 1), (R.WIT_CTL 7, F.WIT_CTL.HOST_HOLD, 1),
       (R.WITL_STATUS 7, F.WITL_STATUS.HOLD_MASK, 8)]
     s.sys.dev.role ≠ 2 ∧ sessionAt s 7 = 4 ∧ holdsAt s 7 ≠ 0 ∧ (witAt s 7).openedInHold = false ∧
       bayFld s R.WIT_EPOCH_GO 7 F.WIT_EPOCH_GO.RESEND = 1) ∧
    (∀ island ∈ [[], [40]], let s := puts (runs island (recState 3 (helloRec 0))) [(R.WIT_EPOCH_NEXT 7, F.WIT_EPOCH_NEXT.EPOCH, 6),
       (R.FS_STATUS, F.FS_STATUS.READY, 1)]
     AheadOf (bayFld s R.WIT_EPOCH_NEXT 7 F.WIT_EPOCH_NEXT.EPOCH) (epochAt s 7) ∧ SessionReady s 7 ∧
       (∀ x ∈ (linkAt s 7).slices, (s.sys.dev.unit x.unitId).state < 2) ∧ fldOf s R.FS_STATUS F.FS_STATUS.READY = 1 ∧
       fldOf s R.FS_STATUS F.FS_STATUS.RESUME_WAIT = 0) := by
  unfold AheadOf SessionReady; decide +kernel

theorem met_new_refused : NewRefused State.reset 7 ∧ ¬ GoesOut State.reset 7 := by
  constructor
  · exact Or.inr (Or.inl (by decide +kernel))
  · intro h; exact absurd h.2.1 (by decide +kernel)

/-- The lead's or the lone device's bay 7 with these steps, the ledger island running. -/
def sealState (l : List StepCtx) : State := withSteps l (runs [40] (recState 4 (helloRec 0)))

theorem met_seal :
    (let s := sealState [stepOf 0 1 true []]
     s.sys.dev.role ≠ 2 ∧ s.sys.dev.answers 40 = true ∧ jobBays s 7 = [7] ∧ oldestAt s 7 = 0 ∧
       (∃ x ∈ stepAt s 7 0, x.mode ≠ 0 ∧ x.clear 7 = true ∧ s.sys.dev.role ≠ 1) ∧ (witAt s 7).ledger.length < 4096 ∧
       (witAt s 7).events.length < 256 ∧ bayFld s R.WIT_STAT 7 F.WIT_STAT.FAULTED = 0 ∧
       bayFld s R.WIT_STAT 7 F.WIT_STAT.MODE_NOW ≠ 2 ∧ 0 + (witAt s 7).steps.length < 2 ^ 48 ∧
       (∀ x ∈ (witAt s 7).steps, x.pair ≠ some 3) ∧ fldOf s R.TWIN_STATUS F.TWIN_STATUS.SUSPENDED = 0) ∧
    PairDisagrees (sealState [{ stepOf 0 1 true [] with pair := some 3 }]) 7 ∧
    (let s := puts (sealState [stepOf 0 1 true []]) [(R.TWIN_STATUS, F.TWIN_STATUS.ROLE, 2), (R.TWIN_STATUS, F.TWIN_STATUS.JOINED, 1)]
     s.sys.dev.role = 2 ∧ fldOf s R.TWIN_STATUS F.TWIN_STATUS.JOINED = 1 ∧
       (witAt s 7).steps.Pairwise (fun x y => x.step ≠ y.step)) ∧
    (let s := put (sealState []) R.TWIN_STATUS F.TWIN_STATUS.SUSPENDED 1
     fldOf s R.TWIN_STATUS F.TWIN_STATUS.SUSPENDED = 1 ∧ pwrOf s 8 ≠ 4) := by
  unfold PairDisagrees; decide +kernel

/-- All memory controllers and cluster 11 run. -/
def memoryUp (s : State) : State :=
  puts (runs (99 :: (List.range 16).map (72 + ·)) s) ((List.range 16).map (fun j => (R.MC_STATUS j, F.MC_STATUS.STATE, 1)))

theorem met_replay_and_pops :
    ReplayRuns (memoryUp (sealState [stepOf 3 1 true [suspect]])) ∧ ¬ ReplayRuns State.reset ∧
    (replayAt (memoryUp (sealState [stepOf 3 1 true [suspect]])) 7 (3#48 : BitVec 48).toNat (1#32 : BitVec 32).toNat).isSome = true ∧
    (let s := State.reset.onDev (fun d => { d with wits := d.wits.set 7 { d.wits[7] with ledger := [zeros 32] } })
     (witAt s 7).ledger.head?.isSome = true) ∧ (witAt State.reset 7).ledger = [] := by
  unfold ReplayRuns; decide +kernel
/-! ### The Gallery, stencils and Flowstone -/

/-- A dispatch of bay 7 with TAG 1, of a kind, for tile 1 of step 3; and its completion by cluster 11 with a result. -/
def dispDesc (kind : Nat) : List (BitVec 8) := natBytes 2 1 ++ [0#8] ++ natBytes 1 kind ++ natBytes 4 1 ++ natBytes 6 3 ++ zeros 50
def disp (kind : Nat) : GDisp := ⟨7, 0, dispDesc kind⟩
def dispTag (kind : Nat) : TagCtx := ⟨1, 0, true, false, dispDesc kind, 0, none, false⟩
def done (flag verdict : Nat) : List (BitVec 8) := natBytes 2 1 ++ natBytes 1 flag ++ [11#8] ++ natBytes 1 verdict ++ zeros 59

/-- Cluster 11 with HEALTH h, idle and checked, lanes observed; bay 7 with a TAG of a kind pending. -/
def galState (h kind lane : Nat) : State :=
  let s := puts (engAt (.gc 11) 2 State.reset) [(R.GC_STATUS 11, F.GC_STATUS.HEALTH, h), (R.GC_STATUS 11, F.GC_STATUS.CHECKING, 0),
    (R.GC_OBS 11 15, ⟨31, 1⟩, lane)]
  onWit (onGc s 11 (fun c => { c with katMade := true })) 7 (fun w => { w with tags := [dispTag kind], pend := [1] })

theorem met_gallery_lag : (onWit State.reset 7 (fun w => { w with items := [⟨1, 0, 0, 9, 0, 0, []⟩] })).sys.dev.wits[7].items.find?
      (fun i => i.kind == 1) ≠ none ∧
    (let w := witAt (galState 0 1 0) 7
     w.pend.head?.bind (fun p => w.tags.find? (fun y => y.tag == p)) ≠ none ∧ w.glagTime = none ∧ w.events.length < 256) := by
  decide +kernel

theorem met_handover : GcIdle (galState 0 1 0) 11 ∧ ((galState 0 1 0).sys.dev.pickFor 11 7).isSome = true ∧
    (∀ c, turnOf (galState 0 1 0) c < turnOf (galState 0 1 0) 7 → (galState 0 1 0).sys.dev.pickFor 11 c = none) ∧
    (∀ b, State.reset.sys.dev.pickFor 11 b = none) := by
  unfold GcIdle; decide +kernel

theorem met_loader :
    let s := onGc (memoryUp State.reset) 11 (fun c => { c with
      ldBusy := true, ldLen := 64, ldSrc := 0x100000000, cur := some (disp 2) })
    (gcAt s 11).ldBusy = true ∧ s.sys.dev.answers 99 = true ∧
      ∀ j ∈ List.range 16, s.sys.dev.mcReady j = true ∧ s.sys.dev.answers (72 + j) = true := by decide +kernel

/-- A completion waits, its step being held with a sample or a suspect whose REPLAY has answered. -/
def doneState (kind flag verdict lane : Nat) : State :=
  (withSteps [stepOf 3 1 true [suspect]] (galState 0 kind lane)).onDev (fun d => { d with gdone := [(7, done flag verdict)] })

theorem met_completion :
    (doneState 1 0 1 0).sys.dev.gdone.head?.isSome = true ∧ State.reset.sys.dev.gdone = [] ∧
    (∀ y ∈ (witAt (doneState 1 0 1 1) 7).tags.find? (fun y => y.tag == 1), y.isOpen = true ∧ y.gen = fieldOf (done 0 1) 6 2 ∧
      y.confirm = false) ∧
    (fieldOf (done 0 1) 2 1 = 0 ∧ fieldOf (done 0 1) 4 1 = 1 ∧ fieldOf (done 0 1) 3 1 = 11 ∧ (disp 1).kind = 1) ∧
    lanesOf (doneState 1 0 1 1) 11 ≠ [] ∧ lanesOf (doneState 1 0 1 0) 11 = [] ∧ stepAt (doneState 1 0 1 0) 7 3 ≠ none ∧
    stepAt (galState 0 1 0) 7 3 = none ∧
    (∀ c ∈ stepAt (doneState 2 0 2 0) 7 3, (c.suspects.find? (fun q => q.tile == 1 && !q.done)).any (fun q => q.replay.isSome) = true) ∧
    (fieldOf (done 0 2) 5 1 = 0 ∧ fieldOf (done 1 0) 2 1 = 1 ∧ fieldOf (done 2 0) 2 1 = 2) := by
  decide +kernel

theorem met_known_answers :
    (onGc (galState 0 1 0) 11 (fun c => { c with cur := some (disp 1) })).sys.dev.gcs[11].cur ≠ none ∧
    (let s := put (galState 1 1 1) (R.GC_STATUS 11) F.GC_STATUS.CHECKING 1
     s.sys.dev.answers 99 = true ∧ gcFld s 11 F.GC_STATUS.CHECKING = 1 ∧ gcFld s 11 F.GC_STATUS.HEALTH = 1 ∧
       gcFld s 11 F.GC_STATUS.OBS_PASSES + 1 < fldOf s R.GAL_CFG F.GAL_CFG.OBS_CLEAR ∧ lanesOf s 11 = [511]) ∧
    (let s := puts (galState 1 1 1) [(R.GC_STATUS 11, F.GC_STATUS.CHECKING, 1), (R.GC_STATUS 11, F.GC_STATUS.OBS_PASSES, 0xFF),
       (R.GAL_CFG, F.GAL_CFG.OBS_CLEAR, 1)]
     fldOf s R.GAL_CFG F.GAL_CFG.OBS_CLEAR ≤ gcFld s 11 F.GC_STATUS.OBS_PASSES + 1) ∧
    gcFld (galState 2 1 0) 11 F.GC_STATUS.HEALTH = 2 ∧ gcFld (galState 0 1 0) 11 F.GC_STATUS.HEALTH = 0 ∧
    chanOn (put (galState 2 1 0) R.GAL_UNFENCE F.GAL_UNFENCE.UNFENCE 0x800) R.GAL_UNFENCE F.GAL_UNFENCE.UNFENCE 11 = true := by
  decide +kernel

/-- A pack with a SCHEDULE alone: TEST_MASK, ORDER, WHEN. -/
def pack (mask order when_ : Nat) : List (BitVec 8) :=
  zeros 6 ++ natBytes 2 1 ++ zeros 56 ++ natBytes 4 5 ++ natBytes 4 96 ++ natBytes 4 16 ++ zeros 20 ++
    natBytes 8 mask ++ natBytes 1 order ++ natBytes 1 when_ ++ zeros 6

/-- Bay 7 READY or ACTIVE with memory, Flowstone scanned and packs in slot 15. -/
def stnState (r : RxRec) (st : Nat) (p : List (BitVec 8)) (visit : Option VisitCtx) : State :=
  let s := puts (runs [47] (memoryUp (recState st r))) [(R.FS_STATUS, F.FS_STATUS.READY, 1)]
  let s := s.onDev (fun d => { d with stns := d.stns.set 7 { d.stns[7] with visit := visit } })
  { s with sys := { s.sys with nv := { s.sys.nv with packs := s.sys.nv.packs.set 15 p } } }

def run_ : RunCtx := ⟨6, 15, 0, 0, some 0, (0, 0, 0), false, []⟩
def resultRec (id status total : Nat) : RxRec := recOf 0x14 0 0 (natBytes 4 id ++ natBytes 1 0 ++ natBytes 1 status ++ zeros 6 ++ natBytes 4 total)

theorem met_result :
    (∀ n ∈ [0, 1, 2, 3, 4], Passes (stnState (resultRec 6 n 0) 3 [] none) 7 0x14 (resultRec 6 n 0)) ∧
    (let s := stnState (resultRec 6 1 0) 3 [] (some ⟨0, 70, [], 0, some run_⟩)
     (resultRec 6 1 0).u 16 4 = run_.runId ∧ (resultRec 6 1 0).u 20 1 < (linkAt s 7).slices.length ∧
       ((resultLanded s 7 (resultRec 6 1 0) false).sys.dev.judgeDone 7 (withChunk run_ (resultRec 6 1 0)) 0).1 = 1 ∧
       ((resultLanded s 7 (resultRec 6 1 1) false).sys.dev.judgeDone 7 (withChunk run_ (resultRec 6 1 1)) 1).1 = 2) ∧
    (resultRec 5 1 0).u 16 4 ≠ run_.runId := by
  unfold Passes Comes SessionTakes HasEpoch; decide +kernel

theorem met_visit :
    VisitMay (stnState (helloRec 0) 3 (pack 3 0 1) none) 7 ∧ packsFor (stnState (helloRec 0) 3 (pack 3 0 1) none) 7 = [15] ∧
    visitRuns (stnState (helloRec 0) 3 (pack 3 0 1) none) 7 70 = [(15, 0), (15, 1)] ∧
    visitRuns (stnState (helloRec 0) 4 (pack 3 0 1) none) 7 70 = [] ∧ packsFor (stnState (helloRec 0) 3 [] none) 7 = [] ∧
    ((stnState (helloRec 0) 3 (pack 3 0 1) none).sys.dev.dueSlice 7 (2 ^ 48)).isSome = true ∧ ¬ VisitMay State.reset 7 := by
  unfold VisitMay SessionReady; decide +kernel

theorem met_pack_and_scan :
    CmdOpen (stnState (helloRec 0) 3 (pack 3 0 1) none) ∧ packAt (stnState (helloRec 0) 3 (pack 3 0 1) none) 15 ≠ [] ∧
    (stnState (helloRec 0) 3 (pack 3 0 1) none).sys.dev.packBusy 15 = false ∧
    (stnState (helloRec 0) 3 (pack 3 0 1) (some ⟨0, 70, [], 0, some run_⟩)).sys.dev.packBusy 15 = true ∧
    ((runs [47] State.reset).sys.dev.answers 47 = true ∧ fldOf (runs [47] State.reset) R.FS_STATUS F.FS_STATUS.READY = 0) ∧
    fldOf (put (stnState (helloRec 0) 3 [] none) R.FS_CMD_STAT F.FS_CMD_STAT.BUSY 1) R.FS_CMD_STAT F.FS_CMD_STAT.BUSY = 1 := by
  unfold CmdOpen; decide +kernel

/-- Unit 70 in a state; Flowstone as f makes it. -/
def fsState (state : Nat) (f : FsCtx → FsCtx) : State :=
  (stnState (helloRec 0) 3 [] none).onDev (fun d => { d with fs := f { d.fs with
    units := [⟨70, state, 1, none, [], 0, 0, 0, 0, 0, 0, (7, 0), 0, 0⟩] } })

theorem met_flowstone_commands :
    CmdOpen (fsState 0 id) ∧ unitIn (fsState 0 id) 7 0 = some 70 ∧ unitIn (fsState 0 id) 7 63 = none ∧
    (∀ n ∈ [0, 1, 2, 3], unitState (fsState n id) 70 = n) ∧
    (∃ x ∈ (linkAt (fsState 3 id) 7).slices, unitState (fsState 3 id) x.unitId = 3) ∧
    (∀ x ∈ (linkAt (fsState 2 id) 7).slices, unitState (fsState 2 id) x.unitId ≠ 3) ∧ (linkAt (fsState 2 id) 7).slices.zipIdx ≠ [] ∧
    ¬ othersActive (fsState 0 id) 7 0 < (linkAt (fsState 0 id) 7).slicesMin ∧
    (let s := (fsState 0 id).onDev (fun d => { d with links := d.links.set 7 { d.links[7] with slicesMin := 2 } })
     othersActive s 7 0 < (linkAt s 7).slicesMin) ∧
    (let s := put (fsState 0 id) R.FS_CMD_UNIT_LO ⟨0, 32⟩ 70
     (s.sys.dev.reg R.FS_CMD_UNIT_LO).toNat + 2 ^ 32 * (s.sys.dev.reg R.FS_CMD_UNIT_HI).toNat ≠ 0) ∧
    fldOf (put (fsState 0 id) R.FS_STATUS F.FS_STATUS.RESUME_WAIT 1) R.FS_STATUS F.FS_STATUS.RESUME_WAIT = 1 := by
  unfold CmdOpen; decide +kernel

def override : FsRecord := ⟨0, 0, 2, false, true, 70, 7, 0, 0, 1, 3, 0, 0, 0, 0, 0, 0, 0⟩

theorem met_flowstone_records :
    ((fsState 0 id).sys.dev.answers 47 = true ∧ fldOf (fsState 0 id) R.FS_STATUS F.FS_STATUS.READY = 1) ∧
    (fsState 0 (fun f => { f with overrides := [override] })).sys.dev.fs.overrides ≠ [] ∧
    (fsState 0 (fun f => { f with overrides := [override] })).sys.dev.fs.journalRoom = true ∧
    (fsState 1 (fun f => { f with queue := [.window 70] })).sys.dev.fs.queue.head? = some (.window 70) ∧
    (fsState 0 id).sys.dev.fs.overrides = [] ∧ LogRoom (fsState 0 id) ∧ ¬ LogRoom (fsState 0 (fun f => { f with block := 480 })) ∧
    LogRoom (fsState 0 (fun f => { f with block := 511, abandoned := 32 })) ∧
    ¬ LogRoom (fsState 0 (fun f => { f with block := 512, abandoned := 33 })) ∧
    fldOf (put (fsState 0 id) R.FS_STATUS F.FS_STATUS.LEDGER_FULL 1) R.FS_STATUS F.FS_STATUS.LEDGER_FULL = 1 := by
  unfold LogRoom; decide +kernel

theorem met_gets_record : GetsRecord State.reset (.window 70) ∧ GetsRecord State.reset (.visit 7 0 70 3 true 1 0 0 0) ∧
    ¬ GetsRecord State.reset (.retireBay 7 true) := by
  refine ⟨trivial, Or.inl rfl, fun h => h⟩

/-! ### Memory and trowels -/

/-- Every controller runs; window w (that of controller w / 4) holds an operation of one line at 0x200000000, covered so far. -/
def winState (w op fmt param armed complete cov : Nat) : State :=
  let j := w / 4
  let i := w % 4
  (puts (memoryUp State.reset) [(R.TW_CTL j i, F.TW_CTL.OP, op), (R.TW_CTL j i, F.TW_CTL.FMT, fmt), (R.TW_LEN j i, F.TW_LEN.LINES, 1),
    (R.TW_BASE_HI j i, ⟨0, 16⟩, 2), (R.TW_PARAM_LO j i, ⟨0, 32⟩, param % 2 ^ 32), (R.TW_PARAM_HI j i, ⟨0, 16⟩, param / 2 ^ 32),
    (R.TW_ROW_BYTES j i, F.TW_ROW_BYTES.BYTES, 64), (R.TW_STATUS j i, F.TW_STATUS.ARMED, armed),
    (R.TW_STATUS j i, F.TW_STATUS.COMPLETE, complete), (R.TW_COVERED_LO j i, ⟨0, 32⟩, cov)]).onDev
    (fun d => { d with landed := vset d.landed (winIndex w) ((List.range cov).map (fun k => (k, 7#8))) })

/-- A descriptor at 0x300000000 of an operation over one line at 0x400000000, on trowel 15. -/
def descBytes (op fmt param : Nat) : List (BitVec 8) :=
  natBytes 1 op ++ natBytes 1 1 ++ natBytes 1 fmt ++ natBytes 1 0 ++ natBytes 4 1 ++ natBytes 6 0x400000000 ++ natBytes 2 0 ++
    natBytes 6 param ++ natBytes 8 0 ++ natBytes 2 0 ++ natBytes 4 64 ++ natBytes 28 0
def descState (op fmt param : Nat) (running : Option Nat) (queue : List Nat) : State :=
  let s := (memoryUp State.reset).onDev (fun d => { d with mem := memPuts d.mem 0x300000000 (descBytes op fmt param) })
  let s := puts s [(R.TRW_DQ_ADDR_LO 15, ⟨0, 32⟩, 0), (R.TRW_DQ_ADDR_HI 15, ⟨0, 16⟩, 3)]
  s.onDev (fun d => { d with mcs := vset d.mcs 15 { d.mcs[15] with running := running, queue := queue } })

theorem met_controllers :
    (let s := put (memoryUp State.reset) (R.MC_STATUS 15) F.MC_STATUS.STATE 0
     s.sys.dev.answers 87 = true ∧ mcFld s 15 R.MC_STATUS F.MC_STATUS.STATE ≠ 1 ∧ (∀ i ∈ List.range 16, i ≠ 15 → MemUp s i)) ∧
    (let s := puts (memoryUp State.reset) [(R.MC_STATUS 15, F.MC_STATUS.STATE, 0), (R.MC_STATUS 0, F.MC_STATUS.STATE, 0)]
     mcFld s 15 R.MC_STATUS F.MC_STATUS.STATE ≠ 1 ∧ ¬ ∀ i ∈ List.range 16, i ≠ 15 → MemUp s i) ∧
    mcFld (memoryUp State.reset) 15 R.MC_STATUS F.MC_STATUS.STATE = 1 ∧
    ((witAt State.reset 7).items.length < 1024 ∧ (witAt State.reset 7).parts = []) ∧
    1024 ≤ (witAt (onWit State.reset 7 (fun w => { w with items := List.replicate 1024 ⟨1, 0, 0, 9, 0, 0, []⟩ })) 7).items.length ∧
    (MemUp (memoryUp State.reset) 15 ∧ 2013265919 < 1920 * 1024 * 1024 ∧ ¬ 2013265920 < 1920 * 1024 * 1024) ∧
    (let s := put (memoryUp State.reset) (R.MC_SCRUB_POS 15) F.MC_SCRUB_POS.LINES 62914559
     62914560 ≤ mcFld s 15 R.MC_SCRUB_POS F.MC_SCRUB_POS.LINES + 1) ∧
    (let s := put (memoryUp State.reset) (R.MC_SCRUB_POS 15) F.MC_SCRUB_POS.LINES 62914558
     mcFld s 15 R.MC_SCRUB_POS F.MC_SCRUB_POS.LINES + 1 < 62914560) := by
  unfold MemUp; decide +kernel

/-- The checks of R316 are decided. -/
def decFails (s : State) (o : TrowelOp) (win : Option Nat) (k : Nat) : Decidable (CheckFails s o win k) := by
  unfold CheckFails; split <;> infer_instance
def decSuits (s : State) (o : TrowelOp) (win : Option Nat) : Decidable (Suits s o win) :=
  @List.decidableBAll _ _ (fun k => @instDecidableNot _ (decFails s o win k)) _
def decFirst (s : State) (o : TrowelOp) (win : Option Nat) (k : Nat) : Decidable (FirstFails s o win k) :=
  @instDecidableAnd _ _ (decFails s o win k) (@List.decidableBAll _ _ (fun k => @instDecidableNot _ (decFails s o win k)) _)

theorem met_window_suits : let s := winState 63 2 0 0x200004000 0 0 0
    Suits s (s.sys.dev.windowOp 63) (some 63) :=
  @of_decide_eq_true _ (decSuits _ _ _) (by decide +kernel)

theorem met_window_write :
    (let s := winState 63 2 0 0x200004000 0 0 0
     ((16 ≤ (63 : Fin 64).val ∨ ∃ b : Bay, b.val = 63 % 8 ∧ Initiator.core 0 = .eng (.wit b)) ∧ s.sys.dev.answers (72 + 15) = true)) ∧
    (∃ b : Bay, b.val = 7 % 8 ∧ Initiator.eng (.wit 7) = .eng (.wit b)) ∧
    (¬ (16 ≤ (15 : Fin 64).val ∨ ∃ b : Bay, b.val = (15 : Fin 64).val % 8 ∧ Initiator.core 0 = .eng (.wit b))) ∧
    (let s := winState 63 4 0 0x200004000 1 0 64
     s.sys.dev.armed 63 = true ∧ F.TW_CTL.OP.get 0x22#32 ≠ fldOf s (R.TW_CTL 15 3) F.TW_CTL.OP ∧ F.TW_CTL.CLOSE.get 0x24#32 = 1 ∧
       F.TW_CTL.ARM.get 0x24#32 = 0 ∧ F.TW_CTL.ARM.get 0x14#32 = 1 ∧
       (∀ f ∈ [F.TW_CTL.OP, F.TW_CTL.IRQ, F.TW_CTL.FMT, F.TW_CTL.TOL_ULP], f.get 0x24#32 = fldOf s (R.TW_CTL 15 3) f) ∧
       winFld s 63 R.TW_STATUS F.TW_STATUS.COMPLETE = 0 ∧ (s.sys.dev.windowOp 63).op = 4 ∧
       winFld s 63 R.TW_STATUS F.TW_STATUS.POISON = 0) ∧
    winFld (put (winState 63 1 0 0x200004000 1 0 64) (R.TW_STATUS 15 3) F.TW_STATUS.POISON 1) 63 R.TW_STATUS F.TW_STATUS.POISON = 1 ∧
    (winState 63 2 0 0x200004000 1 1 64).sys.dev.armed 63 = true := by
  decide +kernel

theorem met_window_refused :
    (let s := put (winState 63 2 0 0x200004000 0 0 0) (R.TW_BASE_LO 15 3) ⟨0, 32⟩ 32
     FirstFails s (s.sys.dev.windowOp 63) (some 63) 1) ∧
    (let s := winState 63 1 0 0xFC0000000 0 0 0
     FirstFails s (s.sys.dev.windowOp 63) (some 63) 8) :=
  ⟨@of_decide_eq_true _ (decFirst _ _ _ _) (by decide +kernel), @of_decide_eq_true _ (decFirst _ _ _ _) (by decide +kernel)⟩

theorem met_landing :
    (NoWindow (memoryUp State.reset) 0x100000000 64 ∧ 0xFAFFFFFC0 + 64 ≤ 0xFB0000000 ∧ ¬ 0xFAFFFFFC1 + 64 ≤ 0xFB0000000) ∧
    (let s := winState 63 6 0 0x200004000 1 0 0
     s.sys.dev.armed 63 = true ∧ countedOf (s.sys.dev.windowOp 63) 0x200000000 (List.replicate 64 1#8) ≠ [] ∧
       winFld s 63 R.TW_STATUS F.TW_STATUS.COMPLETE = 0 ∧ (s.sys.dev.windowOp 63).op = 6 ∧ coveredAt s 63 + 64 ≤ (s.sys.dev.windowOp 63).len ∧
       OnlyWindow s 63 0x200000000 64 ∧ 0x200000000 + 64 ≤ (s.sys.dev.windowOp 63).param) ∧
    (let s := winState 63 2 0 0x200004000 1 0 0
     coveredAt s 63 + (countedOf (s.sys.dev.windowOp 63) 0x20000003F [1#8, 2#8]).length < (s.sys.dev.windowOp 63).len ∧
       countedOf (s.sys.dev.windowOp 63) 0x20000003F [1#8, 2#8] = [(63, 1#8)]) ∧
    (let s := winState 63 2 0 0x200004000 1 0 63
     coveredAt s 63 + (countedOf (s.sys.dev.windowOp 63) 0x20000003E [1#8, 2#8]).length > (s.sys.dev.windowOp 63).len) ∧
    winFld (winState 63 2 0 0x200004000 1 1 0) 63 R.TW_STATUS F.TW_STATUS.COMPLETE = 1 ∧
    (let s := winState 63 3 0xFF 0x200004000 1 0 63
     let mine := countedOf (s.sys.dev.windowOp 63) 0x20000003F [7#8]
     coveredAt s 63 + mine.length = (s.sys.dev.windowOp 63).len ∧ OnlyWindow s 63 0x20000003F 1 ∧
       (stores s 0x20000003F [7#8]).sys.dev.poisonedRange (s.sys.dev.windowOp 63).param (s.sys.dev.windowOp 63).len = false ∧
       CountedOnce (s.sys.dev.landed[(63 : Fin 64)] ++ mine) (List.replicate 64 7#8)) := by
  unfold NoWindow OnlyWindow CountedOnce; decide +kernel

theorem met_queue_descriptor :
    (let s := descState 2 0 0x400004000 none []
     s.sys.dev.answers 87 = true ∧
       (s.sys.dev.reg (R.TRW_DQ_ADDR_LO 15)).toNat + 2 ^ 32 * ((s.sys.dev.reg (R.TRW_DQ_ADDR_HI 15)).toNat % 2 ^ 16) = 0x300000000) ∧
    (descState 2 0 0x400004000 none (List.replicate 8 0)).sys.dev.mcs[15].queue.length = 8 ∧
    (descState 2 0 0x400004000 (some 0x300000000) []).sys.dev.mcs[15].running ≠ none ∧
    (let s := memoryUp State.reset
     (s.sys.dev.reg (R.TRW_DQ_ADDR_LO 15)).toNat + 2 ^ 32 * ((s.sys.dev.reg (R.TRW_DQ_ADDR_HI 15)).toNat % 2 ^ 16) < 0x10000000) := by
  decide +kernel

theorem met_descriptor_starts :
    (let s := descState 2 0 0x400004000 none []
     s.sys.dev.poisoned 0x300000000 = false ∧ Suits s (descOp s.sys.dev.mem 0x300000000) none) ∧
    (let s := descState 7 0 0x400004000 none []
     FirstFails s (descOp s.sys.dev.mem 0x300000000) none 5) ∧
    ((descState 2 0 0x400004000 none []).onDev (fun d => d.mark 0x300000000 true)).sys.dev.poisoned 0x300000000 = true :=
  ⟨⟨by decide +kernel, @of_decide_eq_true _ (decSuits _ _ _) (by decide +kernel)⟩,
    @of_decide_eq_true _ (decFirst _ _ _ _) (by decide +kernel), by decide +kernel⟩

theorem met_descriptor_runs :
    (∀ op ∈ [1, 2, 3, 4, 5, 6], let s := descState op 0 0x400004000 (some 0x300000000) [0x300000000]
      s.sys.dev.answers 87 = true ∧ (∀ i ∈ List.range 16, MemUp s i) ∧ (descOp s.sys.dev.mem 0x300000000).op = op ∧
        s.sys.dev.poisonedRange 0x400000000 64 = false ∧ s.sys.dev.poisonedRange 0x400004000 64 = false ∧
        (descOp s.sys.dev.mem 0x300000000).src + (descOp s.sys.dev.mem 0x300000000).len ≤ (descOp s.sys.dev.mem 0x300000000).param ∧
        (descOp s.sys.dev.mem 0x300000000).param % 64 = 0) ∧
    (let o := descOp (descState 1 0x0B 0x400004000 none []).sys.dev.mem 0x300000000
     fmtInt o.fmt = true ∧ o.rows * o.rowBytes = o.len) ∧ fmtInt 0 = false ∧
    ((descState 3 0 0x400004000 none []).onDev (fun d => d.mark 0x400004000 true)).sys.dev.poisonedRange 0x400004000 64 = true := by
  unfold MemUp; decide +kernel

/-! ### The host port -/

/-- The ETH island runs with the port up, firmware in service, and a session in force or none. -/
def hostState (sess : Option MmpSession) : State :=
  (puts (runs [39, 42, 46, 48] State.reset) [(R.ETH_STAT, F.ETH_STAT.LINK, 1), (R.SEC_BOOT_STATUS, F.SEC_BOOT_STATUS.GATE, 1),
    (R.ETH_STAT, F.ETH_STAT.HOST, natOf sess.isSome)]).onDev (fun d => { d with eth := { d.eth with sess := sess } })

/-- Session 77 with MAXP 2, packet 5 not acknowledged, packet 12 held out of order. -/
def sess77 : MmpSession := ⟨77, 2, [], 0#48, 10, 64, [(12, [])], 6, 70, [(5, ⟨7, false, 1, 0, 0, 0, [], []⟩)], [], 4, 3, 8⟩
def frame (len : Nat) (proto : EthProto) : EthFrame := ⟨len, [], proto, false, true, []⟩

theorem met_ethernet :
    PortUp (hostState none) ∧ ¬ PortUp State.reset ∧ TakesFrame (hostState none) (frame 9216 .mmp) ∧ ¬ TakesFrame (hostState none) (frame 9217 .mmp) ∧
    (let s := put (hostState none) R.ETH_STAT F.ETH_STAT.RELAY_IN 1
     (frame 64 .dhcp).forPartner = true ∧ ethFld s F.ETH_STAT.RELAY_IN = 1 ∧ TakesFrame s (frame 64 .dhcp)) ∧
    Holds4 (puts (hostState none) [(R.ETH_IP4_CFG, F.ETH_IP4_CFG.BOUND, 1), (R.ETH_IP4_ADDR, ⟨0, 32⟩, 0xFFFFFFFF)]) 0xFFFFFFFF#32 ∧
    Holds6 (puts (hostState none) [(R.ETH_IP6_CFG, F.ETH_IP6_CFG.BOUND, 1), (R.ETH_IP6_ADDR 0, ⟨0, 32⟩, 0xFFFFFFFF)])
      (BitVec.ofNat 128 (0xFFFFFFFF * 2 ^ 96)) ∧ ¬ Holds4 (hostState none) 0#32 ∧
    HostReaches (hostState none) ∧
    (fldOf (put (hostState none) R.ETH_IP6_CFG F.ETH_IP6_CFG.DHCP 1) R.ETH_IP6_CFG F.ETH_IP6_CFG.DHCP = 1 ∧
      fldOf (put (hostState none) R.ETH_IP4_CFG F.ETH_IP4_CFG.DHCP 1) R.ETH_IP4_CFG F.ETH_IP4_CFG.DHCP = 1 ∧
      fldOf (put (hostState none) R.ETH_IP4_CFG F.ETH_IP4_CFG.DHCP 0) R.ETH_IP4_CFG F.ETH_IP4_CFG.DHCP = 0) ∧
    ((hostState none).sys.dev.answers 48 = true ∧ (2#2 : BitVec 2) ≠ 3 ∧
      (2#2 : BitVec 2).toNat ≠ fldOf (put (hostState none) R.ETH_CFG F.ETH_CFG.RATE 1) R.ETH_CFG F.ETH_CFG.RATE ∧
      (1#2 : BitVec 2).toNat = fldOf (put (hostState none) R.ETH_CFG F.ETH_CFG.RATE 1) R.ETH_CFG F.ETH_CFG.RATE) := by
  unfold PortUp HostReaches TakesFrame Holds4 Holds6; decide +kernel

theorem met_few_and_many_in_a_second (now : Nat) :
    (lastSecond (List.replicate 99 now) now).length < 100 ∧ 100 ≤ (lastSecond (List.replicate 100 now) now).length := by
  simp [lastSecond]

/-- An HS_INIT payload: MAXP 8, and the generator as the host's ephemeral key. -/
def helloInit : List (BitVec 8) := [1#8, 8#8] ++ zeros 34 ++ beBytes 32 p256gx ++ beBytes 32 p256gy ++ zeros 64

theorem met_handshake : HelloOk helloInit ∧ ¬ HelloOk [] ∧
    (HostReaches (hostState none) ∧ (hostState none).sys.dev.answers 39 = true ∧ (hostState none).sys.dev.sec.stopped = false) ∧
    ((hostState (some sess77)).sys.dev.eth.hs.map (·.id) ++ (sessOf (hostState (some sess77))).toList.map (·.id)).length < 7 := by
  unfold HelloOk HostReaches; decide +kernel

/-- A handshake whose host key is the generator, the key in slot 0, and its HS_FIN signature by private key 1. -/
def hostKeyG : List (BitVec 8) := beBytes 32 p256gx ++ beBytes 32 p256gy
def hand : Handshake := ⟨9, 1, [], [], 1, zeros 64, hostKeyG, 64⟩
def finDigest : Nat := bytesNatBe (sha256 (ascii "MIRYS-MMP-HF-1" ++ sha256 (hand.th1 ++ natBytes 4 hand.id)))
def finSig : List (BitVec 8) := beBytes 32 (p256gx % p256n) ++ beBytes 32 ((finDigest + p256gx) % p256n)
def keyedState : State :=
  (hostState none).onDev (fun d => { d with
    eth := { d.eth with hs := [hand] }
    shadow := { d.shadow with keySet := 1#8, keyHash := d.shadow.keyHash.set 0 (digestNum (sha256 hostKeyG)) } })

theorem met_handshake_end :
    keyedState.sys.dev.eth.hs.find? (fun h => h.id == (9#32 : BitVec 32).toNat) = some hand ∧
    (∀ h ∈ keyedState.sys.dev.eth.hs, h.id ≠ (8#32 : BitVec 32).toNat) ∧
    HostKeyKnown keyedState.sys.dev.shadow hostKeyG ∧
    ecdsaVerify finDigest (be32 hostKeyG 0) (be32 hostKeyG 32) (be32 finSig 0) (be32 finSig 32) = true ∧
    keyedState.sys.dev.eth.events.length ≤ 4096 ∧ ¬ HostKeyKnown State.reset.sys.dev.shadow hostKeyG := by
  unfold HostKeyKnown; decide +kernel

/-- A packet of session 77 with a PSN and an ACK. -/
def packet (psn : BitVec 63) (ack : BitVec 64) (ok : Bool) : MmpPacket := ⟨77#32, psn, ack, 64#16, ok, [], 0#48⟩

theorem met_packets :
    IsPacket (.dataPacket (packet 11 5 true)) (packet 11 5 true) ∧
    OfSession (hostState (some sess77)) (packet 11 5 true) sess77 ∧ (packet 11 5 false).tagOk = false ∧
    sess77.id ≠ (⟨78#32, 0, 0, 0, true, [], 0#48⟩ : MmpPacket).session.toNat ∧
    AckTaken sess77 (packet 11 5 true) { sess77 with unacked := [], txTop := 69, expiries := 0 } ∧
    AckTaken sess77 (packet 11 4 true) { sess77 with txTop := 68 } ∧ AckTaken sess77 (packet 11 6 true) sess77 ∧
    AckTaken { sess77 with asnRx := 4 } (packet 4 6 true) { sess77 with asnRx := 4 } ∧
    (sess77.rxAck + sess77.rxWindow < 75 ∧ 74 ≤ sess77.rxAck + sess77.rxWindow ∧ (10 ≤ sess77.rxAck) ∧
      (∃ h ∈ sess77.rxHeld, h.1 = 12) ∧ (∀ h ∈ sess77.rxHeld, h.1 ≠ sess77.rxAck + 1)) ∧
    ({ sess77 with rxHeld := [] }).rxHeld = [] ∧ sess77.asnRx < 4 ∧ 3 ≤ sess77.asnRx ∧
    sess77.unacked ≠ [] ∧ sess77.expiries < 9 ∧ 9 ≤ ({ sess77 with expiries := 9 }).expiries := by
  unfold IsPacket OfSession HostReaches AckTaken; decide +kernel

/-- A message with a TYPE, FLAGS and a body. -/
def msgOf (kind flags : Nat) (body : List (BitVec 8)) : List (BitVec 8) :=
  natBytes 1 kind ++ natBytes 1 flags ++ natBytes 2 9 ++ natBytes 4 body.length ++ natBytes 8 0 ++ body

theorem met_arrivals :
    (fieldOf (msgOf 4 1 []) 1 1 % 2 = 1 ∧ fieldOf (msgOf 4 1 []) 0 1 ≠ 7) ∧
    (fieldOf (msgOf 4 0 []) 1 1 % 2 ≠ 1 ∧ msgOk (msgOf 4 0 []) 2 = true ∧ msgOk [] 2 = false) ∧
    (fieldOf (msgOf 7 1 []) 0 1 = 7 ∧ msgOk (msgOf 7 1 (zeros 4)) 2 = true) ∧ recoveryServes (msgOf 4 0 []) = false ∧
    (onBoot State.reset (fun b => { b with phase := .recovery })).sys.dev.boot.phase = .recovery := by
  decide +kernel

/-! ### Events, rings and relay -/

/-- A state with an outbound or inbound ring at 0x10F00000, the highest place; firmware waits for these messages. -/
def ringState (sess : Option MmpSession) (wait : List (Nat × List (BitVec 8))) (ring : List (BitVec 8)) : State :=
  (puts (hostState sess) [(R.ETH_RX_BASE, ⟨0, 32⟩, 0x10FC), (R.ETH_TX_BASE, ⟨0, 32⟩, 0x10FC)]).onDev (fun d => { d with
    eth := { d.eth with fwWait := wait }, mem := memPuts d.mem 0x10FC0000 ring })

/-- An EVENT reply to TAG 9, and the event messages and records it answers. -/
def ackState (lost n : Nat) : State :=
  onEth (hostState (some sess77)) (fun e => { e with
    inbox := [(77, msgOf 7 1 [])], evMsgs := [(9, 100)], lostDue := lost, events := List.replicate n ⟨101, 5, 3, 0, 0, [], true, false⟩ })

theorem met_events :
    ((hostState none).sys.dev.answers 48 = true ∧ sessOf (hostState none) = none) ∧ ¬ State.reset.sys.dev.answers 48 = true ∧
    1 ≤ sess77.maxp ∧ 4096 ≤ (ackState 0 4096).sys.dev.eth.events.length ∧ (ackState 0 4095).sys.dev.eth.events.length < 4096 ∧
    ((ackState 0 1).sys.dev.eth.inbox.find? (fun m => fieldOf m.2 0 1 == 7) = some (77, msgOf 7 1 []) ∧ sess77.id = 77 ∧
      (ackState 0 1).sys.dev.eth.evMsgs.find? (fun y => y.1 == fieldOf (msgOf 7 1 []) 2 2) = some (9, 100)) ∧
    (ackState 1 1).sys.dev.eth.lostDue ≠ 0 ∧
    ((recordsRaised (ackState 1 4095)).filter (fun r => decide (100 < r.1))).length < 4096 ∧
    State.reset.sys.dev.eth.inbox.find? (fun m => fieldOf m.2 0 1 == 7) = none := by
  decide +kernel

theorem met_inbound_ring :
    RingAt (ringState none [] []) R.ETH_RX_BASE 0x10FC0000 ∧ (∀ base, ¬ RingAt State.reset R.ETH_RX_BASE base) ∧
    (ringState (some sess77) [(77, msgOf 4 0 [])] []).sys.dev.eth.fwWait = [(77, msgOf 4 0 [])] ∧
    RingFits 0 0 64 0 false ∧ RingFits 0 64 63 0 false ∧ RingFits 262080 64 64 262080 false ∧ RingFits 262080 128 65 0 true ∧
    entrySize (msgOf 4 0 []).length = 64 := by
  refine ⟨by unfold RingAt; decide +kernel, ?_, ?_⟩
  · intro base h
    have : (State.reset.sys.dev.reg R.ETH_RX_BASE).toNat = 0 := by decide +kernel
    obtain ⟨h1, h2, h3⟩ := h
    omega
  · unfold RingFits; dsimp only; and_intros <;> decide +kernel

/-- The outbound ring holds one entry, of session id, at its tail 0. -/
def outState (id : Nat) : State := ringState (some sess77) [] (entryOf id (msgOf 7 1 []))

theorem met_outbound_ring :
    (let s := outState 77
     RingAt s R.ETH_TX_BASE 0x10FC0000 ∧ littleEndian s.sys.dev.mem 0x10FC0000 4 = 16 ∧ littleEndian s.sys.dev.mem 0x10FC0004 4 = 77 ∧
       s.sys.dev.poisonedRange 0x10FC0000 8 = false ∧ (64#18 : BitVec 18).toNat = (0 + entrySize 16) % 262144 ∧
       fldOf (put s R.ETH_TX_HEAD F.ETH_TX_HEAD.OFFSET 64) R.ETH_TX_TAIL F.ETH_TX_TAIL.OFFSET = 0 ∧
       s.sys.dev.poisonedRange 0x10FC0008 16 = false) ∧
    ((outState 77).onDev (fun d => d.mark 0x10FC0008 true)).sys.dev.poisonedRange 0x10FC0008 16 = true ∧
    ¬ (fieldOf (msgOf 7 1 []) 0 1 = 8 ∧ fieldOf (msgOf 7 1 []) 1 1 % 2 = 0) ∧
    (let s := put (outState 78) R.ETH_TX_TAIL F.ETH_TX_TAIL.OFFSET 64
     fldOf s R.ETH_TX_TAIL F.ETH_TX_TAIL.OFFSET = 64 ∧ littleEndian (outState 78).sys.dev.mem 0x10FC0004 4 ≠ sess77.id) ∧
    (let s := ringState none [] (natBytes 4 0xFFFFFFFF)
     littleEndian s.sys.dev.mem 0x10FC0000 4 = 0xFFFFFFFF) ∧
    (let s := ringState none [] (natBytes 4 262137)
     littleEndian s.sys.dev.mem 0x10FC0000 4 ≠ 0xFFFFFFFF ∧ 262144 < 0 + entrySize (littleEndian s.sys.dev.mem 0x10FC0000 4)) := by
  unfold RingAt; decide +kernel

theorem met_relay :
    (let s := puts (hostState none) [(R.TWIN_STATUS, F.TWIN_STATUS.LINK, 1), (R.ETH_STAT, F.ETH_STAT.LINK, 0)]
     fldOf s R.TWIN_STATUS F.TWIN_STATUS.LINK = 1 ∧ ethFld s F.ETH_STAT.RELAY_OUT ≠ 1 ∧ ethFld s F.ETH_STAT.RELAY_IN ≠ 1 ∧
       ethFld s F.ETH_STAT.LINK ≠ 1) ∧
    (let s := puts (hostState none) [(R.ETH_STAT, F.ETH_STAT.RELAY_IN, 1), (R.ETH_STAT, F.ETH_STAT.RELAY_OUT, 1)]
     PortUp s ∧ ethFld s F.ETH_STAT.RELAY_IN = 1 ∧ ethFld s F.ETH_STAT.RELAY_OUT = 1 ∧ ethFld s F.ETH_STAT.LINK = 1) := by
  unfold PortUp; decide +kernel

/-! ### Messages of the host -/

/-- Firmware, or the mask ROM in recovery wait, holds one request of session 77 and a load of LOAD's objects. -/
def fwState (recovery : Bool) (m : List (BitVec 8)) (loads : List LoadCtx) : State :=
  let s := onEth (runs [47] (hostState (some sess77))) (fun e => { e with fwReqs := [(77, m)], loads := loads })
  let s := s.onDev (fun d => { d with shadow := { d.shadow with keySet := 1#8, keyHash := d.shadow.keyHash.set 0 (digestNum (sha256 hostKeyG)) } })
  let s := put s R.FS_STATUS F.FS_STATUS.READY 1
  if recovery then onBoot s (fun b => { b with phase := .recovery }) else s

/-- A LOAD of an object into a slot with FLAGS, OFFSET and TOTAL_LEN. -/
def loadMsg (object flags slot off total : Nat) (data : List (BitVec 8)) : List (BitVec 8) :=
  msgOf 3 0 (natBytes 1 object ++ natBytes 1 flags ++ natBytes 2 slot ++ natBytes 4 off ++ natBytes 4 total ++ natBytes 4 60 ++ data)

theorem met_requests_served :
    (∀ x ∈ [(2, 0), (3, 1), (3, 2), (3, 3), (3, 4), (3, 5), (3, 6), (4, 0), (8, 1), (8, 2), (8, 3), (8, 4), (8, 5)],
      ∀ recovery : Bool, let m := msgOf x.1 0 (natBytes 1 x.2 ++ zeros 15)
      FwServes (fwState recovery m []) ∧ oldestReq (fwState recovery m []) x.1 x.2 = some (77, m)) ∧
    oldestReq State.reset 2 0 = none ∧ ¬ FwServes State.reset := by
  unfold FwServes; decide +kernel
theorem met_serves : IsServe .mmpSpdm 2 0 ∧ IsServe .bulkHoldup 8 5 := by unfold IsServe; simp

/-- A signed object: a body and its trailer with r and s the x of the generator, by the public key of slot k, which is the
generator less the digest over r times it. -/
def signedBy (k x y : Nat) (body : List (BitVec 8)) : List (BitVec 8) :=
  body ++ natBytes 4 (256 * k) ++ beBytes 32 x ++ beBytes 32 y ++ beBytes 32 p256gx ++ beBytes 32 p256gx

/-- A head of 32 bytes with its CRC, in 64 bytes. -/
def headed (l : List (BitVec 8)) (crc : Nat) : List (BitVec 8) := l ++ natBytes 4 crc ++ zeros 28
def imageHead (magic n len crc : Nat) : List (BitVec 8) :=
  headed (natBytes 4 magic ++ natBytes 2 1 ++ natBytes 2 n ++ natBytes 8 0 ++ natBytes 4 (len + 132) ++ natBytes 4 len ++ zeros 8) crc

/-- A boot slot of the least components, a stencil pack of one test, and a golden image of no blocks. -/
def goodSlot : BootSlot where
  secfw := signedBy 0 0x200e3d1726898a474170b1d9e69c6cbca8b8e3d98fdcb5bd759986317925d4d2
    0xa3e740fba5ee863d3e9d4ac4e9e642a317705393a37b16375fcba0eebf51f2d6
    (imageHead 0x4345534D 0 64 0x4beaf789)
  pack := signedBy 1 0x71bed3e5aa94d8f84ce8b09307981c0bbcc4b09d0b0f001c74fb164268477dbf
    0x25018a6a4821f567fc724c0dbde30ad8396be720931c7568aee1d0708e7ec235
    (imageHead 0x4B505856 1 128 0xc751db5f ++ zeros 64)
  mgmt := signedBy 2 0xaa456cdfaa1a0c3e1631665d0b8fec276315d4451d16a7b3c11afc3b08090a8f
    0x58c23915e06e1a0592782cb0797502a24cfe8349728e4127691c61ff82c3c8ff
    (imageHead 0x54474D4D 0 64 0xa9de4e2e)
def section_ (kind off len crc : Nat) : List (BitVec 8) :=
  natBytes 4 kind ++ natBytes 4 off ++ natBytes 4 len ++ natBytes 4 crc ++ zeros 16
def goodPack : List (BitVec 8) :=
  signedBy 0 0xf10806dd27b9316030b4c3c9e7724dcf5c2e1463487e8bc5147ee393dbbd8c52
    0xd0dc0064bac008a978947eb4f4bbabe8e29b238075babbf64c9e10288c8b6076
    (headed (natBytes 4 0x4B505453 ++ natBytes 2 1 ++ natBytes 2 3 ++ natBytes 4 7 ++ natBytes 4 1 ++ natBytes 4 320 ++ natBytes 4 188 ++
      natBytes 8 1) 0xd2a896a8 ++ section_ 1 160 4 0x48674bc7 ++ section_ 4 164 8 0x8c28b28a ++ section_ 5 172 16 0x5f4cfc0d ++ zeros 12 ++
      natBytes 8 1 ++ natBytes 2 0 ++ natBytes 2 1 ++ zeros 4)
def goldImage_ : List (BitVec 8) :=
  signedBy 0 0xb189b63795669506dfed0972f22cb041e2e9a890d8a1fb22d0c445fb47ac09c9
    0x298b7359c18807ccc39d512b15d105558de46604dcf2d3f34abe7ef3bb13ec61 (zeros 28 ++ natBytes 4 96 ++ zeros 64)

/-- The first slots hold these key hashes. -/
def keyedBy (h : List Nat) (s : State) : State :=
  s.onDev (fun d => { d with shadow := { d.shadow with
    keySet := 7#8, keyHash := Vector.ofFn (fun k => BitVec.ofNat 256 (h.getD k.val 0)) } })

theorem met_good_slot :
    slotCheck (keyedBy [0xe86730b4b7e93c58fd7fb43c64bf727125bead19fecfa0c38ffa1e28c23db330,
      0xa88adcc9f57fda4c18f90df947deb9c01c58746ac8797d6346866382a0bd121e,
      0xd9133053d29edee0b43a998e2bf9755bdce47ad31a934585d882187d5b73c695] State.reset).sys.dev.shadow
      goodSlot (fun _ => false) = 0 := by decide +kernel
theorem met_good_pack :
    packCheck (keyedBy [0xd09e8a84c97d4ea795d8dd3b9f454fc490c3b32c8d2b481b6eb3ec98a7b0a10c] State.reset).sys.dev.shadow goodPack = 0 := by
  decide +kernel
theorem met_golden_reads :
    GoldenReads (keyedBy [0xd33339d3a279e139a9c55dba6abc7e48bd2471c4c14486d0b9ff58c2688b1904] State.reset) goldImage_ false := by
  unfold GoldenReads; decide +kernel

/-! ### Requests of the host, case by case -/

theorem met_security_requests :
    (let s := put (fwState false (msgOf 2 0 []) []) R.SEC_REQ_STAT F.SEC_REQ_STAT.BUSY 1
     ¬ InRecovery s ∧ fldOf s R.SEC_REQ_STAT F.SEC_REQ_STAT.BUSY = 1) ∧
    (let s := fwState false (msgOf 2 0 []) []
     fldOf s R.SEC_REQ_STAT F.SEC_REQ_STAT.BUSY ≠ 1 ∧ ¬ SecRefuses s false ∧ ¬ SecRefuses s true ∧ s.sys.dev.sec.stopped = false) ∧
    SecRefuses (put (fwState false (msgOf 2 0 []) []) R.SEC_ACT_STAT F.SEC_ACT_STAT.STATE 3) true ∧
    InRecovery (fwState true (msgOf 2 0 []) []) := by
  unfold SecRefuses InRecovery; decide +kernel

/-- The load of object o in slot k with these bytes. -/
def loadOf (o k : Nat) (b : List (BitVec 8)) : LoadCtx := ⟨o, k, b, 60⟩

/-- A LOAD whose T_TRIAL is 60. -/
def load60 (object flags slot off total : Nat) (data : List (BitVec 8)) : List (BitVec 8) :=
  msgOf 3 0 (natBytes 1 object ++ natBytes 1 flags ++ natBytes 1 slot ++ zeros 1 ++ natBytes 4 off ++ natBytes 4 total ++ natBytes 2 60 ++
    zeros 2 ++ data)

theorem met_chunks :
    ChunkTaken (fwState false (load60 1 1 1 0 4 [1#8, 2#8]) []) (load60 1 1 1 0 4 [1#8, 2#8]) (loadOf 1 1 [1#8, 2#8]) ∧
    ChunkTaken (fwState false (load60 1 2 1 2 4 [3#8, 4#8]) [loadOf 1 1 [1#8, 2#8]]) (load60 1 2 1 2 4 [3#8, 4#8])
      (loadOf 1 1 [1#8, 2#8, 3#8, 4#8]) ∧ chunkLast (load60 1 2 1 2 4 [3#8, 4#8]) ∧ ¬ chunkLast (load60 1 1 1 0 4 [1#8, 2#8]) ∧
    (∀ l, ¬ ChunkTaken (fwState false (load60 1 1 1 4 8 []) []) (load60 1 1 1 4 8 []) l) := by
  refine ⟨⟨loadOf 1 1 [], ?_⟩, ⟨loadOf 1 1 [1#8, 2#8], ?_⟩, by unfold chunkLast; decide +kernel, by unfold chunkLast; decide +kernel, ?_⟩
  · unfold chunkFirst chunkLast; and_intros <;> decide +kernel
  · refine ⟨fun h => absurd h (by unfold chunkFirst; decide +kernel), fun _ h e => ?_, by decide +kernel, fun _ => by decide +kernel,
      by decide +kernel, by decide +kernel⟩
    have : (fwState false (load60 1 2 1 2 4 [3#8, 4#8]) [loadOf 1 1 [1#8, 2#8]]).sys.dev.eth.loads.find?
      (fun l => l.object == fieldOf (load60 1 2 1 2 4 [3#8, 4#8]) 16 1) = some (loadOf 1 1 [1#8, 2#8]) := by decide +kernel
    rw [this] at e
    exact Option.some.inj e
  · rintro l ⟨l0, h1, -, h3, -⟩
    have h := h1 (Or.inl (by unfold chunkFirst; decide +kernel))
    rw [h] at h3
    exact absurd h3 (by decide +kernel)

/-- Slots 0 and 1 of flash hold goodSlot. -/
def slotsState (recovery : Bool) (m : List (BitVec 8)) : State :=
  let s := fwState recovery m []
  { s with sys := { s.sys with nv := { s.sys.nv with slots := Vector.replicate 2 goodSlot } } }

theorem met_recovery_takes :
    (¬ (1 < 1 ∨ 30 < 30 ∨ 900 < 30) ∧ ¬ (1 < 0 ∨ 900 < 30 ∨ 900 < 900) ∧ 1 < 2) ∧
    (loadOf 1 1 goodSlot.secfw).bytes.length ≤ Component.maxLen .secfw ∧
    ((slotsState true []).sys.nv.slots[(1 : Fin 2)]).putPart .secfw goodSlot.secfw = goodSlot ∧
    (∃ b : List (BitVec 8), Component.maxLen .secfw < (loadOf 1 1 b).bytes.length) :=
  ⟨by decide, by decide +kernel, by decide +kernel, List.replicate 393217 0#8, by
    simp only [loadOf, List.length_replicate]; decide⟩

/-- A stencil pack in slot 15, firmware in service with a LOAD of one. -/
def packState (p : List (BitVec 8)) (visit : Option VisitCtx) : State :=
  let s := fwState false (load60 4 3 0 0 320 goodPack) []
  let s := s.onDev (fun d => { d with stns := d.stns.set 7 { d.stns[7] with visit := visit } })
  { s with sys := { s.sys with nv := { s.sys.nv with packs := s.sys.nv.packs.set 15 p } } }

theorem met_stencil_load :
    (let s := packState [] none
     s.sys.dev.answers 47 = true ∧ fldOf s R.FS_STATUS F.FS_STATUS.READY = 1 ∧
       (∀ j ∈ List.range 16, packAt s j = []) ∧ s.sys.dev.packBusy 15 = false ∧ s.sys.dev.fs.queue = []) ∧
    (let s := packState (goodPack.set 12 0#8) none
     packAt s 15 ≠ [] ∧ packId (packAt s 15) = packId goodPack ∧ ¬ packVersion goodPack ≤ packVersion (packAt s 15)) ∧
    (let s := packState goodPack none
     packId (packAt s 15) = packId goodPack ∧ packVersion goodPack ≤ packVersion (packAt s 15)) ∧
    (let s := packState [] none
     let s := { s with sys := { s.sys with nv := { s.sys.nv with packs := Vector.replicate 16 [1#8] } } }
     ∀ k ∈ List.range 16, packAt s k ≠ [] ∧ packId (packAt s k) ≠ packId goodPack) ∧
    (packState goodPack (some ⟨0, 70, [], 0, some run_⟩)).sys.dev.packBusy 15 = true ∧
    fldOf State.reset R.FS_STATUS F.FS_STATUS.READY ≠ 1 := by
  decide +kernel

theorem met_golden_and_code_load :
    (actReady lone 0).sys.updBlock % 64 = 0 ∧ (fwState false [] []).sys.updBlock % 64 ≠ 0 ∧
    (actReady lone 0).sys.dev.answers 47 = true ∧ (put (actReady lone 0) (R.ISLE_ENTRY 47) F.ISLE_ENTRY.STATE 1).sys.dev.answers 47 = false ∧
    (loadOf 5 4 []).slot ≥ 4 ∧ ((3 : Fin 4).val = (loadOf 5 3 []).slot) ∧ ((7 : Fin 8).val = (loadOf 6 7 []).slot) ∧
    (65536 < fieldOf (load60 6 3 7 0 65540 []) 24 4 ∧ ¬ 65536 < fieldOf (load60 6 3 7 0 65536 []) 24 4 ∧
      fieldOf (load60 6 3 7 0 65536 []) 24 4 % 4 = 0) := by
  decide +kernel

/-- A RUN body of program slot 7 on any core, entry 0, with 768 bytes of ARGS. -/
def runBody : List (BitVec 8) := [7#8, 0xFF#8] ++ natBytes 2 60000 ++ natBytes 4 0 ++ natBytes 2 768 ++ zeros 1286

def runState (sandbox : Bool) (runs_ : List HostRun) : State :=
  (onEth (fwState false (msgOf 4 0 runBody) []) (fun e => { e with code := e.code.set 7 (zeros 8), runs := runs_ })).onDev
    (fun d => { d with pru := { d.pru with attr := d.pru.attr.set 15 0x41#64, base := d.pru.base.set 15 0x10000000#64,
                                           limit := d.pru.limit.set 15 (if sandbox then 0x10000000#64 else 0x0FFFF000#64) } })

theorem met_run :
    RunBodyOk runBody ∧ ¬ RunBodyOk [] ∧
    (let s := runState true []
     fieldOf runBody 4 4 < (s.sys.dev.eth.code.toList.getD (fieldOf runBody 0 1) []).length ∧ s.sys.dev.eth.runs.length < 2 ∧
       s.sys.dev.unitRuns (.core 0) = true ∧ s.sys.dev.pru.sandbox = some (0x10000000, 0x10000FFF) ∧
       0x10000000 + 8 ≤ 0x10000FFF + 1) ∧
    (runState false []).sys.dev.pru.sandbox = some (0x10000000, 0x0FFFFFFF) ∧ 0x0FFFFFFF + 1 < 0x10000000 + 8 ∧
    2 ≤ (runState true [⟨0, 77, 9, [], 0⟩, ⟨1, 77, 9, [], 0⟩]).sys.dev.eth.runs.length ∧
    (let s := onEth (runState true []) (fun e => { e with code := Vector.replicate 8 [] })
     (s.sys.dev.eth.code.toList.getD 7 []).length ≤ fieldOf runBody 4 4) ∧
    ((runState true [⟨0, 77, 9, [5#32], 0⟩]).sys.dev.eth.runs.find? (fun r => r.core == 0) = some ⟨0, 77, 9, [5#32], 0⟩ ∧
      (runState true []).sys.dev.answers 42 = true ∧ (runState true []).sys.dev.cores[(0 : Fin 4)].stopped = false ∧
      ((runState true []).onDev (fun d => { d with cores := d.cores.set 0 { d.cores[0] with status := 0#64 } })).sys.dev.cores[(0 : Fin 4)].priv = false) := by
  unfold RunBodyOk; and_intros <;> decide +kernel

/-- A BULK request of a stream, with an ARG and a FROM. -/
def bulkMsg (stream arg from_ : Nat) : List (BitVec 8) := msgOf 8 0 (natBytes 4 stream ++ natBytes 8 from_ ++ natBytes 4 arg)

theorem met_bulk :
    (∀ stream ∈ [1, 2, 3, 4, 5], let m := bulkMsg stream 0 0
      oldestReq (fwState false m []) 8 stream = some (77, m) ∧ argOf m = 0 ∧ fromOf m = 0) ∧
    argOf (bulkMsg 2 7 0) = 7 ∧ 8 ≤ argOf (bulkMsg 2 8 0) ∧ 4 ≤ argOf (bulkMsg 4 4 0) ∧ fromOf (bulkMsg 4 3 1) ≠ 0 ∧
    (fwState false [] []).sys.dev.eth.streams.length < 4 ∧
    4 ≤ (onEth (fwState false [] []) (fun e => { e with streams := List.replicate 4 (1, []) })).sys.dev.eth.streams.length ∧
    (∃ σ ∈ sessOf (fwState false [] []), σ.id = 77 ∧ 1 ≤ σ.maxp) ∧ (∀ σ ∈ sessOf (fwState false [] []), σ.id ≠ 78) := by
  refine ⟨by decide +kernel, by decide +kernel, by decide +kernel, by decide +kernel, by decide +kernel, by decide +kernel,
    by decide +kernel, ⟨sess77, by decide +kernel, rfl, by decide⟩, ?_⟩
  intro σ h
  have : sessOf (fwState false [] []) = some sess77 := by decide +kernel
  rw [this] at h
  cases h
  decide

/-- READ and WRITE of one word. -/
def wordsMsg (write : Bool) (a n : Nat) : List (BitVec 8) :=
  msgOf (if write then 6 else 5) 0 (natBytes 4 a ++ natBytes 2 n ++ natBytes 2 0 ++ (if write then natBytes (4 * n) 0 else []))
def wordsState (m : List (BitVec 8)) (perm : Nat) : State :=
  onEth (put (hostState (some sess77)) R.MMP_PERM ⟨0, 32⟩ perm) (fun e => { e with inbox := [(77, m)] })

theorem met_words :
    WordsBodyOk false (wordsMsg false 0x20000000 256) ∧ WordsBodyOk true (wordsMsg true 0x20000000 1) ∧
    ¬ WordsBodyOk false (wordsMsg false 0x20000000 257) ∧ ¬ WordsBodyOk false (wordsMsg false 0x20000000 0) ∧
    HostMay (wordsState [] 1) false 0x200FFFFC ∧ HostMay (wordsState [] 0x8000000) true 0x20D00000 ∧
    ¬ HostMay (wordsState [] 1) true 0x20000000 ∧ ¬ HostMay (wordsState [] 0xFFFFFFFF) true R.MMP_PERM ∧
    (∀ write : Bool, let m := wordsMsg write 0x20000000 1
      (wordsState m 2).sys.dev.eth.inbox.find? (fun m => fieldOf m.2 0 1 == 5 || fieldOf m.2 0 1 == 6) = some (77, m) ∧
        fieldOf m 0 1 = (if write then 6 else 5) ∧ (∀ a ∈ wordsNamed m, HostMay (wordsState m 2) write a) ∧
        (wordsState m 2).sys.dev.answers 48 = true ∧ (wordsState m 2).sys.dev.answers 46 = true) ∧
    (put (wordsState [] 2) (R.ISLE_ENTRY 46) F.ISLE_ENTRY.STATE 1).sys.dev.answers 46 = false := by
  unfold WordsBodyOk HostMay; and_intros <;> decide +kernel

/-! ### The pair -/

/-- A device of a pair, its TWIN island running and its gate open: ROLE, JOINED, LINK and PIN. -/
def twinState (role joined link pin : Nat) : State :=
  put (puts (runs [39, 40, 42, 47, 71] (recState 4 (helloRec 0))) [(R.TWIN_STATUS, F.TWIN_STATUS.PAIR_MODE, 1), (R.TWIN_STATUS, F.TWIN_STATUS.ROLE, role),
    (R.TWIN_STATUS, F.TWIN_STATUS.JOINED, joined), (R.TWIN_STATUS, F.TWIN_STATUS.LINK, link), (R.TWIN_STATUS, F.TWIN_STATUS.PIN, pin),
    (R.SEC_BOOT_STATUS, F.SEC_BOOT_STATUS.GATE, 1), (R.UCR_FW_READY, F.UCR_FW_READY.READY, 1)]) R.FS_STATUS F.FS_STATUS.READY 1

/-- A heartbeat of the device with PAIR_ID 1, in a role, joined or not, healthy or not. -/
def beat (role : BitVec 2) (joined healthy : Bool) : Heartbeat := ⟨true, 1#256, role, joined, healthy, false, false, 0, 1, 0, 0, 0⟩

theorem met_heartbeats :
    (TwinRuns (twinState 0 0 0 0) ∧ GateOpen (twinState 0 0 0 0) ∧ asideAt (twinState 0 0 0 0) = 0) ∧ ¬ TwinRuns State.reset ∧
    asideAt (put (twinState 0 0 0 0) R.TWIN_CTL F.TWIN_CTL.STAND_ASIDE 1) = 1 ∧
    (healthyAt (twinState 0 0 0 0) = true ∧ TakesLower (twinState 0 0 0 0) (beat 0 false true)) ∧
    (let s := puts (twinState 0 0 0 0) [(R.TWIN_STATUS, F.TWIN_STATUS.PAIR_ID, 1), (R.SEC_ID_PUB_X 7, ⟨0, 32⟩, 0xFFFFFFFF)]
     ¬ TakesLower s (beat 0 false true) ∧ twinFld s F.TWIN_STATUS.PAIR_ID = (beat 0 false true).pairId.toNat) ∧
    (let s := put (twinState 0 0 0 0) R.UCR_FW_READY F.UCR_FW_READY.READY 0
     healthyAt s = false) ∧
    ((∀ i : Fin 9, (pwrOf (twinState 1 1 1 1) i = 0 ∨ pwrOf (twinState 1 1 1 1) i = 2 ∨ pwrOf (twinState 1 1 1 1) i = 4) ∧
        (twinState 1 1 1 1).sys.dev.twin.takeover[i] = false) ∧ (twinState 1 1 1 1).sys.dev.tray.vinWait = false) ∧
    (onTray (twinState 1 1 1 1) (fun t => { t with vinWait := true })).sys.dev.tray.vinWait = true ∧ (beat 2 true true).power.getLsbD 0 = true ∧
    (twinState 0 0 0 0).sys.dev.pins.vio[4] = true := by
  unfold TwinRuns GateOpen TakesLower; and_intros <;> decide +kernel

theorem met_lead_answers_a_log : ∃ (s : State) (x : FsSlot) (r : FsRecord), s.sys.nv.fsLog = [x] ∧ x.record = some r ∧
    (beat 2 true true).lastFs.toNat < r.seq ∧ r.seq < s.sys.dev.fs.nextSeq ∧ twinFld s F.TWIN_STATUS.ROLE = 1 :=
  let s := (twinState 1 1 1 1).onDev (fun d => { d with fs := { d.fs with nextSeq := 2 } })
  ⟨{ s with sys := { s.sys with nv := { s.sys.nv with fsLog := [⟨0, some { override with seq := 1 }⟩] } } }, ⟨0, some { override with seq := 1 }⟩,
    { override with seq := 1 }, rfl, rfl, by decide, by decide +kernel, by decide +kernel⟩

/-- Sequencer 7 holds its program's write on STEP 4. -/
def stepState (held : Bool) (c : SeqChange) : State :=
  let s := onTwin (seqState 7 2 2 (twinState 1 1 1 1)) (fun t => { t with steps := [⟨4, 7, c, held⟩] })
  s.onDev (fun d => d.setEng (.seq 7) { d.eng (.seq 7) with hold := .step })

theorem met_partner :
    (TwinRuns (twinState 2 1 1 1) ∧ twinFld (twinState 2 1 1 1) F.TWIN_STATUS.LINK = 1 ∧ PartnerHeard (twinState 2 1 1 1)) ∧
    (onTwin (twinState 2 1 1 1) (fun t => { t with offReqs := [7] })).sys.dev.twin.offReqs ≠ [] ∧
    ¬ PartnerHeard (twinState 1 1 0 0) ∧ ¬ PartnerHeard (twinState 2 1 0 0) ∧
    (let s := seqState 7 2 0 (twinState 2 1 0 0)
     s.sys.dev.engIdle (.seq 7) = true ∧ pwrOf s 7 = 2 ∧ twinFld s F.TWIN_STATUS.SUSPENDED = 0) ∧
    pwrOf (seqState 8 2 0 (twinState 2 1 0 0)) 8 = 2 ∧ pwrOf (seqState 7 3 0 (twinState 2 1 0 0)) 7 = 3 ∧
    (let s := put (actReady paired 2) R.TWIN_STATUS F.TWIN_STATUS.PAIR_MODE 1
     s.sys.dev.boot.act.pair = true ∧ actState s = 2) ∧
    (TwinRuns (twinState 0 0 0 0) ∧ GateOpen (twinState 0 0 0 0) ∧ twinFld (twinState 0 0 0 0) F.TWIN_STATUS.JOINED ≠ 1 ∧
      asideAt (twinState 0 0 0 0) = 0 ∧ ¬ PartnerHeard (twinState 0 0 0 0)) := by
  unfold TwinRuns GateOpen PartnerHeard; and_intros <;> decide +kernel

theorem met_steps :
    ShadowJoined (twinState 2 1 1 1) ∧ ¬ ShadowJoined (twinState 1 1 1 1) ∧ pwrOf (seqState 7 2 2 (twinState 2 1 1 1)) 7 ≠ 0 ∧
    (waitingStep (stepState true (.pwr 2)) 4 = some ⟨4, 7, .pwr 2, true⟩ ∧ HeldOnStep (stepState true (.pwr 2)) 7) ∧
    waitingStep (stepState false (.pwr 2)) 4 = some ⟨4, 7, .pwr 2, false⟩ ∧ waitingStep State.reset 4 = none ∧
    TowardReset (stepState true (.en 0)) 7 (.en 0) ∧ ¬ TowardReset (stepState true (.en 0x80)) 7 (.en 0x80) ∧
    TowardReset (stepState true (.out 0x0B)) 7 (.out 0x0B) ∧ TowardReset (stepState true (.pwr 0)) 7 (.pwr 0) ∧
    CanGoDown (stepState true (.en 0x80)) 7 ∧ TwinRuns (stepState true (.en 0x80)) := by
  unfold ShadowJoined TwinRuns HeldOnStep TowardReset CanGoDown; and_intros <;> decide +kernel

/-- A MIRROR of one part. -/
def seqPart : MirrorSeq := ⟨8, 0xFFFF#16, 0#4, 2#3⟩
def witPart : MirrorWit := ⟨7, 5, 0, 0, 1, 2, 1, 3, some 2#48, [(2#48, 9#64)], some 4#48⟩

theorem met_mirror :
    (TwinRuns (twinState 2 1 1 1) ∧ twinFld (twinState 2 1 1 1) F.TWIN_STATUS.ROLE = 2 ∧ twinFld (twinState 2 1 1 1) F.TWIN_STATUS.JOINED = 1) ∧
    (let s := twinState 2 0 1 1
     twinFld s F.TWIN_STATUS.JOINED ≠ 1 ∧ GateOpen s ∧ asideAt s = 0 ∧ PartnerHeard s) ∧
    (⟨true, false, [seqPart], [], []⟩ : Mirror).seqs = [seqPart] ∧
    ((⟨false, false, [], [witPart], []⟩ : Mirror).wits = [witPart] ∧
      oldestAt (twinState 2 1 1 1) 7 ≤ 4 ∧ (4 : Nat) < oldestAt (twinState 2 1 1 1) 7 + 8 ∧
      (epochAt (twinState 2 1 1 1) 7 = witPart.epoch.toNat ∧ ∀ x ∈ (witAt (twinState 2 1 1 1) 7).steps, x.step ≠ 4)) ∧
    (61 ≤ islandOf (R.WIT_SAMPLE_BASE 7) ∧ islandOf (R.WIT_SAMPLE_BASE 7) ≤ 68 ∧ (regRowAt (R.WIT_SAMPLE_BASE 7)).isSome = true) ∧
    actState (twinState 2 1 1 1) = 0 := by
  unfold TwinRuns GateOpen PartnerHeard; and_intros <;> decide +kernel

/-- The lead with step 3 of bay 7 open, which verifies or not. -/
def leadStep (closed : Bool) : State := withSteps [stepOf 3 1 closed []] (twinState 1 1 1 1)

theorem met_verdicts :
    (Leads (leadStep true) ∧ stepAt (leadStep true) 7 3 = some (stepOf 3 1 true []) ∧ (5#16 : BitVec 16).toNat = epochAt (leadStep true) 7 ∧
      (stepOf 3 1 true []).faulted = false ∧ (stepOf 3 1 true []).clear 7 = true ∧ (3 : Fin 4) ≠ 0) ∧
    (stepOf 3 1 false []).clear 7 = false ∧ stepAt (twinState 1 1 1 1) 7 3 = none ∧ sealedAt (twinState 1 1 1 1) 7 = none ∧
    (let s := put (put (twinState 1 1 1 1) (R.WIT_STAT 7) F.WIT_STAT.FAULTED 0) R.TWIN_STATUS F.TWIN_STATUS.ROLE 2
     ¬ Leads s) := by
  unfold Leads TwinRuns; and_intros <;> decide +kernel

theorem met_seal_notes :
    (ShadowJoined (twinState 2 1 1 1) ∧ (5#16 : BitVec 16).toNat = epochAt (twinState 2 1 1 1) 7 ∧ (6#16 : BitVec 16).toNat ≠ epochAt (twinState 2 1 1 1) 7 ∧
      sessionAt (put (twinState 2 1 1 1) (R.WITL_STATUS 7) F.WITL_STATUS.STATE 3) 7 = 3) ∧
    (let s := withSteps [stepOf 3 1 true [suspect]] (twinState 2 1 1 1)
     ShadowJoined s ∧ stepAt s 7 3 ≠ none) ∧
    (let s := twinState 2 1 1 1
     let r := fsRecordOf (natBytes 8 1 ++ zeros 120)
     s.sys.dev.twin.leadFs < r.seq ∧ s.sys.dev.answers 47 = true ∧ fldOf s R.FS_STATUS F.FS_STATUS.READY = 1 ∧ LogRoom s) ∧
    ¬ LogRoom ((twinState 2 1 1 1).onDev (fun d => { d with fs := { d.fs with block := 512 } })) := by
  unfold ShadowJoined TwinRuns LogRoom; and_intros <;> decide +kernel

theorem met_pair_requests :
    (Leads (twinState 1 1 1 1) ∧ CanGoDown (seqState 8 1 2 (twinState 1 1 1 1)) 8 ∧ Leads (seqState 8 1 2 (twinState 1 1 1 1))) ∧
    (let s := put (seqState 7 1 2 (twinState 1 1 1 1)) R.CL_MODE F.CL_MODE.FANS_PROVEN 0
     pwrOf s 7 = 1 ∧ fldOf s R.CL_MODE F.CL_MODE.FANS_PROVEN = 0 ∧ (7 : Fin 9) ≠ 8) ∧
    (let s := onTwin (put (seqState 7 1 2 (twinState 1 1 1 1)) R.CL_MODE F.CL_MODE.FANS_PROVEN 1) (fun t => { t with partner := (0, 1, 0, 0, 0, 0) })
     pwrOf s 7 = 1 ∧ fldOf s R.CL_MODE F.CL_MODE.FANS_PROVEN = 1 ∧ twinFld s F.TWIN_STATUS.LINK = 1 ∧ s.sys.dev.twin.partner.2.1.testBit 0 = true) ∧
    (let s := onTwin (twinState 2 1 1 1) (fun t => { t with offReqs := [7, 8] })
     twinFld s F.TWIN_STATUS.ROLE = 2 ∧ twinFld s F.TWIN_STATUS.JOINED = 1 ∧ 7 ∈ s.sys.dev.twin.offReqs ∧ 8 ∈ s.sys.dev.twin.offReqs) := by
  unfold Leads TwinRuns CanGoDown; and_intros <;> decide +kernel

theorem met_swap_and_aside :
    (let s := put (twinState 1 1 1 1) R.TWIN_STATUS F.TWIN_STATUS.PARTNER_JOINED 1
     TwinWritable s (.core 0) ∧ TwinWritable s .sec ∧ TwinWritable s .host ∧ ¬ SwapRefused s ∧ PartnerHeard s ∧ asideAt s = 0) ∧
    SwapRefused (twinState 1 1 1 1) ∧ ¬ PartnerHeard (twinState 1 1 0 0) ∧ ¬ TwinWritable (twinState 1 1 1 1) (.core 3) ∧
    ¬ TwinWritable State.reset .host ∧ asideAt (put (twinState 1 1 1 1) R.TWIN_CTL F.TWIN_CTL.STAND_ASIDE 1) = 1 ∧
    (let s := twinState 1 1 0 1
     Leads s ∧ twinFld s F.TWIN_STATUS.LINK = 0 ∧ twinFld s F.TWIN_STATUS.PIN = 1 ∧ twinFld s F.TWIN_STATUS.SOLO = 0) := by
  unfold Leads TwinRuns TwinWritable SwapRefused PartnerHeard; and_intros <;> decide +kernel

/-! ### What no command undoes -/

theorem met_holds_for_good : HoldsForGood State.reset.sys.nv.fuses State.reset.sys.nv.otp State.reset.sys.nv.fsLog State.reset :=
  ⟨⟨rfl, rfl, fun _ _ h => h, fun _ _ => ⟨rfl, rfl⟩, fun _ h => h, fun _ h => h, fun _ h => h, fun _ h => h⟩, rfl, [], rfl⟩

theorem met_idle : State.reset.pending = [] := rfl
end Sys2Proof.Tests
end

section
/-! PROOFS. The writes of plain registers judged field by field (R9), the host event that joins the queue (R532), and the
state after reset (R8). -/

namespace Sys2Proof.Machine

open Sys2Proof.Claims

/-! ### The fields of a register stand apart -/

/-- Fields of one word: each lies in its 32 bits, and no two share a bit. -/
def FieldsApart (fs : List FieldRow) : Prop :=
  (∀ f ∈ fs, f.fld.lo + f.fld.width ≤ 32) ∧ fs.Pairwise (fun f g => f.fld.apart g.fld = true)

theorem rowsOfBlock_fieldsApart : ∀ b < 14, ∀ r ∈ rowsOfBlock b, FieldsApart r.fields := by
  unfold FieldsApart; decide

theorem rowsOfBlock_reserved {b : Nat} (h : 14 ≤ b) : rowsOfBlock b = [] := by
  obtain ⟨n, rfl⟩ := Nat.exists_eq_add_of_le' h
  rfl

/-- Every register of the tables holds its fields in bits of their own. -/
theorem fieldsAt_apart (a : Nat) : FieldsApart (fieldsAt a) := by
  unfold fieldsAt
  cases hr : regRowAt a with
  | none => exact ⟨by simp, .nil⟩
  | some r =>
    unfold regRowAt at hr
    split at hr
    · cases hr
    · have hmem := List.mem_of_find?_eq_some hr
      by_cases hb : blockOf a < 14
      · exact rowsOfBlock_fieldsApart _ hb r hmem
      · rw [rowsOfBlock_reserved (by omega)] at hmem; cases hmem

theorem Fld.apart_comm (f g : Fld) : f.apart g = g.apart f := by simp [Fld.apart, or_comm]

/-! ### One field's part of a write -/

theorem FieldRow.refused_noDeny (f : FieldRow) (w old v : BitVec 32) :
    f.refused (noDeny w) old v = true ↔ OutOfRange f old v := by
  unfold FieldRow.refused FieldRow.changes OutOfRange
  cases f.access <;> simp [noDeny, Access.settable]

theorem FieldRow.get_write_apart (f g : FieldRow) (deny : Fld → Bool) (old v w : BitVec 32)
    (hf : f.fld.lo + f.fld.width ≤ 32) (h : f.fld.apart g.fld = true) :
    g.fld.get (f.write deny old v w) = g.fld.get w := by
  have hput (x : Nat) : g.fld.get (f.fld.put w x) = g.fld.get w := Fld.get_put_apart _ _ w x hf h
  unfold FieldRow.write
  split
  · exact hput _
  · split
    · exact hput _
    · rfl

theorem Fld.get_put_of_lt (f : Fld) (v : BitVec 32) {x : Nat} (h : f.lo + f.width ≤ 32) (hx : x < 2 ^ f.width) :
    f.get (f.put v x) = x := by rw [f.get_put v x h, Nat.mod_eq_of_lt hx]

/-- A settable field of the word being formed takes the value written where the range admits it. -/
theorem FieldRow.get_write_settable (f : FieldRow) (x old v w : BitVec 32) (hf : f.fld.lo + f.fld.width ≤ 32)
    (hw : f.fld.get w = f.fld.get old) (hs : f.access.settable = true) :
    f.fld.get (f.write (noDeny x) old v w) = if f.limit.admits (f.fld.get v) then f.fld.get v else f.fld.get old := by
  have hput : f.fld.get (f.fld.put w (f.fld.get v)) = f.fld.get v := f.fld.get_put_of_lt w hf (f.fld.get_lt v)
  have hwrite : f.write (noDeny x) old v w =
      if f.changes old v && !f.refused (noDeny x) old v then f.fld.put w (f.fld.get v) else w := by
    unfold FieldRow.write
    cases ha : f.access <;> simp_all [Access.settable]
  by_cases hsame : f.fld.get v = f.fld.get old
  · simp [hwrite, FieldRow.changes, hsame, hw]
  · by_cases ha : f.limit.admits (f.fld.get v) = true <;>
      simp [hwrite, FieldRow.refused, FieldRow.changes, noDeny, hs, hsame, ha, hput, hw]

theorem FieldRow.get_write_self (f : FieldRow) (x old v w : BitVec 32) (hf : f.fld.lo + f.fld.width ≤ 32)
    (hw : f.fld.get w = f.fld.get old) : f.fld.get (f.write (noDeny x) old v w) = fieldAfter f old v := by
  cases ha : f.access with
  | rw | rwl => rw [f.get_write_settable x old v w hf hw (by simp [ha, Access.settable])]; simp [fieldAfter, ha]
  | w1c =>
    have hlt : f.fld.get old &&& (2 ^ f.fld.width - 1 - f.fld.get v) < 2 ^ f.fld.width :=
      Nat.lt_of_le_of_lt Nat.and_le_left (f.fld.get_lt old)
    simp [FieldRow.write, fieldAfter, ha, f.fld.get_put_of_lt w hf hlt]
  | ro | wo | w1s => simp [FieldRow.write, FieldRow.changes, fieldAfter, ha, Access.settable, hw]

/-! ### The word after a write -/

theorem get_foldl_write_apart (fs : List FieldRow) (deny : Fld → Bool) (g : FieldRow) (old v w : BitVec 32)
    (hb : ∀ f ∈ fs, f.fld.lo + f.fld.width ≤ 32) (hg : ∀ f ∈ fs, f.fld.apart g.fld = true) :
    g.fld.get (fs.foldl (fun w f => f.write deny old v w) w) = g.fld.get w := by
  induction fs generalizing w with
  | nil => rfl
  | cons f fs ih =>
    rw [List.foldl_cons, ih _ (fun x hx => hb x (by simp [hx])) (fun x hx => hg x (by simp [hx]))]
    exact f.get_write_apart g deny old v w (hb f (by simp)) (hg f (by simp))

theorem get_foldl_write (fs : List FieldRow) (x old v w : BitVec 32) (hfs : FieldsApart fs)
    (hw : ∀ f ∈ fs, f.fld.get w = f.fld.get old) :
    ∀ f ∈ fs, f.fld.get (fs.foldl (fun w f => f.write (noDeny x) old v w) w) = fieldAfter f old v := by
  induction fs generalizing w with
  | nil => simp
  | cons g fs ih =>
    obtain ⟨hb, hp⟩ := hfs
    have ⟨hg, htail⟩ := List.pairwise_cons.mp hp
    have hgb : g.fld.lo + g.fld.width ≤ 32 := hb g (by simp)
    have hfb : ∀ f ∈ fs, f.fld.lo + f.fld.width ≤ 32 := fun f hf => hb f (by simp [hf])
    intro f hf
    rw [List.foldl_cons]
    rcases List.mem_cons.mp hf with rfl | hf
    · rw [get_foldl_write_apart fs _ f old v _ hfb (fun h hh => Fld.apart_comm _ _ ▸ hg h hh)]
      exact f.get_write_self x old v w hgb (hw f (by simp))
    · refine ih _ ⟨hfb, htail⟩ (fun h hh => ?_) f hf
      rw [g.get_write_apart h _ old v w hgb (hg h hh), hw h (by simp [hh])]

/-- The word a register takes shows each field judged by itself. -/
theorem get_writeFields (a : Nat) (x old v : BitVec 32) :
    ∀ f ∈ fieldsAt a, f.fld.get (writeFields (fieldsAt a) (noDeny x) old v) = fieldAfter f old v :=
  get_foldl_write (fieldsAt a) x old v old (fieldsAt_apart a) (fun _ _ => rfl)

theorem writeRefused_noDeny (fs : List FieldRow) (x old v : BitVec 32) :
    writeRefused fs (noDeny x) old v = true ↔ ∃ f ∈ fs, OutOfRange f old v := by
  simp [writeRefused, FieldRow.refused_noDeny]

/-! ### Host events (R532) -/

@[simp] theorem Device.wallTime_regs (d : Device) : d.wallTime.2.regs = d.regs := by
  unfold Device.wallTime; split <;> rfl

@[simp] theorem Device.wallTime_eth (d : Device) : d.wallTime.2.eth = d.eth := by
  unfold Device.wallTime; split <;> rfl

/-- The queue is full: the record is counted and dropped. -/
theorem Device.raise_full (d : Device) (code source : Nat) (detail : List Nat) (h : 4096 ≤ d.eth.events.length) :
    d.raise code source detail =
      ({ d with eth := { d.eth with lostDue := d.eth.lostDue + 1 } } : Device).count R.ETH_EVT_STAT F.ETH_EVT_STAT.LOST 1 := by
  rw [Device.raise, if_pos h]

/-- The record that joins the queue, with its times read as it is made. -/
def Device.eventMade (d : Device) (code source : Nat) (detail : List Nat) : EvRec where
  seq := d.eth.evSeq
  code := code
  source := source
  ft := d.readFt.1
  wall := d.readFt.2.wallTime.1
  detail := detail
  sent := false
  again := false

/-- The queue has room: the record joins it, and COUNT shows the queue. -/
theorem Device.raise_room (d : Device) (code source : Nat) (detail : List Nat) (h : d.eth.events.length < 4096) :
    d.raise code source detail =
      ({ d.readFt.2.wallTime.2 with
          eth := { d.eth with events := d.eth.events ++ [d.eventMade code source detail], evSeq := d.eth.evSeq + 1 } } :
        Device).showEvents := by
  rw [Device.raise, if_neg (by omega)]
  simp [Device.eventMade]

/-- A host event leaves every register but ETH_EVT_STAT. -/
theorem Device.reg_raise_ne (d : Device) (code source : Nat) (detail : List Nat) {b : Nat} (h : b ≠ R.ETH_EVT_STAT) :
    (d.raise code source detail).reg b = d.reg b := by
  by_cases hlen : 4096 ≤ d.eth.events.length
  · rw [d.raise_full code source detail hlen, Device.count, Device.reg_setFld_ne _ _ _ h]; rfl
  · rw [d.raise_room code source detail (by omega), Device.showEvents, Device.reg_setFld_ne _ _ _ h]
    simp [Device.reg]

theorem Device.raise_room_eth (d : Device) (code source : Nat) (detail : List Nat) (h : d.eth.events.length < 4096) :
    (d.raise code source detail).eth =
      { d.eth with events := d.eth.events ++ [d.eventMade code source detail], evSeq := d.eth.evSeq + 1 } := by
  rw [d.raise_room code source detail h]; rfl

theorem Device.raise_room_count (d : Device) (code source : Nat) (detail : List Nat) (h : d.eth.events.length < 4096) :
    (d.raise code source detail).fld R.ETH_EVT_STAT F.ETH_EVT_STAT.COUNT = d.eth.events.length + 1 := by
  rw [d.raise_room code source detail h, Device.showEvents, Device.fld_setFld_self _ _ _ _ (by decide)]
  simp only [List.length_append, List.length_singleton]
  exact Nat.mod_eq_of_lt (by rw [show 2 ^ F.ETH_EVT_STAT.COUNT.width = 8192 from rfl]; omega)

theorem Device.raise_full_events (d : Device) (code source : Nat) (detail : List Nat) (h : 4096 ≤ d.eth.events.length) :
    (d.raise code source detail).eth.events = d.eth.events := by
  rw [d.raise_full code source detail h]; rfl

theorem Device.raise_full_lost (d : Device) (code source : Nat) (detail : List Nat) (h : 4096 ≤ d.eth.events.length) :
    (d.raise code source detail).fld R.ETH_EVT_STAT F.ETH_EVT_STAT.LOST =
      min (d.fld R.ETH_EVT_STAT F.ETH_EVT_STAT.LOST + 1) (2 ^ 16 - 1) := by
  rw [d.raise_full code source detail h, Device.count, Device.fld_setFld_self _ _ _ _ (by decide)]
  exact Nat.mod_eq_of_lt (by rw [show 2 ^ F.ETH_EVT_STAT.LOST.width = 2 ^ 16 from rfl]; omega)

/-! ### A plain register written (R9) -/

/-- The word the register at a holds after a write of v with no field denied for more than its range. -/
def Device.wordAfter (d : Device) (a : Nat) (v : BitVec 32) : BitVec 32 :=
  writeFields (fieldsAt a) (noDeny 0#32) (d.reg a) v

theorem Device.writeReg_noDeny (d : Device) (a : Nat) (v : BitVec 32) :
    d.writeReg a v noDeny =
      if writeRefused (fieldsAt a) (noDeny 0#32) (d.reg a) v then (d.setReg a (d.wordAfter a v)).configReject a
      else d.setReg a (d.wordAfter a v) := rfl

/-- Each field of a register written is judged by itself, whether or not CONFIG_REJECT is raised. -/
theorem Device.fld_writeReg (d : Device) {a : Nat} (v : BitVec 32) (ha : a ≠ R.ETH_EVT_STAT) :
    ∀ f ∈ fieldsAt a, (d.writeReg a v noDeny).fld a f.fld = fieldAfter f (d.reg a) v := by
  intro f hf
  have hreg : (d.writeReg a v noDeny).reg a = d.wordAfter a v := by
    rw [Device.writeReg_noDeny]
    split
    · rw [Device.configReject, Device.reg_raise_ne _ _ _ _ ha, Device.reg_setReg_self]
    · rw [Device.reg_setReg_self]
  rw [Device.fld, hreg, Device.wordAfter, get_writeFields a _ _ v f hf]

theorem Device.reg_writeReg_ne (d : Device) {a b : Nat} (v : BitVec 32) (hba : b ≠ a) (hb : b ≠ R.ETH_EVT_STAT) :
    (d.writeReg a v noDeny).reg b = d.reg b := by
  rw [Device.writeReg_noDeny]
  split
  · rw [Device.configReject, Device.reg_raise_ne _ _ _ _ hb, Device.reg_setReg_ne _ _ hba]
  · rw [Device.reg_setReg_ne _ _ hba]

/-- No field out of range: nothing is raised. -/
theorem Device.writeReg_taken_eth (d : Device) {a : Nat} (v : BitVec 32)
    (h : ∀ f ∈ fieldsAt a, ¬ OutOfRange f (d.reg a) v) : (d.writeReg a v noDeny).eth = d.eth := by
  have hno : ¬ writeRefused (fieldsAt a) (noDeny 0#32) (d.reg a) v = true := by
    rw [writeRefused_noDeny]
    exact fun ⟨f, hf, hout⟩ => h f hf hout
  rw [Device.writeReg_noDeny, if_neg hno, Device.setReg_eth]

/-- A field out of range: one CONFIG_REJECT names the register. -/
theorem Device.writeReg_rejected_events (d : Device) {a : Nat} (v : BitVec 32)
    (h : ∃ f ∈ fieldsAt a, OutOfRange f (d.reg a) v) (hroom : d.eth.events.length < 4096) :
    ∃ e, (d.writeReg a v noDeny).eth.events = d.eth.events ++ [e] ∧ e.code = 0x0102 ∧ e.detail = [a] := by
  have hraise := (d.setReg a (d.wordAfter a v)).raise_room_eth 0x0102 0xFF [a] hroom
  refine ⟨(d.setReg a (d.wordAfter a v)).eventMade 0x0102 0xFF [a], ?_, rfl, rfl⟩
  rw [Device.writeReg_noDeny, if_pos ((writeRefused_noDeny _ _ _ _).mpr h), Device.configReject, hraise]
  rfl

/-! ### The plain registers of the TWIN island -/

def twinPlainRegs : List Nat :=
  [R.TWIN_STATUS, R.TWIN_CFG, R.TWIN_EVENT, R.TWIN_ROUTE, R.TWIN_TAKEOVER_CNT, R.TWIN_BAD_CNT]

/-- Where the TWIN registers lie: words of block 10 and island 71, no half of a split value, in no engine's set, and apart from
the request register and from ETH_EVT_STAT. -/
theorem twinPlainRegs_place : ∀ a ∈ twinPlainRegs,
    (inWindow a = true ∧ a % 4 = 0) ∧ blockOf a = 10 ∧ islandAt a = some 71 ∧ isLoRw a = false ∧ isLoRw (a - 4) = false ∧
      engAt a = none ∧ a ≠ R.TWIN_CTL ∧ a ≠ R.ETH_EVT_STAT := by
  decide

theorem exec_registerWrite_twinPlain (who : Initiator) {a : Nat} (v : BitVec 32) (s : State) (ha : a ∈ twinPlainRegs)
    (hans : s.sys.dev.answers 71 = true) (hwho : s.sys.dev.writerRefused who a 71 = false) :
    exec (.registerWrite who a v) s = .next (s.onDev (fun d => (d.dropCaptured who 71).writeReg a v noDeny)) := by
  obtain ⟨⟨hwin, hword⟩, hblk, hisl, hlo, hhi, heng, hctl, -⟩ := twinPlainRegs_place a ha
  have hblock (y : Sys) : y.writeBlock who a v = y.onDev (·.writeReg a v noDeny) := by
    simp [Sys.writeBlock, heng, hblk, hctl]
  have hreg : (s.sys.regWrite who a v).2 = (s.sys.onDev (·.dropCaptured who 71)).onDev (·.writeReg a v noDeny) := by
    simp [Sys.regWrite, hblk, hisl, hans, hwho, hlo, hhi, hblock]
  have hsys : sysRegisterWrite who a v s.sys = (s.sys.regWrite who a v).2 := by
    simp [sysRegisterWrite, hwin, hword]
  rw [exec_registerWrite, execRegisterWrite, State.onSys, hsys, hreg]
  rfl

/-- Settles O29: each part is a law of `writeReg` or of `raise`, and the six registers are plain. -/
theorem registerWriteResult : Obligations.RegisterWriteResult := by
  unfold Obligations.RegisterWriteResult
  refine ⟨fun who a v s ha hans hwho => ?_, fun s code source detail => ⟨fun hroom => ?_, fun hfull => ?_⟩⟩
  · obtain ⟨-, -, -, -, -, -, -, hevt⟩ := twinPlainRegs_place a ha
    -- What the access drops of a captured half (R583) is neither a register nor an event.
    let d := s.sys.dev.dropCaptured who 71
    exact ⟨_, exec_registerWrite_twinPlain who v s ha hans hwho, d.fld_writeReg v hevt,
      fun b hba hb => d.reg_writeReg_ne v hba hb, rfl, d.writeReg_taken_eth v, d.writeReg_rejected_events v⟩
  · have heth := s.sys.dev.raise_room_eth code source detail hroom
    exact ⟨s.sys.dev.eventMade code source detail, congrArg (·.events) heth, rfl, rfl, rfl, rfl, congrArg (·.evSeq) heth,
      s.sys.dev.raise_room_count code source detail hroom⟩
  · exact ⟨s.sys.dev.raise_full_events code source detail hfull, s.sys.dev.raise_full_lost code source detail hfull⟩

/-! ### The state after reset (R8) -/

/-- Right after reset every register holds its reset value. -/
theorem fldOf_reset (a : Nat) (f : Fld) : fldOf State.reset a f = f.get (regReset a) := rfl

theorem Fld.get_zero (f : Fld) : f.get 0#32 = 0 := by simp [Fld.get, bitsOf]

theorem fldOf_reset_zero {a : Nat} (h : regReset a = 0#32) (f : Fld) : fldOf State.reset a f = 0 := by
  rw [fldOf_reset, h, f.get_zero]

/-- STATE, PROG_VALID and PEND among them (R129, R138). -/
theorem engine_regReset (e : Eng) : regReset (R.ENG_STATUS e.win) = 0#32 ∧ regReset (R.ENG_CTL e.win) = 0#32 := by
  cases e with
  | seq i => revert i; decide
  | cool i => revert i; decide
  | bus m => revert m; decide
  | wit n => revert n; decide
  | gc g => revert g; decide

theorem eng_reset (e : Eng) : State.reset.sys.dev.eng e = { ECtx.reset with toff := decide (e.slot.val < 9) } := by
  simp [Device.eng, State.reset, Sys.reset, Device.reset]

theorem sequencer_regReset : ∀ i : Fin 9,
    regReset (R.SQ_STATUS i.val) = 0#32 ∧ regReset (R.SQ_RAIL_ST i.val) = 0#32 ∧
      F.SQ_BAYSIG.OUT.get (regReset (R.SQ_BAYSIG i.val)) = 0x0B := by
  decide

theorem bay_regReset : ∀ b : Bay, regReset (R.WITL_STATUS b.val) = 0#32 ∧ regReset (R.WIT_SEALED_HI b.val) = 0#32 := by
  decide

theorem sealedAt_reset (b : Bay) : sealedAt State.reset b = none := by
  rw [sealedAt, if_pos (fldOf_reset_zero (bay_regReset b).2 _)]

theorem witAt_reset (b : Bay) : witAt State.reset b = WitCtx.reset := by
  simp [witAt, State.reset, Sys.reset, Device.reset]

theorem txRecs_reset (b : Bay) : State.reset.sys.dev.txRecs[b] = [] := by
  simp [State.reset, Sys.reset, Device.reset]

/-- Settles O60: every register reads its reset value, and every queue and context is as `Device.reset` makes it. -/
theorem resetState : Obligations.ResetState := by
  unfold Obligations.ResetState
  refine ⟨fun e => ?_, fun i => ?_, fldOf_reset_zero (by decide) _, fldOf_reset_zero (by decide) _,
    fldOf_reset_zero (by decide) _, by decide, fun b => ?_, rfl, rfl, rfl, rfl⟩
  · obtain ⟨hstatus, hctl⟩ := engine_regReset e
    exact ⟨fldOf_reset_zero hstatus _, fldOf_reset_zero hstatus _, fldOf_reset_zero hctl _, by rw [eng_reset]; rfl⟩
  · obtain ⟨hstatus, hrails, hout⟩ := sequencer_regReset i
    exact ⟨fldOf_reset_zero hstatus _, fldOf_reset_zero hrails _, hout, by rw [eng_reset]; exact decide_eq_true i.isLt⟩
  · have hlink := (bay_regReset b).1
    exact ⟨fldOf_reset_zero hlink _, fldOf_reset_zero hlink _, sealedAt_reset b, by rw [witAt_reset]; rfl, txRecs_reset b⟩

end Sys2Proof.Machine
end

section
/-! PROOFS. What START, STOP, KILL, the end of the start check and the end of T_off_min do to an engine whose chapter adds
nothing to them (R134). -/

namespace Sys2Proof.Machine

open Sys2Proof.Claims

/-! ### The device of a state changed -/

theorem State.onDev_of_dev {s : State} {f : Device → Device} {d : Device} (h : f s.sys.dev = d) :
    s.onDev f = { s with sys := { s.sys with dev := d } } := by
  unfold State.onDev; rw [h]

/-! ### Reading the registers of an engine -/

theorem bit_eq_testBit (n i : Nat) : bit n i = n.testBit i := by
  rw [Nat.testBit_eq_decide_div_mod_eq]; rfl

/-- The registers of an engine that a change of STATE or PEND must leave apart (R129). -/
theorem engRegs_apart (w k : Nat) : R.ENG_CTL w ≠ R.ENG_STATUS w ∧ R.ENG_ENTRY w k ≠ R.ENG_STATUS w := by
  unfold R.ENG_CTL R.ENG_STATUS R.ENG_ENTRY; omega

theorem Device.pend_eq_false (d : Device) (e : Eng) : d.pend e = false ↔ d.fld (R.ENG_CTL e.win) F.ENG_CTL.PEND = 0 := by
  simp [Device.pend, Device.flag]

theorem Device.engIdle_iff (d : Device) (e : Eng) : d.engIdle e = true ↔ d.engState e = 0 ∨ d.engState e = 4 := by
  simp [Device.engIdle]

theorem Device.entryDefined_eq (d : Device) (e : Eng) (k : Nat) :
    d.entryDefined e k = (d.fld (R.ENG_PROG_INFO e.win) F.ENG_PROG_INFO.ENTRY_MASK).testBit k := bit_eq_testBit _ _

/-- R134, R140: the model refuses a START where `StartOk` fails. -/
theorem startRefused_eq_false (s : State) (e : Eng) : s.sys.dev.startRefused e = false ↔ StartOk s e := by
  simp [Device.startRefused, Device.progValid, Device.loadOpen, Device.flag, Device.entryDefined_eq, Device.startEntry,
    StartOk, fldOf, and_assoc]

/-! ### The requests by the engine's STATE (R134) -/

/-- A START reaches an idle engine that no START is held for. -/
theorem Device.engStartReq_idle (d : Device) (e : Eng) (hidle : d.engIdle e = true) (hpend : d.pend e = false) :
    d.engStartReq e false =
      if d.startRefused e then d.on (R.ENG_STATUS e.win) F.ENG_STATUS.START_REJ
      else if (d.eng e).toff || !(d.eng e).released then d.setPend e true
      else d.engStarting e := by
  rcases (d.engIdle_iff e).mp hidle with hst | hst <;> simp [Device.engStartReq, hst, hpend]

theorem Device.engStopReq_running (d : Device) (e : Eng) (lost : Device → Device) (hst : d.engState e = 2)
    (hentry : d.entryDefined e 1 = true) : d.engStopReq e lost = d.engStopping e := by
  simp [Device.engStopReq, hst, hentry]

theorem Device.engKillReq_faulted (d : Device) (e : Eng) (lost : Device → Device) (hst : d.engState e = 4) :
    d.engKillReq e lost = (d.engOff e false).setPend e false := by
  simp [Device.engKillReq, hst]

theorem Device.engTryPend_none (d : Device) (e : Eng) (held : Bool) (hpend : d.pend e = false) :
    d.engTryPend e held = d := by
  simp [Device.engTryPend, hpend]

/-- An engine moved to a STATE continues at the entry named before the move. -/
theorem Device.setState_engGoto (d : Device) (e : Eng) (st k : Nat) (hstep : (d.eng e).hold ≠ .step) :
    (d.setState e st).engGoto e k = (d.setFld (R.ENG_STATUS e.win) F.ENG_STATUS.STATE st).setEng e
      { d.eng e with pc := 4 * d.fld (R.ENG_ENTRY e.win k) F.ENG_ENTRY.INDEX, hold := .none } := by
  have hctx : (d.setState e st).eng e = d.eng e := rfl
  have hindex : (d.setState e st).fld (R.ENG_ENTRY e.win k) F.ENG_ENTRY.INDEX =
      d.fld (R.ENG_ENTRY e.win k) F.ENG_ENTRY.INDEX := d.fld_setFld_ne _ _ _ (engRegs_apart e.win k).2
  unfold Device.engGoto
  simp only [hctx, hindex, if_neg hstep]
  rfl

/-! ### Entry into STARTING (R134) -/

theorem Device.engStarting_state (d : Device) (e : Eng) : (d.engStarting e).engState e = 1 :=
  (Device.fld_setFld_apart _ _ F.ENG_STATUS.START_CNT F.ENG_STATUS.STATE _ (by decide) (by decide)).trans
    (Device.fld_setFld_self _ _ _ 1 (by decide))

theorem Device.engStarting_pend (d : Device) (e : Eng) : (d.engStarting e).fld (R.ENG_CTL e.win) F.ENG_CTL.PEND = 0 := by
  have hne := (engRegs_apart e.win 0).1
  calc (d.engStarting e).fld (R.ENG_CTL e.win) F.ENG_CTL.PEND
      = ((d.setPend e false).setState e 1).fld (R.ENG_CTL e.win) F.ENG_CTL.PEND := Device.fld_setFld_ne _ _ _ _ hne
    _ = (d.setPend e false).fld (R.ENG_CTL e.win) F.ENG_CTL.PEND := Device.fld_setFld_ne _ _ _ _ hne
    _ = 0 := d.fld_setFld_self _ _ _ (by decide)

theorem Device.engStarting_startCnt (d : Device) (e : Eng) :
    (d.engStarting e).fld (R.ENG_STATUS e.win) F.ENG_STATUS.START_CNT =
      min (d.fld (R.ENG_STATUS e.win) F.ENG_STATUS.START_CNT + 1) 0xFFFF := by
  have hkept : ((d.setPend e false).setState e 1).fld (R.ENG_STATUS e.win) F.ENG_STATUS.START_CNT =
      d.fld (R.ENG_STATUS e.win) F.ENG_STATUS.START_CNT :=
    (Device.fld_setFld_apart _ _ F.ENG_STATUS.STATE _ 1 (by decide) (by decide)).trans
      (d.fld_setFld_ne _ _ _ (engRegs_apart e.win 0).1.symm)
  calc (d.engStarting e).fld (R.ENG_STATUS e.win) F.ENG_STATUS.START_CNT
      = min (((d.setPend e false).setState e 1).fld (R.ENG_STATUS e.win) F.ENG_STATUS.START_CNT + 1) (2 ^ 16 - 1) % 2 ^ 16 :=
        Device.fld_setFld_self _ _ _ _ (by decide)
    _ = min (d.fld (R.ENG_STATUS e.win) F.ENG_STATUS.START_CNT + 1) 0xFFFF := by rw [hkept]; omega

/-- Of the registers only STATUS and CTL change; the context is cleared. -/
theorem engStarting_regsAt (s : State) (e : Eng) :
    RegsAt (onEng s e (fun c => { c with regs := Vector.replicate 16 0#32, data := [], mboxIn := [], hold := .none }))
      (s.onDev (·.engStarting e)) [R.ENG_STATUS e.win, R.ENG_CTL e.win] := by
  refine ⟨rfl, fun a ha => ?_⟩
  obtain ⟨hst, hctl⟩ : a ≠ R.ENG_STATUS e.win ∧ a ≠ R.ENG_CTL e.win := by simpa using ha
  calc (s.sys.dev.engStarting e).reg a
      = ((s.sys.dev.setPend e false).setState e 1).reg a := Device.reg_setFld_ne _ _ _ hst
    _ = (s.sys.dev.setPend e false).reg a := Device.reg_setFld_ne _ _ _ hst
    _ = s.sys.dev.reg a := Device.reg_setFld_ne _ _ _ hctl

/-! ### Engines whose chapter adds nothing -/

section
variable {e : Eng} (he : PlainEngine e)
include he

theorem plainEngine_cases : (∃ m, e = .bus m) ∨ (∃ n, e = .wit n) ∨ ∃ g, e = .gc g := by
  cases e with
  | seq i => exact absurd rfl (he.1 i)
  | cool i => exact absurd rfl (he.2 i)
  | bus m => exact .inl ⟨m, rfl⟩
  | wit n => exact .inr (.inl ⟨n, rfl⟩)
  | gc g => exact .inr (.inr ⟨g, rfl⟩)

theorem Device.engStart_plain (d : Device) : d.engStart e = d.engStartReq e false := by
  obtain ⟨_, rfl⟩ | ⟨_, rfl⟩ | ⟨_, rfl⟩ := plainEngine_cases he <;> rfl

theorem Device.engStop_plain (d : Device) : d.engStop e = d.engStopReq e (fun d => d.engLost e) := by
  obtain ⟨_, rfl⟩ | ⟨_, rfl⟩ | ⟨_, rfl⟩ := plainEngine_cases he <;> rfl

theorem Device.engKill_plain (d : Device) : d.engKill e = d.engKillReq e (fun d => d.engLost e) := by
  obtain ⟨_, rfl⟩ | ⟨_, rfl⟩ | ⟨_, rfl⟩ := plainEngine_cases he <;> rfl

theorem Device.ctlRefused_plain (d : Device) : d.ctlRefused e = false := by
  obtain ⟨_, rfl⟩ | ⟨_, rfl⟩ | ⟨_, rfl⟩ := plainEngine_cases he <;> rfl

theorem Device.tryPend_plain (d : Device) : d.tryPend e = d.engTryPend e false := by
  obtain ⟨_, rfl⟩ | ⟨_, rfl⟩ | ⟨_, rfl⟩ := plainEngine_cases he <;> rfl

variable {s : State} (hans : s.sys.dev.answers e.island = true)
include hans

theorem exec_engStart_plain : exec (.engStart e) s = .next (s.onDev (·.engStartReq e false)) := by
  rw [exec_engStart, execEngStart]
  exact congrArg _ (State.onDev_of_dev (by simp [Device.engRequest, hans, Device.engStart_plain he]))

theorem exec_engStop_plain : exec (.engStop e) s = .next (s.onDev (fun d => d.engStopReq e (fun d => d.engLost e))) := by
  rw [exec_engStop, execEngStop]
  exact congrArg _ (State.onDev_of_dev (by simp [Device.engRequest, hans, Device.engStop_plain he]))

theorem exec_engKill_plain : exec (.engKill e) s = .next (s.onDev (fun d => d.engKillReq e (fun d => d.engLost e))) := by
  rw [exec_engKill, execEngKill]
  exact congrArg _ (State.onDev_of_dev (by simp [Device.engRequest, hans, Device.engKill_plain he, Device.ctlRefused_plain he]))

/-! ### START, STOP and KILL -/

theorem exec_engStart_taken (hidle : s.sys.dev.engIdle e = true) (hpend : s.sys.dev.pend e = false) (hok : StartOk s e)
    (htoff : (s.sys.dev.eng e).toff = false) (hrel : (s.sys.dev.eng e).released = true) :
    exec (.engStart e) s = .next (s.onDev (·.engStarting e)) := by
  have hok := (startRefused_eq_false s e).mpr hok
  rw [exec_engStart_plain he hans]
  exact congrArg _ (State.onDev_of_dev (by simp [s.sys.dev.engStartReq_idle e hidle hpend, hok, htoff, hrel]))

theorem exec_engStart_held (hidle : s.sys.dev.engIdle e = true) (hpend : s.sys.dev.pend e = false) (hok : StartOk s e)
    (hheld : (s.sys.dev.eng e).toff = true ∨ (s.sys.dev.eng e).released = false) :
    exec (.engStart e) s = .next (s.onDev (·.setPend e true)) := by
  have hok := (startRefused_eq_false s e).mpr hok
  rw [exec_engStart_plain he hans]
  exact congrArg _ (State.onDev_of_dev (by simp [s.sys.dev.engStartReq_idle e hidle hpend, hok, hheld]))

theorem exec_engStart_refused (hidle : s.sys.dev.engIdle e = true) (hpend : s.sys.dev.pend e = false)
    (hno : ¬ StartOk s e) :
    exec (.engStart e) s = .next (s.onDev (·.on (R.ENG_STATUS e.win) F.ENG_STATUS.START_REJ)) := by
  have hno : s.sys.dev.startRefused e = true := by
    rwa [← startRefused_eq_false, Bool.not_eq_false] at hno
  rw [exec_engStart_plain he hans]
  exact congrArg _ (State.onDev_of_dev (by simp [s.sys.dev.engStartReq_idle e hidle hpend, hno]))

theorem exec_engStop_running (hst : s.sys.dev.engState e = 2) (hentry : s.sys.dev.entryDefined e 1 = true)
    (hstep : (s.sys.dev.eng e).hold ≠ .step) :
    exec (.engStop e) s = .next (onEng (s.onDev (fun d => d.setFld (R.ENG_STATUS e.win) F.ENG_STATUS.STATE 3)) e
      (fun c => { c with pc := entryPc s e 1, hold := .none })) := by
  rw [exec_engStop_plain he hans]
  exact congrArg _ (State.onDev_of_dev
    ((s.sys.dev.engStopReq_running e _ hst hentry).trans (s.sys.dev.setState_engGoto e 3 1 hstep)))

theorem exec_engKill_faulted (hst : s.sys.dev.engState e = 4) :
    exec (.engKill e) s = .next ((onEng (s.onDev (fun d => d.setFld (R.ENG_STATUS e.win) F.ENG_STATUS.STATE 0)) e
      (fun c => { c with hold := .none })).onDev (fun d => d.setFld (R.ENG_CTL e.win) F.ENG_CTL.PEND 0)) := by
  rw [exec_engKill_plain he hans]
  exact congrArg _ (State.onDev_of_dev (s.sys.dev.engKillReq_faulted e _ hst))

/-! ### The start check and T_off_min -/

theorem exec_startCheckDone_passed (hst : s.sys.dev.engState e = 1) (hstep : (s.sys.dev.eng e).hold ≠ .step)
    (hcrc : crc32c (s.sys.dev.programBytes e (fldOf s (R.ENG_PROG_INFO e.win) F.ENG_PROG_INFO.CODE_LEN)) =
      s.sys.dev.reg (R.ENG_PROG_CRC e.win)) :
    exec (.startCheckDone e true) s = .next (onEng (s.onDev (fun d => d.setFld (R.ENG_STATUS e.win) F.ENG_STATUS.STATE 2)) e
      (fun c => { c with pc := entryPc s e (fldOf s (R.ENG_CTL e.win) F.ENG_CTL.ENTRY), hold := .none })) := by
  have hrun : devStartCheckDone e true s.sys.dev = s.sys.dev.engRunning e := by
    rw [fldOf] at hcrc
    obtain ⟨_, rfl⟩ | ⟨_, rfl⟩ | ⟨_, rfl⟩ := plainEngine_cases he <;>
      simp [devStartCheckDone, hst, hans, hcrc, Device.engSync]
  rw [exec_startCheckDone, execStartCheckDone]
  exact congrArg _ (State.onDev_of_dev (hrun.trans (s.sys.dev.setState_engGoto e 2 _ hstep)))

omit he in
/-- The program store no longer reads as it was installed: PARITY at instruction 0. -/
theorem exec_startCheckDone_failed (hst : s.sys.dev.engState e = 1) :
    exec (.startCheckDone e false) s = .next (s.onDev (fun d => d.unitFault (.eng e) .parity 0)) := by
  rw [exec_startCheckDone, execStartCheckDone]
  exact congrArg _ (State.onDev_of_dev (by simp [devStartCheckDone, hst, hans, Device.unitFault]))

theorem exec_tOffMinExpiry_plain (htoff : (s.sys.dev.eng e).toff = true) (hpend : s.sys.dev.pend e = false)
    (hself : ∀ g, e = .gc g → s.sys.dev.gcs[g].selfStart = false) :
    exec (.tOffMinExpiry e) s = .next (onEng s e (fun c => { c with toff := false })) := by
  let d := s.sys.dev.setEng e { s.sys.dev.eng e with toff := false }
  have htry : d.tryPend e = d := (Device.tryPend_plain he d).trans (d.engTryPend_none e false hpend)
  have hdev : devTOffMinExpiry e s.sys.dev = d := by
    obtain ⟨_, rfl⟩ | ⟨_, rfl⟩ | ⟨g, rfl⟩ := plainEngine_cases he
    · simp [devTOffMinExpiry, htoff, hans, htry, d]
    · simp [devTOffMinExpiry, htoff, hans, htry, d]
    · have hself : (d.gc g).selfStart = false := hself g rfl
      simp [devTOffMinExpiry, htoff, hans, htry, hself, d]
  rw [exec_tOffMinExpiry, execTOffMinExpiry]
  exact congrArg _ (State.onDev_of_dev hdev)

end

/-- Settles O27: on a plain engine each command is its request of R134 alone, and each request acts by STATE. -/
theorem engineStateResult : Obligations.EngineStateResult := by
  unfold Obligations.EngineStateResult
  intro e s he hans
  refine ⟨fun hst hpend => ?_, fun hst hentry hstep => ?_, exec_engKill_faulted he hans,
    fun hst hstep => ⟨exec_startCheckDone_passed he hans hst hstep, exec_startCheckDone_failed hans hst⟩,
    fun htoff hpend => exec_tOffMinExpiry_plain he hans htoff ((s.sys.dev.pend_eq_false e).mpr hpend)⟩
  · have hidle := (s.sys.dev.engIdle_iff e).mpr hst
    have hpend := (s.sys.dev.pend_eq_false e).mpr hpend
    exact ⟨fun hok htoff hrel => ⟨_, exec_engStart_taken he hans hidle hpend hok htoff hrel, s.sys.dev.engStarting_state e,
        s.sys.dev.engStarting_startCnt e, s.sys.dev.engStarting_pend e, engStarting_regsAt s e⟩,
      exec_engStart_held he hans hidle hpend, exec_engStart_refused he hans hidle hpend⟩
  · exact exec_engStop_running he hans hst ((s.sys.dev.entryDefined_eq e 1).trans hentry) hstep

end Sys2Proof.Machine
end

section
/-! PROOFS. A completion accepted can blame a cluster for the second time, and the fence that follows adds the completion of
the dispatch in flight on it (R217, R230, R252, R254, R255). -/

namespace Sys2Proof.Machine

open Sys2Proof.Claims

@[simp] theorem Device.gc_setGc_self (d : Device) (g : Fin 12) (c : GcCtx) : (d.setGc g c).gc g = c := by
  simp [Device.gc, Device.setGc, vset]

theorem Device.gc_eq_of_gcs {d e : Device} (h : d.gcs = e.gcs) (g : Fin 12) : d.gc g = e.gc g := by
  rw [Device.gc, h, Device.gc]

/-! ### The end of a dispatch in flight (R230, R249, R252) -/

theorem Device.gEnd_idle (d : Device) (g : Fin 12) (status : Nat) (h : (d.gc g).cur = none) : d.gEnd g status = d := by
  simp [Device.gEnd, h]

theorem Device.gEnd_gdone (d : Device) (g : Fin 12) (status : Nat) {x : GDisp} (h : (d.gc g).cur = some x) :
    ∃ bytes, (d.gEnd g status).gdone = d.gdone ++ [(x.bay, bytes)] := by
  simp only [Device.gEnd, h, Device.showBusy, Device.setFld_gdone, apply_ite Device.gdone, Device.count_gdone, ite_self]
  exact ⟨_, rfl⟩

theorem Device.gEnd_cur (d : Device) (g : Fin 12) (status : Nat) : ((d.gEnd g status).gc g).cur = none := by
  cases h : (d.gc g).cur with
  | none => rw [d.gEnd_idle g status h, h]
  | some x =>
    simp only [Device.gEnd, h, Device.showBusy]
    rw [Device.gc_eq_of_gcs (Device.setFld_gcs ..)]
    split <;> exact congrArg GcCtx.cur (Device.gc_setGc_self ..)

theorem Device.engOff_gdone (d : Device) (e : Eng) (toff : Bool) : (d.engOff e toff).gdone = d.gdone := by
  unfold Device.engOff; dsimp only; split <;> rfl

theorem Device.engOff_gcs (d : Device) (e : Eng) (toff : Bool) : (d.engOff e toff).gcs = d.gcs := by
  unfold Device.engOff; dsimp only; split <;> rfl

theorem Device.gcLost_gdone (d : Device) (g : Fin 12) (poison : Bool) {x : GDisp} (h : (d.gc g).cur = some x) :
    ∃ bytes, (d.gcLost g poison).gdone = d.gdone ++ [(x.bay, bytes)] := d.gEnd_gdone g _ h

theorem Device.gcLost_cur (d : Device) (g : Fin 12) (poison : Bool) : ((d.gcLost g poison).gc g).cur = none := by
  simp [Device.gcLost, Device.gEnd_cur]

/-- Entry into OFF with no START held leaves the clusters. -/
theorem Device.engOff_setPend_gc (d : Device) (e : Eng) (toff : Bool) (g : Fin 12) :
    ((d.engOff e toff).setPend e false).gc g = d.gc g :=
  Device.gc_eq_of_gcs ((Device.setPend_gcs ..).trans (d.engOff_gcs ..)) g

/-- Whatever the engine's STATE, a KILL by the arbiter hands over the dispatch in flight, and only once. -/
theorem Device.gcKill_gdone (d : Device) (g : Fin 12) {x : GDisp} (h : (d.gc g).cur = some x) :
    ∃ bytes, (d.gcKill g).gdone = d.gdone ++ [(x.bay, bytes)] := by
  unfold Device.gcKill Device.engKillReq
  split
  · exact Device.gEnd_gdone (d.setPend _ _) g 2 h
  · obtain ⟨bytes, hb⟩ := Device.gEnd_gdone _ g 2 ((congrArg GcCtx.cur (d.engOff_setPend_gc (.gc g) false g)).trans h)
    exact ⟨bytes, by rw [hb, Device.setPend_gdone, Device.engOff_gdone]⟩
  · obtain ⟨bytes, hb⟩ := Device.gcLost_gdone _ g false ((congrArg GcCtx.cur (d.engOff_setPend_gc (.gc g) true g)).trans h)
    exact ⟨bytes, by rw [Device.gEnd_idle _ _ _ (Device.gcLost_cur ..), hb, Device.setPend_gdone, Device.engOff_gdone]⟩

/-! ### The second blame within 24 h (R254, R255, R257) -/

theorem Device.setHealth_gdone (d : Device) (g : Fin 12) (h : Nat) : (d.setHealth g h).gdone = d.gdone := by
  unfold Device.setHealth; dsimp only
  split
  · rfl
  · split <;> simp

theorem Device.setHealth_gcs (d : Device) (g : Fin 12) (h : Nat) : (d.setHealth g h).gcs = d.gcs := by
  unfold Device.setHealth; dsimp only
  split
  · rfl
  · split <;> simp

theorem Device.advanceGen_gdone (d : Device) (x : GDisp) (cluster : Nat) : (d.advanceGen x cluster).gdone = d.gdone := by
  unfold Device.advanceGen; dsimp only
  split
  · rfl
  · split <;> rfl

theorem Device.advanceGen_gcs (d : Device) (x : GDisp) (cluster : Nat) : (d.advanceGen x cluster).gcs = d.gcs := by
  unfold Device.advanceGen; dsimp only
  split
  · rfl
  · split <;> rfl

theorem Device.withdraw_none (d : Device) (g : Fin 12) (h : (d.gc g).passes = []) :
    d.withdraw g = d.setGc g { d.gc g with passes := [] } := by
  simp [Device.withdraw, h]

theorem Device.gcRecall_gdone (d : Device) (g : Fin 12) {x : GDisp} (hcur : (d.gc g).cur = some x)
    (hwait : (d.gc g).waiting = none) : ∃ bytes, (d.gcRecall g).gdone = d.gdone ++ [(x.bay, bytes)] := by
  have hkill := Device.gcKill_gdone (d.advanceGen x g.val) g
    ((congrArg GcCtx.cur (Device.gc_eq_of_gcs (d.advanceGen_gcs x g.val) g)).trans hcur)
  simpa [Device.gcRecall, hcur, hwait, Device.advanceGen_gdone] using hkill

/-- A cluster fenced with a dispatch in flight hands that dispatch's completion over. -/
theorem Device.gcFence_gdone (d : Device) (g : Fin 12) {x : GDisp} (hhealth : d.gHealth g ≠ 2)
    (hcur : (d.gc g).cur = some x) (hwait : (d.gc g).waiting = none) (hpass : (d.gc g).passes = []) :
    ∃ bytes, (d.gcFence g).gdone = d.gdone ++ [(x.bay, bytes)] := by
  have hgc : (d.setHealth g 2).gc g = d.gc g := Device.gc_eq_of_gcs (d.setHealth_gcs g 2) g
  have hdrop : (d.setHealth g 2).withdraw g = (d.setHealth g 2).setGc g { d.gc g with passes := [] } := by
    rw [Device.withdraw_none _ g (hgc ▸ hpass), hgc]
  rw [Device.gcFence, if_neg hhealth, hdrop]
  simpa [Device.setHealth_gdone] using
    Device.gcRecall_gdone ((d.setHealth g 2).setGc g { d.gc g with passes := [] }) g (by simpa using hcur)
      (by simpa using hwait)

/-- The times of the blames that still count with one more at the time read. -/
def Device.blameTimes (d : Device) (g : Fin 12) : List Nat :=
  ((d.gc g).blames ++ [d.now.1]).filter (fun x => decide (d.now.1 ≤ x + 86400000000))

/-- A cluster with the blame noted, before a second one fences it. -/
def Device.blameNoted (d : Device) (g : Fin 12) : Device :=
  ((d.now.2.setGc g { d.now.2.gc g with blames := d.blameTimes g, katDue := true }).count
    (R.GC_BLAME_CNT g.val) F.GC_BLAME_CNT.COUNT 1).setFld (R.GC_STATUS g.val) F.GC_STATUS.BLAMES
      (min (d.blameTimes g).length 15)

theorem Device.gcBlame_eq (d : Device) (g : Fin 12) :
    d.gcBlame g = if 2 ≤ (d.blameTimes g).length then (d.blameNoted g).gcFence g else d.blameNoted g := rfl

theorem Device.blameNoted_gdone (d : Device) (g : Fin 12) : (d.blameNoted g).gdone = d.gdone := rfl

theorem Device.blameNoted_gc (d : Device) (g : Fin 12) :
    (d.blameNoted g).gc g = { d.gc g with blames := d.blameTimes g, katDue := true } :=
  Device.gc_setGc_self d.now.2 g _

theorem Device.blameNoted_gHealth (d : Device) (g : Fin 12) : (d.blameNoted g).gHealth g = d.gHealth g :=
  (Device.fld_setFld_apart _ _ F.GC_STATUS.BLAMES F.GC_STATUS.HEALTH _ (by decide) (by decide)).trans
    (Device.fld_setFld_ne _ _ _ _ (by unfold R.GC_STATUS R.GC_BLAME_CNT; omega))

theorem Device.two_le_blameTimes (d : Device) (g : Fin 12) {t : Nat} (ht : t ∈ (d.gc g).blames)
    (hday : d.now.1 ≤ t + 86400000000) : 2 ≤ (d.blameTimes g).length := by
  have hold : 0 < ((d.gc g).blames.filter (fun x => decide (d.now.1 ≤ x + 86400000000))).length :=
    List.length_pos_of_mem (List.mem_filter.mpr ⟨ht, decide_eq_true hday⟩)
  have hnew : ([d.now.1].filter (fun x => decide (d.now.1 ≤ x + 86400000000))).length = 1 := by simp
  rw [Device.blameTimes, List.filter_append, List.length_append]
  omega

/-- Cluster g, on which dispatch x is in flight, is fenced by its next blame. -/
structure NextBlameFences (d : Device) (g : Fin 12) (x : GDisp) : Prop where
  recent : ∃ t ∈ (d.gc g).blames, d.now.1 ≤ t + 86400000000
  health : d.gHealth g ≠ 2
  cur : (d.gc g).cur = some x
  waiting : (d.gc g).waiting = none
  passes : (d.gc g).passes = []

theorem NextBlameFences.congr {d e : Device} {g : Fin 12} {x : GDisp} (h : NextBlameFences d g x) (hgc : e.gc g = d.gc g)
    (hnow : e.now.1 = d.now.1) (hhealth : e.gHealth g = d.gHealth g) : NextBlameFences e g x where
  recent := by rw [hgc, hnow]; exact h.recent
  health := by rw [hhealth]; exact h.health
  cur := by rw [hgc]; exact h.cur
  waiting := by rw [hgc]; exact h.waiting
  passes := by rw [hgc]; exact h.passes

theorem NextBlameFences.gcBlame_gdone {d : Device} {g : Fin 12} {x : GDisp} (h : NextBlameFences d g x) :
    ∃ bytes, (d.gcBlame g).gdone = d.gdone ++ [(x.bay, bytes)] := by
  obtain ⟨t, ht, hday⟩ := h.recent
  rw [Device.gcBlame_eq, if_pos (d.two_le_blameTimes g ht hday), ← d.blameNoted_gdone g]
  exact Device.gcFence_gdone _ g (by rw [Device.blameNoted_gHealth]; exact h.health)
    (by rw [Device.blameNoted_gc]; exact h.cur) (by rw [Device.blameNoted_gc]; exact h.waiting)
    (by rw [Device.blameNoted_gc]; exact h.passes)

/-! ### What a verdict on a tile leaves -/

/-- The registers of bay b that a verdict writes (R219, R227). -/
def verdictRegs (b : Bay) : List Nat :=
  [R.WIT_VERDICT0 b.val, R.WIT_VERDICT1 b.val, R.WIT_VERDICT2 b.val, R.WIT_VERDICT3 b.val, R.WIT_STAT b.val]

/-- e is d but for the bays' checks and bay b's registers of verdicts. -/
def WitOnly (b : Bay) (d e : Device) : Prop :=
  e = { d with regs := e.regs, wits := e.wits } ∧ ∀ a, a ∉ verdictRegs b → e.reg a = d.reg a

theorem WitOnly.refl (b : Bay) (d : Device) : WitOnly b d d := ⟨rfl, fun _ _ => rfl⟩

theorem WitOnly.trans {b : Bay} {d e f : Device} (h : WitOnly b d e) (h' : WitOnly b e f) : WitOnly b d f := by
  obtain ⟨hde, hreg⟩ := h
  obtain ⟨hef, hreg'⟩ := h'
  refine ⟨?_, fun a ha => (hreg' a ha).trans (hreg a ha)⟩
  rw [hef, hde]

theorem WitOnly.setReg {b : Bay} {d e : Device} (h : WitOnly b d e) {a : Nat} (ha : a ∈ verdictRegs b) (v : BitVec 32) :
    WitOnly b d (e.setReg a v) :=
  h.trans ⟨rfl, fun _ hc => e.reg_setReg_ne v (fun heq => hc (heq ▸ ha))⟩

theorem WitOnly.setFld {b : Bay} {d e : Device} (h : WitOnly b d e) {a : Nat} (ha : a ∈ verdictRegs b) (f : Fld) (x : Nat) :
    WitOnly b d (e.setFld a f x) := h.setReg ha _

theorem WitOnly.setWit {b : Bay} {d e : Device} (h : WitOnly b d e) (c : Bay) (w : WitCtx) : WitOnly b d (e.setWit c w) :=
  h.trans ⟨rfl, fun _ _ => rfl⟩

theorem WitOnly.witEvent {b : Bay} {d e : Device} (h : WitOnly b d e) (c : Bay) (code verdict slice tile step ep : Nat) :
    WitOnly b d (e.witEvent c code verdict slice tile step ep) := by
  unfold Device.witEvent
  split
  · exact h
  · exact h.setWit _ _

theorem WitOnly.showVerdict {b : Bay} {d e : Device} (h : WitOnly b d e) (code orig run cluster : Nat) (same : Bool)
    (tile step : Nat) : WitOnly b d (e.showVerdict b code orig run cluster same tile step) := by
  unfold Device.showVerdict
  have h0 : R.WIT_VERDICT0 b.val ∈ verdictRegs b := by simp [verdictRegs]
  have h1 : R.WIT_VERDICT1 b.val ∈ verdictRegs b := by simp [verdictRegs]
  have h2 : R.WIT_VERDICT2 b.val ∈ verdictRegs b := by simp [verdictRegs]
  have h3 : R.WIT_VERDICT3 b.val ∈ verdictRegs b := by simp [verdictRegs]
  exact ((((((((h.setFld h0 _ _).setFld h0 _ _).setFld h0 _ _).setFld h0 _ _).setFld h0 _ _).setReg h1 _).setReg h2 _).setFld
    h3 _ _).setFld h3 _ _

theorem WitOnly.showWit {b : Bay} {d e : Device} (h : WitOnly b d e) : WitOnly b d (e.showWit b) := by
  have hstat : R.WIT_STAT b.val ∈ verdictRegs b := by simp [verdictRegs]
  exact (h.setFld hstat _ _).setFld hstat _ _

theorem WitOnly.gdone {b : Bay} {d e : Device} (h : WitOnly b d e) : e.gdone = d.gdone := by rw [h.1]

theorem WitOnly.gc {b : Bay} {d e : Device} (h : WitOnly b d e) (g : Fin 12) : e.gc g = d.gc g := by rw [h.1]; rfl

theorem WitOnly.now {b : Bay} {d e : Device} (h : WitOnly b d e) : e.now.1 = d.now.1 := by rw [h.1]; rfl

theorem WitOnly.gHealth {b : Bay} {d e : Device} (h : WitOnly b d e) (g : Fin 12) : e.gHealth g = d.gHealth g := by
  have hapart : R.GC_STATUS g.val ∉ verdictRegs b := by
    simp only [verdictRegs, R.GC_STATUS, R.WIT_VERDICT0, R.WIT_VERDICT1, R.WIT_VERDICT2, R.WIT_VERDICT3, R.WIT_STAT,
      List.mem_cons, List.not_mem_nil, or_false]
    omega
  rw [Device.gHealth, Device.fld, h.2 _ hapart, Device.gHealth, Device.fld]

/-- The verdict that a tile's original and replay are right and its sample's cluster was wrong reaches no cluster. -/
theorem verdict_three_witOnly (d : Device) (b : Bay) (step tile orig run cluster : Nat) (same : Bool) :
    WitOnly b d (d.verdict b 3 step tile orig run cluster same) := by
  have hshow := (WitOnly.refl b d).showVerdict 3 orig run cluster same tile step
  unfold Device.verdict
  dsimp only
  split
  · exact hshow
  · simp only [confirmedCode, Nat.reduceBEq, Bool.or_self, Bool.false_eq_true, ↓reduceIte, Nat.succ_ne_self,
      Nat.reduceEqDiff, or_self, ite_self]
    exact ((hshow.setWit b _).witEvent b _ _ _ _ _ _).showWit

/-! ### A reference completion accepted -/

theorem Device.wit_setWit_self (d : Device) (b : Bay) (w : WitCtx) : (d.setWit b w).wit b = w := by
  simp [Device.wit, Device.setWit, vset]

theorem Device.stepCtx?_setTag (d : Device) (b : Bay) (t : TagCtx) (step : Nat) :
    (d.setWit b ((d.wit b).setTag t)).stepCtx? b step = d.stepCtx? b step := by
  rw [Device.stepCtx?, Device.wit_setWit_self, Device.stepCtx?]; rfl

theorem Device.stepCtx?_pushItem (d : Device) (b : Bay) (i : WorkItem) (step : Nat) :
    (d.pushItem b i).stepCtx? b step = d.stepCtx? b step := by
  rw [Device.stepCtx?, Device.pushItem, Device.wit_setWit_self, Device.stepCtx?]

/-- A REFERENCE completion of an open TAG closes it and is judged by the table of R217. -/
theorem devCompletionAccept_reference (d : Device) {b : Bay} {bytes : List (BitVec 8)} {rest : List (Bay × List (BitVec 8))}
    {t : TagCtx} {s : StepCtx} (hdone : d.gdone = (b, bytes) :: rest) (htag : (d.wit b).tag? (compOf bytes).tag = some t)
    (hopen : t.isOpen = true) (hgen : t.gen = (compOf bytes).gen) (hstatus : (compOf bytes).status = 0)
    (hkind : (⟨b, t.gen, t.desc⟩ : GDisp).kind ≠ 1) (hstep : d.stepCtx? b (⟨b, t.gen, t.desc⟩ : GDisp).step = some s) :
    ∃ e, WitOnly b { d with gdone := rest } e ∧
      devCompletionAccept d = e.referenceVerdict b s ⟨b, t.gen, t.desc⟩ (compOf bytes) := by
  have htag' : (Device.wit { d with gdone := rest } b).tag? (compOf bytes).tag = some t := htag
  have hstep' : Device.stepCtx? { d with gdone := rest } b (⟨b, t.gen, t.desc⟩ : GDisp).step = some s := hstep
  simp only [devCompletionAccept, hdone]
  generalize ({ d with gdone := rest } : Device) = d' at htag' hstep' ⊢
  simp only [htag']
  rw [if_neg (by simp [hopen, hgen]), if_neg (fun h => hkind h.2.1)]
  simp only [Device.stepCtx?_pushItem, Device.stepCtx?_setTag, hstep', hstatus, hkind]
  exact ⟨_, ((WitOnly.refl b d').setWit b _).setWit b _, rfl⟩

/-- Replay and original agree with the reference on a tile that only its sample had failed: verdict 3, and the cluster of the
sample is blamed (R217). -/
theorem Device.referenceVerdict_sampleWrong (d : Device) (b : Bay) (s : StepCtx) (x : GDisp) (c : Comp) {t : SuspectCtx}
    {rp : ReplayCtx} {n : Nat} (hsus : s.suspects.find? (fun t => t.tile == x.tile && !t.done) = some t)
    (hrp : t.replay = some rp) (hfirst : rp.reference = none) (hcsum : t.csum = false) (hsample : t.sample = some n)
    (horig : c.orig = 1) (hrun : c.run = 1) :
    d.referenceVerdict b s x c =
      ((d.verdict b 3 s.step x.tile t.slice rp.runSlice c.cluster (rp.runSlice == t.slice)).notePass c.cluster
        ⟨b, s.epoch, s.step, x.tile, true⟩).blameNo n := by
  simp [Device.referenceVerdict, hsus, hrp, hfirst, hcsum, hsample, horig, hrun]

/-- A passing completion is noted with its own cluster and leaves every other. -/
theorem Device.gc_notePass_ne (d : Device) {g h : Fin 12} (hne : g ≠ h) (p : GPass) : (d.notePass g.val p).gc h = d.gc h := by
  have hval : g.val ≠ h.val := fun heq => hne (Fin.ext heq)
  simp [Device.notePass, Device.gc, Device.setGc, vset, hval]

theorem Device.notePass_eq (d : Device) (g : Fin 12) (p : GPass) :
    d.notePass g.val p = d.setGc g { d.gc g with passes := (d.gc g).passes ++ [p] } := by simp [Device.notePass]

theorem Device.blameNo_eq (d : Device) (g : Fin 12) : d.blameNo g.val = d.gcBlame g := by simp [Device.blameNo]

/-- The blame that follows a verdict hands over the dispatch of the cluster it fences. -/
theorem NextBlameFences.gdone_after_verdict {b : Bay} {d v : Device} {g h : Fin 12} {x : GDisp} (hd : NextBlameFences d h x)
    (hv : WitOnly b d v) (hne : g ≠ h) (p : GPass) :
    ∃ bytes, ((v.notePass g.val p).blameNo h.val).gdone = d.gdone ++ [(x.bay, bytes)] := by
  have hnext : NextBlameFences (v.notePass g.val p) h x :=
    hd.congr ((v.gc_notePass_ne hne p).trans (hv.gc h)) (by rw [Device.notePass_eq]; exact hv.now)
      (by rw [Device.notePass_eq]; exact hv.gHealth h)
  rw [Device.blameNo_eq, ← hv.gdone, show v.gdone = (v.notePass g.val p).gdone by rw [Device.notePass_eq]; rfl]
  exact hnext.gcBlame_gdone

/-! ### A completion that blames a cluster at work -/

/-- The descriptor of a dispatch of TAG 0 on tile 0 of step 0: kind 1 SAMPLE, 2 REFERENCE (R245). -/
def smallDesc (kind : BitVec 8) : List (BitVec 8) := [0#8, 0#8, 0#8, kind] ++ zeros 60

/-- The replay of tile 0 on slice 1, with no reference before. -/
def tileReplay : ReplayCtx where
  runSlice := 1
  flags := 0
  csum := true
  complete := true
  reference := none

/-- Tile 0, whose sample failed on cluster 0 and whose replay has come. -/
def failedSample : SuspectCtx where
  tile := 0
  slice := 0
  kind := 3
  csum := false
  sample := some 0
  replay := some tileReplay
  done := false

/-- Step 0, open to verdicts with that one suspect tile. -/
def suspectStep : StepCtx where
  step := 0
  epoch := 0
  active := 3
  mode := 2
  lag := 2
  shift := 12
  seed := 0
  closed := true
  bad := false
  csums := []
  samples := []
  suspects := [failedSample]
  cleared := []
  massFail := false
  faulted := false
  pair := none
  pairTile := 0

/-- The TAG of the tile's REFERENCE dispatch, in flight on cluster 1. -/
def referenceTag : TagCtx where
  tag := 0
  gen := 0
  isOpen := true
  await := false
  desc := smallDesc 2#8
  exclude := 0
  cluster := some 1
  confirm := false

/-- Bay 0 with the step and the dispatch. -/
def suspectBay : WitCtx := { WitCtx.reset with steps := [suspectStep], tags := [referenceTag] }

/-- Cluster 0 with a SAMPLE dispatch of bay 1 in flight. A lapse of time is a free value (assumption log 4), so its one blame
is placed at the time that will be read next. -/
def blamedCluster : GcCtx :=
  { GcCtx.reset with cur := some ⟨1, 0, smallDesc 1#8⟩, blames := [Config.freeElapsed 0] }

/-- Cluster 1's completion: replay and original agree with the reference, so that the cluster of the sample was wrong. -/
def exonerating : List (BitVec 8) := completion ⟨0, 0, smallDesc 2#8⟩ 1 0 1 1 0 0 0 0

/-- The state after reset with cluster 0 RUNNING on its dispatch and that completion waiting for bay 0. -/
def secondBlame : State :=
  (onGc (onWit (put State.reset (R.ENG_STATUS (Eng.gc 0).win) F.ENG_STATUS.STATE 2) 0 (fun _ => suspectBay)) 0
    (fun _ => blamedCluster)).onDev (fun d => { d with gdone := [(0, exonerating)] })

theorem compOf_exonerating : compOf exonerating = ⟨0, 0, 1, 1, 1, 0, 0, [0, 0, 0, 0]⟩ := by decide

theorem secondBlame_nextBlameFences :
    NextBlameFences { secondBlame.sys.dev with gdone := [] } 0 ⟨1, 0, smallDesc 1#8⟩ where
  recent :=
    have hnow : 0 + Config.freeElapsed 0 ≤ Config.freeElapsed 0 + 86400000000 := by omega
    ⟨Config.freeElapsed 0, List.mem_singleton_self (Config.freeElapsed 0), hnow⟩
  health := by decide
  cur := rfl
  waiting := rfl
  passes := rfl

/-- Cluster 0 is fenced by its second blame, and the completion of the dispatch it held joins those that wait. -/
theorem secondBlame_gdone : ∃ bytes, (devCompletionAccept secondBlame.sys.dev).gdone = [(1, bytes)] := by
  obtain ⟨e, hwit, haccept⟩ := devCompletionAccept_reference secondBlame.sys.dev (b := 0) (bytes := exonerating) (rest := [])
    (t := referenceTag) (s := suspectStep) rfl (by decide) rfl (by decide) (by decide) (by decide) (by decide)
  rw [haccept, Device.referenceVerdict_sampleWrong e 0 suspectStep _ _ (t := failedSample) (rp := tileReplay)
    (n := 0) (by decide) rfl rfl rfl rfl (by decide) (by decide), compOf_exonerating]
  exact secondBlame_nextBlameFences.gdone_after_verdict (g := 1) (hwit.trans (verdict_three_witOnly ..)) (by decide) _

/-- Refutes O48: an accepted completion need not leave exactly the rest of the waiting ones. A REFERENCE that exonerates a tile
blames the cluster of its sample; where that is the second blame within 24 h, the cluster is fenced (R254, R255) and the dispatch
in flight on it ends, so that its ABORTED completion joins those that wait (R230, R252). -/
theorem not_galleryResult : ¬ Obligations.GalleryResult := by
  unfold Obligations.GalleryResult
  intro h
  obtain ⟨-, -, -, -, haccept, -⟩ := h secondBlame
  have hopen := (haccept (0, exonerating) rfl).2 referenceTag (by decide) rfl (by decide)
  obtain ⟨t, hexec, hgdone, -⟩ := hopen.2 (fun hagain => absurd hagain.2.1 (by decide))
  obtain ⟨bytes, hsecond⟩ := secondBlame_gdone
  rw [exec_completionAccept, execCompletionAccept] at hexec
  cases hexec
  cases hsecond.symm.trans hgdone

end Sys2Proof.Machine
end
